-- ==== Sys2Proof/Word.lean ====
section
/-! DEFINITION. The word types of the part: 32-bit register words and bytes. -/

namespace Sys2Proof

/-- A 32-bit word: a register, a step word, a step register. -/
abbrev Word := BitVec 32

/-- One byte of a frame, an item, a page or a hall. -/
abbrev Byte := BitVec 8

end Sys2Proof
end

