-- ==== Sys2Proof/Signals.lean ====
section
/-! DEFINITION. What comes in from outside with a command: measurements of the front-ends and signals on the air. The
spec gives the formulas that use these values; the values themselves are the surroundings'. -/

namespace Sys2Proof

/-- Clock edges of a host frame, in ticks before the instant at which its command acts (R12): the falling edge of HCSN, and the 32nd
sampling edge. -/
structure Edges where
  fell : Nat
  mid : Nat
deriving DecidableEq, Repr

/-- What the tune of one coil finds (R149): code, carrier cycles counted until the envelope has fallen to e^(-2), full-duty current in mA,
phase in the last probe in degrees. -/
structure LfTune where
  coil : Nat
  code : Nat
  decay : Nat
  ifull : Nat
  phase : Int
deriving DecidableEq, Repr

/-- What an LFTX finds at issue: the die temperature, the one at the end of its tunes, and what a tune of each coil finds. -/
structure LfIssue where
  temp : Int
  tuneTemp : Int
  tunes : List LfTune
deriving DecidableEq, Repr

/-- How a host frame is clocked: its edges, and the number that its row counts (bits, extra bits or edges; of a frame of unknown OP, the OP). -/
structure Clocked where
  e : Edges
  n : Nat
deriving DecidableEq, Repr

/-- How a HUSH is clocked: its edges, the time from its eighth edge to its 24th or to a rise of HCSN before it (R20), and its bits. -/
structure HushClock where
  e : Edges
  pause : Nat
  bits : Nat
deriving DecidableEq, Repr

/-- An event that tells one thing more, with the time since the command before it. -/
structure Told (α : Type) where
  dt : Nat
  what : α
deriving DecidableEq, Repr

/-- A power loss: the OTP bits that did blow in programming under way, and whether VIO still stands. -/
structure PowerLoss where
  fuse : Nat
  vio : Bool
deriving DecidableEq, Repr

/-- The end of a full calibration: die temperature, and the ports that fail their check within a rise of D29 (R169, R173). -/
structure CalEnd where
  temp : Int
  bad : Nat
deriving DecidableEq, Repr

/-- What the loopback measures of one transmitted UWB frame (R179 to R181, R189): density in 0.25 dBm/MHz units, loop
error in dB below the signal, capture saturated, return loss of UTX at least 6 dB. -/
structure TxMeas where
  density : Int
  loopErr : Nat
  saturated : Bool
  matched : Bool
deriving DecidableEq, Repr

/-- What one receive chain measures of a frame: its normalised correlation with the preamble in two successive accumulations, in 1/256;
first-path power estimate at the SFD in 0.25 dBm, first-path power as -value / 2 dBm, raw phase in 1/65,536 turn, clipping; SCALE, noise
floor in tap units and taps of its preamble CIR, and how far before the first tap above the threshold its crossing lies, in 1/64 tap
(R186, R187, R204, R212, R213, R219, R224). -/
structure PortRx where
  corr : Nat × Nat
  estimate : Int
  power : Nat
  phase : Nat
  clipped : Bool
  scale : Nat
  cirNoise : Nat
  back : Nat
  cir : List Byte
deriving DecidableEq, Repr

/-- One UWB frame whose SFD was detected (R204, R210, R212 to R214): the instant this is told is its receive end mark. -/
structure UwbRx where
  code : Nat
  sp1 : Bool
  sfdOk : Bool
  phrOk : Bool
  psdu : List Byte
  /-- SFDs of other frames that the lanes have detected: code, and ticks from the SFD to this instant. -/
  rivals : List (Nat × Nat)
  /-- Clock offset, 0.01 ppm. -/
  eps : Int
  /-- Noise floor over the window and total power of the data port, -value / 2. -/
  floor : Nat
  power : Nat
  /-- Amplitude that the preamble first path predicts for the STS length, per unit of its own, in 1/65,536 (R210; log 179). -/
  predict : Nat
  /-- STS CIR: noise floor, crossing and taps, as of a chain. -/
  stsNoise : Nat
  stsBack : Nat
  stsCir : List Byte
  ports : List PortRx
deriving DecidableEq, Repr

/-- A UHF telegram that ends, or is discarded by its LEN (R240 to R243): lane, ticks since its sync was complete, other lanes that completed a
sync with the same, FSK deviation in Hz (none: on-off keying, Manchester coded), rate error over preamble and sync in 0.1 %, LEN, payload, CRC as
received, strength in 0.5 dBm, spread of the strength over its bytes in 0.5 dB. -/
structure UhfRx where
  lane : Nat
  sync : Nat
  rivals : List (Nat × Nat)
  dev : Option Nat
  err : Int
  len : Nat
  payload : List Byte
  crc : Nat
  strength : Int
  spread : Nat
deriving DecidableEq, Repr

/-- A card reply at its end, or silence (R258, R259, R261): whether one began; its bytes with their CRC; its collided data
bits; parity and framing whole; ticks since its start of frame. -/
structure NfcRx where
  answered : Bool
  bytes : List Byte
  collided : List Nat
  parityOk : Bool
  took : Nat
deriving DecidableEq, Repr

/-- What a boot takes in from outside (R411): the die temperature at its OTP reads, raw 1,024-bit blocks of the entropy
source in the order collected, and the external image as OSPI flash delivers it: data blocks, then tags (R408). -/
structure BootIn where
  temp : Int
  /-- VDD at the boot, in mV. -/
  vdd : Nat
  blocks : List (List Byte)
  ext : List Byte
deriving DecidableEq, Repr

/-- What a field step's unit measured when the step ends. -/
inductive FieldMeas where
  | none
  /-- LFTX: burst-average phase of each coil in degrees. -/
  | lftx (phases : List Int)
  /-- LFRX: coherent field by axis, in-phase and quadrature, in mA/m before the axis gain in units of 512; in-band noise in 0.1 mA/m (R166). -/
  | lfrx (x y z : Int × Int) (noise : Nat)
deriving DecidableEq, Repr

end Sys2Proof
end

