-- ==== Sys2Proof/Syntax.lean ====
section
/-! DEFINITION. The commands of the part: one constructor for each row of spec/opcode_table.json. Every command carries first the
time since the command before it, in ticks of U / 5 (log 2). Prefixes: fr host frame, it item start, st step, ev event, rg register access. -/

namespace Sys2Proof

/-- A command of the block. -/
inductive Instr where
  /-- STATUS (R13). Host frame OP 0x00 that returns the live status header with no side effects. -/
  | frStatus (dt : Nat) (c : Clocked)
  /-- REG_READ (R25). Host frame OP 0x01 that returns register words from the register window, followed by a CRC. -/
  | frRegRead (dt : Nat) (target : Nat) (len : Nat) (c : Clocked)
  /-- REG_WRITE (R26). Host frame OP 0x02 that writes registers which have no row of their own; it is applied whole at the rising HCSN edge or not at all. -/
  | frRegWrite (dt : Nat) (target : Nat) (len : Nat) (payload : List Byte) (c : Clocked)
  /-- SUBMIT (R31). Host frame OP 0x10 that pushes a 32-byte item onto an SQ when the CRC, length, credit, SEQ and EPOCH all hold. -/
  | frSubmit (dt : Nat) (target : Nat) (len : Nat) (payload : List Byte) (c : Clocked)
  /-- CQ_READ (R34). Host frame OP 0x20 that returns completion entries from head plus offset without removing them. -/
  | frCqRead (dt : Nat) (target : Nat) (len : Nat) (c : Clocked)
  /-- CQ_RELEASE (R34). Host frame OP 0x21 that removes entries from the CQ head and returns their credits. -/
  | frCqRelease (dt : Nat) (target : Nat) (len : Nat) (payload : List Byte) (c : Clocked)
  /-- HUSH (R20). Host frame OP 0xFF that stops steps, DMA and gallery traffic outside the queues, then keeps stopped only the scope that TARGET names. The command acts at the frame's eighth edge. -/
  | frHush (dt : Nat) (target : Nat) (len : Nat) (c : HushClock)
  /-- FRAME_UNKNOWN_OP (R13). A frame whose OP is not listed completes with BAD_OPCODE and changes nothing. -/
  | frFrameUnknownOp (dt : Nat) (c : Clocked)
  /-- WAKE_FRAME (R485). A 16-edge frame carrying WAKE_ADDR and its complement that wakes the device from VESTIBULE or LOBBY. -/
  | frWakeFrame (dt : Nat) (b0 : Byte) (b1 : Byte) (c : Clocked)
  /-- NOP (R33). Item 0x00 that does nothing and, inside a banister group, serves as a fence. -/
  | itNop (dt : Nat)
  /-- SURVEY (R48). Item that writes one consistent snapshot of the device state to a transfer page. -/
  | itSurvey (dt : Nat)
  /-- FLIGHT_LOAD (R561). Item that appends flight image bytes to a slot and, with LAST set, validates and publishes the image. -/
  | itFlightLoad (dt : Nat)
  /-- FLIGHT_START (R101). Item that claims a landing, checks the start conditions, binds the halls and starts a flight. -/
  | itFlightStart (dt : Nat)
  /-- FLIGHT_STOP (R104). Item that ends a running flight, ends a hold, or cancels a pending start. -/
  | itFlightStop (dt : Nat)
  /-- LANDING_PEEK (R110). Item that copies a snapshot of a landing context to a transfer page. -/
  | itLandingPeek (dt : Nat)
  /-- HALL_READ (R565). Item that copies hall bytes into a transfer page. -/
  | itHallRead (dt : Nat)
  /-- HALL_WRITE (R565). Item that copies transfer page bytes into a hall. -/
  | itHallWrite (dt : Nat)
  /-- TENANT_ENROL (R317). Item that checks an enrolment record and proof and makes the tenant active. -/
  | itTenantEnrol (dt : Nat)
  /-- TENANT_SUSPEND (R319). Item that suspends an active tenant or resumes a suspended one. -/
  | itTenantSuspend (dt : Nat)
  /-- TENANT_REVOKE (R320). Item that revokes a tenant and destroys its keys in one journal entry. -/
  | itTenantRevoke (dt : Nat)
  /-- TENANT_READ (R312). Item that writes the 96-byte tenant record to a transfer page. -/
  | itTenantRead (dt : Nat)
  /-- KEY_UPDATE (R354). Item that checks a signed key message and installs or destroys a vault slot. -/
  | itKeyUpdate (dt : Nat)
  /-- LIFE_CHANGE (R380). Item that checks a signed authorisation and makes a lifecycle transition. -/
  | itLifeChange (dt : Nat) (vdd : Nat) (temp : Int)
  /-- UPDATE_BEGIN (R396). Item that checks a manifest and opens or resumes an update in the inactive bank. -/
  | itUpdateBegin (dt : Nat)
  /-- UPDATE_CHUNK (R397). Item that appends image bytes to the open update and journals them. -/
  | itUpdateChunk (dt : Nat)
  /-- UPDATE_VERIFY (R399). Item that checks the digest of a downloaded image, and for a library its directory, and marks the bank VERIFIED. -/
  | itUpdateVerify (dt : Nat) (ext : List Byte)
  /-- UPDATE_ACTIVATE (R400). Item that commits the verified bank as TRIAL with a trial count of 3. -/
  | itUpdateActivate (dt : Nat)
  /-- UPDATE_CONFIRM (R403). Item that makes the trial bank ACTIVE and raises the rollback floor. -/
  | itUpdateConfirm (dt : Nat) (vdd : Nat) (temp : Int)
  /-- VOTE_SET (R491). Item that replaces the domain mask of one host voter and completes once every added domain is up. -/
  | itVoteSet (dt : Nat)
  /-- TIMER_CONFIGURE (R500). TIMER_SET action 0: sets or preloads the source, prescaler, compare, period and trigger of a timer. -/
  | itTimerConfigure (dt : Nat)
  /-- TIMER_START (R500). TIMER_SET action 1: the timer starts counting from its present count. -/
  | itTimerStart (dt : Nat)
  /-- TIMER_STOP (R500). TIMER_SET action 2: the timer stops counting and keeps its count. -/
  | itTimerStop (dt : Nat)
  /-- ATLAS_LOAD (R282). Item that stages atlas bytes in the unpublished half of NVM. -/
  | itAtlasLoad (dt : Nat)
  /-- EVIDENCE_READ (R308). Item that copies a filled evidence record to a page and may retire its capture. -/
  | itEvidenceRead (dt : Nat)
  /-- BIST_RUN (R511). Item that runs the built-in self-tests of the scopes it names and marks or unmarks units. -/
  | itBistRun (dt : Nat)
  /-- CASCADE_STANDALONE (R437). CASCADE_MODE 0: the node stops gallery traffic at the end of the round and becomes standalone. -/
  | itCascadeStandalone (dt : Nat)
  /-- CASCADE_JOIN (R437). CASCADE_MODE 1: the master opens a beacon session, or the slave sends JOIN. -/
  | itCascadeJoin (dt : Nat)
  /-- CASCADE_MODE_CHANGE (R460). CASCADE_MODE 2: the master prepares and commits a new mode across the nodes. -/
  | itCascadeModeChange (dt : Nat)
  /-- UNKNOWN_ITEM (R38). An accepted item with an unlisted code completes BAD_OPCODE. -/
  | itUnknownItem (dt : Nat)
  /-- MOV (R65). Step that copies operand B into gD. -/
  | stMov (dt : Nat) (l : Nat)
  /-- ADD (R65). Step that adds B to gS and sets the flags. -/
  | stAdd (dt : Nat) (l : Nat)
  /-- SUB (R65). Step that subtracts B from gS and sets the flags. -/
  | stSub (dt : Nat) (l : Nat)
  /-- MUL (R65). Step that writes the low product of gS and B. -/
  | stMul (dt : Nat) (l : Nat)
  /-- AND (R65). Step that writes the bitwise and of gS and B. -/
  | stAnd (dt : Nat) (l : Nat)
  /-- OR (R65). Step that writes the bitwise or of gS and B. -/
  | stOr (dt : Nat) (l : Nat)
  /-- XOR (R65). Step that writes the bitwise xor of gS and B. -/
  | stXor (dt : Nat) (l : Nat)
  /-- SHL (R65). Step that shifts gS left by B. -/
  | stShl (dt : Nat) (l : Nat)
  /-- SHR (R65). Step that shifts gS right with zero fill. -/
  | stShr (dt : Nat) (l : Nat)
  /-- SAR (R65). Step that shifts gS right with sign fill. -/
  | stSar (dt : Nat) (l : Nat)
  /-- CMP (R65). Step that sets the flags from gS minus B. -/
  | stCmp (dt : Nat) (l : Nat)
  /-- TST (R65). Step that sets the flags from gS and B. -/
  | stTst (dt : Nat) (l : Nat)
  /-- ADC (R65). Step that adds B and the carry to gS. -/
  | stAdc (dt : Nat) (l : Nat)
  /-- SBC (R65). Step that subtracts B and the borrow from gS. -/
  | stSbc (dt : Nat) (l : Nat)
  /-- BFX (R65). Step that extracts a bit field from gS. -/
  | stBfx (dt : Nat) (l : Nat)
  /-- MHU (R65). Step that writes the high unsigned product of gS and B. -/
  | stMhu (dt : Nat) (l : Nat)
  /-- LDW (R67). Step that loads a word from a hall. -/
  | stLdw (dt : Nat) (l : Nat)
  /-- LDHU (R67). Step that loads a zero-extended halfword from a hall. -/
  | stLdhu (dt : Nat) (l : Nat)
  /-- LDBU (R67). Step that loads a zero-extended byte from a hall. -/
  | stLdbu (dt : Nat) (l : Nat)
  /-- LDHS (R67). Step that loads a sign-extended halfword from a hall. -/
  | stLdhs (dt : Nat) (l : Nat)
  /-- STW (R67). Step that stores a word to a hall. -/
  | stStw (dt : Nat) (l : Nat)
  /-- STH (R67). Step that stores a halfword to a hall. -/
  | stSth (dt : Nat) (l : Nat)
  /-- STB (R67). Step that stores a byte to a hall. -/
  | stStb (dt : Nat) (l : Nat)
  /-- SWAPW (R68). Step that indivisibly swaps a register with a word of the data or shared hall. -/
  | stSwapw (dt : Nat) (l : Nat)
  /-- JMP (R59). Step that jumps to gS plus IMM. -/
  | stJmp (dt : Nat) (l : Nat)
  /-- BR (R59). Step that branches by a relative offset. -/
  | stBr (dt : Nat) (l : Nat)
  /-- CALL (R59). Step that saves the return address in g15 and jumps. -/
  | stCall (dt : Nat) (l : Nat)
  /-- RET (R59). Step that returns to the address held in g15. -/
  | stRet (dt : Nat) (l : Nat)
  /-- WAIT (R69). Step that waits for landing timers or a device timer compare event. -/
  | stWait (dt : Nat) (l : Nat)
  /-- YIELD (R111). Step that ends the landing's turn while it stays runnable. -/
  | stYield (dt : Nat) (l : Nat)
  /-- END (R70). Step that ends the flight with a code. -/
  | stEnd (dt : Nat) (l : Nat)
  /-- STEP_ILLEGAL (R98). Executing an illegal word, reached by jumping into an extension word, raises ILLEGAL. -/
  | stStepIllegal (dt : Nat) (l : Nat)
  /-- LTSET (R69). Step that starts a landing timer. -/
  | stLtset (dt : Nat) (l : Nat)
  /-- LTREAD (R69). Step that reads the time remaining on a landing timer. -/
  | stLtread (dt : Nat) (l : Nat)
  /-- LTSTOP (R69). Step that stops a landing timer. -/
  | stLtstop (dt : Nat) (l : Nat)
  /-- TMREAD (R69). Step that reads the count of a device timer. -/
  | stTmread (dt : Nat) (l : Nat)
  /-- AIR_CLAIM (R71). Step that claims airtime resources and waits for the grant. -/
  | stAirClaim (dt : Nat) (l : Nat)
  /-- AIR_RELEASE (R71). Step that releases the airtime grants the landing holds. -/
  | stAirRelease (dt : Nat) (l : Nat)
  /-- LFTX (R162). Field step that checks, tunes and sends an LF frame and its tail on the coils. -/
  | stLftx (dt : Nat) (l : Nat) (m : LfIssue)
  /-- LFRX (R166). Field step that listens on the LF receiver for the coherent field and noise. -/
  | stLfrx (dt : Nat) (l : Nat)
  /-- UWBPOLL (R215). Field step that sends a poll and receives the response. -/
  | stUwbpoll (dt : Nat) (l : Nat) (temp : Int) (vdd : Nat) (bad : Nat)
  /-- UWBRESP (R175). Field step that searches for a poll and answers at a fixed turnaround. -/
  | stUwbresp (dt : Nat) (l : Nat) (temp : Int) (vdd : Nat) (bad : Nat)
  /-- UWBFINAL (R216). Field step that sends a final and may receive a report. -/
  | stUwbfinal (dt : Nat) (l : Nat) (temp : Int) (vdd : Nat) (bad : Nat)
  /-- UHFRX (R240). Field step that listens for a UHF telegram on several rates at once. -/
  | stUhfrx (dt : Nat) (l : Nat) (temp : Int)
  /-- UHFTX (R245). Field step that sends one UHF telegram. -/
  | stUhftx (dt : Nat) (l : Nat) (temp : Int) (vdd : Nat)
  /-- NFCX (R258). Field step that sends one reader frame and receives one reply. -/
  | stNfcx (dt : Nat) (l : Nat)
  /-- NFCTREE (R261). Field step that walks the type A anticollision tree and lists tokens. -/
  | stNfctree (dt : Nat) (l : Nat)
  /-- AESK (R79). Step that loads a key handle from a vault slot or a tenant key. -/
  | stAesk (dt : Nat) (l : Nat)
  /-- AESX (R557). Step that runs an AES cipher operation through a handle. -/
  | stAesx (dt : Nat) (l : Nat)
  /-- DERIVE (R82). Step that derives a key into a handle by KDF or ECDH. -/
  | stDerive (dt : Nat) (l : Nat)
  /-- DRBG (R81). Step that writes random bytes from a DRBG instance. -/
  | stDrbg (dt : Nat) (l : Nat)
  /-- MACV (R83). Step that verifies a CMAC tag and may set PROOF. -/
  | stMacv (dt : Nat) (l : Nat)
  /-- FUSE (R84). Step that hands a copy of a result area to the verdict engine. -/
  | stFuse (dt : Nat) (l : Nat)
  /-- JUDGE (R288). Step that asks the verdict engine for a zone, confidence, relay score and class. -/
  | stJudge (dt : Nat) (l : Nat)
  /-- TLOAD (R87). Step that binds a tenant to the landing. -/
  | stTload (dt : Nat) (l : Nat)
  /-- TPASS (R88). Step that stages a counter and life-record update of the bound tenant. -/
  | stTpass (dt : Nat) (l : Nat)
  /-- TFAIL (R89). Step that adds one durable failure to the bound tenant. -/
  | stTfail (dt : Nat) (l : Nat)
  /-- RELOPEN (R90). Step that opens a release session when every condition holds. -/
  | stRelopen (dt : Nat) (l : Nat)
  /-- RELHOLD (R91). Step that waits for the release session to end and writes its result. -/
  | stRelhold (dt : Nat) (l : Nat)
  /-- RELCLOSE (R91). Step that closes the release session. -/
  | stRelclose (dt : Nat) (l : Nat)
  /-- BANISTER (R92). Step that waits until earlier stores, records, messages and group items are settled. -/
  | stBanister (dt : Nat) (l : Nat)
  /-- NEWEL (R93). Step that commits the staged tenant changes as one journal entry. -/
  | stNewel (dt : Nat) (l : Nat)
  /-- EVTRIG (R94). Step that triggers the evidence recorder. -/
  | stEvtrig (dt : Nat) (l : Nat)
  /-- GSEND (R95). Step that sends a flight part to the nodes of a mask. -/
  | stGsend (dt : Nat) (l : Nat)
  /-- GWAIT (R97). Step that waits for the nodes' results and writes one entry per node. -/
  | stGwait (dt : Nat) (l : Nat)
  /-- AIR_GRANT (R116). The airtime scheduler grants a waiting claim whole. -/
  | evAirGrant (dt : Nat) (l : Nat)
  /-- FIELD_STEP_DONE (R72). A field step's exchange reaches its outcome and the result is written. -/
  | evFieldStepDone (dt : Nat) (l : Nat) (m : FieldMeas)
  /-- FIELD_WINDOW_LAPSE (R207). A receive window lapses without an accepted frame. -/
  | evFieldWindowLapse (dt : Nat) (l : Nat) (floor : Nat)
  /-- CRYPTO_DONE (R346). An engine finishes the operation of a crypto step. -/
  | evCryptoDone (dt : Nat) (l : Nat)
  /-- VERDICT_DONE (R294). The verdict engine completes a JUDGE. -/
  | evVerdictDone (dt : Nat) (l : Nat)
  /-- TENANT_UNWRAP_DONE (R356). TLOAD's unwrap of the tenant keys completes. -/
  | evTenantUnwrapDone (dt : Nat) (l : Nat)
  /-- NEWEL_DURABLE (R137). A NEWEL journal entry becomes durable and the step ends. -/
  | evNewelDurable (dt : Nat) (l : Nat) (bad : Option Nat)
  /-- TFAIL_DURABLE (R89). The durable failure count of a TFAIL is written and the step ends. -/
  | evTfailDurable (dt : Nat) (l : Nat) (bad : Option Nat)
  /-- BANISTER_CLEAR (R92). The conditions of a waiting BANISTER are met and the landing runs on. -/
  | evBanisterClear (dt : Nat) (l : Nat)
  /-- GSEND_CREDIT (R456). A gallery credit arrives for a waiting GSEND, or two rounds pass without one. -/
  | evGsendCredit (dt : Nat) (l : Nat)
  /-- GWAIT_END (R97). Every named node has reported or the window has lapsed. -/
  | evGwaitEnd (dt : Nat) (l : Nat)
  /-- RELOPEN_FIRST_FRAME (R334). The first release frame is on CANB and RELOPEN ends. -/
  | evRelopenFirstFrame (dt : Nat) (l : Nat)
  /-- RELCLOSE_DONE (R336). The repeats have stopped and RELA and RELB are low. -/
  | evRelcloseDone (dt : Nat) (l : Nat)
  /-- PIPE_DISPATCH (R111). A free pipe takes the next runnable landing. -/
  | evPipeDispatch (dt : Nat) (p : Nat)
  /-- QUANTUM_EXPIRE (R111). A landing has executed QUANTUM steps and its turn ends. -/
  | evQuantumExpire (dt : Nat) (p : Nat)
  /-- RUNLIMIT_REACHED (R61). The RUNLIMIT expires and the flight takes a RUNTIME fault. -/
  | evRunlimitReached (dt : Nat) (l : Nat)
  /-- LT_EXPIRE (R69). A landing timer reaches 0, sets its expired bit and ends matching waits. -/
  | evLtExpire (dt : Nat) (l : Nat) (n : Nat)
  /-- RELOK_EXPIRE (R86). RELOK clears 500 ms after the JUDGE that set it. -/
  | evRelokExpire (dt : Nat) (l : Nat)
  /-- DRAIN_HOLD_LAPSE (R103). The drain hold of a landing ends after DRAIN_HOLD ms. -/
  | evDrainHoldLapse (dt : Nat) (l : Nat)
  /-- SCRUB_DONE (R105). The scrub of a landing completes and the landing becomes free. -/
  | evScrubDone (dt : Nat) (l : Nat)
  /-- DEFERRED_START_RESUME (R106). A deferred FLIGHT_START proceeds once scrub has ended and its bank is up. -/
  | evDeferredStartResume (dt : Nat) (l : Nat)
  /-- VOTE_HOLDOFF_LAPSE (R479). A delayed internal vote withdrawal lapses after its hold-off. -/
  | evVoteHoldoffLapse (dt : Nat) (d : Nat)
  /-- EXCHANGE_BOUNDARY (R118). An exchange ends at a gap longer than CHAIN or at the 60 ms limit. -/
  | evExchangeBoundary (dt : Nat) (l : Nat)
  /-- BUDGET_EXHAUSTED (R117). A grant's budget runs out, and the grant lapses at the next exchange boundary. -/
  | evBudgetExhausted (dt : Nat) (l : Nat)
  /-- MINHOLD_REACHED (R119). A grant has held for MINHOLD, so a waiting higher-priority claim may pre-empt it. -/
  | evMinholdReached (dt : Nat) (l : Nat)
  /-- DMA_DESCRIPTOR_START (R135). A waiting descriptor obtains a DMA channel and starts. -/
  | evDmaDescriptorStart (dt : Nat)
  /-- DMA_GRANULE_DELIVERED (R130). A descriptor delivers one granule to its destination. -/
  | evDmaGranuleDelivered (dt : Nat) (ch : Nat) (err : Nat) (sector : Nat)
  /-- HALL_WRITE_GRANULE (R129). A HALL_WRITE granule lands at a step boundary of the busy landing. -/
  | evHallWriteGranule (dt : Nat) (ch : Nat)
  /-- LF_COIL_SHORT (R139). Coil current above 3.2 A stops the bridge and latches SHORT. -/
  | evLfCoilShort (dt : Nat) (n : Nat)
  /-- LF_VLF_LOW (R154). VLF falls below 5.5 V, every bridge stops, every coil dumps and VLF_LOW latches. -/
  | evLfVlfLow (dt : Nat) (mv : Nat)
  /-- LF_VLF_RESTORED (R154). VLF rises above 5.8 V and the coils may drive again. -/
  | evLfVlfRestored (dt : Nat) (mv : Nat)
  /-- LF_OVERTEMP (R154). A bridge sensor exceeds 155 °C, the bridges stop and OVERTEMP latches. -/
  | evLfOvertemp (dt : Nat) (temp : Int)
  /-- LF_OVERTEMP_CLEAR (R154). Every bridge sensor is below 140 °C and the coils may drive again. -/
  | evLfOvertempClear (dt : Nat) (temp : Int)
  /-- COIL_DUMP_DONE (R155). The coil current falls below 5 mA and the dump ends. -/
  | evCoilDumpDone (dt : Nat) (n : Nat)
  /-- COIL_DUMP_TIMEOUT (R155). After 400 µs of dump the coil latches DUMP_TIMEOUT and stays clamped. -/
  | evCoilDumpTimeout (dt : Nat) (n : Nat)
  /-- LF_NOISE_TRIP (R165). The LF noise monitor trips and marks the exchange disturbed. -/
  | evLfNoiseTrip (dt : Nat) (noise : Nat) (us : Nat) (coherent : Nat)
  /-- LF_CARRIER_WRITE (R144). A write to LF_CARRIER changes DIV and marks every coil stale. -/
  | rgLfCarrierWrite (dt : Nat) (value : Word)
  /-- LF_RETUNE (R150). A write to LF_RETUNE marks the named coils stale. -/
  | rgLfRetune (dt : Nat) (value : Word)
  /-- LF_FAULT_CLEAR (R150). A W1C of LF_FAULT clears coil fault latches and marks those coils stale. -/
  | rgLfFaultClear (dt : Nat) (value : Word)
  /-- SYNTH_LOCK_LOST (R170). The UWB synthesiser loses lock, the transmitter stops and a calibration starts. -/
  | evSynthLockLost (dt : Nat)
  /-- SYNTH_CAL_DONE (R169). A full UWB synthesiser calibration completes or fails. -/
  | evSynthCalDone (dt : Nat) (ok : Bool) (c : CalEnd)
  /-- BG_CAL_SLICE (R184). A background calibration slice runs while the front-end is READY. -/
  | evBgCalSlice (dt : Nat) (k : Nat) (ending : Bool) (bad : Nat)
  /-- BG_CAL_OVERDUE (R185). A calibration's age reaches twice its longest age and it becomes overdue. -/
  | evBgCalOverdue (dt : Nat) (k : Nat)
  /-- COEX_GNT_CHANGE (R192). COEX_GNT is granted or withdrawn during a UWB exchange. -/
  | evCoexGntChange (dt : Nat) (level : Bool)
  /-- COEX_WAIT_LAPSE (R191). No coexistence grant arrives within WAIT and the step ends COEX_DENIED. -/
  | evCoexWaitLapse (dt : Nat)
  /-- UWB_FRAME_RX (R205). A UWB frame is taken whole and checked, or discarded. -/
  | evUwbFrameRx (dt : Nat) (rx : UwbRx)
  /-- UWB_RESPONSE_TX (R175). The response leaves exactly 1,024 CHIP periods after the poll's receive end mark. -/
  | evUwbResponseTx (dt : Nat) (tx : TxMeas)
  /-- UWB_WINDOW_OPEN (R177). A reply window opens exactly 512 CHIP periods after a transmission ends. -/
  | evUwbWindowOpen (dt : Nat) (tx : TxMeas)
  /-- UWB_FINAL_TX (R216). The scheduled final leaves at its transmit start mark. -/
  | evUwbFinalTx (dt : Nat) (tx : TxMeas)
  /-- UWB_DISTURBED (R221). The UWB noise floor or clipping marks the exchange disturbed. -/
  | evUwbDisturbed (dt : Nat) (floor : Nat) (us : Nat) (clip : Nat)
  /-- TSC_WRAP (R196). The 40-bit TSC wraps to 0. -/
  | evTscWrap (dt : Nat)
  /-- RNG_TSC_LO_READ (R235). A read of RNG_TSC_LO latches TSC [39:32] and ERA into RNG_TSC_HI. -/
  | rgRngTscLoRead (dt : Nat)
  /-- UHF_PREAMBLE_DETECT (R240). A lane detects a preamble and a hold begins. -/
  | evUhfPreambleDetect (dt : Nat) (lane : Nat) (err : Int)
  /-- UHF_TELEGRAM_RX (R241). A UHF telegram is received whole and passes or is discarded. -/
  | evUhfTelegramRx (dt : Nat) (rx : UhfRx) (runUs : Nat)
  /-- UHF_DISTURBANCE_MARK (R244). A run above DIST_THR reaches its length and marks the exchange disturbed. -/
  | evUhfDisturbanceMark (dt : Nat) (power : Int) (runUs : Nat)
  /-- UHF_SYNTH_CAL_DONE (R237). A UHF synthesiser calibration completes or fails. -/
  | evUhfSynthCalDone (dt : Nat) (ok : Bool) (temp : Int)
  /-- SNIFF_PERIOD (R251). Every PERIOD ms in LOBBY the device brings D33 up and listens. -/
  | evSniffPeriod (dt : Nat)
  /-- SNIFF_LISTEN_END (R251). A sniff listen ends without a hit. -/
  | evSniffListenEnd (synced : Told (Option (Nat × Nat)))
  /-- NFC_EXT_LISTEN_END (R256). The external-field listen ends; the step ends disturbed or the field switches on. -/
  | evNfcExtListenEnd (dt : Nat) (strength : Nat)
  /-- NFC_GUARD_END (R256). The guard time of unmodulated carrier ends and the first frame may be sent. -/
  | evNfcGuardEnd (dt : Nat)
  /-- NFC_REPLY_RX (R259). A card reply is received and classified. -/
  | evNfcReplyRx (dt : Nat) (rx : NfcRx)
  /-- NFC_DISTURBED (R260). The NFC monitor marks the exchange disturbed. -/
  | evNfcDisturbed (dt : Nat) (rise : Nat) (us : Nat)
  /-- TAG_FIELD_ARRIVE (R264). VTAG reaches VTAG_OK and the tag port becomes ready. -/
  | evTagFieldArrive (dt : Nat) (writeLevel : Bool)
  /-- TAG_FIELD_LOSS (R264). VTAG falls with VDD absent and the tag port enters POWER-OFF. -/
  | evTagFieldLoss (weak : Told Bool)
  /-- TAG_FIELD_ABSENT_TIMEOUT (R264). With VDD present, the tag port returns to IDLE after 1 ms without field. -/
  | evTagFieldAbsentTimeout (dt : Nat)
  /-- TAG_REQA (R264). The tag port answers REQA. -/
  | evTagReqa (dt : Nat)
  /-- TAG_WUPA (R264). The tag port answers WUPA. -/
  | evTagWupa (dt : Nat)
  /-- TAG_HLTA (R264). The tag port enters HALT on HLTA. -/
  | evTagHlta (dt : Nat)
  /-- TAG_ANTICOLLISION (R264). The tag port answers a cascade-level-1 anticollision frame. -/
  | evTagAnticollision (dt : Nat) (nbits : Nat) (known : Nat)
  /-- TAG_SELECT (R264). The tag port is selected and enters ACTIVE. -/
  | evTagSelect (dt : Nat) (uid : List Byte)
  /-- TAG_GET_INFO (R265). Tag command that returns the version, key mask, access bytes and vehicle ID. -/
  | evTagGetInfo (dt : Nat) (body : List Byte)
  /-- TAG_READ (R266). Tag command that reads a user block under the access rules. -/
  | evTagRead (dt : Nat) (body : List Byte)
  /-- TAG_WRITE (R266). Tag command that writes a user block under the access rules. -/
  | evTagWrite (dt : Nat) (body : List Byte)
  /-- TAG_GET_CHALLENGE (R273). Tag command that advances CNT durably and returns TCHAL. -/
  | evTagGetChallenge (dt : Nat) (body : List Byte)
  /-- TAG_AUTH (R274). Tag command that verifies PMAC, journals the result and returns TMAC. -/
  | evTagAuth (dt : Nat) (body : List Byte)
  /-- TAG_UNKNOWN_CMD (R265). An unknown command gets no response and returns the tag port to IDLE. -/
  | evTagUnknownCmd (dt : Nat)
  /-- STORE_BLOCK_WRITE_DONE (R267). A field-store block write commits its FLAG. -/
  | evStoreBlockWriteDone (dt : Nat)
  /-- TAG_VDD_RISE (R272). VDD rises and the TAG domain moves to it without interruption. -/
  | evTagVddRise (vio : Told Bool)
  /-- TAG_VDD_FALL (R272). VDD falls and the TAG domain runs on VTAG or tears the write. -/
  | evTagVddFall (vio : Told Bool)
  /-- FIELD_WAKE_END (R277). The WAKE_MS pulse on FIELD_WAKE ends. -/
  | evFieldWakeEnd (dt : Nat)
  /-- NFC_TAG_WCMD (R281). A register write that starts a wire-side block write from the staging buffer. -/
  | rgNfcTagWcmd (dt : Nat) (value : Word)
  /-- NFC_TAG_CTRL (R275). Writing CLEAR_FAILS commits FAILS := 0 to block 1. -/
  | rgNfcTagCtrl (dt : Nat) (value : Word)
  /-- NFC_TAG_JACK (R281). Writing JACK commits the acknowledged journal sequence to block 1. -/
  | rgNfcTagJack (dt : Nat) (value : Word)
  /-- EVD_POST_MS_LAPSE (R304). POST_MS passes since the trigger and the capture closes. -/
  | evEvdPostMsLapse (dt : Nat)
  /-- EVD_REARM_LAPSE (R304). 2 ms after publication the recorder returns to ARMED. -/
  | evEvdRearmLapse (dt : Nat)
  /-- START_EDGE (R327). A START channel's filtered level changes after DEB samples. -/
  | evStartEdge (dt : Nat) (ch : Nat) (rawA : Bool) (rawB : Bool)
  /-- START_DISC_LIMIT (R328). A discrepancy outlasts DISC_SAMPLES and the START discrepancy fault latches. -/
  | evStartDiscLimit (dt : Nat) (rawA : Bool) (rawB : Bool)
  /-- START_FAULT_CLEAR (R329). A W1C of START_FAULT clears a standing discrepancy when allowed. -/
  | rgStartFaultClear (dt : Nat) (value : Word)
  /-- TEN_TIME_WRITE (R315). A write of vehicle time that checks and raises the durable floor. -/
  | rgTenTimeWrite (dt : Nat) (value : Word)
  /-- TEN_LIFE_CFG_WRITE (R326). A write of TEN_LIFE_CFG that recomputes the LIFE flags. -/
  | rgTenLifeCfgWrite (dt : Nat) (value : Word)
  /-- LIFE_RECOMPUTE (R326). Every 60 s of counting time the LIFE flags are recomputed. -/
  | evLifeRecompute (dt : Nat)
  /-- TENANT_LOCKOUT_END (R322). A tenant lockout's time runs out. -/
  | evTenantLockoutEnd (dt : Nat) (t : Nat)
  /-- LEARN_LOCKOUT_END (R323). The learning lockout's time runs out. -/
  | evLearnLockoutEnd (dt : Nat)
  /-- LEARN_WINDOW_AGE (R323). A failure ages out of the learning window. -/
  | evLearnWindowAge (dt : Nat)
  /-- RELEASE_REPEAT (R334). A repeat instant comes and the next release frame is queued with the next freshness value. -/
  | evReleaseRepeat (dt : Nat)
  /-- CAN_FRAME_ACK (R334). A release frame is acknowledged on CANB. -/
  | evCanFrameAck (dt : Nat)
  /-- CAN_ATTEMPT_FAIL (R334). An unacknowledged attempt ends and the frame is retried. -/
  | evCanAttemptFail (dt : Nat) (ackError : Bool)
  /-- RELEASE_WINDOW_LAPSE (R336). The release window lapses and the session ends. -/
  | evReleaseWindowLapse (dt : Nat)
  /-- FRESH_RESERVE_DONE (R331). A durable write that raises the freshness issue mark or reservation top completes. -/
  | evFreshReserveDone (dt : Nat) (top : Bool) (ok : Bool)
  /-- REL_HALF_PERIOD (R338). A half-period of the RELA and RELB pattern with read-back. -/
  | evRelHalfPeriod (dt : Nat) (readA : Bool) (readB : Bool)
  /-- CANB_BUSOFF (R335). CANB enters bus-off. -/
  | evCanbBusoff (dt : Nat)
  /-- CANB_BUSOFF_RECOVER (R335). CANB recovers from bus-off. -/
  | evCanbBusoffRecover (dt : Nat)
  /-- TAMPER_QUALIFIED (R369). A tamper condition is qualified and recorded or acted on. -/
  | evTamperQualified (dt : Nat) (src : Nat)
  /-- ZAP_ERASE_DONE (R371). The vault store erase after ZAP completes and a cold reset follows. -/
  | evZapEraseDone (dt : Nat)
  /-- ENTROPY_BLOCK (R361). A 1,024-bit raw block is collected, tested and conditioned. -/
  | evEntropyBlock (dt : Nat) (raw : List Byte) (unbal : Nat)
  /-- DRBG_WAIT_LAPSE (R365). A request short of pool blocks waits 150 µs and ends ENTROPY_UNAVAILABLE. -/
  | evDrbgWaitLapse (dt : Nat) (l : Nat)
  /-- MASK_REKEY (R359). The mask generator is rekeyed every 10 ms. -/
  | evMaskRekey (dt : Nat)
  /-- SHARE_REFRESH (R358). Key shares are re-randomised at least once per millisecond. -/
  | evShareRefresh (dt : Nat)
  /-- SCAN_ENABLE (R373). The TEST ball or an unlock enables scan after zeroising. -/
  | evScanEnable (dt : Nat) (test : Bool) (zero : Bool)
  /-- POWER_ON_RESET (R522). Supplies reach their thresholds and the device resets, closing the epoch. -/
  | evPowerOnReset (dt : Nat) (caddr : Nat) (fuse : Nat)
  /-- BROWN_OUT (R535). A supply brown-out causes a reset with cause 0x02. -/
  | evBrownOut (dt : Nat) (caddr : Nat) (loss : PowerLoss)
  /-- RSTN_RESET (R519). RSTN held low for 10 µs causes a power-on reset. -/
  | evRstnReset (dt : Nat) (us : Nat) (caddr : Nat) (fuse : Nat)
  /-- COLD_START_BIST_DONE (R507). Cold-start BIST ends and the epoch-close record is posted. -/
  | evColdStartBistDone (dt : Nat) (b : BootIn) (marks : Nat) (failed : Nat) (kat : Nat) (sram : List Nat) (halt : Bool)
  /-- OTP_REREAD (R387). A 40 °C die temperature change triggers a margin re-read of OTP. -/
  | evOtpReread (dt : Nat) (temp : Int) (reads : List (Nat × Nat × Nat × Nat))
  /-- ACTIVATE_COLD_RESET (R400). 10 ms after the UPDATE_ACTIVATE completion is released, a cold reset follows. -/
  | evActivateColdReset (dt : Nat)
  /-- NVM_OPERATION_DONE (R390). An NVM line program or sector erase completes. -/
  | evNvmOperationDone (dt : Nat) (ok : Bool) (sector : Nat) (fuse : Nat)
  /-- OSPI_BLOCK_CHECKED (R409). A fetched OSPI block and its tag are checked in staging. -/
  | evOspiBlockChecked (dt : Nat) (ch : Nat) (block : List Byte) (tag : List Byte)
  /-- FAULT_DETECTED (R414). A fault is detected, latched and handled by its class. -/
  | evFaultDetected (dt : Nat) (kind : Nat) (index : Nat) (addr : Nat) (extra : Nat)
  /-- ENGINE_STALL (R413). An engine operation runs beyond twice its stated maximum. -/
  | evEngineStall (dt : Nat) (engine : Nat)
  /-- PIPE_STALL (R413). A pipe overruns a step by 256 CORE cycles. -/
  | evPipeStall (dt : Nat) (half : Nat)
  /-- DMA_STALL (R413). A descriptor delivers no granule for 100 µs. -/
  | evDmaStall (dt : Nat) (ch : Nat)
  /-- DOMAIN_RISE_TIMEOUT (R489). A domain is not up within twice its rise time. -/
  | evDomainRiseTimeout (dt : Nat) (d : Nat)
  /-- RECOVERY_END (R418). A recovery finishes its steps and resumes its scope set. -/
  | evRecoveryEnd (dt : Nat)
  /-- RECOVERY_OVERRUN (R418). A recovery exceeds 2 ms and OVERRUN escalates. -/
  | evRecoveryOverrun (dt : Nat)
  /-- SAFE_HOLD (R424). After a warm reset the device ends all work, posts FAILED_FAULT completions and checks the ledgers. -/
  | evSafeHold (dt : Nat) (b : BootIn)
  /-- EVENT_RECORD_WRITE (R416). An event record is written to the NVM event log. -/
  | evEventRecordWrite (dt : Nat)
  /-- FLT_LATCHED_FREE (R415). Writing a VALID bit frees a latch table entry. -/
  | rgFltLatchedFree (dt : Nat) (value : Word)
  /-- GAL_ROUND_START (R445). The master starts a 1 ms round with the beacon edge and control slot. -/
  | evGalRoundStart (dt : Nat)
  /-- GAL_BEACON_RX (R443). A slave receives the control slot and its beacon. -/
  | evGalBeaconRx (dt : Nat) (beacon : List Byte)
  /-- GAL_SLOT_TX (R447). A slave sends or withholds its frame in an owned data slot. -/
  | evGalSlotTx (dt : Nat) (k : Nat)
  /-- GAL_JOIN_TX (R448). A slave sends JOIN in its join slot. -/
  | evGalJoinTx (dt : Nat)
  /-- GAL_FRAME_RX (R449). A gallery frame is received and checked. -/
  | evGalFrameRx (dt : Nat) (slot : Nat) (bits : Nat) (guard : Nat) (frame : List Byte)
  /-- GAL_PREPARE_RX (R460). A slave receives PREPARE and replies with a MODE_REPLY. -/
  | evGalPrepareRx (dt : Nat) (unit : List Byte)
  /-- GAL_GRANT_RX (R459). A slave receives GRANT and calibrates. -/
  | evGalGrantRx (dt : Nat) (unit : List Byte)
  /-- GAL_PART_RX (R457). A slave starts a received PART. -/
  | evGalPartRx (dt : Nat) (unit : List Byte)
  /-- GAL_RESULT_RX (R456). The master receives a RESULT for a part. -/
  | evGalResultRx (dt : Nat) (src : Nat) (unit : List Byte)
  /-- GAL_MODE_REPLY_RX (R460). The master receives an acknowledgement or NAK of a mode change. -/
  | evGalModeReplyRx (dt : Nat) (src : Nat) (unit : List Byte)
  /-- GAL_JOIN_RX (R459). The master answers a JOIN with a GRANT or no grant. -/
  | evGalJoinRx (dt : Nat) (src : Nat) (unit : List Byte)
  /-- GAL_RESEND (R455). An unacknowledged unit is sent again after a round. -/
  | evGalResend (dt : Nat) (seq : Nat)
  /-- PART_KEEP_EXPIRE (R458). A kept part result expires after PART_KEEP. -/
  | evPartKeepExpire (dt : Nat)
  /-- NODE_LOSS_EXPIRE (R466). No frame from a slave for NODE_LOSS rounds makes it lost. -/
  | evNodeLossExpire (dt : Nat) (n : Nat)
  /-- BEACON_LOSS_EXPIRE (R467). No control slot for BEACON_LOSS rounds records BEACON_LOST. -/
  | evBeaconLossExpire (dt : Nat)
  /-- GHUSH_FALL (R463). GHUSH goes low and slave drivers are disabled. -/
  | evGhushFall (dt : Nat)
  /-- GHUSH_RISE (R463). GHUSH is released and slave drivers may transmit again. -/
  | evGhushRise (dt : Nat)
  /-- GHUSH_HOLD_END (R463). The 4-round GHUSH after babbling ends. -/
  | evGhushHoldEnd (dt : Nat)
  /-- GAL_CTRL_RESUME (R464). Writing RESUME releases held gallery traffic. -/
  | rgGalCtrlResume (dt : Nat) (value : Word)
  /-- CASCADE_LISTEN_END (R437). The master's 4 ms listen for a beacon ends. -/
  | evCascadeListenEnd (dt : Nat)
  /-- CASCADE_JOIN_TIMEOUT (R437). No grant within 64 rounds ends a join CASCADE_ALONE. -/
  | evCascadeJoinTimeout (dt : Nat)
  /-- MODE_CHANGE_END (R462). At the end of round TARGET plus 1 the mode change completes. -/
  | evModeChangeEnd (dt : Nat)
  /-- REFIN_QUALIFY_CHANGE (R473). REFIN starts or stops qualifying and the reference switches. -/
  | evRefinQualifyChange (dt : Nat) (qualifies : Bool)
  /-- PWR_REQ (R478). A write of PWR_REQ checks the conditions and starts a sleep entry. -/
  | rgPwrReq (dt : Nat) (value : Word)
  /-- PWR_ENTRY_DONE (R480). Preparation completes and the switch-off enters LOBBY or VESTIBULE. -/
  | evPwrEntryDone (dt : Nat)
  /-- WAKE_TIMER_LAPSE (R484). The LOBBY wake timer lapses and wakes the device. -/
  | evWakeTimerLapse (dt : Nat)
  /-- WAKE_FIELD_DETECT (R484). An NFC field detected with FIELD_EN set wakes the device. -/
  | evWakeFieldDetect (dt : Nat)
  /-- WAKE_COMPLETE (R486). The wake boot ends and the host link is served again. -/
  | evWakeComplete (dt : Nat) (b : BootIn)
  /-- ROOT_LOCK_LOST (R474). ROOT PLL lock lost for 1 µs raises ROOT_LOCK. -/
  | evRootLockLost (dt : Nat)
  /-- SLOW_CALIBRATE (R475). SLOW is measured against ROOT and trimmed every 1,000 ms. -/
  | evSlowCalibrate (dt : Nat) (err : Int)
  /-- DOMAIN_RISE_DONE (R489). A domain finishes rising. -/
  | evDomainRiseDone (dt : Nat) (d : Nat)
  /-- DOMAIN_FALL_DONE (R490). A domain finishes falling and may rise again at once. -/
  | evDomainFallDone (dt : Nat) (d : Nat)
  /-- TIMER_COMPARE (R497). A timer's count reaches COMPARE, ending matching waits. -/
  | evTimerCompare (dt : Nat) (k : Nat)
  /-- TIMER_WRAP (R498). A timer wraps to 0 and a cadence timer copies its preloads. -/
  | evTimerWrap (dt : Nat) (k : Nat)
  /-- TIMER_TRIGGER (R504). A master compare event acts on its slave timer one PERI cycle later. -/
  | evTimerTrigger (dt : Nat) (k : Nat)
  /-- UHF_PREAMBLE_LOST (R244). A UHF lane loses a detected preamble without completing a sync, which ends its hold and may let the disturbance mark fall. -/
  | evUhfPreambleLost (dt : Nat) (lane : Nat) (runUs : Nat)
  /-- BIST_RUN_DONE (R513). The tests of a BIST_RUN end, units are marked or unmarked, a standing entropy alarm may end, and the item completes with its failing scope mask. -/
  | evBistRunDone (dt : Nat) (marks : Nat) (failed : Nat) (kat : Nat) (sram : List Nat) (tunes : List LfTune) (coils : Nat)
deriving DecidableEq, Repr

end Sys2Proof
end

