-- ==== Sys2Proof/Decode.lean ====
section
/-! DEFINITION. Commands from words. Every row of spec/opcode_table.json gives no bits, so no word spells a command; host frames and
items are read byte by byte by the meanings of their commands. -/

namespace Sys2Proof

/-- The command that a word spells by the bits of spec/opcode_table.json: none, since no row gives bits (log 42). -/
def decodeTableWord (_nbits _w : Nat) : Option Instr := none

end Sys2Proof
end

