-- ==== Sys2Proof/Config.lean ====
section
/-! DEFINITION. What the spec leaves open: constants without a body, so that nothing can be proved of their values. -/

namespace Sys2Proof

/-- Byte offset of an image's code in the flight-hall region; the spec fixes the areas but no placement (log 5). -/
opaque Config.imageBase : Nat → Nat

/-- A free value: the n-th one drawn by the model (log 4). -/
opaque Config.freeValue : Nat → Nat

/-- OP byte of the fault word when a landing fetches past the end of its code (log 6). -/
opaque Config.fetchPastOp : Nat

/-- Ticks that a TMIN-clocked prescaler has emitted for timer k between two instants (log 7). -/
opaque Config.tminTicks : Nat → Nat → Nat → Nat

/-- The fixed AES-256 key of the conditioner, held in ROM (R361). -/
opaque Config.conditionerKey : List Byte

/-- The Ed25519 public key of the vendor authority, held in the boot ROM. -/
opaque Config.vendorKey : List Byte

/-- Identity of a DRBG instance in its personalisation string: system instance or tenant, and number (R364). -/
opaque Config.drbgIdentity : Bool → Nat → List Byte

/-- Tap taken as the first path of a CIR none of whose taps in reach exceeds its noise floor by 12 dB: noise floor and taps (R212;
log 179). -/
opaque Config.noPath : Nat → List Byte → Nat

/-- Transmit-gain trims of UWB channel 5 or 9 in the OTP trim group, whose layout the spec does not give: g0, kt in 1/16
code per degree, kv in codes per volt (R178; log 18). -/
opaque Config.uwbG0 : Nat → Int
opaque Config.uwbKt : Nat → Int
opaque Config.uwbKv : Nat → Int

/-- Transmit-power trims of the UHF bands in the OTP trim group (R245; log 18). -/
opaque Config.uhfP0 : Nat → Int
opaque Config.uhfKt : Nat → Int
opaque Config.uhfKv : Nat → Int

/-- VTAG stands above VDD at an instant, both being present (R263; log 215). -/
opaque Config.vtagHigher : Nat → Bool

/-- Number from the SRAM base of a failing 4 KiB bank, by its place in the list of `COLD_START_BIST_DONE`: the spec does not
give the layout of SRAM (R508, BIST_SRAM; log 32). -/
opaque Config.sramBank : Nat → Nat

/-- Receive error count of CAN controller 0 (CANB) or 1 (CANA): the frames that other nodes send on its bus since an instant at which the
count was 0, up to another instant (R335; log 116). -/
opaque Config.canReceived : Nat → Nat → Nat → BitVec 8

/-- Erases that wear levelling has made of a sector of a ring up to an instant (R393; log 137): the spec does not say how many records are
copied forward, so no count follows from it. -/
opaque Config.ringErases : Nat → Nat → Nat

/-- Byte of the random share of a key, by its holder, the last re-randomisation of all shares, and the instant, at which a use may have
re-randomised it again (R358; log 126). -/
opaque Config.shareByte : Nat → Nat → Nat → Nat → BitVec 8

/-- Scrambling of vault SRAM under the bytes of a key: where a slot stands, and the stream over its bytes (R358; log 126). -/
opaque Config.scramblePlace : List (BitVec 8) → Nat → Nat
opaque Config.scrambleByte : List (BitVec 8) → Nat → Nat → BitVec 8

/-- How far SLOW runs from its nominal rate in the stay in LOBBY that begins at an instant, in parts per million (R475, R552; log 233). -/
opaque Config.slowDrift : Nat → Int

end Sys2Proof
end

