-- ==== Sys2Proof/Machine/Bits.lean ====
section
/-! DEFINITION. Bit fields, byte order, sign extension and the small table helpers every unit uses. -/

namespace Sys2Proof.Machine

open Sys2Proof

/-- Bits [hi:lo] of a number. -/
def bits (v hi lo : Nat) : Nat := (v >>> lo) % 2 ^ (hi + 1 - lo)

/-- Bit i of a number, as 0 or 1. -/
def bit (v i : Nat) : Nat := (v >>> i) % 2

/-- 1 for true. -/
def b2n (b : Bool) : Nat := if b then 1 else 0

/-- Value of little-endian bytes (00_scope, Numbers, units and layouts). -/
def leNat : List Byte → Nat
  | [] => 0
  | b :: bs => b.toNat + 256 * leNat bs

/-- The n little-endian bytes of a value. -/
def natLE : Nat → Nat → List Byte
  | 0, _ => []
  | n + 1, v => BitVec.ofNat 8 v :: natLE n (v / 256)

/-- Value of big-endian bytes. -/
def beNat (bs : List Byte) : Nat := bs.foldl (fun a b => a * 256 + b.toNat) 0

/-- The n big-endian bytes of a value. -/
def natBE (n v : Nat) : List Byte := (natLE n v).reverse

/-- The little-endian field of n bytes at offset o of a byte string; bytes past the end count 0. -/
def fieldLE (bs : List Byte) (o n : Nat) : Nat := leNat ((bs.drop o).take n)

/-- Byte o of a byte string, 0 past its end. -/
def byteAt (bs : List Byte) (o : Nat) : Nat := (bs.getD o 0).toNat

/-- n bytes at offset o, padded with zeros to exactly n. -/
def sliceP (bs : List Byte) (o n : Nat) : List Byte :=
  let p := (bs.drop o).take n
  p ++ List.replicate (n - p.length) 0

/-- A byte string forced to exactly n bytes. -/
def padTo (n : Nat) (bs : List Byte) : List Byte := sliceP bs 0 n

/-- All n bytes from offset o are 0: a reserved field (R5). -/
def zerosAt (bs : List Byte) (o n : Nat) : Bool := ((bs.drop o).take n).all (· == 0)

/-- Overwrite bytes from offset o. -/
def patch (bs : List Byte) (o : Nat) (new : List Byte) : List Byte :=
  sliceP bs 0 o ++ new ++ bs.drop (o + new.length)

/-- Read an n-bit value as signed two's complement. -/
def sgn (n v : Nat) : Int :=
  let u := v % 2 ^ n
  if u < 2 ^ (n - 1) then (u : Int) else (u : Int) - 2 ^ n

/-- The n-bit two's complement of an integer. -/
def unsgn (n : Nat) (i : Int) : Nat := (i % (2 ^ n : Int)).toNat

/-- Saturate at a maximum. -/
def sat (m v : Nat) : Nat := min m v

/-- Clamp an integer between two bounds. -/
def clampI (lo hi v : Int) : Int := max lo (min hi v)

/-- Division of naturals rounded to the nearest, halves up. -/
def divRound (a b : Nat) : Nat := (2 * a + b) / (2 * b)

/-- Number of ones among the low n bits. -/
def popCount : Nat → Nat → Nat
  | 0, _ => 0
  | n + 1, v => v % 2 + popCount n (v / 2)

/-- Greatest r with r * r ≤ v, by bits from 2 ^ k downward. -/
def isqrtFrom : Nat → Nat → Nat → Nat
  | 0, v, r => if (r + 1) * (r + 1) ≤ v then r + 1 else r
  | k + 1, v, r =>
    let r' := r + 2 ^ (k + 1)
    isqrtFrom k v (if r' * r' ≤ v then r' else r)

/-- Integer square root. -/
def isqrt (v : Nat) : Nat := isqrtFrom (v.log2 / 2 + 1) v 0

/-- CRC over one byte, most significant bit first, not reflected; width w, polynomial p. -/
def crcByte (w p : Nat) (crc : Nat) (b : Byte) : Nat :=
  (List.range 8).foldl (fun c i =>
    let top := bit c (w - 1)
    let din := bit b.toNat (7 - i)
    let sh := (c * 2) % 2 ^ w
    if top != din then sh ^^^ p else sh) crc

/-- A non-reflected CRC. -/
def crcMsb (w p init : Nat) (bs : List Byte) : Nat := bs.foldl (crcByte w p) init

/-- CRC-8 of the host link, polynomial 0x2F, initial value 0xFF (R14). -/
def crc8 (bs : List Byte) : Byte := BitVec.ofNat 8 (crcMsb 8 0x2F 0xFF bs)

/-- CRC over one byte, least significant bit first; p is the reflected polynomial. -/
def crcByteLsb (p : Nat) (crc : Nat) (b : Byte) : Nat :=
  (List.range 8).foldl (fun c i =>
    if (c % 2) != bit b.toNat i then (c / 2) ^^^ p else c / 2) crc

/-- A reflected CRC. -/
def crcLsb (p init : Nat) (bs : List Byte) : Nat := bs.foldl (crcByteLsb p) init

/-! ### Fixed tables held as vectors, sparse tables held as lists -/

/-- Entry i of a fixed table, or d outside it. -/
def vget {α : Type} {n : Nat} (v : Vector α n) (i : Nat) (d : α) : α := v.toList.getD i d

/-- Replace entry i of a fixed table; nothing changes outside it. -/
def vset {α : Type} {n : Nat} (v : Vector α n) (i : Nat) (x : α) : Vector α n := v.setIfInBounds i x

/-- A sparse table: keys in rising order, at most one entry a key. -/
abbrev Tbl (α : Type) := List (Nat × α)

/-- Entry of a key. -/
def Tbl.find {α : Type} : Tbl α → Nat → Option α
  | [], _ => none
  | (k, v) :: t, i => if k = i then some v else Tbl.find t i

/-- Entry of a key, or a default. -/
def Tbl.get {α : Type} (t : Tbl α) (i : Nat) (d : α) : α := (Tbl.find t i).getD d

/-- Put an entry, keeping the keys in rising order. -/
def Tbl.put {α : Type} : Tbl α → Nat → α → Tbl α
  | [], i, x => [(i, x)]
  | (k, v) :: t, i, x =>
    if i < k then (i, x) :: (k, v) :: t
    else if i = k then (i, x) :: t
    else (k, v) :: Tbl.put t i x

/-- Remove a key. -/
def Tbl.del {α : Type} (t : Tbl α) (i : Nat) : Tbl α := t.filter (fun p => p.1 != i)

/-- Insert into a rising list of numbers without repeats. -/
def insN (i : Nat) : List Nat → List Nat
  | [] => [i]
  | k :: t => if i < k then i :: k :: t else if i = k then k :: t else k :: insN i t

/-- Index of the first element that meets a test. -/
def findIdx {α : Type} (p : α → Bool) : List α → Option Nat
  | [] => none
  | a :: t => if p a then some 0 else (findIdx p t).map (· + 1)

/-- m without the bits of n. -/
def clearBits (m n : Nat) : Nat := m - (m &&& n)

end Sys2Proof.Machine
end

