-- ==== Sys2Proof/Machine/Codes.lean ====
section
/-! DEFINITION. Completion and frame codes (R41), fault causes with their handling (R413) and fault scopes (R412). -/

namespace Sys2Proof.Machine

open Sys2Proof

/-- Completion and error codes (R41). -/
inductive Code where
  | ok | okPartial | okDeferred
  | badOpcode | badField | badLength | badCrc | badAlign | badRef
  | stateRefused | lifecycleRefused | lockedOut
  | noLanding | noCredit | noSpace | unitUnusable
  | authFail | keyPolicy | entropyUnavailable | counterStale | tampered
  | fieldTimeout | fieldDisturbed | fieldCollision | regulatoryBlocked | coexDenied | antennaFault
  | cascadeAlone | cascadeSplit | cascadeNodeFailed | slotWithheld
  | nvmWriteFail | imageMacFail | imageSigFail
  | failedReset | failedFault | failedHush
deriving DecidableEq, Repr

/-- The number of a code (R41). -/
def Code.num : Code → Nat
  | .ok => 0x00 | .okPartial => 0x01 | .okDeferred => 0x02
  | .badOpcode => 0x10 | .badField => 0x11 | .badLength => 0x12 | .badCrc => 0x13
  | .badAlign => 0x14 | .badRef => 0x15
  | .stateRefused => 0x20 | .lifecycleRefused => 0x21 | .lockedOut => 0x22
  | .noLanding => 0x30 | .noCredit => 0x31 | .noSpace => 0x32 | .unitUnusable => 0x33
  | .authFail => 0x40 | .keyPolicy => 0x41 | .entropyUnavailable => 0x42
  | .counterStale => 0x43 | .tampered => 0x44
  | .fieldTimeout => 0x50 | .fieldDisturbed => 0x51 | .fieldCollision => 0x52
  | .regulatoryBlocked => 0x53 | .coexDenied => 0x54 | .antennaFault => 0x55
  | .cascadeAlone => 0x60 | .cascadeSplit => 0x61 | .cascadeNodeFailed => 0x62 | .slotWithheld => 0x63
  | .nvmWriteFail => 0x70 | .imageMacFail => 0x71 | .imageSigFail => 0x72
  | .failedReset => 0x80 | .failedFault => 0x81 | .failedHush => 0x82

/-- Every code, for reading one back from its number. -/
def Code.all : List Code :=
  [.ok, .okPartial, .okDeferred, .badOpcode, .badField, .badLength, .badCrc, .badAlign, .badRef,
   .stateRefused, .lifecycleRefused, .lockedOut, .noLanding, .noCredit, .noSpace, .unitUnusable,
   .authFail, .keyPolicy, .entropyUnavailable, .counterStale, .tampered,
   .fieldTimeout, .fieldDisturbed, .fieldCollision, .regulatoryBlocked, .coexDenied, .antennaFault,
   .cascadeAlone, .cascadeSplit, .cascadeNodeFailed, .slotWithheld,
   .nvmWriteFail, .imageMacFail, .imageSigFail, .failedReset, .failedFault, .failedHush]

/-- The code of a number, if it is not reserved. -/
def Code.ofNum (n : Nat) : Option Code := Code.all.find? (fun c => c.num == n)

/-- Codes that a step can give as an outcome, so that a flight may end with them (R70). -/
def Code.ends : List Code :=
  [.ok, .okPartial, .badRef, .stateRefused, .lifecycleRefused, .lockedOut, .noSpace, .unitUnusable,
   .authFail, .keyPolicy, .entropyUnavailable, .counterStale, .tampered,
   .fieldTimeout, .fieldDisturbed, .fieldCollision, .regulatoryBlocked, .coexDenied, .antennaFault,
   .cascadeAlone, .cascadeSplit, .cascadeNodeFailed, .slotWithheld, .nvmWriteFail]

/-- A flight may end with this code (R70). -/
def Code.mayEnd (c : Code) : Bool := Code.ends.contains c

/-- Step fault kinds (R62). -/
inductive StepFault where
  | illegal | hallBound | hallPerm | align | pcRange | operand
  | noAirtime | noTenant | noProof | privilege | runtime | badEnd
deriving DecidableEq, Repr

/-- Kind number of a step fault, which is also its fault cause (R62, R413). -/
def StepFault.num : StepFault → Nat
  | .illegal => 0x01 | .hallBound => 0x02 | .hallPerm => 0x03 | .align => 0x04 | .pcRange => 0x05
  | .operand => 0x06 | .noAirtime => 0x07 | .noTenant => 0x08 | .noProof => 0x09
  | .privilege => 0x0A | .runtime => 0x0B | .badEnd => 0x0C

/-- Fault causes (R413). -/
inductive Cause where
  | step (k : StepFault)
  | sramUe | contextUe | queueUe | vaultUe | ceRate
  | nvmRead | nvmProg | nvmErase | noSpare | copyBad | tenantLost | wrapFail | libOmit | bankRevert
  | startDisc | relPin | freshWrite | canbBusoff
  | lfOpen | lfShort | lfTuneRange | lfDumpTimeout | lfVlfLow | lfOvertemp
  | uwbTxAnt | uwbPort | uwbPwrOver
  | uwbSynth | uhfSynth | engineStall | pipeStall | dmaStall | domainRise | bankRepeat
  | rootLock | slowCal | vddWarn | buckOc
  | mchange | fuseRunfault
  | tamperN | vddGlitch | clockLoss | temperature
  | nodeLost | modeLag | edgeCollision | beaconLost | creditImbalance
  | entropyAlarm | katFail
  | escalation | overrun | holdFault | ledger | warmRepeat | coldRepeat
deriving DecidableEq, Repr

/-- Cause code (R413). -/
def Cause.num : Cause → Nat
  | .step k => k.num
  | .sramUe => 0x11 | .contextUe => 0x12 | .queueUe => 0x13 | .vaultUe => 0x14 | .ceRate => 0x15
  | .nvmRead => 0x21 | .nvmProg => 0x22 | .nvmErase => 0x23 | .noSpare => 0x24 | .copyBad => 0x25
  | .tenantLost => 0x26 | .wrapFail => 0x27 | .libOmit => 0x28 | .bankRevert => 0x29
  | .startDisc => 0x31 | .relPin => 0x32 | .freshWrite => 0x33 | .canbBusoff => 0x34
  | .lfOpen => 0x41 | .lfShort => 0x42 | .lfTuneRange => 0x43 | .lfDumpTimeout => 0x44
  | .lfVlfLow => 0x45 | .lfOvertemp => 0x46 | .uwbTxAnt => 0x47 | .uwbPort => 0x48 | .uwbPwrOver => 0x49
  | .uwbSynth => 0x51 | .uhfSynth => 0x52 | .engineStall => 0x53 | .pipeStall => 0x54
  | .dmaStall => 0x55 | .domainRise => 0x56 | .bankRepeat => 0x57
  | .rootLock => 0x61 | .slowCal => 0x62 | .vddWarn => 0x63 | .buckOc => 0x64
  | .mchange => 0x71 | .fuseRunfault => 0x72
  | .tamperN => 0x81 | .vddGlitch => 0x82 | .clockLoss => 0x83 | .temperature => 0x84
  | .nodeLost => 0x91 | .modeLag => 0x92 | .edgeCollision => 0x93 | .beaconLost => 0x94
  | .creditImbalance => 0x95
  | .entropyAlarm => 0xA1 | .katFail => 0xA2
  | .escalation => 0xB1 | .overrun => 0xB2 | .holdFault => 0xB3 | .ledger => 0xB4
  | .warmRepeat => 0xB5 | .coldRepeat => 0xB6

/-- How a fault is handled: recorded only, recovered, warm reset, cold reset, fault halt (R413). -/
inductive Handling where
  | record | recover | warm | cold | halt
deriving DecidableEq, Repr

/-- Causes of handling C in R413. -/
def Cause.recovered : List Cause :=
  [.sramUe, .contextUe, .vaultUe, .nvmRead, .nvmProg, .nvmErase, .uwbSynth, .uhfSynth, .engineStall,
   .pipeStall, .dmaStall, .domainRise, .bankRepeat, .fuseRunfault]

/-- Causes of handling W in R413. -/
def Cause.warmed : List Cause := [.queueUe, .rootLock, .buckOc, .escalation, .overrun, .ledger]

/-- The H column of R413 (DOMAIN_RISE of D30, D46 and D49 and a second DMA_STALL are raised to warm where
they are handled). -/
def Cause.handling (c : Cause) : Handling :=
  if Cause.recovered.contains c then .recover
  else if Cause.warmed.contains c then .warm
  else if c = .holdFault ∨ c = .warmRepeat then .cold
  else if c = .coldRepeat then .halt
  else .record

/-- A fault's scope: the table of R412. -/
inductive Scope where
  | device
  | landing (n : Nat)
  | bank (n : Nat)
  | domain (n : Nat)
  | coil (n : Nat)
  | uwbPort (n : Nat)
  | engine (n : Nat)
  | sector (n : Nat)
  | page (n : Nat)
  | tenant (n : Nat)
  | node (n : Nat)
  | dma (n : Nat)
  | pipeHalf (n : Nat)
deriving DecidableEq, Repr

/-- The 16-bit scope: kind in [15:12], index in [11:0] (R412). -/
def Scope.num : Scope → Nat
  | .device => 0 | .landing n => 0x1000 + n | .bank n => 0x2000 + n | .domain n => 0x3000 + n
  | .coil n => 0x4000 + n | .uwbPort n => 0x5000 + n | .engine n => 0x6000 + n
  | .sector n => 0x7000 + n | .page n => 0x8000 + n | .tenant n => 0x9000 + n
  | .node n => 0xA000 + n | .dma n => 0xB000 + n | .pipeHalf n => 0xC000 + n

end Sys2Proof.Machine
end

