-- ==== Sys2Proof/Machine/Mem.lean ====
section
/-! DEFINITION. Addressed memories: a list of (address, byte) pairs with strictly rising addresses and no
entry equal to 0, which is what an unlisted address reads as. -/

namespace Sys2Proof.Machine

open Sys2Proof

/-- One addressed memory region of the part, by byte offset within the region (R123). -/
structure Mem where
  cells : List Host.Cell
deriving DecidableEq, Repr

/-- What an unlisted address reads as. R58 gives 0 for data halls, R428 for pages; SRAM after power-on is
DESIGN CHOICE 0 (log 3). -/
def Mem.blank : Byte := 0

/-- A memory with nothing listed. -/
def Mem.empty : Mem := ⟨[]⟩

/-- Lookup in the cell list. -/
def cellsRead : List Host.Cell → Nat → Byte
  | [], _ => Mem.blank
  | (k, b) :: t, a => if k = a then b else cellsRead t a

/-- Write into the cell list, keeping the canonical form. -/
def cellsWrite : List Host.Cell → Nat → Byte → List Host.Cell
  | [], a, x => if x = Mem.blank then [] else [(a, x)]
  | (k, b) :: t, a, x =>
    if a < k then (if x = Mem.blank then (k, b) :: t else (a, x) :: (k, b) :: t)
    else if a = k then (if x = Mem.blank then t else (a, x) :: t)
    else (k, b) :: cellsWrite t a x

/-- Read one byte. -/
def Mem.read (m : Mem) (a : Nat) : Byte := cellsRead m.cells a

/-- Write one byte. -/
def Mem.write (m : Mem) (a : Nat) (x : Byte) : Mem := ⟨cellsWrite m.cells a x⟩

/-- Read n bytes from an address upward. -/
def Mem.readN (m : Mem) (a : Nat) : Nat → List Byte
  | 0 => []
  | n + 1 => m.read a :: m.readN (a + 1) n

/-- Write bytes from an address upward. -/
def Mem.writeN (m : Mem) (a : Nat) : List Byte → Mem
  | [] => m
  | b :: bs => (m.write a b).writeN (a + 1) bs

/-- Clear the bytes from lo up to but not including hi. -/
def Mem.clear (m : Mem) (lo hi : Nat) : Mem := ⟨m.cells.filter (fun c => decide (c.1 < lo) || decide (hi ≤ c.1))⟩

/-- Little-endian value of n bytes. -/
def Mem.le (m : Mem) (a n : Nat) : Nat := leNat (m.readN a n)

/-- The canonical form of a cell list whose addresses all lie at or above lo. -/
def cellsWf : Nat → List Host.Cell → Bool
  | _, [] => true
  | lo, (k, b) :: t => decide (lo ≤ k) && (b != Mem.blank) && cellsWf (k + 1) t

/-- The canonical form: addresses strictly rising, no entry equal to what an unlisted address reads as. -/
def Mem.wf (m : Mem) : Bool := cellsWf 0 m.cells

end Sys2Proof.Machine
end

