-- ==== Sys2Proof/Machine/HostState.lean ====
section
/-! DEFINITION. State of the host link, the queues and the transfer pages (chapter 01), and of the DMA engine (R130 to R135, R560, R564). -/

namespace Sys2Proof.Machine

open Sys2Proof

/-- Names one accepted item: its queue and its sequence number. -/
structure ItemKey where
  sq : Nat
  seq : Word
deriving DecidableEq, Repr

/-- How far an accepted item has come (R32, R33). -/
inductive ItemPhase where
  | waiting
  | running
  | ended (code : Code) (result : List Byte)
deriving DecidableEq, Repr

/-- One accepted item whose completion is not posted yet. -/
structure ItemRec where
  key : ItemKey
  raw : List Byte
  phase : ItemPhase
  since : Nat
  awaits : Option ItemKey
  /-- What a running item keeps: the RESULT of a FLIGHT_STOP that waits; 1 when what must hold at its start did (the session proof of
  a TENANT_ENROL, R318; the conditions of R388). -/
  memo : List Byte
deriving DecidableEq, Repr

/-- One entry of the completion queue (R36); the epoch-close record counts against SQ0. -/
structure CqEntry where
  sq : Nat
  key : Option ItemKey
  bytes : List Byte
deriving DecidableEq, Repr

/-- What waits on the release of a completion: R38 UPDATE_ACTIVATE byte 12 = 1. -/
structure ActivateWatch where
  key : ItemKey
  due : Option Nat
deriving DecidableEq, Repr

/-- The host link and the queues. -/
structure HostLink where
  /-- ATTN_CAUSE [7:0]. -/
  attn : BitVec 8
  /-- HIRQ_MASK [8:0]. -/
  mask : BitVec 9
  /-- EPOCH [15:0]. -/
  epoch : BitVec 16
  /-- SQn_SEQ. -/
  sqSeq : Vector Word 4
  /-- Host credits of each SQ. -/
  credits : Vector Nat 4
  /-- Accepted items without a posted completion, oldest first. -/
  items : List ItemRec
  /-- Completion queue, head first. -/
  cq : List CqEntry
  /-- Index of the CQ head, modulo 256 (R48 0x034). -/
  cqHead : Nat
  /-- LASTERR (R17). -/
  lastErr : Code
  /-- STATUS0 HUSH: a HUSH's items have not all completed (R17 header). -/
  hushLive : Bool
  /-- Items ended by a HUSH whose completions are not posted yet. -/
  hushItems : List ItemKey
  /-- Landings of a live HUSH scope (R43). -/
  hushLandings : List Nat
  /-- HIRQN held low from a wake until the first HCSN edge (R486). -/
  wakeIrq : Bool
  /-- Bytes HSDO shifted out during the last frame; empty while undriven (R18). -/
  hsdo : List Byte
  /-- The eight transfer pages, byte 0x800 * n + offset. -/
  pages : Mem
  /-- Poisoned page granules, 64 * page + granule (R132). -/
  pagePoison : List Nat
  /-- UNFIN of the epoch-close record to come, retained across a cold reset by escalation, ZAP or update (R45). -/
  unfin : Option (List Nat)
  /-- UPDATE_ACTIVATE completions that start a cold reset when released. -/
  activate : List ActivateWatch
deriving DecidableEq, Repr

/-- Source of a descriptor (R564). -/
inductive DmaSrc where
  | page (n : Nat)
  | hall (landing hall : Nat)
  | bytes (bs : List Byte)
deriving DecidableEq, Repr

/-- Destination of a descriptor (R564). -/
inductive DmaDst where
  | page (n : Nat)
  | hall (landing hall : Nat)
  | stage
deriving DecidableEq, Repr

/-- What a descriptor serves: a host item, or a move of the device itself (item code 0xFE): an initialisation fetch, a CIR capture, the
placement of a library. -/
inductive DmaJob where
  | item (k : ItemKey)
  | initFetch (landing : Nat)
  | cir (landing : Nat)
  | place
deriving DecidableEq, Repr

/-- One DMA descriptor. -/
structure Desc where
  job : DmaJob
  itemCode : Nat
  srcKind : Nat
  dstKind : Nat
  src : DmaSrc
  dst : DmaDst
  srcOff : Nat
  dstOff : Nat
  len : Nat
  done : Nat
  /-- Bytes already gathered in a staging buffer. -/
  buf : List Byte
  lastGranule : Nat
deriving DecidableEq, Repr

/-- One DMA channel: the running descriptor, or what the last one left for DMA_CHn. -/
structure Chan where
  active : Bool
  doneFlag : Bool
  failed : Bool
  cause : Nat
  desc : Option Desc
deriving DecidableEq, Repr

/-- The DMA engine. -/
structure Dma where
  chans : Vector Chan 8
  /-- Descriptors waiting for a channel, in start order (R135). -/
  waiting : List Desc
  /-- Channels with a DMA_STALL in this epoch (R413). -/
  stalled : List Nat
deriving DecidableEq, Repr

end Sys2Proof.Machine
end

