-- ==== Sys2Proof/Machine/GalState.lean ====
section
/-! DEFINITION. State of the gallery bus and the cascade (chapter 14). -/

namespace Sys2Proof.Machine

open Sys2Proof

/-- Roles of a node (GAL_STATUS ROLE). -/
inductive GalRole where
  | standalone | joining | joined | lagging | master | alone | noBeacon | refused
deriving DecidableEq, Repr

/-- ROLE code. -/
def GalRole.num : GalRole → Nat
  | .standalone => 0 | .joining => 1 | .joined => 2 | .lagging => 3 | .master => 4 | .alone => 5 | .noBeacon => 6
  | .refused => 7

/-- What a node holds for an address (R439, R452): roster state, DEVID of the join, credit account, what it last heard. -/
structure GalNode where
  /-- 0 absent, 1 joining, 2 joined, 3 lagging, 4 lost, 5 refused. -/
  st : Nat
  devid : List Byte
  avail : Nat
  flight : Nat
  held : Nat
  modeAck : Bool
  lastRound : Nat
  lastCode : Nat
  modeId : Nat
  /-- Highest message sequence received in order (MACK). -/
  mack : Nat
  /-- Credits to return in the next frame. -/
  cret : Nat
  /-- Rounds in a row without a valid frame, and a valid frame in this round. -/
  silent : Nat
  heard : Bool
  /-- Its GRANT has been acknowledged. -/
  granted : Bool
deriving DecidableEq, Repr

/-- A unit on its way to peers: sequence number, addressees, its 64 bytes, round of its last sending, addressees that have
acknowledged it, the landing whose message it is. -/
structure GalOut where
  seq : Nat
  dest : Nat
  unit : List Byte
  sent : Option Nat
  resend : Bool
  acks : Nat
  land : Option Nat
  /-- Withdrawn under R465. -/
  gone : Bool
deriving DecidableEq, Repr

/-- A part that a flight of the master has sent to a node (R456): identity, and its result once there is one: code,
attempts, remote landing, g1 and return bytes. -/
structure GalPart where
  land : Nat
  run : Nat
  part : Nat
  node : Nat
  result : Option (List Byte)
deriving DecidableEq, Repr

/-- A part on a slave (R457, R458): key, its PART unit, runs so far, its landing while it runs, its RESULT body and the
instant of its end when it is kept. -/
structure GalKept where
  bsess : Nat
  run : Nat
  part : Nat
  unit : List Byte
  attempts : Nat
  /-- Number that stands in the StartReq of its flight. -/
  id : Nat
  running : Bool
  result : List Byte
  endedAt : Nat
deriving DecidableEq, Repr

/-- A mode change open on the master: its item, or the node that catches up (R459, R460). -/
structure ModeChange where
  item : Option ItemKey
  record : List Byte
  pmode : Nat
  lead : Nat
  dest : Nat
  target : Option Nat
  acks : Nat
  nak : Bool
  /-- The beacon of TARGET has been sent, with commit (true) or abort. -/
  done : Option Bool
  /-- A HUSH before TARGET aborts it (R462). -/
  hushed : Bool
deriving DecidableEq, Repr

/-- A PREPARE that a slave has acknowledged. -/
structure GalPending where
  pmode : Nat
  target : Nat
  members : Nat
deriving DecidableEq, Repr

/-- A calibration in progress on a slave: M1, S1 of its round and S2 (R444). -/
structure GalCal where
  m1 : Nat
  s1 : Nat
  s2 : Nat
deriving DecidableEq, Repr

/-- The gallery unit. -/
structure Gal where
  /-- Address sampled at power-on reset. -/
  addr : Nat
  role : GalRole
  cfg : Nat
  cfg1 : Nat
  bsess : Nat
  round : Nat
  /-- A control slot has been sent or received since the node opened its session or began to join. -/
  synced : Bool
  /-- Beacon edge of the round, and the next beacon has not come (a slave has this round's control slot). -/
  edgeAt : Nat
  mode : Nat
  /-- MODE_ID of the last beacon. -/
  bmode : Nat
  members : Nat
  atlasId : Nat
  libVer : Nat
  align : Bool
  /-- Traffic held by a HUSH (R464). -/
  stopped : Bool
  ghush : Bool
  /-- End of the GHUSH of a babble detection. -/
  babbleTill : Option Nat
  babble : Bool
  babblePrev : Bool
  leaving : Bool
  /-- Start of the listen, and of the wait for a GRANT, of CASCADE_MODE 1; their item. -/
  listen : Option Nat
  joinAt : Option Nat
  joinItem : Option ItemKey
  /-- Masks of the last beacon. -/
  present : Nat
  joiningM : Nat
  laggingM : Nat
  nodes : Vector GalNode 8
  withheld : Nat
  edges : Nat
  crcFail : Nat
  ctrlMiss : Nat
  /-- Rounds of the present stretch without a control slot already counted. -/
  missed : Nat
  dly : Int
  cals : Nat
  calibrated : Bool
  calNeeded : Bool
  calRound : Nat
  calPend : Option GalCal
  btsc : Nat
  s1 : Nat
  /-- Master: node whose CALIB frame was captured, and M2. -/
  calNode : Option Nat
  m2 : Nat
  run : Nat
  cseq : Nat
  mseq : Nat
  runs : Tbl Nat
  out : List GalOut
  parts : List GalPart
  /-- Nodes a waiting GSEND still wants a credit of, and the end of its two rounds. -/
  sends : Tbl (Nat × Nat)
  change : Option ModeChange
  /-- Rounds in a row in which no slave frame arrived. -/
  quiet : Nat
  ackLast : Nat
  /-- Slave: commands held, next CSEQ to apply, CSEQ of its latest GRANT. -/
  held : Tbl (List Byte)
  nextSeq : Nat
  cmin : Nat
  grantSeq : Nat
  pending : Option GalPending
  kept : List GalKept
  keptId : Nat
  /-- The last frame the node put on GAL. -/
  frame : List Byte
deriving DecidableEq, Repr

/-- An address of which nothing is known. -/
def GalNode.blank : GalNode :=
  { st := 0, devid := [], avail := 16, flight := 0, held := 0, modeAck := false, lastRound := 0, lastCode := 0, modeId := 0,
    mack := 0, cret := 0, silent := 0, heard := false, granted := false }

/-- A standalone node with an address and configuration. -/
def Gal.reset (addr : Nat) : Gal :=
  { addr := addr, role := .standalone, cfg := 0x804, cfg1 := 0x3E8, bsess := 0, round := 0, synced := false, edgeAt := 0, mode := 0,
    bmode := 0, members := 0, atlasId := 0, libVer := 0xFFFF, align := false, stopped := false, ghush := false, babbleTill := none,
    babble := false, babblePrev := false, leaving := false, listen := none, joinAt := none, joinItem := none, present := 0,
    joiningM := 0, laggingM := 0, nodes := Vector.replicate 8 GalNode.blank, withheld := 0, edges := 0, crcFail := 0,
    ctrlMiss := 0, missed := 0, dly := 0, cals := 0, calibrated := false, calNeeded := false, calRound := 0,
    calPend := none, btsc := 0, s1 := 0, calNode := none, m2 := 0, run := 1, cseq := 1, mseq := 1, runs := [], out := [],
    parts := [], sends := [], change := none, quiet := 0, ackLast := 0, held := [], nextSeq := 1, cmin := 1, grantSeq := 0,
    pending := none, kept := [], keptId := 0, frame := [] }

/-- The gallery unit after a reset that closes the epoch, or a switch-off: standalone (R437). What a slave senses on GHUSH stays. -/
def Gal.closed (g : Gal) : Gal := { Gal.reset g.addr with ghush := g.ghush && g.addr != 0 }

end Sys2Proof.Machine
end

