-- ==== Sys2Proof/Machine/LfState.lean ====
section
/-! DEFINITION. State of the low-frequency field system (chapter 04). -/

namespace Sys2Proof.Machine

open Sys2Proof

/-- One coil: LF_COILn, its bits of LF_FAULT (0 OPEN, 1 SHORT, 2 TUNE_RANGE, 3 DUMP_TIMEOUT) and its dump. -/
structure Coil where
  /-- Start of a dump in progress (DUMPING). -/
  dump : Option Nat
  /-- The clamp stays on after DUMP_TIMEOUT (R155). -/
  clamped : Bool
  stale : Bool
  lowHeadroom : Bool
  mismatch : Bool
  tune : Nat
  q4 : Nat
  ifull : Nat
  phase : Int
  boost : Nat
  brake : Nat
  tuneTemp : Int
  fault : Nat
deriving DecidableEq, Repr

/-- A step of LFTX (tx) or LFRX that runs: its landing, block and content; the named coils whose dumps hold it back (R156), the instant
at which its pre-window began; selected and tuned coils; what their tunes find; the monitor tripped during the tune; the tunes have been
taken; coils whose TUNE_RANGE is not recorded yet; coils that stopped, each with its instant. -/
structure LfRun where
  tx : Bool
  land : Nat
  blk : List Byte
  content : List Byte
  waits : Nat
  start : Option Nat
  sel : Nat
  tuned : Nat
  tunes : List LfTune
  tuneTemp : Int
  tuneTrip : Bool
  taken : Bool
  unreported : Nat
  stops : List (Nat × Nat)
deriving DecidableEq, Repr

/-- The LF field system. -/
structure Lf where
  carrier : Nat
  coilEn : Nat
  frameCfg : Nat
  tuneCfg : Nat
  noiseCfg : Nat
  rxcal : Nat
  reg0 : Nat
  reg1 : Nat
  faultSys : Nat
  /-- VLF as last told, in mV (R140, R154). -/
  vlf : Nat
  vlfLow : Bool
  overtemp : Bool
  deferDelay : Nat
  deferCount : Nat
  deferCoils : Nat
  coils : Vector Coil 8
  /-- Emission spans of the last second. -/
  spans : List (Nat × Nat)
  run : Option LfRun
  /-- The bits of the last frame on air, from its preamble to its CRC, in the order sent (R158). -/
  sent : List Bool
  /-- Instant from which DUTY_MS counts: the last reset or sleep (log 181). -/
  countFrom : Nat
deriving DecidableEq, Repr

/-- A coil as after a power-on reset. -/
def Coil.reset : Coil :=
  { dump := none, clamped := false, stale := true, lowHeadroom := false, mismatch := false, tune := 32, q4 := 0,
    ifull := 0, phase := 0, boost := 0, brake := 0, tuneTemp := 0, fault := 0 }

/-- Reset values of the LF registers. -/
def Lf.reset : Lf :=
  { carrier := 0x03E66666, coilEn := 0, frameCfg := 0x00C80402, tuneCfg := 0x000A140A, noiseCfg := 0x00C81020,
    rxcal := 0x20080200, reg0 := 0, reg1 := 0, faultSys := 0, vlf := 12000, vlfLow := false, overtemp := false, deferDelay := 0,
    deferCount := 0, deferCoils := 0, coils := Vector.replicate 8 Coil.reset, spans := [], run := none, sent := [], countFrom := 0 }

/-- Coil n. -/
def Lf.coil (f : Lf) (n : Nat) : Coil := vget f.coils n Coil.reset

/-- Change coil n. -/
def Lf.modCoil (f : Lf) (n : Nat) (g : Coil → Coil) : Lf := { f with coils := vset f.coils n (g (f.coil n)) }

/-- Change the coils of a mask. -/
def Lf.modMask (f : Lf) (m : Nat) (g : Coil → Coil) : Lf :=
  { f with coils := Vector.ofFn (fun i : Fin 8 => if m.testBit i.val then g (f.coils.get i) else f.coils.get i) }

/-- Mask of the coils that meet a test. -/
def Lf.maskOf (f : Lf) (p : Coil → Bool) : Nat :=
  (List.range 8).foldl (fun m n => if p (f.coil n) then m + 2 ^ n else m) 0

end Sys2Proof.Machine
end

