-- ==== Sys2Proof/Machine/LifeState.lean ====
section
/-! DEFINITION. State of the lifecycle, the fuses, the NVM sectors, the update banks and the OSPI port (chapter 12),
and of timers and built-in self-test (chapter 16). -/

namespace Sys2Proof.Machine

open Sys2Proof

/-- Lifecycle states (R375). -/
inductive Life where
  | factory | provisioned | bound | service | tampered | retired
deriving DecidableEq, Repr

/-- Lifecycle code (R375). -/
def Life.num : Life → Nat
  | .factory => 0 | .provisioned => 1 | .bound => 2 | .service => 3 | .tampered => 4 | .retired => 5

/-- Lifecycle state of a code; codes 6 and 7 are never used (R375). -/
def Life.ofNum : Nat → Option Life
  | 0 => some .factory | 1 => some .provisioned | 2 => some .bound | 3 => some .service
  | 4 => some .tampered | 5 => some .retired | _ => none

/-- The stored provisioning record, by parts (R379). -/
structure ProvRecord where
  region : Nat
  /-- Values of LF_REG0, LF_REG1, UWB_REG0-2, UHF_REG0, UHF_REG1. -/
  regulatory : Option (List Nat)
  /-- Record bytes 36-167. -/
  protection : Option (List Byte)
  /-- Values of TEN_LOCK_CFG0-2. -/
  lockout : Option (List Nat)
deriving DecidableEq, Repr

/-- One copy of the provisioning record in the regulatory and protection region (R389): the record that governs, one that an unproven
change has written (R383), and whether its CRC-32 holds. -/
structure RecordCopy where
  gov : Option ProvRecord
  attempt : Option ProvRecord
  crcOk : Bool
deriving DecidableEq, Repr

/-- A copy that was never written. -/
def RecordCopy.blank : RecordCopy := ⟨none, none, false⟩

/-- An intent record of a lifecycle change (R381), with the record that step 2 writes and the one that governed before; `proven` once
step 3 has ended. -/
structure LifeIntent where
  src : Life
  dst : Life
  counter : Nat
  digest : List Byte
  scan : Bool
  record : Option ProvRecord
  base : Option ProvRecord
  proven : Bool
deriving DecidableEq, Repr

/-- One NVM sector: erase count, validity of its stamp, open erase intent, taken out of use (R391 to R393). -/
structure Sector where
  erases : Nat
  stampOk : Bool
  intent : Option Nat
  retired : Bool
  /-- EPOCH in its stamp (R391). -/
  stampEpoch : Nat
deriving DecidableEq, Repr

/-- A sector that has never been erased. -/
def Sector.blank : Sector := ⟨0, true, none, false, 0⟩

/-- States of an update bank (R394). -/
inductive BankState where
  | empty | downloading | downloaded | verified | active | trial | previous
deriving DecidableEq, Repr

/-- One update bank: state, 256-byte manifest and image bytes. -/
structure Bank where
  st : BankState
  manifest : List Byte
  image : Mem
  /-- The image is the one programmed at manufacture, whose check is taken to pass (the model's own field, log 25). -/
  factory : Bool
deriving DecidableEq, Repr

/-- A bank with nothing in it. -/
def Bank.blank : Bank := ⟨.empty, [], Mem.empty, false⟩

/-- Activation or confirmation intent (R400, R403). -/
inductive UpdIntent where
  | activate (target bank : Nat)
  | confirm (target : Nat)
deriving DecidableEq, Repr

/-- One durable operation that an item has queued (R389 to R391): a sector erase, or the program that commits the item or
one phase of it, with the bytes the item staged. -/
inductive NvmJob where
  | erase (k : ItemKey) (sector : Nat)
  | commit (k : ItemKey) (phase : Nat) (data : List Byte)
deriving DecidableEq, Repr

/-- Lifecycle, fuses, NVM and updates. -/
structure LifeCycle where
  /-- The three reads of the 128 OTP words: normal, LOW and HIGH reference (R385). -/
  otp : Tbl Nat
  otpLow : Tbl Nat
  otpHigh : Tbl Nat
  st : Life
  /-- Identity in force, DEVID [127:0]. -/
  devid : Nat
  region : Nat
  fwFloor : Nat
  libFloor : Nat
  marginal : Bool
  idFault : Bool
  trimFault : Bool
  rbMarg : Bool
  mchange : Bool
  fuseFault : Bool
  readTemp : Int
  lifeCtr : Nat
  journal : Option Life
  intent : Option LifeIntent
  scanUnlock : Bool
  copy0 : RecordCopy
  copy1 : RecordCopy
  /-- The record that the last boot loaded, in force until the next (R381, R411 step 7). -/
  inForce : Option ProvRecord
  /-- Sectors by their physical number, and the spare that a sector's role has moved to (R393). -/
  sectors : Tbl Sector
  remaps : Tbl Nat
  half : Nat
  remapped : Nat
  /-- Operations queued for the NVM controller, the first in progress. -/
  jobs : List NvmJob
  /-- Firmware A, B and library A, B. -/
  banks : Vector Bank 4
  /-- Open update: target 0 or 1. -/
  openTarget : Option Nat
  /-- Bytes journalled, and bytes held: where the next chunk goes on (R397, R398). -/
  bytes : Nat
  held : Nat
  /-- Bank sectors erased for the open update. -/
  erasedTo : Nat
  lastVerifyOk : Bool
  updIntent : Option UpdIntent
  trialLeft : Nat
  revert : Nat
  rom : Bool
  runFw : Nat
  runLib : Nat
  ospiCfg : Word
  ospiFails : Nat
  ospiFetches : Nat
  ospiLastFail : Nat
deriving DecidableEq, Repr

/-! ### Timers -/

/-- One timer TMn (R494 to R504). -/
structure Timer where
  running : Bool
  cadence : Bool
  owned : Bool
  configured : Bool
  source : Nat
  trigSrc : Nat
  trigMode : Nat
  prescale : Nat
  /-- Count at the instant `base`. -/
  count : Nat
  base : Nat
  compare : Nat
  period : Nat
  cmpPre : Nat
  perPre : Nat
  preloaded : Bool
  /-- A deadline COMPARE whose event has not come. -/
  cmpPending : Bool
  events : Nat
  /-- A master compare event acts one PERI cycle later (R504). -/
  trigDue : Option Nat
  /-- Instant at which the preload registers were last written (R499). -/
  setAt : Nat
deriving DecidableEq, Repr

/-- A timer as after a reset that closes an epoch (R502, R505). -/
def Timer.reset (k : Nat) : Timer :=
  { running := false, cadence := decide (8 ≤ k), owned := decide (k < 2), configured := false, source := 0,
    trigSrc := 0xFF, trigMode := 0, prescale := 0, count := 0, base := 0, compare := 0, period := 0, cmpPre := 0,
    perPre := 0, preloaded := false, cmpPending := false, events := 0, trigDue := none, setAt := 0 }

/-- Reset values of TIMER registers: TM0 and TM1 as the device configures them at every boot and wake (R501, R505). -/
def bootTimer (k now : Nat) : Timer :=
  match k with
  | 0 => { Timer.reset 0 with running := true, configured := true, source := 1, prescale := 0x01380000, base := now * 65536 }
  | 1 => { Timer.reset 1 with running := true, configured := true, source := 3, prescale := 0x80000000, base := now * 65536 }
  | _ => Timer.reset k

/-! ### Built-in self-test -/

/-- The BIST controller and the unusable map (R506, R515). -/
structure Bist where
  /-- Unusable map, 52 bits in the layout of SURVEY 0x480. -/
  unus : Nat
  running : Bool
  cold : Bool
  scope : Nat
  failed : Nat
  lastTime : Nat
  startedAt : Nat
  sramFail : Bool
  sramCount : Nat
  sramBank : Nat
  /-- Withdrawn 4 KiB banks of the data-hall pool, and withdrawn CIR buffers (R508). -/
  poolOut : List Nat
  cirOut : List Nat
deriving DecidableEq, Repr

end Sys2Proof.Machine
end

