-- ==== Sys2Proof/Machine/NfcState.lean ====
section
/-! DEFINITION. State of the near-field reader, the tag port and the field store (chapter 08). -/

namespace Sys2Proof.Machine

open Sys2Proof

/-- Phase of a reader step: external-field listen, guard time, frame and reply (R256). -/
inductive NfcPhase where
  | listen | guard | frame
deriving DecidableEq, Repr

/-- What the walk of NFCTREE waits for (R261). -/
inductive TreeAsk where
  | wupa | anticollision | sak | reqaMore | reqaLast
deriving DecidableEq, Repr

/-- The walk of NFCTREE: cascade level, bits known at the level, UID bytes of earlier levels, UIDs found, restarts of the
level. -/
structure TreeWalk where
  ask : TreeAsk
  level : Nat
  known : List Bool
  uid : List Byte
  found : List (List Byte)
  restarts : Nat
deriving DecidableEq, Repr

/-- Framing of a frame that the reader sends (R254, R258). -/
inductive NfcForm where
  /-- Start bit, seven bits, end. -/
  | short
  /-- Odd parity after each byte, CRC_A in the bytes. -/
  | standard
  /-- Bit-oriented anticollision: the first `n` bits, no CRC. -/
  | part (n : Nat)
  /-- SOF, characters, CRC_B in the bytes, EOF. -/
  | typeB
deriving DecidableEq, Repr

/-- A frame as the reader sends it: framing, bytes with their CRC, rate code. -/
structure NfcFrame where
  form : NfcForm
  bytes : List Byte
  rate : Nat
deriving DecidableEq, Repr

/-- A reader step that runs; in the frame phase, the start of the exchange, that of the frame last sent, after an HLTA that goes before
it, and the end at which its reply window opens (R257, R259, R261). -/
structure NfcRun where
  land : Nat
  phase : NfcPhase
  since : Nat
  walk : TreeWalk
  exchAt : Nat
  frameAt : Nat
  opens : Nat
deriving DecidableEq, Repr

/-- The reader. -/
structure Reader where
  cfg : Nat
  noiseCfg : Nat
  fieldOn : Bool
  extField : Nat
  collided : Nat
  disturbed : Nat
  run : Option NfcRun
  /-- Frames of the latest step, in the order sent (R258, R261). -/
  sent : List NfcFrame
  /-- End of the last reply, and of the minimum PCD frame delay after it (R257). -/
  replyEnd : Nat
  holdTill : Nat
deriving DecidableEq, Repr

/-- States of the tag port (R264). -/
inductive TagMode where
  | powerOff | idle | ready | active | halt
deriving DecidableEq, Repr

/-- One physical slot of the field store (chapter 08, The field store). -/
structure StoreSlot where
  data : List Byte
  seq : Nat
  crc : Nat
  flag : Nat
deriving DecidableEq, Repr

/-- What a write puts into its block: 32 bytes, or a change of the block-1 fields as they stand when the write starts. -/
inductive StorePut where
  | bytes (bs : List Byte)
  | clearFails
  | jack (v : Nat)
  /-- CNT + 1 (R273). -/
  | challenge
  /-- The next journal entry, FAILS by the result (R274). -/
  | verdict (pass : Bool)
deriving DecidableEq, Repr

/-- A block write on its way (R267, R270): the instant it was asked for, its start, its slot and the bytes it
programs, once started; for a key cell of a KEY_UPDATE, the item and the result that its completion carries (R279). -/
structure StoreWrite where
  block : Nat
  put : StorePut
  wire : Bool
  since : Nat
  item : Option (ItemKey × List Byte)
  started : Option Nat
  slot : Nat
  bytes : List Byte
deriving DecidableEq, Repr

/-- A field command in progress: what follows each of its writes (R266, R273, R274). -/
inductive TagCmd where
  /-- WRITE: respond OK. -/
  | write
  /-- GET_CHALLENGE: hold the challenge and respond. -/
  | challenge (k : Nat)
  /-- AUTH: block 1 still to write. -/
  | authJournal (pass : Bool) (tmac : List Byte)
  /-- AUTH: respond. -/
  | authCount (pass : Bool) (tmac : List Byte)
deriving DecidableEq, Repr

/-- The tag port and the field store. -/
structure Tag where
  mode : TagMode
  authed : Bool
  /-- The unused challenge: TCHAL, key index, CNT. -/
  chal : Option (List Byte × Nat × Nat)
  field : Bool
  fieldLost : Nat
  vtagOk : Bool
  vtagWrite : Bool
  vdd : Bool
  slots : Tbl StoreSlot
  /-- Block writes issued to the path, the first in progress. -/
  path : List StoreWrite
  /-- Wire-side writes that wait to be issued: the host's, and the device's mirror of key cells. -/
  wire : List StoreWrite
  waitUs : Nat
  wblock : Nat
  wdone : Bool
  wfailed : Bool
  cmd : Option TagCmd
  /-- The field was lost during the command in progress: its response is not sent (R272). -/
  mute : Bool
  /-- The last response sent to the external reader; empty when none was sent. -/
  resp : List Byte
  /-- End of the FIELD_WAKE pulse. -/
  wakeEnd : Option Nat
  /-- VIO stands above its thresholds (R277, R522). -/
  vio : Bool
  wbuf : Vector Word 8
deriving DecidableEq, Repr

/-- The reader as after a power-on reset. -/
def Reader.reset : Reader :=
  { cfg := 0x08320A14, noiseCfg := 0x1840, fieldOn := false, extField := 0, collided := 0, disturbed := 0, run := none,
    sent := [], replyEnd := 0, holdTill := 0 }

/-- The tag port with an empty store, supplied from VDD without a field. -/
def Tag.reset : Tag :=
  { mode := .idle, authed := false, chal := none, field := false, fieldLost := 0, vtagOk := false, vtagWrite := false,
    vdd := true, slots := [], path := [], wire := [], waitUs := 0, wblock := 0, wdone := false,
    wfailed := false, cmd := none, mute := false, resp := [], wakeEnd := none, vio := true, wbuf := Vector.replicate 8 0 }

end Sys2Proof.Machine
end

