-- ==== Sys2Proof/Machine/Aes.lean ====
section
/-! DEFINITION. AES-128 and AES-256 (FIPS 197) with the modes the security core uses: CTR, CMAC, GCM, key wrap,
the SP 800-108 counter KDF of R558, and the CTR_DRBG of R364. Blocks and keys are byte strings. -/

namespace Sys2Proof.Machine

open Sys2Proof

/-- The AES substitution table, entry i in bits [8i+7:8i]. -/
def aesSboxTable : Nat :=
  0x16BB54B00F2D99416842E6BF0D89A18CDF2855CEE9871E9B948ED9691198F8E19E1DC186B95735610EF6034866B53E708A8BBD4B1F74DDE8C6B4A61C2E2578BA08AE7A65EAF4566CA94ED58D6D37C8E779E4959162ACD3C25C2406490A3A32E0DB0B5EDE14B8EE4688902A22DC4F816073195D643D7EA7C41744975FEC130CCDD2F3FF1021DAB6BCF5389D928F40A351A89F3C507F02F94585334D43FBAAEFD0CF584C4A39BECB6A5BB1FC20ED00D153842FE329B3D63B52A05A6E1B1A2C830975B227EBE28012079A059618C323C7041531D871F1E5A534CCF73F362693FDB7C072A49CAFA2D4ADF04759FA7DC982CA76ABD7FE2B670130C56F6BF27B777C63

/-- The inverse substitution table. -/
def aesInvSboxTable : Nat :=
  0x7D0C2155631469E126D677BA7E042B17619953833CBBEBC8B0F52AAE4D3BE0A0EF9CC9939F7AE52D0D4AB519A97F51605FEC8027591012B131C7078833A8DD1FF45ACD78FEC0DB9A2079D2C64B3E56FC1BBE18AA0E62B76F89C5291D711AF1476EDF751CE837F9E28535ADE72274AC9673E6B4F0CECFF297EADC674F4111913A6B8A130103BDAFC1020F3FCA8F1E2CD00645B3B80558E4F70AD3BC8C00ABD890849D8DA75746155EDAB9EDFD5048706C92B6655DCC5CA4D41698688664F6F87225D18B6D49A25B76B224D92866A12E084EC3FA420B954CEE3D23C2A632947B54CBE9DEC444438E3487FF2F9B8239E37CFBD7F3819EA340BF38A53630D56A0952

/-- Substitute one byte. -/
def aesSub (x : Nat) : Nat := (aesSboxTable >>> (8 * x)) % 256

/-- Substitute one byte, inverse. -/
def aesInvSub (x : Nat) : Nat := (aesInvSboxTable >>> (8 * x)) % 256

/-- Multiply by x in GF(2^8). -/
def aesXtime (x : Nat) : Nat := if x < 128 then 2 * x else (2 * x) ^^^ 0x11B

/-- Multiply in GF(2^8). -/
def aesMul (a b : Nat) : Nat :=
  ((List.range 8).foldl (fun (p : Nat × Nat) i =>
    (if bit b i = 1 then p.1 ^^^ p.2 else p.1, aesXtime p.2)) (0, a)).1

/-- Element i of a list of numbers, 0 past its end. -/
def nth (l : List Nat) (i : Nat) : Nat := l.getD i 0

/-- Bytewise exclusive or of two lists of numbers. -/
def xorL (a b : List Nat) : List Nat := List.zipWith (· ^^^ ·) a b

/-- The key schedule: words are lists of four bytes; nk is the key length in words. -/
def aesExpand (key : List Nat) : List (List Nat) :=
  let nk := key.length / 4
  let w0 := (List.range nk).map (fun i => (key.drop (4 * i)).take 4)
  ((List.range (4 * (nk + 7) - nk)).foldl (fun (p : List (List Nat) × Nat) j =>
    let i := j + nk
    let prev := p.1.getD (i - 1) []
    let t :=
      if i % nk = 0 then
        xorL ((prev.drop 1 ++ prev.take 1).map aesSub) [p.2, 0, 0, 0]
      else if nk = 8 ∧ i % nk = 4 then prev.map aesSub
      else prev
    (p.1 ++ [xorL (p.1.getD (i - nk) []) t], if i % nk = 0 then aesXtime p.2 else p.2)) (w0, 1)).1

/-- Round key r of a schedule, 16 bytes. -/
def aesRoundKey (w : List (List Nat)) (r : Nat) : List Nat := ((w.drop (4 * r)).take 4).flatten

/-- ShiftRows. -/
def aesShift (s : List Nat) : List Nat := (List.range 16).map (fun i => nth s ((i + 4 * (i % 4)) % 16))

/-- Inverse ShiftRows. -/
def aesInvShift (s : List Nat) : List Nat := (List.range 16).map (fun i => nth s ((i + 12 * (i % 4)) % 16))

/-- MixColumns with the coefficient row c. -/
def aesMix (c : List Nat) (s : List Nat) : List Nat :=
  (List.range 16).map (fun i =>
    let col := i / 4 * 4
    let r := i % 4
    (List.range 4).foldl (fun a k => a ^^^ aesMul (nth s (col + k)) (nth c ((k + 4 - r) % 4))) 0)

/-- Encrypt one block under an expanded key of nr rounds. -/
def aesEncW (w : List (List Nat)) (nr : Nat) (blk : List Nat) : List Nat :=
  let s := (List.range (nr - 1)).foldl (fun s r =>
    xorL (aesMix [2, 3, 1, 1] (aesShift (s.map aesSub))) (aesRoundKey w (r + 1))) (xorL blk (aesRoundKey w 0))
  xorL (aesShift (s.map aesSub)) (aesRoundKey w nr)

/-- Decrypt one block under an expanded key of nr rounds. -/
def aesDecW (w : List (List Nat)) (nr : Nat) (blk : List Nat) : List Nat :=
  let s := (List.range (nr - 1)).foldl (fun s r =>
    aesMix [14, 11, 13, 9] (xorL ((aesInvShift s).map aesInvSub) (aesRoundKey w (nr - 1 - r))))
    (xorL blk (aesRoundKey w nr))
  xorL ((aesInvShift s).map aesInvSub) (aesRoundKey w 0)

/-- Bytes as numbers. -/
def toNats (bs : List Byte) : List Nat := bs.map BitVec.toNat

/-- Numbers as bytes. -/
def toBytes (ns : List Nat) : List Byte := ns.map (BitVec.ofNat 8)

/-- A key made ready: its schedule and its number of rounds. -/
structure AesKey where
  sched : List (List Nat)
  rounds : Nat

/-- Prepare a 16-byte or 32-byte key. -/
def aesKey (key : List Byte) : AesKey := ⟨aesExpand (toNats key), key.length / 4 + 6⟩

/-- AES encryption of one 16-byte block. -/
def AesKey.enc (k : AesKey) (blk : List Byte) : List Byte := toBytes (aesEncW k.sched k.rounds (toNats blk))

/-- AES decryption of one 16-byte block. -/
def AesKey.dec (k : AesKey) (blk : List Byte) : List Byte := toBytes (aesDecW k.sched k.rounds (toNats blk))

/-- Bytewise exclusive or; the result has the length of the shorter string. -/
def xorB (a b : List Byte) : List Byte := List.zipWith (· ^^^ ·) a b

/-- Cut a byte string into n pieces of 16 bytes (the last may be short). -/
def blocks16 (bs : List Byte) : List (List Byte) :=
  (List.range ((bs.length + 15) / 16)).map (fun i => (bs.drop (16 * i)).take 16)

/-- ECB over whole blocks. -/
def aesEcb (decrypt : Bool) (key src : List Byte) : List Byte :=
  let k := aesKey key
  ((blocks16 src).map (fun b => if decrypt then k.dec b else k.enc b)).flatten

/-- CTR: the whole 16-byte counter block is one 128-bit big-endian integer (R557). -/
def aesCtr (key ctr0 src : List Byte) : List Byte :=
  let k := aesKey key
  let c := beNat ctr0
  ((blocks16 src).zipIdx.map (fun (p : List Byte × Nat) =>
    xorB p.1 (k.enc (natBE 16 ((c + p.2) % 2 ^ 128))))).flatten

/-- Double in GF(2^128) for CMAC subkeys. -/
def cmacDouble (v : Nat) : Nat := if v < 2 ^ 127 then 2 * v else ((2 * v) % 2 ^ 128) ^^^ 0x87

/-- AES-CMAC of a message, 16 bytes (SP 800-38B). -/
def aesCmac (key msg : List Byte) : List Byte :=
  let k := aesKey key
  let k1 := cmacDouble (beNat (k.enc (List.replicate 16 0)))
  let k2 := cmacDouble k1
  let n := if msg.isEmpty then 1 else (msg.length + 15) / 16
  let lastB := msg.drop (16 * (n - 1))
  let last := if lastB.length = 16 then xorB lastB (natBE 16 k1)
    else xorB (padTo 16 (lastB ++ [0x80])) (natBE 16 k2)
  let x := (blocks16 (msg.take (16 * (n - 1)))).foldl (fun x b => k.enc (xorB x b)) (List.replicate 16 0)
  k.enc (xorB x last)

/-- CBC-MAC over whole blocks (the conditioner of R361). -/
def aesCbcMac (key msg : List Byte) : List Byte :=
  let k := aesKey key
  (blocks16 msg).foldl (fun x b => k.enc (xorB x (padTo 16 b))) (List.replicate 16 0)

/-- Multiply in the GHASH field; the most significant bit is the coefficient of 1. -/
def ghashMul (x y : Nat) : Nat :=
  ((List.range 128).foldl (fun (p : Nat × Nat) i =>
    (if bit x (127 - i) = 1 then p.1 ^^^ p.2 else p.1,
     if p.2 % 2 = 1 then (p.2 / 2) ^^^ (0xE1 * 2 ^ 120) else p.2 / 2)) (0, y)).1

/-- GHASH of the AAD and the ciphertext. -/
def ghash (h : Nat) (aad ct : List Byte) : Nat :=
  let f := fun (y : Nat) (b : List Byte) => ghashMul (y ^^^ beNat (padTo 16 b)) h
  let y := (blocks16 ct).foldl f ((blocks16 aad).foldl f 0)
  ghashMul (y ^^^ (8 * aad.length * 2 ^ 64 + 8 * ct.length)) h

/-- GCM keystream applied to data, 96-bit nonce: block i uses counter i + 2. -/
def gcmCrypt (k : AesKey) (nonce src : List Byte) : List Byte :=
  ((blocks16 src).zipIdx.map (fun (p : List Byte × Nat) =>
    xorB p.1 (k.enc (nonce ++ natBE 4 (p.2 + 2))))).flatten

/-- GCM tag, 16 bytes. -/
def gcmTag (k : AesKey) (nonce aad ct : List Byte) : List Byte :=
  let h := beNat (k.enc (List.replicate 16 0))
  xorB (natBE 16 (ghash h aad ct)) (k.enc (nonce ++ natBE 4 1))

/-- GCM encrypt: ciphertext and 16-byte tag. -/
def gcmEncrypt (key nonce aad src : List Byte) : List Byte × List Byte :=
  let k := aesKey key
  let ct := gcmCrypt k nonce src
  (ct, gcmTag k nonce aad ct)

/-- GCM decrypt: the plaintext when the tag matches. -/
def gcmDecrypt (key nonce aad ct tag : List Byte) : Option (List Byte) :=
  let k := aesKey key
  if gcmTag k nonce aad ct = tag then some (gcmCrypt k nonce ct) else none

/-- AES key wrap KW (SP 800-38F) of whole 8-byte pieces. -/
def kwWrap (kek pt : List Byte) : List Byte :=
  let k := aesKey kek
  let n := pt.length / 8
  let r0 := (List.range n).map (fun i => (pt.drop (8 * i)).take 8)
  let (a, r) := (List.range (6 * n)).foldl (fun (p : List Byte × List (List Byte)) t =>
    let i := t % n
    let b := k.enc (p.1 ++ p.2.getD i [])
    (xorB (b.take 8) (natBE 8 (t + 1)), p.2.set i (b.drop 8))) (List.replicate 8 (0xA6 : Byte), r0)
  a ++ r.flatten

/-- AES key unwrap: the plaintext when the integrity check passes. -/
def kwUnwrap (kek ct : List Byte) : Option (List Byte) :=
  let k := aesKey kek
  let n := ct.length / 8 - 1
  let r0 := (List.range n).map (fun i => (ct.drop (8 * (i + 1))).take 8)
  let (a, r) := (List.range (6 * n)).foldl (fun (p : List Byte × List (List Byte)) t =>
    let u := 6 * n - 1 - t
    let i := u % n
    let b := k.dec (xorB p.1 (natBE 8 (u + 1)) ++ p.2.getD i [])
    (b.take 8, p.2.set i (b.drop 8))) (ct.take 8, r0)
  if a = List.replicate 8 (0xA6 : Byte) then some r.flatten else none

/-- The SP 800-108 counter-mode KDF in the layout of R558; L is the output length in bits. -/
def kdf (key label ctx : List Byte) (lBits : Nat) : List Byte :=
  let n := (lBits + 127) / 128
  (((List.range n).map (fun i =>
    aesCmac key ([BitVec.ofNat 8 (i + 1)] ++ label ++ [0] ++ ctx ++ natBE 2 lBits))).flatten).take (lBits / 8)

/-! ### CTR_DRBG, AES-256, no derivation function (R364) -/

/-- State of one DRBG instance: key and V. -/
structure DrbgKv where
  key : List Byte
  v : Nat
deriving DecidableEq, Repr

/-- CTR_DRBG_Update with 48 bytes of provided data. -/
def drbgUpdate (st : DrbgKv) (provided : List Byte) : DrbgKv :=
  let k := aesKey st.key
  let t := ((List.range 3).map (fun i => k.enc (natBE 16 ((st.v + i + 1) % 2 ^ 128)))).flatten
  let u := xorB t (padTo 48 provided)
  ⟨u.take 32, beNat (u.drop 32)⟩

/-- Instantiate from 48 bytes of entropy and a personalisation string. -/
def drbgInstantiate (entropy pers : List Byte) : DrbgKv :=
  drbgUpdate ⟨List.replicate 32 0, 0⟩ (xorB (padTo 48 entropy) (padTo 48 pers))

/-- Reseed from 48 bytes of entropy. -/
def drbgReseed (st : DrbgKv) (entropy : List Byte) : DrbgKv := drbgUpdate st entropy

/-- Generate output blocks, dropping any block equal to the one before it (R366). The result holds the output
blocks, V, the last block seen and the number of dropped blocks. The fuel bounds the blocks tried. -/
def drbgBlocks (k : AesKey) : Nat → Nat → Nat → List Byte → List (List Byte) × Nat × List Byte × Nat
  | 0, _, v, last => ([], v, last, 0)
  | fuel + 1, want, v, last =>
    if want = 0 then ([], v, last, 0) else
    let v' := (v + 1) % 2 ^ 128
    let b := k.enc (natBE 16 v')
    if b = last then
      let (o, vf, lf, c) := drbgBlocks k fuel want v' b
      (o, vf, lf, c + 1)
    else
      let (o, vf, lf, c) := drbgBlocks k fuel (want - 1) v' b
      (b :: o, vf, lf, c)

end Sys2Proof.Machine
end

