-- ==== Sys2Proof/Machine/SecurityState.lean ====
section
/-! DEFINITION. State of the security core (chapter 11): root, vault, engines, entropy, DRBGs, tamper logic. -/

namespace Sys2Proof.Machine

open Sys2Proof

/-- A vault slot without its counter (R348). -/
structure VaultSlot where
  /-- 0 empty, 1 loaded, 2 destroyed. -/
  st : Nat
  ktype : Nat
  engines : Nat
  usage : Nat
  volatileKey : Bool
  key : List Byte
deriving DecidableEq, Repr

/-- A record of the vault store: the slot, sealed with AES-256-GCM under an SK with the slot number as AAD. No other SK opens it (R355;
log 216). -/
structure SealedSlot where
  under : List Byte
  slot : VaultSlot
deriving DecidableEq, Repr

/-- One DRBG instance (R364 to R366). -/
structure DrbgInst where
  kv : DrbgKv
  last : List Byte
  served : Nat
  seededAt : Nat
deriving DecidableEq, Repr

/-- Entropy source states: ENT_STATUS STATE. -/
inductive EntState where
  | off | startUp | running | restarting | alarm
deriving DecidableEq, Repr

/-- Health tests of one entropy cell (R360): repetition count, and the adaptive proportion window. -/
structure CellTest where
  lastBit : Nat
  run : Nat
  winFirst : Nat
  winCount : Nat
  winPos : Nat
deriving DecidableEq, Repr

/-- The security core. -/
structure Security where
  /-- The root in the security core; none when zeroed or never generated. -/
  root : Option (List Byte)
  /-- Root shares in the vault store and the root-complete record (R341). -/
  shareA : Option (List Byte)
  shareB : Option (List Byte)
  rootComplete : Bool
  /-- Registers derived from the root (R342). -/
  kek : List Byte
  sk : List Byte
  dik : Nat
  dikPub : List Byte
  /-- ZAP record in the counters region (R371). -/
  zapRecord : Bool
  /-- Durable part of ZAP in progress. -/
  erasing : Bool
  /-- It began before power was lost: the boot that finishes it is the reset that follows (R371). -/
  eraseOld : Bool
  /-- Sectors of the vault store that an erase cut short has done (R371, R391). -/
  erasedTo : Nat
  /-- Vault SRAM. -/
  vault : Tbl VaultSlot
  /-- Vault store in NVM: persistent slots and destroyed marks. -/
  store : Tbl SealedSlot
  /-- Update counters, in the counters region (R348). -/
  counters : Tbl Nat
  /-- AES and other engines in use by a landing: engine bit, landing (R346). -/
  busy : Tbl Nat
  /-- Instants at which the unwrap of a landing's TLOAD began on WRAP (R87, R356). -/
  unwraps : Tbl Nat
  /-- Landings whose crypto step waits for an engine, in issue order. -/
  queue : List Nat
  /-- Landings whose DRBG request waits for pool blocks, in issue order (R365). -/
  drbgQueue : List Nat
  ent : EntState
  unbal : Nat
  consec : Nat
  cells : Vector CellTest 4
  /-- Blocks of the start-up test already seen. -/
  startPos : Nat
  /-- Start of the block that is being collected (R361). -/
  blockAt : Nat
  pool : List (List Byte)
  failed : Nat
  restarts : Nat
  conditioned : Nat
  drawnSeed : Nat
  drawnOther : Nat
  discarded : Nat
  sysSeeds : Nat
  tenSeeds : Nat
  scrambleKey : List Byte
  maskKey : List Byte
  maskAt : Nat
  sharesAt : Nat
  reseedReq : Nat
  reseedS : Nat
  cot : Nat
  unavail : Nat
  sysDrbg : Tbl DrbgInst
  /-- Instance of a bound tenant, by landing. -/
  tenDrbg : Tbl DrbgInst
  katFail : Nat
  tamperCfg : Nat
  tamperLatch : Bool
  tamperEvent : Nat
  tamperCount : Nat
  scan : Bool
deriving DecidableEq, Repr

end Sys2Proof.Machine
end

