-- ==== Sys2Proof/Machine/LandingState.lean ====
section
/-! DEFINITION. State of landings, flight images, pipes, halls and airtime (chapters 02 and 03). -/

namespace Sys2Proof.Machine

open Sys2Proof

/-- States of a landing (R99). Draining has two phases, hold and scrub (R103, R105). A claimed landing holds a
start that waits for a scrub, a falling bank or a rise (R104, R106). -/
inductive LState where
  | free | claimed | busy | hold | scrub | unusable
deriving DecidableEq, Repr

/-- The six flags of a landing (R52). -/
structure Flags where
  z : Bool
  n : Bool
  c : Bool
  v : Bool
  f : Bool
  d : Bool
deriving DecidableEq, Repr

/-- One landing timer: running towards an instant, or stopped with its remaining microseconds. -/
structure LTimer where
  running : Bool
  expired : Bool
  deadline : Nat
  left : Nat
deriving DecidableEq, Repr

/-- Where a key handle got its key (R110, K0-K3 source). -/
inductive KeySrc where
  | empty
  | vault (slot : Nat)
  | tenant (idx : Nat)
  | derived (slot : Option Nat)
deriving DecidableEq, Repr

/-- A key handle (chapter 02, Cryptographic steps). A derived handle remembers the vault slot it descends from (R351). -/
structure Handle where
  src : KeySrc
  ktype : Nat
  engines : Nat
  usage : Nat
  tenantMark : Bool
  key : List Byte
deriving DecidableEq, Repr

/-- Field step kinds, for the disturbed runs of R74. -/
inductive FieldKind where
  | lftx | lfrx | uwbpoll | uwbresp | uwbfinal | uhfrx | uhftx | nfcx | nfctree
deriving DecidableEq, Repr

/-- A field step in progress: what was captured at issue. -/
structure FieldJob where
  kind : FieldKind
  d : Nat
  base : Nat
  /-- Parameter block bytes at issue. -/
  blk : List Byte
  /-- Frame content at issue. -/
  frame : List Byte
  issued : Nat
  window : Nat
  /-- Bytes of the result area. -/
  resLen : Nat
  /-- Instant at which the on-air activity started, once it has. -/
  started : Option Nat
  /-- Disturbance sources seen so far, as result byte 1. -/
  srcs : Nat
  /-- Outcome and result bytes from byte 8, once the exchange has reached them. -/
  fin : Option (Code × List Byte)
deriving DecidableEq, Repr

/-- A crypto step in progress: its results, written when the engine finishes (R64). -/
structure CryptoJob where
  d : Nat
  code : Code
  /-- Engine bit number of R344, when one is held. -/
  engine : Option Nat
  needs : Nat
  writes : List (Nat × List Byte)
  handle : Option (Nat × Handle)
  proof : Bool
  /-- A DRBG request that waits: bytes, destination, its issue. -/
  drbg : Option (Nat × Nat × Nat)
  /-- The DRBG request draws from the bound tenant's instance; else the system instance number. -/
  drbgSys : Option Nat
  /-- Start of the engine's operation, and the most that it takes, in ticks (R347, R413 ENGINE_STALL). -/
  since : Nat
  most : Nat
deriving DecidableEq, Repr

/-- A FLIGHT_START that has claimed a landing and not yet started a flight. -/
structure StartReq where
  key : ItemKey
  slot : Nat
  prio : Nat
  tenant : Option Nat
  g1 : Word
  g2 : Word
  g3 : Word
  since : Nat
  deferred : Bool
deriving DecidableEq, Repr

/-- Why a landing does not run (R110 wait byte). -/
inductive Wait where
  | none
  | field (j : FieldJob)
  | airClaim (d : Nat)
  | ltWait (mask d : Nat)
  | tmWait (k d since : Nat)
  | banister
  | newel (d : Nat)
  | tfail (d : Nat)
  | crypto (j : CryptoJob)
  | judge (d blk : Nat)
  | tload (d tenant : Nat) (bound : Bool)
  | relOpen (d base : Nat)
  | relHold (d : Nat)
  | relClose (d : Nat)
  | gsend (d : Nat) (blk : List Byte)
  | gwait (d : Nat) (blk : List Byte) (deadline : Nat)
  | suspended (j : FieldJob)
  | ending (code : Code)
  /-- The data-initialisation bytes of a library image are on their way (R407). -/
  | starting (r : StartReq)
deriving DecidableEq, Repr

/-- A flight whose end waits for a field exchange, a durable write or an engine (R61, R64). -/
structure EndReq where
  code : Code
  fault : Option Nat
deriving DecidableEq, Repr

/-- Staged tenant change of a landing (R88, R325): the new counter, vehicle time of the pass when it was valid, and the
parts of the token note held then. -/
structure Staged where
  tenant : Nat
  counter : Nat
  passedAt : Option Nat
  battery : Option Nat
  status : Option Nat
deriving DecidableEq, Repr

/-- Header of a flight image (chapter 02, Flight images). -/
structure ImgHdr where
  tenant : Bool
  release : Bool
  cascade : Bool
  cir : Bool
  codeLen : Nat
  dataLen : Nat
  initLen : Nat
  entry : Nat
  shared : Nat
  runLimit : Nat
deriving DecidableEq, Repr

/-- An image that is published, or replaced and still run by a landing (R124). -/
structure Image where
  slot : Nat
  hdr : ImgHdr
  code : List Byte
  init : List Byte
  /-- Initialisation bytes of an external library image wait for an OSPI fetch (R407). -/
  external : Bool
  /-- Poison-tagged granules of its code, numbered in the flight-hall region (R132). -/
  poison : List Nat
deriving DecidableEq, Repr

/-- A landing and the context of its flight (R110). -/
structure Landing where
  st : LState
  prio : Nat
  slot : Nat
  image : Nat
  regs : Vector Word 16
  flags : Flags
  pc : Nat
  wait : Wait
  endReq : Option EndReq
  lts : Vector LTimer 4
  handles : Vector Handle 4
  proof : Bool
  relok : Bool
  relokAt : Nat
  /-- Zone of the JUDGE that set RELOK. -/
  relokZone : Nat
  relSession : Bool
  tenant : Option Nat
  tenantKeys : List (Option Handle)
  staged : Option Staged
  deferred : Bool
  item : Option ItemKey
  itemSince : Nat
  startedAt : Option Nat
  ranUs : Nat
  steps : Nat
  dataBase : Nat
  dataLen : Nat
  cirBuf : Option Nat
  hallsBound : Bool
  claimedEver : Nat
  airUsed : Vector Nat 4
  airReleased : Nat
  fuse : Tbl (List Byte)
  /-- Token note (R325). -/
  battery : Option Nat
  status : Option Nat
  holdUs : Nat
  holdUntil : Option Nat
  stopPc : Nat
  readySince : Nat
  pending : Option StartReq
  becomesUnusable : Bool
deriving DecidableEq, Repr

/-- One pipe (R111 to R113). -/
structure Pipe where
  serving : Option Nat
  last : Option Nat
  turnSteps : Nat
  quantum : Nat
  turns : Nat
  turnStart : Nat
  /-- Its last step boundary (R413 PIPE_STALL). -/
  stepAt : Nat
deriving DecidableEq, Repr

/-- The scheduler of pipes and its registers. -/
structure Sched where
  drainHold : Nat
  quantum : Nat
  aging : Nat
  pipes : Vector Pipe 8
  /-- Landing last served at each priority. -/
  lastServed : Vector (Option Nat) 4
  deferNext : Nat
  deferTotal : Nat
  deferLog : Vector Nat 16
  /-- Deferred starts that ran no step and whose completion is not posted: item, landing, instant of the item's start (R106). -/
  deferWait : List (ItemKey × Nat × Nat)
deriving DecidableEq, Repr

/-- An airtime claim that waits (R116). -/
structure AirClaim where
  landing : Nat
  mask : Nat
  prio : Nat
  budgetUs : Nat
  since : Nat
deriving DecidableEq, Repr

/-- An open exchange of a grant (R118). -/
structure Exchange where
  opened : Nat
  lastEnd : Nat
  running : Bool
  chainUs : Nat
  /-- An LF challenge has been sent and its reply step has not issued. -/
  challenge : Bool
  /-- The exchange reached 60 ms and ends with the reply of a challenge. -/
  overdue : Bool
deriving DecidableEq, Repr

/-- An airtime grant (R116 to R120). -/
structure Grant where
  landing : Nat
  mask : Nat
  prio : Nat
  suspended : Bool
  budgetUs : Nat
  /-- Microseconds used before the present holding period. -/
  usedTicks : Nat
  heldSince : Nat
  minHoldUs : Nat
  exch : Option Exchange
  /-- Budget is spent; the grant lapses at the next boundary. -/
  lapsing : Bool
  /-- A waiting claim pre-empts it at the next boundary. -/
  preempted : Bool
  runs : List (FieldKind × Nat)
deriving DecidableEq, Repr

/-- The airtime scheduler. -/
structure Air where
  chainUs : Nat
  minHoldUs : Nat
  claims : List AirClaim
  grants : List Grant
deriving DecidableEq, Repr

/-- Permission template of a shared hall. -/
structure SharedTpl where
  base : Nat
  limit : Nat
  perm : Nat
deriving DecidableEq, Repr

/-- Images, halls and their protection set-up. -/
structure Halls where
  images : Tbl Image
  nextImage : Nat
  /-- Published image of each slot. -/
  published : Tbl Nat
  /-- Unpublished bytes of each loadable slot. -/
  held : Tbl (List Byte)
  pool : Mem
  poolPoison : List Nat
  cir : Mem
  cirPoison : List Nat
  shared : Mem
  sharedPoison : List Nat
  permCode : Nat
  permData : Nat
  permCir : Nat
  templates : Vector SharedTpl 16
  sealed : Bool
  fromRecord : Bool
deriving DecidableEq, Repr

/-- No flags set. -/
def Flags.clear : Flags := ⟨false, false, false, false, false, false⟩

/-- A landing timer that was never started. -/
def LTimer.idle : LTimer := ⟨false, false, 0, 0⟩

/-- An empty handle. -/
def Handle.empty : Handle := ⟨.empty, 0, 0, 0, false, []⟩

/-- A landing whose context is cleared: free (R105). -/
def Landing.free : Landing :=
  { st := .free, prio := 0, slot := 0, image := 0, regs := Vector.replicate 16 0, flags := Flags.clear, pc := 0,
    wait := .none, endReq := none, lts := Vector.replicate 4 LTimer.idle, handles := Vector.replicate 4 Handle.empty,
    proof := false, relok := false, relokAt := 0, relokZone := 0, relSession := false, tenant := none, tenantKeys := [],
    staged := none, deferred := false, item := none, itemSince := 0, startedAt := none, ranUs := 0, steps := 0,
    dataBase := 0, dataLen := 0, cirBuf := none, hallsBound := false, claimedEver := 0,
    airUsed := Vector.replicate 4 0, airReleased := 0, fuse := [], battery := none, status := none,
    holdUs := 0, holdUntil := none, stopPc := 0, readySince := 0, pending := none, becomesUnusable := false }

end Sys2Proof.Machine
end

