-- ==== Sys2Proof/Machine/SystemState.lean ====
section
/-! DEFINITION. State of faults and recovery (chapter 13), clocks, power domains and votes (chapter 15), timers and
built-in self-test (chapter 16). -/

namespace Sys2Proof.Machine

open Sys2Proof

/-- One entry of the latch table (R415). -/
structure Latch where
  cause : Cause
  scope : Scope
  count : Nat
  first : Nat
deriving DecidableEq, Repr

/-- An event record waiting for its NVM write, without SEQ (R416). -/
structure EvPending where
  epoch : Nat
  cause : Nat
  flags : Nat
  scope : Nat
  us : Nat
  detail : List Byte
deriving DecidableEq, Repr

/-- Fault mode: FLT_STATUS MODE. -/
inductive FltMode where
  | normal | recovery | warm | halt
deriving DecidableEq, Repr

/-- Faults, recovery and escalation. -/
structure Faults where
  mode : FltMode
  depth : Nat
  lastCause : Nat
  lastScope : Nat
  warms : Nat
  restarts : Nat
  recoveries : Nat
  longest : Nat
  lastTime : Nat
  overflow : Nat
  latches : Vector (Option Latch) 16
  /-- Records not yet written, in order of detection. -/
  evPending : List EvPending
  /-- Event log ring in NVM, newest first: sequence number and 32 bytes. -/
  evLog : List (Nat × List Byte)
  evHead : Nat
  evSel : Nat
  /-- Recovery window: causes and scopes, its opening and its last restart. -/
  causes : List Cause
  scopes : List Scope
  opened : Nat
  restarted : Nat
  /-- Landing banks with a first 0x11 or 0x12 error in this epoch (BANK_REPEAT). -/
  bankErr : List Nat
  /-- Instants of warm resets, and of cold resets with cause 0x03 in counting time. -/
  warmAt : List Nat
  coldAt : List Nat
  checks : Nat
  failed : Nat
  /-- The boot that runs is the third after a cold reset with cause 0x03 within 10 s: it ends in fault halt (R425). -/
  haltDue : Bool
deriving DecidableEq, Repr

/-- Power states of the device (R476); awake is IDLE or ACTIVE. -/
inductive PwrMode where
  | vestibule | lobby | awake
deriving DecidableEq, Repr

/-- States of a switched domain (R489, R490). -/
inductive Dom where
  | down
  | rising (since : Nat)
  | up
  | falling (since : Nat) (deferSince : Option Nat)
deriving DecidableEq, Repr

/-- A VOTE_SET that waits for its added domains (R491). -/
structure VoteWait where
  key : ItemKey
  voter : Nat
  added : List Nat
  deferred : List Nat
deriving DecidableEq, Repr

/-- Clocks, power states, domains and votes. -/
structure Power where
  mode : PwrMode
  /-- Entry in preparation, with its target. -/
  entering : Option PwrMode
  /-- A wake runs: the host link is not served yet (R486). -/
  waking : Bool
  /-- An aborted entry waits for D30, D43 and D46 (R481). -/
  restoring : Bool
  /-- Cause of the reset whose boot has not finished; none once the link is served. -/
  booting : Option Nat
  xtalOk : Bool
  rootLock : Bool
  /-- A clock loss has qualified as a tamper event, and the ROOT_LOCK beside it has not been recorded yet (R474). -/
  clockLost : Bool
  refSrc : Bool
  refQual : Bool
  switches : Nat
  slowErr : Int
  /-- Trim of SLOW in the AON latches: the corrections made so far, in 0.01 % (R475). -/
  slowTrim : Int
  slowCals : Nat
  slowAt : Nat
  domains : Vector Dom 50
  votes : Vector Nat 64
  /-- Delayed internal withdrawals: domain and instant (R479). -/
  holdoffs : Tbl Nat
  voteWaits : List VoteWait
  refCount : Vector Nat 50
  refVoter : Vector Nat 50
  deferDelay : Nat
  deferCount : Nat
  deferDomain : Nat
  outcome : Nat
  voter : Nat
  reason : Nat
  wakeCfg : Nat
  wtimer : Nat
  wakes : Nat
  fromVest : Bool
  wakeCause : Nat
  sleptAt : Nat
  /-- Time spent in VESTIBULE, in which lockout and window times stand still (R324), and the start of the present stay. -/
  vestTicks : Nat
  vestSince : Option Nat
  /-- Ticks by which SLOW has counted more or less than passed in LOBBY (R475), and the start of the present stay. -/
  slowSkew : Int
  slowSince : Option Nat
deriving DecidableEq, Repr

end Sys2Proof.Machine
end

