-- ==== Sys2Proof/Machine/TenantState.lean ====
section
/-! DEFINITION. State of tenants, lockout and vehicle time, the START sampler, the release engine and the CAN controllers
(chapter 10). -/

namespace Sys2Proof.Machine

open Sys2Proof

/-- A tenant record that is not empty (R312), with its keys wrapped under KEK (R356). -/
structure Tenant where
  /-- 1 active, 2 suspended, 3 revoked. -/
  st : Nat
  ttype : Nat
  keys : Nat
  rights : Nat
  tokid : Nat
  counter : Nat
  climit : Nat
  vfrom : Nat
  vuntil : Nat
  mlimit : Nat
  startZones : Nat
  entryZones : Nat
  replycfg : Nat
  revokedBy : Nat
  cf : Nat
  /-- End of the lockout in counting time, while one is in force. -/
  lockEnd : Option Nat
  lctr : Nat
  enrolled : Nat
  passes : Nat
  fails : Nat
  lastpass : Nat
  batt : Nat
  life : Nat
  elimit : Nat
  tstatus : Nat
  wrapped : List (List Byte)
deriving DecidableEq, Repr

/-- A TLOAD or a start that waits for a tenant: its landing, the tenant, and the suspensions and revocations that had arrived before
it (R87). -/
structure TenantTurn where
  land : Nat
  tenant : Nat
  ahead : List ItemKey
deriving DecidableEq, Repr

/-- Tenants, lockout, vehicle time. -/
structure Tenants where
  recs : Tbl Tenant
  learnCtr : Nat
  /-- Failures in the learning window, by their instant in counting time (R323). -/
  window : List Nat
  learnEnd : Option Nat
  /-- Vehicle time: value and the instant it was written; none while not valid (R314). -/
  time : Option (Nat × Nat)
  floor : Nat
  lifeCfg : Nat
  /-- Counting time of the last periodic recomputation (R326). -/
  lifeAt : Nat
  /-- Landings whose NEWEL waits, in issue order (R137). -/
  newels : List Nat
  /-- The TLOADs and starts that wait for a tenant, in arrival order (R87). -/
  turns : List TenantTurn
  /-- Revocations by the device (R321). -/
  lost : Nat
  /-- Ledger 4 of this epoch (R431): failures added to the window, its count at the opening, aged out, emptied. -/
  added : Nat
  win0 : Nat
  aged : Nat
  emptied : Nat
deriving DecidableEq, Repr

/-- An open START discrepancy (R328): sample of its edge, and whether channel B moved first. -/
structure Disc where
  e1 : Nat
  firstB : Bool
deriving DecidableEq, Repr

/-- The START sampler (R327 to R330). -/
structure Start where
  cfg : Nat
  filtA : Bool
  filtB : Bool
  rawA : Bool
  rawB : Bool
  disc : Option Disc
  sep : Nat
  fault : Bool
  firstB : Bool
  count : Nat
  /-- Instant of the last rise of D47, and of its fall while it is not up. -/
  base : Nat
  fellAt : Option Nat
  /-- Samples of the last edge of each filtered level since D47 rose (R327). -/
  edgeA : Option Nat
  edgeB : Option Nat
  /-- Sample since which both filtered levels stand at not requested. -/
  idleSince : Nat
deriving DecidableEq, Repr

/-- A release frame (R333): freshness value, identifier field with bit 31 for the 29-bit format, FDF, BRS and DLC, and its data bytes. -/
structure RelFrame where
  fresh : Nat
  ident : Nat
  fdf : Bool
  brs : Bool
  dlc : Nat
  data : List Byte
deriving DecidableEq, Repr

/-- A release session (R331 to R339). -/
structure Session where
  land : Nat
  resOff : Nat
  period : Nat
  window : Nat
  slot : Nat
  /-- The key loaded at RELOPEN (R351). -/
  key : List Byte
  drive : Bool
  zone : Nat
  ttype : Nat
  tenant : Nat
  /-- Open instant, once the first frame is on CANB. -/
  openAt : Option Nat
  /-- Number of the next repeat. -/
  k : Nat
  sent : Nat
  acked : Nat
  first : Nat
  last : Nat
deriving DecidableEq, Repr

/-- A retirement record of the counters region (R433): the epoch closed, the first and last value retired, the total after it. -/
structure Retirement where
  epoch : Nat
  first : Nat
  last : Nat
  total : Nat
deriving DecidableEq, Repr

/-- The end of a session: its PERI cycle, its landing, its reason, and the session as it was (R336). -/
structure RelEnded where
  cycle : Nat
  land : Nat
  reason : Nat
  session : Session
deriving DecidableEq, Repr

/-- A status frame on CANA: a classic frame with its 11-bit identifier and 8 bytes (R339). -/
structure StatusFrame where
  ident : Nat
  data : List Byte
deriving DecidableEq, Repr

/-- A CAN controller. -/
structure Can where
  nbt : Word
  dbt : Word
  tec : Nat
  /-- Instant at which the receive error count was last set to 0: a reset, or the end of a bus-off (log 116). -/
  recZeroAt : Nat
  busOff : Bool
  /-- Start of the present bus-off. -/
  offAt : Nat
  busOffs : Nat
deriving DecidableEq, Repr

/-- The release engine and its pins. -/
structure Release where
  cfg : Word
  cfg1 : Word
  session : Option Session
  /-- The frame whose attempts run on CANB, whether it is withdrawn after its attempt, and the frame queued behind it. -/
  cur : Option RelFrame
  curGone : Bool
  /-- The frame in attempt belongs to a session that has ended: its acknowledgement counts for no other (R334). -/
  orphan : Bool
  queued : Option RelFrame
  /-- The last session's end (R336). -/
  ended : Option RelEnded
  /-- Pattern: running; its levels; start of the half-period; a mismatch keeps it off. -/
  pattern : Bool
  stopping : Bool
  relA : Bool
  relB : Bool
  halfAt : Nat
  relPin : Bool
  relLand : Nat
  skipped : Nat
  sent : Nat
  acked : Nat
  /-- Freshness: next value, durable issue mark and reservation top, last value sent (R331), retirement records,
newest first. -/
  next : Nat
  mark : Nat
  top : Nat
  lastSent : Nat
  retired : List Retirement
  /-- First value of the epoch and frames sent in it (R431). -/
  t0 : Nat
  sentEpoch : Nat
  /-- The last frame put on CANB and the last status frame sent on CANA. -/
  canbOut : Option RelFrame
  canaOut : Option StatusFrame
  canb : Can
  cana : Can
deriving DecidableEq, Repr

/-- No tenant. -/
def Tenants.reset : Tenants :=
  { recs := [], learnCtr := 0, window := [], learnEnd := none, time := none, floor := 0, lifeCfg := 0x732, lifeAt := 0,
    newels := [], turns := [], lost := 0, added := 0, win0 := 0, aged := 0, emptied := 0 }

/-- The sampler at reset. -/
def Start.reset : Start :=
  { cfg := 0x300A0, filtA := false, filtB := false, rawA := false, rawB := false, disc := none, sep := 0, fault := false,
    firstB := false, count := 0, base := 0, fellAt := some 0, edgeA := none, edgeB := none, idleSince := 0 }

/-- A CAN controller at reset (R340). -/
def Can.reset : Can := { nbt := 0x007E1F1F, dbt := 0x801C0909, tec := 0, recZeroAt := 0, busOff := false, offAt := 0, busOffs := 0 }

/-- The release engine at reset. A part that never reserved freshness starts from top 256 (log 24). -/
def Release.reset : Release :=
  { cfg := 0, cfg1 := 0, session := none, cur := none, curGone := false, orphan := false, ended := none, queued := none, pattern := false,
    stopping := false, relA := false, relB := false, halfAt := 0, relPin := false, relLand := 0, skipped := 0, sent := 0,
    acked := 0, next := 256, mark := 256, top := 256, lastSent := 255, retired := [], t0 := 256, sentEpoch := 0, canbOut := none, canaOut := none,
    canb := Can.reset, cana := Can.reset }

end Sys2Proof.Machine
end

