-- ==== Sys2Proof/Machine/UhfState.lean ====
section
/-! DEFINITION. State of the sub-gigahertz link (chapter 07). -/

namespace Sys2Proof.Machine

open Sys2Proof

/-- States of the transceiver (UHF_STATE). -/
inductive UhfMode where
  | down | cal | ready | rx | tx | sniff
deriving DecidableEq, Repr

/-- State code. -/
def UhfMode.num : UhfMode → Nat
  | .down => 0 | .cal => 1 | .ready => 2 | .rx => 3 | .tx => 4 | .sniff => 5

/-- A search for telegrams, of an UHFRX or of a sniff (R240, R241): band, modulation, rates, longest telegram; lanes that hold a preamble,
each with the instant of its detection; every detection and every rejection for the rate since the lanes last began to search; a collision has
occurred; the instant from which the lanes search. -/
structure UhfSearch where
  band : Nat
  ask : Bool
  rates : Nat
  longest : Nat
  holds : Tbl Nat
  seen : List (Nat × Nat)
  rejects : List Nat
  collided : Bool
  searchFrom : Nat
  /-- End of the last hold that ended without a passing telegram while its run had its length (R244). -/
  holdEnd : Option Nat
deriving DecidableEq, Repr

/-- What goes on air (R239): with FSK the offset from the centre of the band of each bit, in Hz; with ASK the carrier in each half-bit. -/
inductive UhfKeying where
  | fsk (offsets : List Int)
  | ask (halves : List Bool)
deriving DecidableEq, Repr

/-- A telegram that goes on air: band, rate index, keying. -/
structure UhfSignal where
  band : Nat
  rate : Nat
  keying : UhfKeying
deriving DecidableEq, Repr

/-- An UHFRX or UHFTX that runs: its landing, its wait for a calibration, the instant at which it could go on air; what it searches; the bits
of its telegram, their rate index, the time they take, and the instant at which they began (R238, R245). -/
structure UhfRun where
  land : Nat
  calWait : Bool
  readyAt : Nat
  search : UhfSearch
  bits : List Bool
  rate : Nat
  air : Nat
  txAt : Option Nat
deriving DecidableEq, Repr

/-- A sniff of the device's own (R251): the start of its listen, once D33 is up and calibrated; the sniff registers as they act in this LOBBY
(R253). -/
structure Sniff where
  since : Option Nat
  search : UhfSearch
  cfg : Nat
  time : Nat
deriving DecidableEq, Repr

/-- The sub-gigahertz link. -/
structure Uhf where
  mode : UhfMode
  calTemp : Int
  lastBand : Nat
  cal : Option (Nat × Nat)
  calFails : Nat
  cfg : Nat
  discarded : Nat
  collided : Nat
  disturbed : Nat
  rateReject : Nat
  reg0 : Nat
  reg1 : Nat
  paCode : Nat
  /-- Transmissions of the last hour: start and end. -/
  spans : List (Nat × Nat)
  sniffCfg : Nat
  sniffTime : Nat
  sniffAt : Nat
  lost : Nat
  hits : Nat
  filled : Nat
  bufs : Vector (List Byte) 4
  sniff : Option Sniff
  run : Option UhfRun
  /-- The last telegram that went on air (R238, R239). -/
  sent : Option UhfSignal
  /-- Instant from which UHF_TXTIME counts: the last reset or sleep (log 181). -/
  countFrom : Nat
deriving DecidableEq, Repr

/-- The link as after a power-on reset. -/
def Uhf.reset : Uhf :=
  { mode := .down, calTemp := 0, lastBand := 0, cal := none, calFails := 0, cfg := 0xAB403204, discarded := 0,
    collided := 0, disturbed := 0, rateReject := 0, reg0 := 0, reg1 := 0, paCode := 0, spans := [], sniffCfg := 0,
    sniffTime := 0x006403E8, sniffAt := 0, lost := 0, hits := 0, filled := 0, bufs := Vector.replicate 4 [],
    sniff := none, run := none, sent := none, countFrom := 0 }

end Sys2Proof.Machine
end

