-- ==== Sys2Proof/Machine/UwbState.lean ====
section
/-! DEFINITION. State of the UWB radio front-end (chapter 05) and of the ranging baseband (chapter 06). -/

namespace Sys2Proof.Machine

open Sys2Proof

/-- States of the front-end (R172). -/
inductive UwbMode where
  | down | cal | ready | rx | txarm | tx
deriving DecidableEq, Repr

/-- State code (R172). -/
def UwbMode.num : UwbMode → Nat
  | .down => 0 | .cal => 1 | .ready => 2 | .rx => 3 | .txarm => 4 | .tx => 5

/-- A UWB field step that runs. -/
structure UwbRun where
  step : FieldKind
  land : Nat
  ch : Nat
  /-- Code of the own frame; of a response, that of the poll it accepted (R203). -/
  code : Nat
  /-- Frame kind of block byte 10. -/
  kind : Nat
  /-- Codes searched, in the mask of chapter 06, Preamble search. -/
  lanes : Nat
  sp1 : Bool
  key : List Byte
  /-- The payload of the own frame, with the device-filled fields (R176). -/
  out : List Byte
  /-- Its duration in CHIP periods; until a poll is accepted, the longest that a response can take. -/
  chips : Nat
  session : Nat
  round : Nat
  report : Bool
  /-- A full calibration must end, and a coexistence grant must come, before the first emission or window. -/
  calWait : Bool
  coexWait : Bool
  /-- Start of the wait for COEX_GNT. -/
  coexSince : Nat
  /-- End of the step's checks, calibrations and waits. -/
  readyAt : Nat
  /-- Opening of the receive window. -/
  window : Option Nat
  /-- Instant from which the lanes search (R205). -/
  searchFrom : Nat
  /-- Transmit start mark of the own frame. -/
  txMark : Option Nat
  /-- What the loopback measures of the own frame, taken at its end (R179, R180, R189). -/
  meas : Option TxMeas
  measured : Bool
  /-- TX_ANT latched during the own frame. -/
  antenna : Bool
  /-- Receive end mark of an accepted poll: the response is due 1,024 CHIP periods later. -/
  pollMark : Option Nat
  disturbed : Bool
  /-- Instant of the mark. -/
  markAt : Nat
  /-- COEX_GNT was found withdrawn, and the step ends COEX_DENIED (R192). -/
  withdrawn : Bool
  /-- The synthesiser lost its lock: the exchange ends with the step (R170). -/
  lost : Bool
  /-- The step has its outcome and neither emits nor receives; it ends once its capture has moved (R213). -/
  closed : Bool
  /-- Offset to master time at issue (R225). -/
  offset : Option Nat
  /-- Chips reserved at issue of a UWBRESP (R193). -/
  reserved : Nat
  /-- Gain code of the own frame before the trim of its channel, and the target density (R178). -/
  gain : Int
  target : Int
  /-- Time that overdue calibrations take before its first emission or window, in microseconds (R185). -/
  forcedUs : Nat
deriving DecidableEq, Repr

/-- A frame that has left: channel, code, gain code, pre-distortion set, STS, PSDU and transmit start mark (R176, R178, R181, R208, R233). -/
structure UwbFrame where
  ch : Nat
  code : Nat
  gain : Nat
  set : Option Nat
  sts : List Byte
  psdu : List Byte
  mark : Nat
deriving DecidableEq, Repr

/-- The UWB front-end. -/
structure Uwb where
  mode : UwbMode
  lastch : Nat
  synthTemp : Int
  dataPort : Nat
  /-- Channel and start of a full calibration in progress. -/
  cal : Option (Nat × Nat)
  /-- It is the calibration of a rise of D29, with every background calibration (R173, R183). -/
  rising : Bool
  /-- Full calibrations that failed in a row (R170). -/
  calFails : Nat
  txpwr : Nat
  divCfg : Nat
  fixFallback : Bool
  dpd : Nat
  loopErr : Nat
  coexCfg : Nat
  pctl : Nat
  trim5 : Int
  trim9 : Int
  /-- Stored pre-distortion sets of channels 5 and 9, and the set in use once a calibration has loaded one, as opaque values (log 17). -/
  dpd5 : Nat
  dpd9 : Nat
  dpdUse : Option Nat
  calAt : Vector Nat 7
  /-- Instant at which D29 last fell: ages count only while it is up (R183). -/
  fell : Nat
  overdue : Nat
  forced : Nat
  aborted : Nat
  /-- Slice in progress: calibration and start. -/
  slice : Option (Nat × Nat)
  fault : Nat
  /-- Ports whose fault the host cleared and whose port check has not passed yet; bit 4 is UTX (R190). -/
  recheck : Nat
  reg0 : Nat
  reg1 : Nat
  reg2 : Nat
  req : Bool
  pri : Bool
  gnt : Bool
  denied : Nat
  withdrawn : Nat
  /-- Transmissions of the last hour: start and end. -/
  spans : List (Nat × Nat)
  run : Option UwbRun
  /-- The last frame that left, and the STS expected in the window that opened last (R208, R210). -/
  sent : Option UwbFrame
  expect : List Byte
  /-- Instant from which UWB_TXTIME counts: the last reset or sleep (log 181). -/
  countFrom : Nat
deriving DecidableEq, Repr

/-- Exchange record of a landing (R214): its last UWBPOLL and its last UWBRESP. -/
structure RngPoll where
  session : Nat
  round : Nat
  departure : Nat
  arrival : Nat
  db : Nat
  eps : Int
deriving DecidableEq, Repr

structure RngResp where
  session : Nat
  round : Nat
  db : Nat
deriving DecidableEq, Repr

structure RngRec where
  poll : Option RngPoll
  resp : Option RngResp
deriving DecidableEq, Repr

/-- The ranging baseband. -/
structure Rng where
  air : Nat
  antdly5 : Nat
  antdly9 : Nat
  det : Nat
  noiseCfg : Nat
  /-- Baselines in 1/65,536 of the register's unit; none before the first window after D29 rises (R223). -/
  base5 : Option Nat
  base9 : Option Nat
  disturbed : Nat
  discarded : Nat
  stsfail : Nat
  aoa : Vector Nat 8
  /-- Instant of the last rise of D30, TSC_ERA and the latch of RNG_TSC_HI. -/
  tscBase : Nat
  era : Nat
  latch : Nat
  alignOff : Nat
  alignValid : Bool
  records : Tbl RngRec
deriving DecidableEq, Repr

/-- The front-end as after a power-on reset. -/
def Uwb.reset : Uwb :=
  { mode := .down, lastch := 5, synthTemp := 0, dataPort := 0, cal := none, rising := false, calFails := 0, txpwr := 0, divCfg := 0xF0,
    fixFallback := false, dpd := 3, loopErr := 0, coexCfg := 0x64, pctl := 0, trim5 := 0, trim9 := 0, dpd5 := 0,
    dpd9 := 0, dpdUse := none, calAt := Vector.replicate 7 0, fell := 0, overdue := 0, forced := 0, aborted := 0, slice := none,
    fault := 0, recheck := 0, reg0 := 0, reg1 := 0, reg2 := 0, req := false, pri := false, gnt := false, denied := 0,
    withdrawn := 0, spans := [], run := none, sent := none, expect := [], countFrom := 0 }

/-- The baseband as after a power-on reset. -/
def Rng.reset : Rng :=
  { air := 0x110, antdly5 := 0x40004000, antdly9 := 0x40004000, det := 0x30600040, noiseCfg := 0x1804, base5 := none,
    base9 := none, disturbed := 0, discarded := 0, stsfail := 0, aoa := Vector.replicate 8 0, tscBase := 0, era := 0,
    latch := 0, alignOff := 0, alignValid := false, records := [] }

end Sys2Proof.Machine
end

