-- ==== Sys2Proof/Machine/VerdictState.lean ====
section
/-! DEFINITION. State of the verdict engine, the atlas and the evidence recorder (chapter 09). -/

namespace Sys2Proof.Machine

open Sys2Proof

/-- The verdict engine and the atlas region of NVM. -/
structure Verdict where
  /-- The two atlas halves. -/
  half0 : Mem
  half1 : Mem
  /-- The published half (atlas pointer of the counters region). -/
  published : Option Nat
  /-- Bytes held by the staging (R282). -/
  held : Nat
  stale : Bool
  blkFail : Bool
  failBlk : Nat
  /-- VDT_LAST, VDT_INFO, VDT_COST. -/
  last : Nat
  info : Nat
  cost : Nat
  /-- Landings whose JUDGE waits, in issue order, with the stale comparison made at issue (R285, R294). -/
  queue : List (Nat × Bool)
deriving DecidableEq, Repr

/-- States of the recorder (R302). -/
inductive EvdMode where
  | armed | post | rearm
deriving DecidableEq, Repr

/-- STATE field of EVD_STATUS. -/
def EvdMode.num : EvdMode → Nat
  | .armed => 0 | .post => 1 | .rearm => 2

/-- One listed trigger of a capture: source code, cause tag, landing, microseconds since the epoch began. -/
structure EvdTrigger where
  src : Nat
  tag : Nat
  land : Nat
  us : Nat
deriving DecidableEq, Repr

/-- The open capture (R303 to R305). -/
structure Capture where
  /-- Trigger record and its header. -/
  trig : Nat
  header : List Byte
  pre : List Nat
  post : List Nat
  triggers : List EvdTrigger
  joins : Nat
  /-- Landings that triggered or joined it. -/
  lands : List Nat
  since : Nat
deriving DecidableEq, Repr

/-- The evidence recorder: 256 records of 1 KiB. -/
structure Recorder where
  mode : EvdMode
  /-- Contents of the records that are not free, without trailing zeros. -/
  recs : Tbl (List Byte)
  /-- Published captures: trigger record, and every record of the capture. -/
  captures : Tbl (List Nat)
  /-- The ring, oldest first. -/
  ring : List Nat
  cap : Option Capture
  /-- Instant of the last publication. -/
  pubAt : Nat
  seq : Nat
  cfg : Nat
  cfg1 : Nat
  /-- Values written outside ARMED, in force from its next entry (R310). -/
  cfgNext : Option Nat
  cfg1Next : Option Nat
  trigs : Nat
  capts : Nat
  joins : Nat
  misses : Nat
  drops : Nat
  missAt : Nat
  why : Nat
  lastTrig : Nat
deriving DecidableEq, Repr

/-- No atlas. -/
def Verdict.reset : Verdict :=
  { half0 := Mem.empty, half1 := Mem.empty, published := none, held := 0, stale := false, blkFail := false, failBlk := 0,
    last := 0, info := 0, cost := 0, queue := [] }

/-- The recorder with every record free. -/
def Recorder.reset : Recorder :=
  { mode := .armed, recs := [], captures := [], ring := [], cap := none, pubAt := 0, seq := 0, cfg := 0x3D100020,
    cfg1 := 0xC8, cfgNext := none, cfg1Next := none, trigs := 0, capts := 0, joins := 0, misses := 0, drops := 0,
    missAt := 0, why := 0, lastTrig := 0xFFFF }

/-- The published atlas half. -/
def Verdict.half (v : Verdict) (h : Nat) : Mem := if h = 0 then v.half0 else v.half1

/-- The half a staging goes to. -/
def Verdict.stageHalf (v : Verdict) : Nat := if v.published = some 0 then 1 else 0

/-- Replace a half. -/
def Verdict.setHalf (v : Verdict) (h : Nat) (m : Mem) : Verdict :=
  if h = 0 then { v with half0 := m } else { v with half1 := m }

end Sys2Proof.Machine
end

