-- ==== Sys2Proof/Machine/InitState.lean ====
section
/-! DEFINITION. Reset values of the parts of State whose files give none, and the contents of a new part's NVM and OTP (log 26). -/

namespace Sys2Proof.Machine

open Sys2Proof

/-- The host link at the opening of an epoch: SQ0 holds one credit back for the epoch-close record (R47). -/
def HostLink.reset (epoch : Nat) : HostLink :=
  { attn := 1, mask := 0x1FF, epoch := BitVec.ofNat 16 epoch, sqSeq := Vector.replicate 4 0, credits := #v[63, 64, 64, 64]
    items := [], cq := [], cqHead := 0, lastErr := .ok, hushLive := false, hushItems := [], hushLandings := []
    wakeIrq := false, hsdo := [], pages := Mem.empty, pagePoison := [], unfin := none, activate := [] }

/-- A channel that has moved nothing. -/
def Chan.reset : Chan := { active := false, doneFlag := false, failed := false, cause := 0, desc := none }

/-- The DMA engine with nothing to move. -/
def Dma.reset : Dma := { chans := Vector.replicate 8 Chan.reset, waiting := [], stalled := [] }

/-- A pipe that serves nobody. -/
def Pipe.reset : Pipe := { serving := none, last := none, turnSteps := 0, quantum := 0, turns := 0, turnStart := 0, stepAt := 0 }

/-- DRAIN_HOLD 0x14, SCHED_CFG 0x00401000 (AGING 64, QUANTUM 16). -/
def Sched.reset : Sched :=
  { drainHold := 0x14, quantum := 16, aging := 64, pipes := Vector.replicate 8 Pipe.reset
    lastServed := Vector.replicate 4 none, deferNext := 0, deferTotal := 0, deferLog := Vector.replicate 16 0, deferWait := [] }

/-- AIR_CFG 0x006401F4 (CHAIN 100, MINHOLD 500). -/
def Air.reset : Air := { chainUs := 100, minHoldUs := 500, claims := [], grants := [] }

/-- Reset value of a shared template. -/
def SharedTpl.reset : SharedTpl := { base := 0, limit := 0, perm := 7 }

/-- No image, nothing stored, the templates at their reset values and not sealed. -/
def Halls.reset : Halls :=
  { images := [], nextImage := 0, published := [], held := [], pool := Mem.empty, poolPoison := [], cir := Mem.empty
    cirPoison := [], shared := Mem.empty, sharedPoison := [], permCode := 0x09, permData := 0x1F, permCir := 0x09
    templates := Vector.replicate 16 SharedTpl.reset, sealed := false, fromRecord := false }

/-- No fault recorded. -/
def Faults.reset : Faults :=
  { mode := .normal, depth := 0, lastCause := 0, lastScope := 0, warms := 0, restarts := 0, recoveries := 0, longest := 0
    lastTime := 0, overflow := 0, latches := Vector.replicate 16 none, evPending := [], evLog := [], evHead := 0
    evSel := 0, causes := [], scopes := [], opened := 0, restarted := 0, bankErr := [], warmAt := [], coldAt := []
    checks := 0, failed := 0, haltDue := false }

/-- Clocks and power as a reset with this cause leaves them: V33 votes D30, D43 and D46, and nothing is up yet (R477). -/
def Power.reset (cause : Nat) : Power :=
  { mode := .awake, entering := none, waking := false, restoring := false, booting := some cause, xtalOk := false
    rootLock := false, clockLost := false, refSrc := false, refQual := false, switches := 0, slowErr := 0, slowTrim := 0, slowCals := 0, slowAt := 0
    domains := Vector.replicate 50 .down
    votes := Vector.ofFn fun v : Fin 64 => if v.val = 33 then 0x0000480040000000 else 0
    holdoffs := [], voteWaits := [], refCount := Vector.replicate 50 0, refVoter := Vector.replicate 50 0xFF
    deferDelay := 0, deferCount := 0, deferDomain := 0, outcome := 0, voter := 0xFF, reason := 0, wakeCfg := 0x14D
    wtimer := 0, wakes := 0, fromVest := false, wakeCause := 0, sleptAt := 0, vestTicks := 0, vestSince := none,
    slowSkew := 0, slowSince := none }

/-- An entropy cell whose tests begin. -/
def CellTest.reset : CellTest := { lastBit := 2, run := 0, winFirst := 0, winCount := 0, winPos := 0 }

/-- No root, empty vault, empty store (log 26). -/
def Security.reset : Security :=
  { root := none, shareA := none, shareB := none, rootComplete := false, kek := [], sk := [], dik := 0, dikPub := []
    zapRecord := false, erasing := false, eraseOld := false, erasedTo := 0, unwraps := [], vault := [], store := [], counters := [], busy := [], queue := [], drbgQueue := []
    ent := .off, unbal := 0, consec := 0, cells := Vector.replicate 4 CellTest.reset, startPos := 0, blockAt := 0, pool := [], failed := 0
    restarts := 0, conditioned := 0, drawnSeed := 0, drawnOther := 0, discarded := 0, sysSeeds := 0, tenSeeds := 0
    scrambleKey := [], maskKey := [], maskAt := 0, sharesAt := 0, reseedReq := 0x400, reseedS := 0x3C, cot := 0, unavail := 0
    sysDrbg := [], tenDrbg := [], katFail := 0, tamperCfg := 0xA9, tamperLatch := false, tamperEvent := 0
    tamperCount := 0, scan := false }

/-- OTP of a new part: no stage blown, DEVID 0 and trims 0 with their CRCs, floors 0 (log 26). -/
def otpNew : Tbl Nat := [(8, 0xECBB4B55), (63, 0xEF87080E)]

/-- A firmware bank as programmed at manufacture: ACTIVE, VERSION 0 (log 25, log 26). -/
def Bank.delivered : Bank := ⟨.active, [], Mem.empty, true⟩

/-- FACTORY, firmware bank A delivered, every other bank empty, no record stored (log 26). -/
def LifeCycle.reset : LifeCycle :=
  { otp := otpNew, otpLow := otpNew, otpHigh := otpNew, st := .factory, devid := 0, region := 0, fwFloor := 0, libFloor := 0
    marginal := false, idFault := false, trimFault := false, rbMarg := false, mchange := false, fuseFault := false
    readTemp := 25, lifeCtr := 0, journal := none, intent := none, scanUnlock := false, copy0 := RecordCopy.blank, copy1 := RecordCopy.blank
    inForce := none, sectors := [], remaps := [], half := 0
    remapped := 0, jobs := [], banks := #v[Bank.delivered, Bank.blank, Bank.blank, Bank.blank], openTarget := none, bytes := 0, held := 0
    erasedTo := 0, lastVerifyOk := false, updIntent := none, trialLeft := 0, revert := 0, rom := false, runFw := 0, runLib := 2
    ospiCfg := 0x00010800, ospiFails := 0, ospiFetches := 0, ospiLastFail := 0 }

/-- No unit marked, no run made. -/
def Bist.reset : Bist :=
  { unus := 0, running := false, cold := false, scope := 0, failed := 0, lastTime := 0, startedAt := 0
    sramFail := false, sramCount := 0, sramBank := 0, poolOut := [], cirOut := [] }

end Sys2Proof.Machine
end

