-- ==== Sys2Proof/Machine/State.lean ====
section
/-! DEFINITION. The state of the part as plain data, and the state right after a power-on reset. -/

namespace Sys2Proof.Machine

open Sys2Proof

/-- Ways the model can stop with a fault. None of the spec's behaviours ends in one; the one constructor is for an
access no rule gives a meaning to. Raised by nobody at present; safe. -/
inductive Fault where
  | absent
deriving DecidableEq, Repr

/-- Ways the model can refuse a command. -/
inductive Refusal where
  /-- The command has no meaning yet; raised by Dispatch only; safe. -/
  | notModelled (mnemonic : String)
deriving DecidableEq, Repr

/-- The CORE cycle of the last command that acted, and its place in the order of R556. -/
structure Turn where
  cycle : Nat
  rank : Nat
deriving DecidableEq, Repr

/-- The two status words as they stood from an instant on (R12). -/
structure Shown where
  from_ : Nat
  word0 : Nat
  word1 : Nat
deriving DecidableEq, Repr

/-- The whole part. -/
structure State where
  /-- Time since the part was first powered, in ticks of U / 5: 319,488 a microsecond (log 2). -/
  now : Nat
  /-- Instant at which the epoch began. -/
  epochStart : Nat
  /-- Counter of free values drawn (the model's own field, log 4). -/
  fresh : Nat
  host : HostLink
  dma : Dma
  landings : Vector Landing 192
  sched : Sched
  air : Air
  halls : Halls
  faults : Faults
  power : Power
  sec : Security
  life : LifeCycle
  timers : Vector Timer 16
  bist : Bist
  /-- Last reading of the die temperature sensor, in degrees Celsius. -/
  dieTemp : Int
  lf : Lf
  uwb : Uwb
  rng : Rng
  uhf : Uhf
  nfc : Reader
  tag : Tag
  verdict : Verdict
  evd : Recorder
  ten : Tenants
  start : Start
  rel : Release
  gal : Gal
  /-- Which events of the present CORE cycle have acted (R556; the model's own field, log 149). -/
  turn : Turn
  /-- The status words since the last frame, newest first (R12). -/
  seen : List Shown
  /-- End of the pause that a HUSH frame makes from its eighth edge (R20). -/
  hushTill : Nat
  /-- Commands waiting, first in first out. -/
  pending : List Instr
deriving DecidableEq, Repr

/-- The part right after its first power-on reset, whose boot has not run yet: every register at its reset value, nothing
in memory. NVM and OTP hold what log 26 says of a new part. -/
def State.reset : State :=
  { now := 0, epochStart := 0, fresh := 0, host := HostLink.reset 1, dma := Dma.reset
    landings := Vector.replicate 192 Landing.free, sched := Sched.reset, air := Air.reset, halls := Halls.reset
    faults := Faults.reset, power := Power.reset 0x01, sec := Security.reset, life := LifeCycle.reset
    timers := Vector.ofFn fun k : Fin 16 => bootTimer k.val 0, bist := Bist.reset, dieTemp := 25, lf := Lf.reset
    uwb := Uwb.reset, rng := Rng.reset, uhf := Uhf.reset, nfc := Reader.reset, tag := Tag.reset, verdict := Verdict.reset
    evd := Recorder.reset, ten := Tenants.reset, start := Start.reset, rel := Release.reset, gal := Gal.reset 0
    turn := ⟨0, 0⟩, seen := [], hushTill := 0, pending := [] }

end Sys2Proof.Machine
end

