-- ==== Sys2Proof/Machine/Ops.lean ====
section
/-! DEFINITION. The shared operations: time, free values, register tables, posting completions and latching faults. -/

namespace Sys2Proof.Machine

open Sys2Proof

/-! ### Registers -/

/-- A value in the field of a register that ends at bit lo and is w bits wide. -/
def fld (w lo v : Nat) : Nat := v % 2 ^ w * 2 ^ lo

/-- A flag at a bit of a register. -/
def flg (lo : Nat) (b : Bool) : Nat := b2n b * 2 ^ lo

/-! ### Time -/

/-- Ticks in a microsecond: U / 5 with U = 1 / (128 * 499.2 MHz) (R469). -/
def usT : Nat := 319488

/-- Ticks in a millisecond. -/
def msT : Nat := 319488000

/-- Ticks in a second. -/
def secT : Nat := 319488000000

/-- Ticks in one CORE, PERI and CHIP period. -/
def coreT : Nat := 1280
def periT : Nat := 2560
def chipT : Nat := 640

/-- Ticks in one nominal SLOW period. -/
def slowT : Nat := 9750000

/-- Let time pass. -/
def State.tick (dt : Nat) (s : State) : State := { s with now := s.now + dt }

/-! ### Events of one CORE cycle (R556) -/

/-- Places in the order of R556: resets, faults and tamper events, unit events, item starts, steps by pipe, host frames. -/
def rankReset : Nat := 0
def rankFault : Nat := 1
def rankUnit : Nat := 2
def rankItem : Nat := 3
def rankStep (pipe : Nat) : Nat := 4 + pipe
def rankFrame : Nat := 12

/-- Place of an event that may be a fault. -/
def faultRank (isFault : Bool) : Nat := if isFault then rankFault else rankUnit

/-- An event of a place in the order may act now: nothing that comes after it has acted in this CORE cycle (R556). -/
def State.inTurn (s : State) (k : Nat) : Bool := s.turn.cycle != s.now / coreT || decide (s.turn.rank ≤ k)

/-- An event of a place in the order acts. -/
def State.act (s : State) (k : Nat) : State := { s with turn := ⟨s.now / coreT, k⟩ }

/-- Draw a fresh free value (log 4). -/
def State.draw (s : State) : State × Nat := ({ s with fresh := s.fresh + 1 }, Config.freeValue s.fresh)

/-- Whole microseconds since the epoch began (R48). -/
def State.us (s : State) : Nat := (s.now - s.epochStart) / usT

/-! ### Landings -/

/-- Landing l. -/
def State.land (s : State) (l : Nat) : Landing := vget s.landings l Landing.free

/-- Replace landing l. -/
def State.setLand (s : State) (l : Nat) (x : Landing) : State := { s with landings := vset s.landings l x }

/-- Change landing l. -/
def State.modLand (s : State) (l : Nat) (f : Landing → Landing) : State := s.setLand l (f (s.land l))

/-- Landings that meet a test, in number order. -/
def State.landsWhere (s : State) (p : Landing → Bool) : List Nat :=
  (s.landings.toList.zipIdx.filter (fun x => p x.1)).map (fun x => x.2)

/-- Read register g n of a landing; g0 reads 0 (R51). -/
def Landing.reg (x : Landing) (n : Nat) : Word := if n = 0 then 0 else vget x.regs n 0

/-- Write register g n of a landing; a write to g0 is discarded (R51). -/
def Landing.setReg (x : Landing) (n : Nat) (v : Word) : Landing :=
  if n = 0 then x else { x with regs := vset x.regs n v }

/-- The landing holds a flight: busy (R99). -/
def Landing.busy (x : Landing) : Bool := x.st == .busy

/-- The landing is draining: hold or scrub (R99, R103). -/
def Landing.draining (x : Landing) : Bool := x.st == .hold || x.st == .scrub

/-! ### Interrupt causes -/

/-- Set bits of ATTN_CAUSE. -/
def State.attn (s : State) (m : Nat) : State :=
  { s with host := { s.host with attn := s.host.attn ||| BitVec.ofNat 8 m } }

/-- ATTN_CAUSE bits. -/
def attnEpoch : Nat := 0x01
def attnEntropy : Nat := 0x02
def attnFault : Nat := 0x04
def attnBist : Nat := 0x08
def attnLife : Nat := 0x10
def attnHushDone : Nat := 0x20
def attnTamper : Nat := 0x40
def attnCascade : Nat := 0x80

/-! ### Items and completions -/

/-- Item code, banister group and parameter fields of an item (R35). -/
def ItemRec.code (r : ItemRec) : Nat := byteAt r.raw 0
def ItemRec.bgrp (r : ItemRec) : Nat := byteAt r.raw 2
def ItemRec.p8 (r : ItemRec) (o : Nat) : Nat := byteAt r.raw o
def ItemRec.p16 (r : ItemRec) (o : Nat) : Nat := fieldLE r.raw o 2
def ItemRec.p32 (r : ItemRec) (o : Nat) : Nat := fieldLE r.raw o 4

/-- The completion has been decided (R32). -/
def ItemPhase.isEnded : ItemPhase → Bool
  | .ended _ _ => true
  | _ => false

/-- Byte of an item that names its transfer page, by item code (R38). -/
def pageByte : Nat → Option Nat
  | 0x01 => some 12 | 0x10 => some 14 | 0x13 => some 14 | 0x14 => some 15 | 0x15 => some 15
  | 0x20 => some 18 | 0x23 => some 14 | 0x30 => some 12 | 0x31 => some 13 | 0x40 => some 13
  | 0x41 => some 12 | 0x52 => some 12 | 0x53 => some 14 | 0x55 => some 13 | _ => none

/-- The page an item names; CASCADE_MODE has one in mode 2 only. -/
def ItemRec.page (r : ItemRec) : Option Nat :=
  if r.code = 0x55 ∧ r.p8 12 ≠ 2 then none else (pageByte r.code).map r.p8

/-- An accepted, uncompleted item other than k names page p (R27, R37). -/
def HostLink.pageNamed (h : HostLink) (k : Option ItemKey) (p : Nat) : Bool :=
  h.items.any (fun r => r.page == some p && some r.key != k)

/-- The 16 bytes of a completion entry (R36). -/
def completionBytes (r : ItemRec) (code : Code) (res : List Byte) : List Byte :=
  [BitVec.ofNat 8 r.code, BitVec.ofNat 8 code.num, BitVec.ofNat 8 (0x80 + r.key.sq), BitVec.ofNat 8 r.bgrp]
  ++ natLE 4 r.key.seq.toNat ++ sliceP r.raw 10 2 ++ padTo 6 res

/-- The first item, in order of acceptance, whose completion may be posted: it is decided, and no earlier item of
its non-zero banister group in its SQ is still unposted (R33, R426). `before` holds the items already passed. -/
def firstPostable : List ItemRec → List ItemRec → Option ItemRec
  | _, [] => none
  | before, r :: rest =>
    let free := r.bgrp == 0 || !before.any (fun q => q.key.sq == r.key.sq && q.bgrp == r.bgrp)
    if r.phase.isEnded && free then some r else firstPostable (r :: before) rest

/-- Post one decided completion and let a FLIGHT_STOP that waited on it be decided (R39). -/
def HostLink.post (h : HostLink) (r : ItemRec) (code : Code) (res : List Byte) : HostLink :=
  { h with
    items := (h.items.filter (fun q => q.key != r.key)).map (fun q =>
      if q.awaits == some r.key then { q with phase := .ended .ok q.memo, awaits := none } else q)
    cq := h.cq ++ [⟨r.key.sq, some r.key, completionBytes r code res⟩]
    hushItems := h.hushItems.filter (· != r.key) }

/-- Post every completion that may be posted; the fuel bounds the number of items. Answers the keys posted. -/
def HostLink.flush : Nat → HostLink → HostLink × List ItemKey
  | 0, h => (h, [])
  | fuel + 1, h =>
    match firstPostable [] h.items with
    | none => (h, [])
    | some r =>
      match r.phase with
      | .ended code res =>
        let (h', ks) := HostLink.flush fuel (h.post r code res)
        (h', r.key :: ks)
      | _ => (h, [])

/-- Decide the completion of an item. An item already decided keeps its code (R421). -/
def HostLink.decide (h : HostLink) (k : ItemKey) (code : Code) (res : List Byte) : HostLink :=
  { h with items := h.items.map (fun r =>
      if r.key == k && !r.phase.isEnded then { r with phase := .ended code res } else r) }

/-- The hold of a landing begins when the completion of its FLIGHT_START is posted (R103). -/
def Landing.startHold (now : Nat) (posted : List ItemKey) (x : Landing) : Landing :=
  if x.st == .hold && x.holdUntil.isNone && (match x.item with | some k => posted.contains k | none => false)
  then { x with holdUntil := some (now + x.holdUs * msT / 1000) } else x

/-- End of a HUSH: its items have all completed (R23, STATUS0 HUSH). -/
def State.hushCheck (s : State) : State :=
  if s.host.hushLive && s.host.hushItems.isEmpty then
    ({ s with host := { s.host with hushLive := false, hushLandings := [] } }).attn attnHushDone
  else s

/-- Queue number that marks the start request of a gallery part; no item carries it. -/
def partSq : Nat := 4

/-- Write one DEFER_LOG entry (R106, R109). The start of a gallery part has neither SQ nor SEQ: both fields hold 0 (log 169). -/
def State.deferLog (s : State) (l : Nat) (k : ItemKey) (since : Nat) : State :=
  let item := if k.sq = partSq then 0 else k.sq * 2 ^ 32 + k.seq.toNat
  let e := sat 0xFFFF ((s.now - since) / usT) * 2 ^ 48 + l * 2 ^ 40 + item
  let c := s.sched
  { s with sched := { c with deferLog := vset c.deferLog c.deferNext e, deferNext := (c.deferNext + 1) % 16,
                             deferTotal := (c.deferTotal + 1) % 256 } }

/-- A posted completion of a deferred start that ran no step writes its DEFER_LOG entry: DELAY runs to the posting (R106, R109). -/
def State.deferPosted (s : State) (k : ItemKey) : State :=
  match s.sched.deferWait.find? (fun e => e.1 == k) with
  | none => s
  | some (_, l, since) =>
    ({ s with sched := { s.sched with deferWait := s.sched.deferWait.filter fun e => e.1 != k } } : State).deferLog l k since

/-- Post what may be posted. -/
def State.flush (s : State) : State :=
  let (h, posted) := HostLink.flush (2 * s.host.items.length + 1) s.host
  let s := posted.foldl State.deferPosted { s with host := h }
  let s := if posted.isEmpty then s else
    { s with landings := s.landings.map (Landing.startHold s.now posted) }
  s.hushCheck

/-- The record of an accepted item. -/
def State.item (s : State) (k : ItemKey) : Option ItemRec := s.host.items.find? fun r => r.key == k

/-- Decide an item's completion and post what may be posted. -/
def State.finish (s : State) (k : ItemKey) (code : Code) (res : List Byte) : State :=
  ({ s with host := s.host.decide k code res }).flush

/-- Mark an item as started (R33), at its place among the events of the cycle (R556). -/
def State.startItem (s : State) (k : ItemKey) : State :=
  let s := s.act rankItem
  { s with host := { s.host with items := s.host.items.map (fun r =>
      if r.key == k then { r with phase := .running, since := s.now } else r) } }

/-- The waiting items of an SQ, oldest first. -/
def HostLink.waitingOf (h : HostLink) (q : Nat) : List ItemRec := h.items.filter fun r => r.key.sq == q && r.phase == .waiting

/-- Entries posted and not released (STATUS0 PENDING). -/
def HostLink.pendingCount (h : HostLink) : Nat := h.cq.length

/-- Accepted items of an SQ whose completion is not posted. -/
def HostLink.accepted (h : HostLink) (q : Nat) : Nat := (h.items.filter (fun r => r.key.sq == q)).length

/-- Posted entries of an SQ that are not released. -/
def HostLink.unreleased (h : HostLink) (q : Nat) : Nat := (h.cq.filter (fun e => e.sq == q)).length

/-! ### Faults: latching and recording (R414 to R416) -/

/-- The lowest free entry of the latch table. -/
def Faults.freeEntry (f : Faults) : Option Nat := findIdx (fun e => e.isNone) f.latches.toList

/-- The entry of a cause and scope. -/
def Faults.entryOf (f : Faults) (c : Cause) (sc : Scope) : Option Nat :=
  findIdx (fun e => match e with | some l => l.cause == c && l.scope == sc | none => false) f.latches.toList

/-- Latch a fault and queue its event record (R415, R416). -/
def State.recordFault (s : State) (c : Cause) (sc : Scope) (detail : List Byte) (flags : Nat := 0) : State :=
  let f := s.faults
  let (latches, overflow, new) :=
    match f.entryOf c sc with
    | some i =>
      match vget f.latches i none with
      | some l => (vset f.latches i (some { l with count := sat 0xFFFF (l.count + 1) }), f.overflow, 0)
      | none => (f.latches, f.overflow, 0)
    | none =>
      match f.freeEntry with
      | some i => (vset f.latches i (some ⟨c, sc, 1, s.us⟩), f.overflow, 1)
      | none => (f.latches, (f.overflow + 1) % 65536, 0)
  let rec1 : EvPending := ⟨s.host.epoch.toNat, c.num, new + flags, sc.num, s.us, padTo 12 detail⟩
  let s := { s with faults := { f with latches := latches, overflow := overflow, lastCause := c.num,
                                       lastScope := sc.num, evPending := f.evPending ++ [rec1] } }
  s.attn (if c.num / 16 = 8 then attnTamper else if c.num / 16 = 0xA then attnEntropy else attnFault)

/-! ### Unusable units (R506, R559) -/

/-- Bit of the unusable map. -/
def State.marked (s : State) (b : Nat) : Bool := s.bist.unus.testBit b

/-- Map bits of the units. -/
def unitBank (b : Nat) : Nat := b
def unitChain (c : Nat) : Nat := 24 + c
def unitCoil (c : Nat) : Nat := 28 + c
def unitAes (e : Nat) : Nat := 36 + e
def unitPka : Nat := 40
def unitEntropy : Nat := 41
def unitUhf : Nat := 42
def unitNfc : Nat := 43
def unitUwbTx : Nat := 44
def unitSynth : Nat := 45
def unitCorr (h : Nat) : Nat := 46 + h
def unitPipe (h : Nat) : Nat := 48 + h
def unitCan : Nat := 50
def unitLfRx : Nat := 51

/-- Mark units, with ATTN_CAUSE BIST for any newly marked (R418, R513). -/
def State.mark (s : State) (m : Nat) : State :=
  if m &&& s.bist.unus = m then s else
    ({ s with bist := { s.bist with unus := s.bist.unus ||| m } }).attn attnBist

/-! ### Waiting for the outside: what must hold before a command can occur -/

/-- The core region is powered and its boot has ended: units act. -/
def State.awake (s : State) : Bool :=
  s.power.mode == .awake && s.power.booting.isNone && !s.power.restoring && s.power.entering.isNone

/-- The host link is served, from the reset on (R507: frames are served during BIST). -/
def State.linkUp (s : State) : Bool := s.power.mode == .awake

/-- Units may act: awake, and neither in a warm reset nor in fault halt (R423 to R425). -/
def State.live (s : State) : Bool :=
  s.awake && (s.faults.mode == .normal || s.faults.mode == .recovery) && !s.sec.scan

end Sys2Proof.Machine
end

