-- ==== Sys2Proof/Machine/PowerOps.lean ====
section
/-! DEFINITION. Power domains and votes (R487 to R490), and what every command ends with: the evaluation of votes. -/

namespace Sys2Proof.Machine

open Sys2Proof

/-- Rise time of a domain, in microseconds (R487). -/
def riseUs (d : Nat) : Nat :=
  if d < 24 then 25 else if d < 30 then 10 else if d = 30 then 150 else if d < 33 then 10
  else if d = 33 then 60 else if d = 34 then 30 else if d < 39 then 40 else if d = 39 then 20
  else if d < 43 then 10 else if d = 43 then 40 else if d < 46 then 15 else if d = 46 then 20
  else if d = 47 then 20 else if d = 48 then 50 else 15

/-- State of domain d. -/
def State.dom (s : State) (d : Nat) : Dom := vget s.power.domains d .down

/-- Domain d is up. -/
def State.domUp (s : State) (d : Nat) : Bool := match s.dom d with | .up => true | _ => false

/-- Domain d is down or falling. -/
def State.domDownOrFalling (s : State) (d : Nat) : Bool :=
  match s.dom d with | .down => true | .falling _ _ => true | _ => false

/-- Domain d is falling. -/
def State.domFalling (s : State) (d : Nat) : Bool := match s.dom d with | .falling _ _ => true | _ => false

/-- Set the state of a domain. -/
def State.setDom (s : State) (d : Nat) (x : Dom) : State :=
  { s with power := { s.power with domains := vset s.power.domains d x } }

/-- Mask of voter v. -/
def State.vote (s : State) (v : Nat) : Nat := vget s.power.votes v 0

/-- Map units that a domain holds (R559). -/
def domUnits (d : Nat) : Nat :=
  if d < 24 then 2 ^ unitBank d
  else if d < 28 then 2 ^ unitChain (d - 24)
  else if d = 28 then 2 ^ unitUwbTx
  else if d = 29 then 2 ^ unitSynth
  else if d = 31 then 2 ^ unitCorr 0
  else if d = 32 then 2 ^ unitCorr 1
  else if d = 33 then 2 ^ unitUhf
  else if d = 34 then 2 ^ unitNfc
  else if 35 ≤ d ∧ d < 39 then 2 ^ unitCoil (2 * (d - 35)) + 2 ^ unitCoil (2 * (d - 35) + 1)
  else if d = 39 then 2 ^ unitLfRx
  else if d = 40 then 2 ^ unitAes 0 + 2 ^ unitAes 1
  else if d = 41 then 2 ^ unitAes 2 + 2 ^ unitAes 3
  else if d = 42 then 2 ^ unitPka
  else if d = 43 then 2 ^ unitEntropy
  else if d = 44 then 2 ^ unitPipe 0
  else if d = 45 then 2 ^ unitPipe 1
  else if d = 47 then 2 ^ unitCan
  else 0

/-- The domain is held down for its marked units: all of them marked, and D43 never (R559). -/
def heldDown (unus d : Nat) : Bool := domUnits d != 0 && d != 43 && (unus &&& domUnits d == domUnits d)

/-- At least one vote stands on domain d; a held-down domain counts the BIST voter V42 only (R489). -/
def voted (votes : Vector Nat 64) (unus d : Nat) : Bool :=
  if heldDown unus d then (vget votes 42 0).testBit d else votes.toList.any (fun m => m.testBit d)

/-- One evaluation of the votes on a domain (R489, R490). -/
def evalDom (now : Nat) (v : Bool) : Dom → Dom
  | .down => if v then .rising now else .down
  | .rising t => .rising t
  | .up => if v then .up else .falling now none
  | .falling t none => if v then .falling t (some now) else .falling t none
  | .falling t (some u) => if v then .falling t (some u) else .falling t none

/-- Evaluate the votes on every domain. -/
def Power.eval (p : Power) (now unus : Nat) : Power :=
  { p with domains := Vector.ofFn (fun i : Fin 50 => evalDom now (voted p.votes unus i.val) (p.domains.get i)) }

/-- A landing holds its bank up: busy, draining, or claimed by a start (R107). -/
def Landing.holdsBank (x : Landing) : Bool :=
  match x.st with
  | .busy | .hold | .scrub | .claimed => true
  | .free | .unusable => false

/-- The landing may take a pipe: busy and in no wait (chapter 03, Pipes and priorities). -/
def Landing.runnable (x : Landing) : Bool := x.busy && x.wait == .none

/-- Number of runnable landings. -/
def State.runnableCount (s : State) : Nat := s.landings.toList.countP Landing.runnable

/-- Or together the numbers of a list. -/
def orAll (l : List Nat) : Nat := l.foldl (· ||| ·) 0

/-- Delay of an internal withdrawal, in microseconds (R107, R114, R143, R171, R236, R255, R442). -/
def holdoffUs (d : Nat) : Nat :=
  if d < 24 then 1000
  else if d < 40 ∧ d ≠ 30 then 2000
  else if d = 45 then 1000
  else 0

end Sys2Proof.Machine
end

