-- ==== Sys2Proof/Machine/Real.lean ====
section
/-! DEFINITION. Fixed-point logarithm, arctangent and square root in units of 2 ^ -80, for the two formulas of the spec
that need them (R147, R219; log 14). -/

namespace Sys2Proof.Machine

open Sys2Proof

/-- One in fixed point. -/
def fxOne : Nat := 2 ^ 80

/-- Pi in fixed point. -/
def fxPi : Nat := 3797952473636338580787993

/-- Sum of z ^ (2k+1) / (2k+1) over n terms, with sign changes for the arctangent; p is z ^ (2k+1). -/
def fxSeries (alt : Bool) (z2 : Int) : Nat → Nat → Int → Int → Int
  | 0, _, _, acc => acc
  | n + 1, k, p, acc =>
    let t := p / (2 * k + 1 : Int)
    let acc := if alt && k % 2 == 1 then acc - t else acc + t
    fxSeries alt z2 n (k + 1) (p * z2 / (fxOne : Int)) acc

/-- ln (a / b) for a ≥ b > 0. -/
def fxLn (a b : Nat) : Nat :=
  let z : Int := ((a - b) * fxOne / (a + b) : Nat)
  (2 * fxSeries false (z * z / (fxOne : Int)) 100 0 z 0).toNat

/-- Square root of a fixed-point number. -/
def fxSqrt (x : Nat) : Nat := isqrt (x * fxOne)

/-- One halving of the angle whose tangent is x: x / (1 + sqrt (1 + x * x)). -/
def fxHalve (x : Int) : Int :=
  let one : Int := fxOne
  x * one / (one + (fxSqrt ((one + x * x / one).toNat) : Int))

/-- Arctangent of a fixed-point number of magnitude at most 1, in radians. -/
def fxAtan1 (x : Int) : Int :=
  let y := fxHalve (fxHalve x)
  4 * fxSeries true (y * y / (fxOne : Int)) 60 0 y 0

/-- Angle of the point (y, x) with x ≥ 0, in radians; 0 at the origin. -/
def fxAtan2 (y x : Int) : Int :=
  let one : Int := fxOne
  if y = 0 then 0
  else if y.natAbs ≤ x.natAbs then fxAtan1 (y * one / x)
  else
    let r := (fxPi : Int) / 2
    if 0 < y then r - fxAtan1 (x * one / y) else -r - fxAtan1 (x * one / y)

/-- Nearest integer to a quotient of integers with a positive divisor, halves upward (R147). -/
def nearestDiv (a : Int) (b : Nat) : Int := (2 * a + b) / (2 * b : Int)

/-- Time that spans cover of the window that ends now, in ticks. -/
def spansIn (spans : List (Nat × Nat)) (now window : Nat) : Nat :=
  spans.foldl (fun a p => a + (min p.2 now - max p.1 (now - window))) 0

/-- Spans as they stand when what they tell of stops at an instant. -/
def cutSpans (spans : List (Nat × Nat)) (now : Nat) : List (Nat × Nat) := spans.map fun p => (p.1, min p.2 now)

/-- The parts of spans from an instant on. -/
def spansFrom (spans : List (Nat × Nat)) (t : Nat) : List (Nat × Nat) := spans.map fun p => (max p.1 t, p.2)

/-- Time that spans cover of the bins that make up a window, the bin of now being the last of them (log 15). -/
def spansBins (spans : List (Nat × Nat)) (now window bin : Nat) : Nat := spansIn spans now (window - bin + now % bin)

end Sys2Proof.Machine
end

