-- ==== Sys2Proof/Machine/LfCore.lean ====
section
/-! DEFINITION. The course of a step of the LF field system: rates, envelope, frame on air, tunes, emission and bridge outputs (R139 to
R167). What a step does between two commands follows from its start and from the instants at which its coils stopped. -/

namespace Sys2Proof.Machine

open Sys2Proof

/-! ### Rates and envelope -/

/-- Ticks of n carrier cycles: n * DIV / 65,536 PERI periods, placed on the nearest ROOT period of 80 ticks (chapter 04,
Carrier). -/
def Lf.cycles (f : Lf) (n : Nat) : Nat := 80 * divRound (n * f.carrier * periT) (65536 * 80)

/-- Cycles per bit of a rate code (R145). -/
def lfBitCycles : Nat → Nat
  | 0 => 64 | 1 => 32 | _ => 16

/-- Highest Q of a rate code, times 4 (R145). -/
def lfMaxQ4 (rate : Nat) (pdOff : Bool) : Nat :=
  match rate, pdOff with
  | 0, false => 400 | 0, true => 200 | 1, false => 200 | 1, true => 100 | _, false => 100 | _, true => 48

/-- Fields of LF_FRAME_CFG, LF_TUNE_CFG and LF_NOISE_CFG. -/
def Lf.pdOff (f : Lf) : Bool := f.frameCfg.testBit 31
def Lf.noisePre (f : Lf) : Nat := bits f.frameCfg 25 16
def Lf.tailSlot (f : Lf) : Nat := bits f.frameCfg 11 8
def Lf.wakeBurst (f : Lf) : Nat := bits f.frameCfg 3 0
def Lf.mismatchLim (f : Lf) : Nat := bits f.tuneCfg 15 8
def Lf.retuneLim (f : Lf) : Nat := bits f.tuneCfg 7 0
def Lf.noiseThr (f : Lf) : Nat := bits f.noiseCfg 31 16
def Lf.ffThr (f : Lf) : Nat := bits f.noiseCfg 15 8
def Lf.noiseMin (f : Lf) : Nat := bits f.noiseCfg 7 0

/-- BOOST of a coil of Q4 and full-duty current ifull at a setpoint in 10 mA units (R147). -/
def lfBoost (pdOff : Bool) (q4 ifull sp : Nat) : Nat :=
  if pdOff || decide (ifull < 11 * sp) then 0 else (q4 * fxLn ifull (ifull - 9 * sp) + fxPi) / (2 * fxPi)

/-- BRAKE of a coil (R147). -/
def lfBrake (pdOff : Bool) (q4 ifull sp : Nat) : Nat :=
  if pdOff || decide (ifull < 11 * sp) then 0 else (q4 * fxLn (10 * sp + ifull) ifull + fxPi) / (2 * fxPi)

/-- CRC-16 of an LF frame (R158). -/
def lfCrc (bs : List Byte) : Nat := crcMsb 16 0x1021 0xFFFF bs

/-- Fields of an LFTX block. -/
def lfMask (b : List Byte) : Nat := byteAt b 8
def lfRate (b : List Byte) : Nat := byteAt b 9
def lfSetpoint (b : List Byte) : Nat := byteAt b 10
def lfKind (b : List Byte) : Nat := byteAt b 11
def lfLen (b : List Byte) : Nat := fieldLE b 14 2

/-- Kinds with a wake burst, and kinds with a tail (R157). -/
def lfWakes (kind : Nat) : Bool := kind == 0 || kind == 2
def lfTails (kind : Nat) : Bool := kind == 1 || kind == 2

/-- Carrier cycles of the parts before the lead gap (R158). -/
def Lf.frameCycles (f : Lf) (b : List Byte) : Nat :=
  (if lfWakes (lfKind b) then f.wakeBurst * 64 else 0) + (4 + 16 + 8 * lfLen b + 16) * lfBitCycles (lfRate b)

/-- Cycles of one tail slot's carrier. -/
def Lf.slotCycles (f : Lf) : Nat := f.tailSlot * 8

/-- Cycles from the start of the frame to the end of the last carrier time (R158, R164). -/
def Lf.airCycles (f : Lf) (b : List Byte) : Nat :=
  f.frameCycles b + (if lfTails (lfKind b) then 16 + popCount 8 (lfMask b) * (f.slotCycles + 8) - 8 else 0)

/-- Ticks of n half-cycles of the carrier. -/
def Lf.halfCycles (f : Lf) (n : Nat) : Nat := 80 * divRound (n * f.carrier * periT) (65536 * 80 * 2)

/-- Cycles of a tune, and those of them in which the coil is driven: six probes of 24 and one of 32 (R149). -/
def tuneCycles : Nat := 224
def tuneDriven : Nat := 176

/-- Q times 4 of a decay counted in carrier cycles: Q = pi * c / 2 (R149), to the nearest quarter (log 200). -/
def tuneQ4 (c : Nat) : Nat := sat 1023 ((2 * fxPi * c + fxOne / 2) / fxOne)

/-- A coil after a tune that ended at a die temperature (R149). -/
def Coil.tuned (t : LfTune) (temp : Int) (c : Coil) : Coil :=
  { c with stale := false, tune := t.code % 64, q4 := tuneQ4 t.decay, ifull := sat 4095 t.ifull, tuneTemp := temp }

/-- A tune ends at the end of the code range with too large a phase (R149). -/
def Lf.outOfRange (f : Lf) (t : LfTune) : Bool := (t.code % 64 == 0 || t.code % 64 == 63) && decide (f.mismatchLim < t.phase.natAbs)

/-- BOOST, BRAKE and LOW_HEADROOM of a driven coil (R147, R148). -/
def Coil.shape (pdOff : Bool) (sp : Nat) (c : Coil) : Coil :=
  { c with boost := lfBoost pdOff c.q4 c.ifull sp, brake := lfBrake pdOff c.q4 c.ifull sp
           lowHeadroom := decide (c.ifull < 25 * sp) }

/-- Phase of a burst: PHASE, MISMATCH and staleness (R150, R151). -/
def Coil.burst (mis ret : Nat) (ph : Int) (c : Coil) : Coil :=
  { c with phase := ph, mismatch := decide (mis < ph.natAbs), stale := c.stale || decide (ret ≤ ph.natAbs) }

/-! ### The frame on air -/

/-- Bits of bytes, most significant first. -/
def msbBits (bs : List Byte) : List Bool := bs.flatMap fun b => (List.range 8).map fun i => b.getLsbD (7 - i)

/-- The bits of a frame from its preamble to its CRC (R158). -/
def lfFrameBits (content : List Byte) : List Bool :=
  [true, true, true, true] ++ msbBits ([0x2D, 0x96] ++ content ++ natBE 2 (lfCrc content))

/-- Manchester code: carrier in each half-bit (chapter 04, Carrier and downlink rates). -/
def manchester (bs : List Bool) : List Bool := bs.flatMap fun b => [b, !b]

/-! ### The course of an LFTX -/

/-- Ticks of the tunes of a run. -/
def Lf.tuneTicks (f : Lf) (r : LfRun) : Nat := if r.tuned = 0 then 0 else f.cycles tuneCycles

/-- Instants at which the pre-window of a run that began at t0 ends, and at which its frame begins. -/
def Lf.preEnd (f : Lf) (t0 : Nat) : Nat := t0 + f.noisePre * usT
def Lf.frameAt (f : Lf) (r : LfRun) (t0 : Nat) : Nat := f.preEnd t0 + f.tuneTicks r

/-- Instant at which a coil stopped. -/
def LfRun.stopAt (r : LfRun) (n : Nat) : Option Nat := (r.stops.find? fun p => p.1 == n).map (·.2)

/-- A coil has not stopped at an instant or before. -/
def LfRun.goesAt (r : LfRun) (n t : Nat) : Bool := match r.stopAt n with | some u => decide (t < u) | none => true

/-- Stop the coils of a mask at an instant. -/
def LfRun.stop (r : LfRun) (m t : Nat) : LfRun :=
  { r with stops := r.stops ++ ((List.range 8).filter fun n => m.testBit n && (r.stopAt n).isNone).map fun n => (n, t) }

/-- Coils that drive the frame: selected, not stopped when it begins, and after a tune still within the rate's Q (R146). -/
def Lf.drivers (f : Lf) (r : LfRun) (at1 : Nat) : Nat :=
  (List.range 8).foldl (fun m n =>
    if r.sel.testBit n && r.goesAt n at1 && decide ((f.coil n).q4 ≤ lfMaxQ4 (lfRate r.blk) f.pdOff) then m + 2 ^ n else m) 0

/-- Tail slot of coil n: start and end of its carrier, by its position in the mask (R158, R159). -/
def Lf.slotOf (f : Lf) (r : LfRun) (at1 n : Nat) : Nat × Nat :=
  let p := popCount 8 (lfMask r.blk % 2 ^ n)
  let c := f.frameCycles r.blk + 16 + p * (f.slotCycles + 8)
  (at1 + f.cycles c, at1 + f.cycles (c + f.slotCycles))

/-- End of coil n's own part: of its tail slot, or of the frame where there is no tail. -/
def Lf.partEnd (f : Lf) (r : LfRun) (at1 n : Nat) : Nat :=
  if lfTails (lfKind r.blk) then (f.slotOf r at1 n).2 else at1 + f.cycles (f.frameCycles r.blk)

/-- Coils that finished both the frame and their own tail slot (R164). -/
def Lf.finished (f : Lf) (r : LfRun) (at1 : Nat) : Nat :=
  (List.range 8).foldl (fun m n =>
    if (f.drivers r at1).testBit n && (match r.stopAt n with | some u => decide (f.partEnd r at1 n ≤ u) | none => true) then m + 2 ^ n
    else m) 0

/-- End of order 10 (R162, R164): the last carrier of the step, and the brake of the coil that drove it. -/
def Lf.lastBrake (f : Lf) (r : LfRun) (at1 : Nat) : Nat :=
  let go := f.finished r at1
  if lfTails (lfKind r.blk) then
    let last := (lfMask r.blk).log2
    (f.slotOf r at1 last).2 + (if go.testBit last then f.halfCycles (f.coil last).brake else 0)
  else
    at1 + f.cycles (f.frameCycles r.blk)
      + f.halfCycles ((List.range 8).foldl (fun m n => if go.testBit n then max m (f.coil n).brake else m) 0)

/-! ### Tunes -/

/-- The tune of one coil ends (R149): code, Q, IFULL and temperature; a coil out of its range stops, and its TUNE_RANGE is to latch. -/
def Lf.takeTune (f : Lf) (r : LfRun) (at1 : Nat) (t : LfTune) : Lf × LfRun :=
  if r.tuned.testBit t.coil && r.goesAt t.coil at1 then
    let f := f.modCoil t.coil (Coil.tuned t r.tuneTemp)
    if f.outOfRange t then
      (f.modCoil t.coil fun c => { c with dump := some (c.dump.getD at1) },
       { r.stop (2 ^ t.coil) at1 with unreported := r.unreported ||| 2 ^ t.coil })
    else (f, r)
  else (f, r)

/-- The frame of an LFTX has begun: the tunes are taken unless the monitor tripped in them (R149, R152), every selected coil has its BOOST,
BRAKE and LOW_HEADROOM (R147, R148), and the frame's bits are on air. -/
def Lf.due (f : Lf) (now : Nat) : Lf :=
  match f.run with
  | none => f
  | some r =>
    match r.start with
    | none => f
    | some t0 =>
      let at1 := f.frameAt r t0
      if !r.tx || r.taken || decide (now < at1) then f else
      let q := if r.tuneTrip then (f, r) else r.tunes.foldl (fun q t => q.1.takeTune q.2 at1 t) (f, r)
      let f := q.1.modMask r.sel (Coil.shape q.1.pdOff (lfSetpoint r.blk))
      { f with run := some { q.2 with taken := true }, sent := if f.drivers q.2 at1 = 0 then f.sent else lfFrameBits r.content }

/-! ### Emission -/

/-- A span of time up to an instant, if it is not empty. -/
def spanTo (a b : Nat) : List (Nat × Nat) := if a < b then [(a, b)] else []

/-- The latest instant up to which a coil of a mask goes on, at most b. -/
def LfRun.lastOf (r : LfRun) (m b : Nat) : Nat :=
  (List.range 8).foldl (fun e n => if m.testBit n then max e (match r.stopAt n with | some u => min u b | none => b) else e) 0

/-- Emission of the step in progress up to an instant: the tunes, the frame, and the slot of every coil that drives it (R159, R167). -/
def Lf.runSpans (f : Lf) (now : Nat) : List (Nat × Nat) :=
  match f.run with
  | none => []
  | some r =>
    match r.start with
    | none => []
    | some t0 =>
      if !r.tx then [] else
      let tu := f.preEnd t0
      let fr := f.frameAt r t0
      let go := f.drivers r fr
      spanTo tu (r.lastOf r.tuned (min now fr))
      ++ spanTo fr (r.lastOf go (min now (fr + f.cycles (f.frameCycles r.blk))))
      ++ (if lfTails (lfKind r.blk) then
            (List.range 8).flatMap fun n =>
              if go.testBit n then
                let w := f.slotOf r fr n
                spanTo w.1 (r.lastOf (2 ^ n) (min now w.2))
              else []
          else [])

/-- Every span of emission up to an instant. -/
def Lf.allSpans (f : Lf) (now : Nat) : List (Nat × Nat) := f.spans ++ f.runSpans now

/-- The step in progress is over at an instant: what it emitted stays counted (R167). -/
def Lf.endRun (f : Lf) (now : Nat) : Lf :=
  { f with spans := (f.allSpans now).filter (fun p => decide (now < p.2 + secT)), run := none }

/-! ### Bridge outputs (R140) -/

/-- What holds the two bridge outputs of a coil. -/
inductive Bridge where
  | drives
  | clampedLow
  | highZ
deriving DecidableEq, Repr

/-- VLF is absent (log 174). -/
def Lf.vlfAbsent (f : Lf) : Bool := f.vlf == 0

/-- Carrier cycles at the start of the frame without modulation: the wake burst (R157, R158). -/
def Lf.burstCycles (f : Lf) (b : List Byte) : Nat := if lfWakes (lfKind b) then f.wakeBurst * 64 else 0

/-- Spans of carrier of a frame that begins at an instant: the wake burst, and each half-bit of carrier on (R157, R158). -/
def Lf.carrierOn (f : Lf) (r : LfRun) (at1 : Nat) : List (Nat × Nat) :=
  let w := f.burstCycles r.blk
  let h := lfBitCycles (lfRate r.blk) / 2
  (if w = 0 then [] else [(at1, at1 + f.cycles w)])
  ++ ((manchester (lfFrameBits r.content)).zipIdx.filter (·.1)).map fun p => (at1 + f.cycles (w + p.2 * h), at1 + f.cycles (w + (p.2 + 1) * h))

/-- The bridge of a coil is active for a span of carrier: until its end, and then for BRAKE half-cycles (R147, R164). -/
def Lf.activeFor (f : Lf) (n now : Nat) (p : Nat × Nat) : Bool :=
  decide (p.1 ≤ now) && decide (now < p.2 + f.halfCycles (f.coil n).brake)

/-- Coil n drives or brakes at an instant: in the driven cycles of a tune, in the carrier of the frame, or in its own slot (R149, R158, R162,
R164). -/
def Lf.drives (f : Lf) (n now : Nat) : Bool :=
  match f.run with
  | none => false
  | some r =>
    match r.start with
    | none => false
    | some t0 =>
      let fr := f.frameAt r t0
      r.tx && r.goesAt n now &&
      ((r.tuned.testBit n && decide (f.preEnd t0 ≤ now) && decide (now < f.preEnd t0 + f.cycles tuneDriven))
       || ((f.drivers r fr).testBit n
           && ((f.carrierOn r fr).any (f.activeFor n now)
               || (lfTails (lfKind r.blk) && f.activeFor n now (f.slotOf r fr n)))))

/-- A dump at an instant is in its first step, BRAKE (R155). -/
def Lf.braking (f : Lf) (n now : Nat) : Bool :=
  match (f.coil n).dump with | some t => decide (now < t + f.halfCycles (f.coil n).brake) | none => false

/-- The bridge outputs LFnP and LFnN (R140): high-impedance while VLF is absent; otherwise held low by the clamp unless the coil drives
or brakes, which takes an enabled coil in a pair domain that is up. -/
def State.bridge (s : State) (n : Nat) : Bridge :=
  let f := s.lf
  if f.vlfAbsent then .highZ
  else if s.domUp (35 + n / 2) && f.coilEn.testBit n
      && (f.braking n s.now || ((f.coil n).dump.isNone && f.drives n s.now)) then .drives
  else .clampedLow

/-! ### Latching -/

/-- Change the LF state. -/
def State.setLf (s : State) (f : Lf) : State := { s with lf := f }

/-- The tunes that have ended are taken (R149). -/
def State.lfDue (s : State) : State := s.setLf (s.lf.due s.now)

/-- Start the dump of the coils of a mask, and stop them in the step that drives them (R155, R164). -/
def State.lfDump (s : State) (m : Nat) : State :=
  let f := s.lf.modMask m fun c => { c with dump := some (c.dump.getD s.now) }
  s.setLf { f with run := f.run.map fun r => r.stop m s.now }

/-- Latch a fault of coil n: bit of its LF_FAULT byte, cause, and the shut-down that follows (R153, R155). -/
def State.lfFault (s : State) (n b : Nat) (c : Cause) : State :=
  let s := s.setLf (s.lf.modCoil n fun c => { c with fault := c.fault ||| 2 ^ b })
  let s := s.recordFault c (.coil n) []
  if b = 3 then s else s.lfDump (2 ^ n)

/-- Latch the TUNE_RANGE of those coils of a mask whose tune found it, with its ATTN_CAUSE and its record (R149, R153). -/
def State.lfReport (s : State) (m : Nat) : State :=
  match s.lf.run with
  | none => s
  | some r =>
    let s := s.setLf { s.lf with run := some { r with unreported := r.unreported &&& (255 ^^^ (m % 256)) } }
    (List.range 8).foldl (fun s n => if (r.unreported &&& m).testBit n then s.lfFault n 2 .lfTuneRange else s) s

/-- The run of the LF system is over: what its tunes found has latched (R153), and what it emitted stays counted (R167). -/
def State.lfIdle (s : State) : State :=
  let s := s.lfDue.lfReport 255
  s.setLf (s.lf.endRun s.now)

end Sys2Proof.Machine
end

