-- ==== Sys2Proof/Machine/Xegrim.lean ====
section
/-! DEFINITION. Step words: their fields (R49), which words are legal (R50, R65, R98), conditions (R53), flight images (R54 to R56). -/

namespace Sys2Proof.Machine

open Sys2Proof

/-- Fields of a step word (R49). -/
structure StepWord where
  op : Nat
  cond : Nat
  d : Nat
  s : Nat
  imm : Nat
deriving DecidableEq, Repr

/-- Split a word into its fields (R49). -/
def stepFields (w : Nat) : StepWord := ⟨bits w 31 26, bits w 25 22, bits w 21 18, bits w 17 14, bits w 13 0⟩

/-- Steps by name: one for each step row of the command table. -/
inductive Step where
  | mov | add | sub | mul | and | or | xor | shl | shr | sar | cmp | tst | adc | sbc | bfx | mhu
  | ldw | ldhu | ldbu | ldhs | stw | sth | stb | swapw
  | jmp | br | call | ret | wait | yield | end_
  | ltset | ltread | ltstop | tmread | airClaim | airRelease
  | lftx | lfrx | uwbpoll | uwbresp | uwbfinal | uhfrx | uhftx | nfcx | nfctree
  | aesk | aesx | derive | drbg | macv
  | fuse | judge | tload | tpass | tfail
  | relopen | relhold | relclose | banister | newel | evtrig | gsend | gwait
deriving DecidableEq, Repr

/-- An arithmetic and logic step takes an extension word: IMM [13:12] is 0b11 (R65). -/
def StepWord.ext (f : StepWord) : Bool := f.op < 0x10 && bits f.imm 13 12 == 3

/-- IMM of an arithmetic step is legal in each operand form (R65). -/
def StepWord.aluImmOk (f : StepWord) : Bool :=
  match bits f.imm 13 12 with
  | 2 => true
  | 3 => bits f.imm 11 0 == 0
  | _ => bits f.imm 11 4 == 0

/-- The step a word names, or none when the word is illegal (R50, R98). -/
def StepWord.step (f : StepWord) : Option Step :=
  let need (b : Bool) (x : Step) : Option Step := if b then some x else none
  let alu (x : Step) := need f.aluImmOk x
  let hi := bits f.imm 13 12
  let blk (x : Step) := need (hi == 0) x
  match f.op with
  | 0x00 => need (f.aluImmOk && f.s == 0) .mov
  | 0x01 => alu .add
  | 0x02 => alu .sub
  | 0x03 => alu .mul
  | 0x04 => alu .and
  | 0x05 => alu .or
  | 0x06 => alu .xor
  | 0x07 => alu .shl
  | 0x08 => alu .shr
  | 0x09 => alu .sar
  | 0x0A => need (f.aluImmOk && f.d == 0) .cmp
  | 0x0B => need (f.aluImmOk && f.d == 0) .tst
  | 0x0C => alu .adc
  | 0x0D => alu .sbc
  | 0x0E => alu .bfx
  | 0x0F => alu .mhu
  | 0x10 => some .ldw
  | 0x11 => some .ldhu
  | 0x12 => some .ldbu
  | 0x13 => some .ldhs
  | 0x14 => some .stw
  | 0x15 => some .sth
  | 0x16 => some .stb
  | 0x17 => some .swapw
  | 0x18 => need (f.d == 0) .jmp
  | 0x19 => need (f.d == 0 && f.s == 0) .br
  | 0x1A => need (f.d == 0) .call
  | 0x1B => need (f.d == 0 && f.s == 0 && f.imm == 0) .ret
  | 0x1C => need (f.s == 0 && bits f.imm 12 4 == 0 && (bit f.imm 13 == 1 || bits f.imm 3 0 != 0)) .wait
  | 0x1D => need (f.d == 0 && f.s == 0 && f.imm == 0) .yield
  | 0x1E => need (f.d == 0 && (if bit f.imm 13 == 1 then bits f.imm 12 0 == 0
                               else f.s == 0 && bits f.imm 12 8 == 0)) .end_
  | 0x20 => need (f.d == 0) .ltset
  | 0x21 => need (f.s == 0 && bits f.imm 13 2 == 0) .ltread
  | 0x22 => need (f.d == 0 && f.s == 0 && bits f.imm 13 2 == 0) .ltstop
  | 0x23 => need (f.s == 0 && bits f.imm 13 4 == 0) .tmread
  | 0x24 => blk .lftx
  | 0x25 => blk .lfrx
  | 0x26 => blk .uwbpoll
  | 0x27 => blk .uwbresp
  | 0x28 => blk .uwbfinal
  | 0x29 => blk .uhfrx
  | 0x2A => blk .uhftx
  | 0x2B => blk .nfcx
  | 0x2C => blk .nfctree
  | 0x2D =>
    if bits f.imm 11 4 == 0 then
      match hi with
      | 0 => some .airClaim
      | 1 => need (f.s == 0) .airRelease
      | _ => none
    else none
  | 0x30 => need (f.s == 0 && bits f.imm 9 8 == 0 && decide (hi < 2)) .aesk
  | 0x31 => blk .aesx
  | 0x32 => blk .derive
  | 0x33 => need (if bit f.imm 13 == 1 then bit f.imm 12 == 0 && bits f.imm 7 6 == 0
                  else bits f.imm 12 6 == 0) .drbg
  | 0x34 => blk .macv
  | 0x38 => need (f.d == 0 && bits f.imm 13 10 < 6) .fuse
  | 0x39 => need (f.s == 0 && bits f.imm 13 8 == 0) .judge
  | 0x3A => need (f.imm == 0) .tload
  | 0x3B => need (bits f.imm 12 0 == 0) (if bit f.imm 13 == 0 then .tpass else .tfail) |>.bind fun x =>
      if x = .tfail ∧ f.s ≠ 0 then none else some x
  | 0x3C =>
    match hi with
    | 0 => some .relopen
    | 1 => need (f.s == 0 && bits f.imm 11 0 == 0) .relhold
    | 2 => need (f.s == 0 && bits f.imm 11 0 == 0) .relclose
    | _ => none
  | 0x3D => if bits f.imm 12 0 == 0 && f.s == 0 then
      (if bit f.imm 13 == 0 then need (f.d == 0) .banister else some .newel) else none
  | 0x3E =>
    match hi with
    | 0 => need (f.s == 0 && bits f.imm 11 8 == 0) .evtrig
    | 1 => some .gsend
    | 2 => some .gwait
    | _ => none
  | _ => none

/-- The condition passes (table of chapter 02, R53). -/
def condPasses (c : Nat) (f : Flags) : Bool :=
  match c with
  | 0x0 => f.f
  | 0x1 => !f.f
  | 0x2 => f.d
  | 0x3 => f.z
  | 0x4 => !f.z
  | 0x5 => f.n
  | 0x6 => !f.n
  | 0x7 => f.c
  | 0x8 => !f.c
  | 0x9 => f.v
  | 0xA => !f.v
  | 0xB => f.c && !f.z
  | 0xC => !f.c || f.z
  | 0xD => f.n == f.v
  | 0xE => f.n != f.v
  | _ => true

/-- Word at a step address of a code hall. -/
def codeWord (code : List Byte) (a : Nat) : Nat := fieldLE code (4 * a) 4

/-- Extension-word addresses and legality of a code hall decoded in order from address 0 (R56): answers the
addresses of the steps, or none at the first illegal word. -/
def walkCode (code : List Byte) : Nat → Nat → Option (List Nat)
  | 0, a => if a * 4 = code.length then some [] else none
  | fuel + 1, a =>
    if a * 4 = code.length then some [] else
    if code.length < a * 4 then none else
    let f := stepFields (codeWord code a)
    match f.step with
    | none => none
    | some _ => (walkCode code fuel (a + (if f.ext then 2 else 1))).map (a :: ·)

/-- Step addresses of a legal code hall. -/
def codeSteps (code : List Byte) : Option (List Nat) := walkCode code (code.length / 4 + 1) 0

/-- The static target of a BR, or of a JMP or CALL with S = 0 (R56). -/
def staticTarget (a : Nat) (f : StepWord) : Option Int :=
  match f.op with
  | 0x19 => some ((a : Int) + sgn 14 f.imm)
  | 0x18 => if f.s = 0 then some (f.imm : Int) else none
  | 0x1A => if f.s = 0 then some (f.imm : Int) else none
  | _ => none

/-- Parse and check the header of an image, R56 with the ranges of the table; none when a field is out of range. -/
def parseHdr (img : List Byte) : Option ImgHdr :=
  let u (o n : Nat) := fieldLE img o n
  let fl := u 6 2
  let h : ImgHdr :=
    { tenant := fl.testBit 0, release := fl.testBit 1, cascade := fl.testBit 2, cir := fl.testBit 3,
      codeLen := u 8 2, dataLen := u 10 2, initLen := u 12 2, entry := u 14 2, shared := u 16 1,
      runLimit := u 18 2 }
  if img.length ≥ 32 ∧ img.take 4 = [0x58, 0x47, 0x46, 0x31] ∧ u 4 2 = 0x20 ∧ fl < 16
    ∧ 4 ≤ h.codeLen ∧ h.codeLen ≤ 32768 ∧ h.codeLen % 4 = 0
    ∧ 64 ≤ h.dataLen ∧ h.dataLen ≤ 16384 ∧ h.dataLen % 64 = 0
    ∧ h.initLen ≤ h.dataLen ∧ h.initLen % 4 = 0
    ∧ (h.shared < 16 ∨ h.shared = 0xFF) ∧ u 17 1 = 0 ∧ 1 ≤ h.runLimit ∧ u 20 2 = 1
    ∧ zerosAt img 22 10 = true
  then some h else none

/-- The code of an image meets R56. -/
def codeLegal (h : ImgHdr) (code : List Byte) : Bool :=
  match codeSteps code with
  | none => false
  | some steps =>
    steps.contains h.entry &&
    steps.all (fun a => match staticTarget a (stepFields (codeWord code a)) with
      | none => true
      | some t => decide (0 ≤ t) && steps.contains t.toNat)

/-- A whole image meets R56; RELEASE may be set only in a library image (R406). -/
def parseImage (library : Bool) (slot : Nat) (img : List Byte) : Option Image :=
  match parseHdr img with
  | none => none
  | some h =>
    if img.length = 32 + h.codeLen + h.initLen ∧ (library = true ∨ h.release = false)
      ∧ codeLegal h ((img.drop 32).take h.codeLen) = true
    then some ⟨slot, h, (img.drop 32).take h.codeLen, (img.drop (32 + h.codeLen)).take h.initLen, false, []⟩
    else none

end Sys2Proof.Machine
end

