-- ==== Sys2Proof/Machine/HallOps.lean ====
section
/-! DEFINITION. Halls: bounds, permissions and poison (R67, R122 to R125, R132, R562), and the data-hall pool (R123). -/

namespace Sys2Proof.Machine

open Sys2Proof

/-- The image a landing runs. -/
def State.imageOf (s : State) (l : Nat) : Option Image := Tbl.find s.halls.images (s.land l).image

/-- Code of the image a landing runs. -/
def State.codeOf (s : State) (l : Nat) : List Byte :=
  match s.imageOf l with | some i => i.code | none => []

/-- Template of the shared hall of a landing, when it has one. -/
def State.tplOf (s : State) (l : Nat) : Option SharedTpl :=
  match s.imageOf l with
  | some i => if i.hdr.shared < 16 then some (vget s.halls.templates i.hdr.shared ⟨0, 0, 0⟩) else none
  | none => none

/-- LIMIT of a hall; a hall that is not bound has LIMIT 0 (R122). -/
def State.hallLimit (s : State) (l h : Nat) : Nat :=
  let x := s.land l
  if !x.hallsBound then 0 else
  match h with
  | 0 => (s.codeOf l).length
  | 1 => x.dataLen
  | 2 => if x.cirBuf.isSome then 32768 else 0
  | _ => match s.tplOf l with | some t => t.limit | none => 0

/-- Permission word of a hall (R125). -/
def State.hallPerm (s : State) (l h : Nat) : Nat :=
  match h with
  | 0 => s.halls.permCode
  | 1 => s.halls.permData
  | 2 => s.halls.permCir
  | _ => match s.tplOf l with | some t => t.perm | none => 0

/-- Permission bits of R125. -/
def permRd : Nat := 0
def permW : Nat := 1
def permSw : Nat := 2
def permHr : Nat := 3
def permHw : Nat := 4

/-- Byte offset of an image's code in the flight-hall region (R123): in the loaded-image area for slots 0x00 to 0x7F, in the library code
area for the others. Its place within that area is a free value (log 5). -/
def imageBase (slot image len : Nat) : Nat :=
  if slot < 0x80 then Config.imageBase image % (0x10000 - len + 1) else 0x10000 + Config.imageBase image % (0x20000 - len + 1)

/-- Byte offset of a hall in its own region (R123). -/
def State.hallBase (s : State) (l h : Nat) : Nat :=
  let x := s.land l
  if !x.hallsBound then 0 else
  match h with
  | 0 => imageBase x.slot x.image (s.codeOf l).length
  | 1 => x.dataBase
  | 2 => match x.cirBuf with | some b => 0x8000 * b | none => 0
  | _ => match s.tplOf l with | some t => t.base | none => 0

/-- Read n bytes of a hall. -/
def State.hallRead (s : State) (l h off n : Nat) : List Byte :=
  match h with
  | 0 => sliceP (s.codeOf l) off n
  | 1 => s.halls.pool.readN (s.hallBase l 1 + off) n
  | 2 => s.halls.cir.readN (s.hallBase l 2 + off) n
  | _ => s.halls.shared.readN (s.hallBase l 3 + off) n

/-- Write bytes into a hall; the code hall takes no writes (R122). -/
def State.hallWrite (s : State) (l h off : Nat) (bs : List Byte) : State :=
  match h with
  | 0 => s
  | 1 => { s with halls := { s.halls with pool := s.halls.pool.writeN (s.hallBase l 1 + off) bs } }
  | 2 => { s with halls := { s.halls with cir := s.halls.cir.writeN (s.hallBase l 2 + off) bs } }
  | _ => { s with halls := { s.halls with shared := s.halls.shared.writeN (s.hallBase l 3 + off) bs } }

/-- Poison list of a hall's region, and the granule number in the region of the hall's offset. -/
def State.hallPoisonList (s : State) (l h : Nat) : List Nat :=
  match h with
  | 0 => match s.imageOf l with | some i => i.poison | none => []
  | 1 => s.halls.poolPoison
  | 2 => s.halls.cirPoison
  | _ => s.halls.sharedPoison

/-- A range of a hall touches a poison-tagged granule (R132). -/
def State.hallPoisoned (s : State) (l h off n : Nat) : Bool :=
  if n = 0 then false else
  let b := s.hallBase l h + off
  (s.hallPoisonList l h).any (fun g => decide (b / 32 ≤ g) && decide (g ≤ (b + n - 1) / 32))

/-- Change the tagged granules of a hall's region; those of a code hall belong to its image. -/
def State.setHallPoison (s : State) (l h : Nat) (f : List Nat → List Nat) : State :=
  match h with
  | 0 => { s with halls := { s.halls with images := s.halls.images.map fun e =>
      if e.1 == (s.land l).image then (e.1, { e.2 with poison := f e.2.poison }) else e } }
  | 1 => { s with halls := { s.halls with poolPoison := f s.halls.poolPoison } }
  | 2 => { s with halls := { s.halls with cirPoison := f s.halls.cirPoison } }
  | _ => { s with halls := { s.halls with sharedPoison := f s.halls.sharedPoison } }

/-- Insert the numbers from lo to hi. -/
def insRange (lo hi : Nat) (l : List Nat) : List Nat :=
  (List.range (hi + 1 - lo)).foldl (fun a i => insN (lo + i) a) l

/-- A hall range passes bounds, permission bit and poison, in that order (R562; the order of the fault list of R67). -/
def State.rangeFault (s : State) (l h off n perm : Nat) : Option StepFault :=
  if n = 0 then none
  else if s.hallLimit l h < off + n then some .hallBound
  else if !(s.hallPerm l h).testBit perm then some .hallPerm
  else if s.hallPoisoned l h off n then some .hallPerm
  else none

/-- The first fault of a list of checks. -/
def firstFault : List (Option StepFault) → Option StepFault
  | [] => none
  | some f :: _ => some f
  | none :: t => firstFault t

/-! ### The data-hall pool (R123) -/

/-- Bytes of the data-hall pool: 320 KiB. -/
def poolBytes : Nat := 327680

/-- Runs of the pool in use: the data halls of landings, and the withdrawn 4 KiB banks (R508). -/
def State.poolUsed (s : State) : List (Nat × Nat) :=
  (s.landings.toList.filterMap (fun x => if x.hallsBound && x.dataLen != 0 then some (x.dataBase, x.dataLen) else none))
  ++ s.bist.poolOut.map (fun b => (4096 * b, 4096))

/-- A run overlaps a used run. -/
def overlaps (used : List (Nat × Nat)) (b n : Nat) : Bool :=
  used.any (fun u => decide (b < u.1 + u.2) && decide (u.1 < b + n))

/-- The lowest-addressed free run of n bytes on a 64-byte boundary. Candidates are 0 and the ends of used runs. -/
def State.poolFind (s : State) (n : Nat) : Option Nat :=
  let used := s.poolUsed
  let cands := (0 :: used.map (fun u => (u.1 + u.2 + 63) / 64 * 64)).filter
    (fun b => decide (b + n ≤ poolBytes) && !overlaps used b n)
  cands.foldl (fun m b => match m with | none => some b | some a => some (min a b)) none

/-- Free bytes of the pool: its 64-byte units that no used run touches. -/
def State.poolFree (s : State) : Nat := 64 * ((List.range 5120).filter fun u => !overlaps s.poolUsed (64 * u) 64).length

/-- Largest free run: from 0 or the end of a used run to the next used run or the end of the pool. -/
def State.poolLargest (s : State) : Nat :=
  let used := s.poolUsed
  (0 :: used.map (fun u => u.1 + u.2)).foldl (fun m b =>
    let e := used.foldl (fun e u => if b ≤ u.1 ∧ u.1 < e then u.1 else e) poolBytes
    if overlaps used b 1 || decide (poolBytes ≤ b) then m else max m (e - b)) 0

/-- The lowest free CIR buffer (R101); withdrawn buffers are not free (R508). -/
def State.cirFind (s : State) : Option Nat :=
  (List.range 16).find? (fun b => !s.bist.cirOut.contains b &&
    !s.landings.toList.any (fun x => x.cirBuf == some b))

end Sys2Proof.Machine
end

