-- ==== Sys2Proof/Machine/EvidenceOps.lean ====
section
/-! DEFINITION. Counting time, vehicle time and lockout of tenants (R314, R322 to R326), and the evidence recorder (R299 to R310). -/

namespace Sys2Proof.Machine

open Sys2Proof

/-- CRC-32 of IEEE 802.3 (chapter 09, Layout). -/
def crc32 (bs : List Byte) : Nat := 0xFFFFFFFF ^^^ crcLsb 0xEDB88320 0xFFFFFFFF bs

/-! ### Counting time and vehicle time -/

/-- Ticks that SLOW counts from the start of a stay in LOBBY: it drifts by at most 0.5 % (R475, R552; log 233). -/
def slowCounts (t now : Nat) : Nat := (now - t) * (1000000 + max (-5000) (min 5000 (Config.slowDrift t))).toNat / 1000000

/-- Ticks by which SLOW has counted more or less than passed in LOBBY, up to now (R475). -/
def Power.skewTotal (p : Power) (now : Nat) : Int :=
  p.slowSkew + (match p.slowSince with | some t => (slowCounts t now : Int) - (now - t : Nat) | none => 0)

/-- Ticks that lockout and window times have counted: all but those spent in VESTIBULE (R324); those spent in LOBBY as SLOW counts
them (R475). -/
def State.counting (s : State) : Nat :=
  ((s.now - s.power.vestTicks - (match s.power.vestSince with | some t => s.now - t | none => 0) : Nat)
    + s.power.skewTotal s.now : Int).toNat

/-- Vehicle time, while it is valid (R314): it counts on from the write of TEN_TIME, SLOW cycles in LOBBY (R475). -/
def State.vehicle (s : State) : Option Nat := s.ten.time.map fun t => (t.1 + (s.counting - t.2) / secT) % 2 ^ 32

/-- Whole seconds from now to an instant of counting time, a part of a second counted whole. -/
def State.leftS (s : State) (e : Option Nat) : Nat :=
  match e with | some t => (t - s.counting + (secT - 1)) / secT | none => 0

/-- Tenant t. -/
def State.tenant (s : State) (t : Nat) : Option Tenant := Tbl.find s.ten.recs t

/-- The tenant shows in TEN_LIFE_MAP: active or suspended, with a LIFE flag set (R326). -/
def Tenant.flagged (r : Tenant) : Bool := (r.st == 1 || r.st == 2) && r.life != 0

/-- Change tenant t. -/
def State.modTenant (s : State) (t : Nat) (f : Tenant → Tenant) : State :=
  match s.tenant t with
  | some r => { s with ten := { s.ten with recs := Tbl.put s.ten.recs t (f r) } }
  | none => s

/-- Lockout limits of the provisioning record, or their defaults: TEN_LOCK_CFG0 to TEN_LOCK_CFG2. -/
def State.lockCfg (s : State) (i : Nat) : Nat :=
  match s.life.inForce with
  | some p => match p.lockout with
    | some l => l.getD i 0
    | none => [0x012C0005, 0x03840258, 0x14].getD i 0
  | none => [0x012C0005, 0x03840258, 0x14].getD i 0

def State.lockLim (s : State) : Nat := bits (s.lockCfg 0) 7 0
def State.lockS (s : State) : Nat := bits (s.lockCfg 0) 31 16
def State.learnLockS (s : State) : Nat := bits (s.lockCfg 1) 31 16
def State.windowS (s : State) : Nat := bits (s.lockCfg 1) 15 0
def State.groupCount (s : State) : Nat := bits (s.lockCfg 2) 7 0

/-- Failures of the last WIN_S seconds of counting time. -/
def State.windowFails (s : State) : List Nat :=
  s.ten.window.filter fun t => decide (s.counting < t + s.windowS * secT)

/-- Learning lockout in force. -/
def State.learnLocked (s : State) : Bool := s.ten.learnEnd.isSome

/-- Failures older than WIN_S leave the window (R323, R431). -/
def State.ageWindow (s : State) : State :=
  let w := s.windowFails
  { s with ten := { s.ten with window := w, aged := s.ten.aged + (s.ten.window.length - w.length) } }

/-- One failure enters the learning window (R323). -/
def State.learnFail (s : State) : State :=
  let s := s.ageWindow
  let w := s.ten.window ++ [s.counting]
  let t := { s.ten with added := s.ten.added + 1 }
  if !s.learnLocked && decide (s.groupCount ≤ w.length) then
    { s with ten := { t with window := [], emptied := t.emptied + w.length
                             learnEnd := some (s.counting + s.learnLockS * secT) } }
  else { s with ten := { t with window := w } }

/-- LIFE flags of a tenant (R326). -/
def State.lifeFlags (s : State) (r : Tenant) : Nat :=
  let low := bits s.ten.lifeCfg 7 0
  let warn := bits s.ten.lifeCfg 15 8
  let space := (r.climit : Int) - r.counter
  let ends := match s.vehicle with
    | some now => if r.vuntil = 0xFFFFFFFF then 0 else
        b2n (decide ((r.vuntil : Int) - now < warn * 86400)) * 8 + b2n (decide (r.vuntil ≤ now)) * 16
    | none => 0
  b2n (r.tstatus.testBit 0 || (r.batt != 0 && decide (r.batt < low)))
  + b2n (r.tstatus.testBit 1 || (r.climit != 0 && decide (16 * space < (r.climit : Int)))) * 2
  + b2n (r.ttype == 1 && r.elimit != 0 && decide (16 * r.elimit ≤ 16 * r.passes + r.elimit)) * 4
  + ends

/-- Recompute every tenant's LIFE flags. -/
def State.lifeAll (s : State) : State :=
  { s with ten := { s.ten with recs := s.ten.recs.map fun e => (e.1, { e.2 with life := s.lifeFlags e.2 }) } }

/-! ### The recorder -/

/-- PRE, POST, POST_MS, SRC and AUTO in force. -/
def Recorder.preMax (r : Recorder) : Nat := bits r.cfg 6 0
def Recorder.postMax (r : Recorder) : Nat := bits r.cfg 22 16
def Recorder.src (r : Recorder) (b : Nat) : Bool := r.cfg.testBit (24 + b)
def Recorder.auto (r : Recorder) (b : Nat) : Bool := r.cfg.testBit (28 + b)

/-- Records of the ring and of the open capture. -/
def Recorder.capturing (r : Recorder) : List Nat :=
  r.ring ++ (match r.cap with | some c => c.trig :: (c.pre ++ c.post) | none => [])

/-- Records of published captures. -/
def Recorder.filled (r : Recorder) : List Nat := r.captures.flatMap (·.2)

/-- Number of free records. -/
def Recorder.freeCount (r : Recorder) : Nat := 256 - r.capturing.length - r.filled.length

/-- The lowest-numbered free record (R300). -/
def Recorder.free (r : Recorder) : Option Nat :=
  (List.range 256).find? fun n => !r.capturing.contains n && !r.filled.contains n

/-- Drop the oldest ring records beyond the limit. -/
def Recorder.trim (r : Recorder) : Recorder :=
  let n := r.ring.length - r.preMax
  { r with ring := r.ring.drop n, recs := (r.ring.take n).foldl (fun t k => Tbl.del t k) r.recs }

/-- Header of a record (chapter 09, Record layout). `l` is the landing, when there is one. -/
def State.recHeader (s : State) (kind n seq : Nat) (l : Option Nat) : List Byte :=
  let x := match l with | some i => s.land i | none => Landing.free
  let tn := x.tenant.bind s.tenant
  let cf := match tn with | some t => t.cf | none => 0
  let locked := match tn with | some t => b2n t.lockEnd.isSome | none => 0
  natLE 2 1 ++ natLE 1 kind ++ natLE 1 0 ++ natLE 2 n ++ natLE 2 s.host.epoch.toNat ++ natLE 8 s.us ++ natLE 4 seq
  ++ natLE 2 (l.getD 0xFFFF) ++ natLE 2 (x.tenant.getD 0xFFFF) ++ natLE 1 x.slot ++ natLE 1 x.prio ++ natLE 2 x.pc
  ++ natLE 4 (match tn with | some t => t.counter | none => 0) ++ natLE 1 cf
  ++ natLE 1 (locked + 2 * b2n s.learnLocked) ++ natLE 2 0 ++ natLE 8 s.rel.lastSent ++ List.replicate 20 0

/-- The trigger record of a capture at its publication. -/
def Recorder.triggerRecord (r : Recorder) (c : Capture) (reason : Nat) : List Byte :=
  let e (t : EvdTrigger) : List Byte := natLE 1 t.src ++ natLE 1 t.tag ++ natLE 2 t.land ++ natLE 4 t.us
  c.header ++ natLE 1 c.triggers.length ++ natLE 1 (sat 255 c.joins) ++ natLE 1 c.pre.length ++ natLE 1 c.post.length
  ++ natLE 1 r.preMax ++ natLE 1 r.postMax ++ natLE 1 reason ++ natLE 1 0
  ++ padTo 32 (c.triggers.flatMap e) ++ (c.pre ++ c.post).flatMap (natLE 1)

/-- POST ends: the open capture is published and the recorder enters REARM (R304). -/
def State.closeCap (s : State) (reason : Nat) : State :=
  match s.evd.cap with
  | none => s
  | some c =>
    { s with evd := { s.evd with mode := .rearm, cap := none, pubAt := s.now
                                 recs := Tbl.put s.evd.recs c.trig (s.evd.triggerRecord c reason)
                                 captures := Tbl.put s.evd.captures c.trig (c.trig :: (c.pre ++ c.post)) } }

/-- Put a record's bytes in place and advance the sequence. -/
def State.putRec (s : State) (n kind : Nat) (l : Option Nat) (body : List Byte) : State :=
  let seq := s.evd.seq + 1
  { s with evd := { s.evd with seq := seq, recs := Tbl.put s.evd.recs n (s.recHeader kind n seq l ++ body) } }

/-- Write a record into the ring (R300, R302). -/
def State.ringRec (s : State) (kind : Nat) (l : Option Nat) (body : List Byte) : State :=
  match s.evd.free with
  | some n =>
    let s := s.putRec n kind l body
    { s with evd := ({ s.evd with ring := s.evd.ring ++ [n] } : Recorder).trim }
  | none =>
    match s.evd.ring with
    | n :: t =>
      let s := s.putRec n kind l body
      { s with evd := { s.evd with ring := t ++ [n] } }
    | [] => { s with evd := { s.evd with drops := (s.evd.drops + 1) % 2 ^ 32 } }

/-- Write a record for an event (R300, R302, R304). -/
def State.evdRecord (s : State) (kind : Nat) (l : Option Nat) (body : List Byte) : State :=
  match s.evd.mode, s.evd.cap with
  | .post, some c =>
    match s.evd.free with
    | some n =>
      let s := s.putRec n kind l body
      let c := { c with post := c.post ++ [n] }
      let s := { s with evd := { s.evd with cap := some c } }
      if s.evd.postMax ≤ c.post.length then s.closeCap 1 else s
    | none => (s.closeCap 4).ringRec kind l body
  | _, _ => s.ringRec kind l body

/-- A trigger is missed (R305). -/
def State.evdMiss (s : State) (why : Nat) : State :=
  let r := s.evd
  { s with evd := { r with misses := (r.misses + 1) % 2 ^ 32, missAt := if r.why = 0 then s.us else r.missAt
                           why := if r.why = 0 then why else r.why } }

/-- A trigger (R303, R305, R306): answers the number of the trigger record, when it was not missed. -/
def State.evdTrigger (s : State) (src tag : Nat) (l : Nat) : State × Option Nat :=
  let s := { s with evd := { s.evd with trigs := (s.evd.trigs + 1) % 2 ^ 32 } }
  let t : EvdTrigger := ⟨src, tag, l, s.us % 2 ^ 32⟩
  match s.evd.mode, s.evd.cap with
  | .post, some c =>
    let c := { c with joins := c.joins + 1, lands := insN l c.lands
                      triggers := if c.triggers.length < 4 then c.triggers ++ [t] else c.triggers }
    ({ s with evd := { s.evd with cap := some c, joins := (s.evd.joins + 1) % 2 ^ 32 } }, some c.trig)
  | .armed, _ =>
    match s.evd.free with
    | some n =>
      let seq := s.evd.seq + 1
      let c : Capture := { trig := n, header := s.recHeader 5 n seq (some l), pre := s.evd.ring, post := [],
                           triggers := [t], joins := 0, lands := [l], since := s.now }
      ({ s with evd := { s.evd with mode := .post, cap := some c, ring := [], seq := seq, lastTrig := n
                                    capts := (s.evd.capts + 1) % 2 ^ 32 } }, some n)
    | none => (s.evdMiss 2, none)
  | _, _ => (s.evdMiss 1, none)

/-- An automatic trigger of AUTO bit b (R307). -/
def State.evdAuto (s : State) (b l : Nat) : State := if s.evd.auto b then (s.evdTrigger (b + 2) 0 l).1 else s

/-- A landing that triggered or joined the open capture executes a BANISTER (R304). -/
def State.evdBanister (s : State) (l : Nat) : State :=
  match s.evd.cap with
  | some c => if c.lands.contains l then s.closeCap 3 else s
  | none => s

/-- Every capture the landing triggered or joined is published (R92, R304). -/
def State.evdClear (s : State) (l : Nat) : Bool :=
  match s.evd.cap with | some c => !c.lands.contains l | none => true

/-- Entry to ARMED: register values written meanwhile come into force (R310). -/
def Recorder.arm (r : Recorder) : Recorder :=
  ({ r with mode := .armed, cfg := r.cfgNext.getD r.cfg, cfg1 := r.cfg1Next.getD r.cfg1
            cfgNext := none, cfg1Next := none } : Recorder).trim

/-- A warm reset publishes the open capture and frees the ring (R309). -/
def State.evdWarm (s : State) : State :=
  let s := s.closeCap 5
  { s with evd := { s.evd with ring := [], recs := s.evd.ring.foldl (fun t k => Tbl.del t k) s.evd.recs } }

/-- Step OP of a field step (table of chapter 02). -/
def FieldKind.op : FieldKind → Nat
  | .lftx => 0x24 | .lfrx => 0x25 | .uwbpoll => 0x26 | .uwbresp => 0x27 | .uwbfinal => 0x28
  | .uhfrx => 0x29 | .uhftx => 0x2A | .nfcx => 0x2B | .nfctree => 0x2C

/-- The token note of a landing takes in an UHFRX result of the bound tenant's token (R325). -/
def State.tokenNote (s : State) (l : Nat) (j : FieldJob) : State :=
  let x := s.land l
  match x.tenant.bind s.tenant with
  | some t =>
    let res := s.hallRead l 1 (fieldLE j.blk 0 2) 64
    let ty := byteAt res 16
    if j.kind == .uhfrx && byteAt res 0 == 0 && (ty == 0xE2 || ty == 0xE5) && fieldLE res 20 4 == t.tokid then
      s.modLand l fun x => { x with battery := some (byteAt res 28)
                                    status := if ty = 0xE2 then some (byteAt res 17) else x.status }
    else s
  | none => s

/-- Record of a field step at its end (R300). -/
def State.evdField (s : State) (l : Nat) (j : FieldJob) : State :=
  if s.evd.src 1 then
    s.evdRecord 2 (some l) (natLE 1 j.kind.op ++ List.replicate 7 0 ++ padTo 64 j.blk
      ++ padTo 256 (s.hallRead l 1 (fieldLE j.blk 0 2) (min j.resLen 256)))
  else s

end Sys2Proof.Machine
end

