-- ==== Sys2Proof/Machine/Scopes.lean ====
section
/-! DEFINITION. Scopes of faults: what lies inside a scope set (R417), and the units that a scope maps to (R559). -/

namespace Sys2Proof.Machine

open Sys2Proof

/-- Domain of an engine (R344). -/
def engineDomain (e : Nat) : Nat :=
  if e < 4 then 40 + e / 2 else if e = 4 ∨ e = 9 then 42 else if e = 6 then 47 else if e = 7 then 31 else 43

/-- Scope t contains scope sc, other than by equality (R417). -/
def Scope.contains (t sc : Scope) : Bool :=
  match t, sc with
  | .device, _ => true
  | .bank b, .landing n => n / 8 == b
  | .domain d, .landing n => decide (d < 24) && n / 8 == d
  | .domain d, .bank b => decide (d < 24) && b == d
  | .domain d, .coil n => decide (35 ≤ d) && decide (d < 39) && n / 2 == d - 35
  | .domain d, .uwbPort n => if n < 4 then d == 24 + n else d == 28
  | .domain d, .engine e => e != 8 && (d == engineDomain e || (e == 7 && d == 32))
  | .domain d, .pipeHalf h => d == 44 + h
  | _, _ => false

/-- A scope lies inside a set of scopes (R417). -/
def insideSet (set : List Scope) (sc : Scope) : Bool := set.any fun t => t == sc || t.contains sc

/-- The scope lies inside the set of the recovery that runs. -/
def State.inSet (s : State) (sc : Scope) : Bool := s.faults.mode == .recovery && insideSet s.faults.scopes sc

/-- An engine lies inside a set: engines 4 and 9 are one unit, the public-key accelerator (R419, R559). -/
def engineInside (set : List Scope) (e : Nat) : Bool :=
  insideSet set (.engine e) || ((e == 4 || e == 9) && (insideSet set (.engine 4) || insideSet set (.engine 9)))

/-- The engine lies inside the set of the recovery that runs. -/
def State.engineHeld (s : State) (e : Nat) : Bool := s.faults.mode == .recovery && engineInside s.faults.scopes e

/-- Map units of an engine (R559). -/
def engineUnits (e : Nat) : Nat :=
  if e < 4 then 2 ^ unitAes e
  else if e = 4 ∨ e = 9 then 2 ^ unitPka
  else if e = 5 ∨ e = 10 then 2 ^ unitEntropy
  else if e = 6 then 2 ^ unitCan
  else if e = 7 then 2 ^ unitCorr 0 + 2 ^ unitCorr 1
  else 0

/-- Map units of a scope (R559). -/
def scopeUnits : Scope → Nat
  | .bank b => 2 ^ unitBank b
  | .domain d => domUnits d
  | .engine e => engineUnits e
  | .pipeHalf h => 2 ^ unitPipe h
  | _ => 0

/-- Causes whose Repair marks the units of their scope (R418, R422). -/
def Cause.marks : Cause → Bool
  | .uwbSynth | .uhfSynth | .engineStall | .domainRise | .bankRepeat | .pipeStall => true
  | _ => false

/-- Units that are stopped because they lie in the set of the recovery that runs (R418 step 1). -/
def State.setUnits (s : State) : Nat :=
  if s.faults.mode == .recovery then
    (if s.faults.scopes.contains .device then 2 ^ 52 - 1 else orAll (s.faults.scopes.map scopeUnits))
  else 0

/-- Units that the tests of a scope mask test (R507). -/
def scopeTests (scope : Nat) : Nat :=
  let on (b m : Nat) : Nat := if scope.testBit b then m else 0
  orAll [on 1 (2 ^ 24 - 1), on 2 (0xF * 2 ^ 36 + 2 ^ unitEntropy + 2 ^ unitCan), on 3 (2 ^ unitPka), on 4 (2 ^ unitEntropy),
    on 5 (0xF * 2 ^ 24 + 2 ^ unitUwbTx + 2 ^ unitSynth + 3 * 2 ^ 46), on 6 (0xFF * 2 ^ 28 + 2 ^ unitLfRx)]

/-- Domains that V42 votes for a BIST of these scopes: those that hold a unit under test (R489, R511), D43 with vault SRAM for the
SRAM test and D46 for the NVM test (R507). -/
def bistDomains (scope : Nat) : Nat :=
  orAll ((List.range 50).map fun d =>
    if domUnits d &&& scopeTests scope != 0 || (d == 43 && scope.testBit 0) || (d == 46 && scope.testBit 7) then 2 ^ d else 0)

/-- Units that the resources of an AIR mask are claimed for: LF receiver, UWB synthesiser, UHF, NFC reader (R116; log 11). -/
def airUnits (mask : Nat) : Nat :=
  orAll (((List.range 4).filter fun r => mask.testBit r).map fun r => 2 ^ ([unitLfRx, unitSynth, unitUhf, unitNfc].getD r 0))

/-- Units a field step uses (R559): the coils and the receiver, the UWB chains, transmitter, synthesiser and correlators,
UHF, the reader. -/
def FieldKind.units : FieldKind → Nat
  | .lftx => 0xFF * 2 ^ 28
  | .lfrx => 2 ^ unitLfRx
  | .uwbpoll | .uwbresp | .uwbfinal => 0xF * 2 ^ 24 + 2 ^ unitUwbTx + 2 ^ unitSynth + 2 ^ unitCorr 0 + 2 ^ unitCorr 1
  | .uhfrx | .uhftx => 2 ^ unitUhf
  | .nfcx | .nfctree => 2 ^ unitNfc

/-- The units of its kind that a field step uses: an LFTX the coils of `coils`, a UWB step the chains of its enabled ports. -/
def State.unitsOf (s : State) (k : FieldKind) (coils : Nat) : Nat :=
  match k with
  | .lftx => k.units &&& (coils * 2 ^ 28)
  | .uwbpoll | .uwbresp | .uwbfinal => k.units &&& (2 ^ 52 - 1 - (15 - bits s.uwb.divCfg 7 4) * 2 ^ 24)
  | k => k.units

end Sys2Proof.Machine
end

