-- ==== Sys2Proof/Machine/Links.lean ====
section
/-! DEFINITION. What the flight engine asks of other units: airtime domains, evidence, release sessions, gallery messages,
tenants (R87, R92, R143, R171, R336, R356, R357, R457, R465). -/

namespace Sys2Proof.Machine

open Sys2Proof

/-! ### Airtime -/

/-- Airtime domains of a resource mask: LF pairs that hold an enabled coil and D39 (R143), the UWB front-end with its
enabled chains that are not marked (R171), UHF (R236), NFC (R255). -/
def State.airDomains (s : State) (mask : Nat) : Nat :=
  let pairs := orAll ((List.range 4).map fun p => if bits s.lf.coilEn (2 * p + 1) (2 * p) ≠ 0 then 2 ^ (35 + p) else 0)
  let chains := orAll ((List.range 4).map fun c =>
    if s.uwb.divCfg.testBit (4 + c) && !s.marked (unitChain c) then 2 ^ (24 + c) else 0)
  (if bit mask 0 = 1 then pairs ||| 2 ^ 39 else 0)
  ||| (if bit mask 1 = 1 then chains ||| (2 ^ 28 + 2 ^ 29 + 2 ^ 31 + 2 ^ 32) else 0)
  ||| (if bit mask 2 = 1 then 2 ^ 33 else 0)
  ||| (if bit mask 3 = 1 then 2 ^ 34 else 0)

/-- D47 while a release session is open (R330), D48 in a cascade role and while listening to take one (R442), D33 while a sniff goes on after
a wake (R252). -/
def State.v32Extra (s : State) : Nat :=
  (if s.rel.session.isSome then 2 ^ 47 else 0)
  ||| (if s.gal.role != .standalone || s.gal.listen.isSome then 2 ^ 48 else 0)
  ||| (if s.uhf.sniff.isSome then 2 ^ 33 else 0)

/-- The front-ends of a claim are ready: the UWB synthesiser has completed its calibration (R171), no sniff runs. -/
def State.airReady (s : State) (mask : Nat) : Bool :=
  (bit mask 1 == 0 || s.uwb.cal.isNone) && (bit mask 2 == 0 || s.uhf.sniff.isNone)

/-! ### Evidence -/

/-- Every evidence record of the landing is published (R92, R304). -/
def State.evidenceClear (s : State) (l : Nat) : Bool := s.evdClear l

/-- A BANISTER closes the landing's open capture (R304). -/
def State.closeCapture (s : State) (l : Nat) : State := s.evdBanister l

/-- The end of a field step: its record (R300), and the token note (R325). -/
def State.fieldEvidence (s : State) (l : Nat) (j : FieldJob) : State := (s.evdField l j).tokenNote l j

/-! ### Release sessions -/

/-- The START sampler reports a start request (R329). -/
def State.startRequest (s : State) : Bool := s.domUp 47 && s.start.filtA && s.start.filtB && !s.start.fault

/-- Outcome of RELHOLD for a session that ended (R91). -/
def relOutcome (q : Session) (reason : Nat) : Code :=
  if reason = 4 then .tampered else if q.acked ≠ 0 then .ok else .fieldTimeout

/-- The 24 result bytes of RELHOLD (R91). -/
def relResult (q : Session) (reason : Nat) : List Byte :=
  natLE 1 (relOutcome q reason).num ++ natLE 1 reason ++ natLE 2 q.sent ++ natLE 2 q.acked ++ natLE 2 0
  ++ natLE 8 q.first ++ natLE 8 q.last

/-- The CANA status frame at the open (reason none) or the end of a session (R339). -/
def State.canaStatus (s : State) (q : Session) (reason : Option Nat) : State :=
  if s.rel.cfg1.toNat.testBit 31 then
    let out := natLE 1 0xC1 ++ natLE 1 (if reason.isNone then 1 else 2) ++ natLE 1 (reason.getD 0xFF) ++ natLE 1 q.zone
      ++ natLE 2 q.tenant ++ natLE 2 (sat 65535 q.acked)
    { s with rel := { s.rel with canaOut := some { ident := bits s.rel.cfg1.toNat 10 0, data := out } } }
  else s

/-- The body of the evidence record of a session's end (R300). -/
def relEndBody (q : Session) (reason : Nat) : List Byte :=
  natLE 1 0x3C ++ natLE 1 1 ++ natLE 1 (relOutcome q reason).num ++ natLE 1 0 ++ relResult q reason

/-- A reason for the end of the session of a landing (of any for none) comes after its end, in the same PERI cycle: when it stands before
the reason recorded in the order of R336, the record, the status frame and the bytes that RELHOLD wrote show it instead (log 171). The
numbers of the reasons rise against that order. -/
def State.relAmend (s : State) (l : Option Nat) (reason : Nat) : State :=
  match s.rel.ended with
  | some e =>
    if e.cycle = s.now / periT ∧ l.all (· == e.land) = true ∧ e.reason < reason then
      let old := relEndBody e.session e.reason
      let s : State := { s with rel := { s.rel with ended := some { e with reason := reason } } }
      let s := if e.session.openAt.isSome then s.canaStatus e.session (some reason) else s
      let recs := s.evd.recs.map fun p => if p.2.drop 64 == old then (p.1, p.2.take 64 ++ relEndBody e.session reason) else p
      let s : State := { s with evd := { s.evd with recs := recs } }
      if s.hallRead e.land 1 e.session.resOff 24 == relResult e.session e.reason then
        s.hallWrite e.land 1 e.session.resOff (relResult e.session reason)
      else s
    else s
  | none => s

/-- The release session of a landing ends (R336): no new attempt begins, a pending frame is withdrawn, the pattern stops
after its half-period, the end is recorded and reported. A frame in attempt finishes its attempt for no session; in bus-off none is.
With no session open, the reason may still come before the one just recorded. -/
def State.relEnd (s : State) (l reason : Nat) : State :=
  match s.rel.session with
  | some q =>
    if q.land = l then
      let r := s.rel
      let s := { s with rel := { r with session := none, queued := none, curGone := true, orphan := r.cur.isSome && !r.canb.busOff
                                        cur := if r.canb.busOff then none else r.cur, stopping := r.pattern
                                        ended := some { cycle := s.now / periT, land := l, reason := reason, session := q } } }
      let s := s.modLand l fun x => { x with relSession := false }
      if q.openAt.isSome then
        let s := s.canaStatus q (some reason)
        if s.evd.src 3 then
          s.evdRecord 4 (some l) (relEndBody q reason)
        else s
      else s
    else s
  | none => s.relAmend (some l) reason

/-- The session of a landing (of any for none) has ended in this PERI cycle with one of these reasons: what comes before them in the
order of R336 acts no more in this cycle (log 171). -/
def State.relJustEnded (s : State) (l : Option Nat) (reasons : List Nat) : Bool :=
  match s.rel.ended with
  | some e => e.cycle == s.now / periT && l.all (· == e.land) && reasons.contains e.reason
  | none => false

/-! ### Tenants -/

/-- Engine mask and usage of a tenant key by index (R312, R313). -/
def tenantKeyAttr (i : Nat) : Nat × Nat :=
  match i with
  | 0 => (0x00F, 0x08)
  | 1 => (0x0AF, 0x04)
  | 2 => (0x00F, 0x08)
  | _ => (0x02F, 0x0F)

/-- The tenant is inside its validity window (R314). -/
def State.inWindow (s : State) (r : Tenant) : Bool :=
  match s.vehicle with
  | some now => decide (r.vfrom ≤ now) && (r.vuntil == 0xFFFFFFFF || decide (now < r.vuntil))
  | none => r.vfrom == 0 && r.vuntil == 0xFFFFFFFF

/-- The item suspends, resumes or revokes tenant t. -/
def ItemRec.changesTenant (r : ItemRec) (t : Nat) : Bool := (r.code == 0x21 || r.code == 0x22) && r.p16 12 == t

/-- A suspension, resumption or revocation of tenant t has started and is not durable: what comes later for that tenant waits
(R87). -/
def State.tenantChanging (s : State) (t : Nat) : Bool := s.host.items.any fun q => q.phase == .running && q.changesTenant t

/-- The item has arrived at its tenant: it is accepted, and nothing but its turn there keeps it from starting (R87, R512; log 161). -/
def State.arrived (s : State) (r : ItemRec) : Bool :=
  r.phase == .waiting && !s.bist.running
  && !(s.host.items.takeWhile fun q => q.key != r.key).any fun q => q.phase == .waiting && q.code == 0x54 && q.key.sq == r.key.sq

/-- Changes of tenant t that have arrived and not started, in order of acceptance. -/
def State.changesWaiting (s : State) (t : Nat) : List ItemKey :=
  (s.host.items.filter fun r => r.changesTenant t && s.arrived r).map (·.key)

/-- The item is accepted and not decided. -/
def State.undecided (s : State) (k : ItemKey) : Bool := s.host.items.any fun r => r.key == k && !r.phase.isEnded

/-- It is the turn of landing l at tenant t: no change of it is on its way, and nothing that arrived before is left (R87). -/
def State.tenantTurn (s : State) (l t : Nat) : Bool :=
  !s.tenantChanging t &&
  (match s.ten.turns.find? (fun e => e.tenant == t) with
   | some e => e.land == l && !e.ahead.any s.undecided
   | none => (s.changesWaiting t).isEmpty)

/-- It is the turn of an item that changes its tenant: no other change is on its way, and nothing that arrived before is left (R87). -/
def State.changeTurn (s : State) (r : ItemRec) : Bool :=
  let t := r.p16 12
  !s.tenantChanging t
  && (s.ten.turns.all fun e => e.tenant != t || e.ahead.contains r.key)
  && (match s.changesWaiting t with | k :: _ => k == r.key || !s.arrived r | [] => true)

/-- Landing l waits for tenant t behind what came before it (R87). -/
def State.joinTurn (s : State) (l t : Nat) : State :=
  if s.ten.turns.any fun e => e.land == l && e.tenant == t then s
  else { s with ten := { s.ten with turns := s.ten.turns ++ [⟨l, t, s.changesWaiting t⟩] } }

/-- Landing l waits for no tenant any more. -/
def State.leaveTurn (s : State) (l : Nat) : State := { s with ten := { s.ten with turns := s.ten.turns.filter fun e => e.land != l } }

/-- The checks of TLOAD for tenant t on landing l, in order; ok when all pass (R87). -/
def State.tenantCheck (s : State) (l t : Nat) : Code :=
  match (if t ≤ 0x3FF then s.tenant t else none) with
  | none => .badRef
  | some r =>
    let x := s.land l
    if r.st = 3 then .badRef
    else if r.st = 2 || (s.landsWhere fun y => y.busy && y.tenant == some t).any (· != l)
        || (x.staged.isSome && x.tenant != some t) then .stateRefused
    else if r.lockEnd.isSome then .lockedOut
    else if !s.inWindow r then .authFail
    else .ok

/-- Unwrap key i of a tenant (R356). -/
def State.unwrapKey (s : State) (r : Tenant) (i : Nat) : Option Handle :=
  if !r.keys.testBit i || s.sec.kek.isEmpty then none else
  (kwUnwrap s.sec.kek (r.wrapped.getD i [])).map fun k =>
    ⟨.tenant i, 0, (tenantKeyAttr i).1, (tenantKeyAttr i).2, true, k⟩

/-- Unwrap every key the bound tenant holds into the landing's cache; a key that fails counts as not held, and an NVM
fault names the tenant and the key (R356, R357). -/
def State.unwrapKeys (s : State) (l t : Nat) : State :=
  match s.tenant t with
  | none => s
  | some r =>
    let ks := (List.range 4).map (s.unwrapKey r)
    let s := s.modLand l fun x => { x with tenantKeys := ks }
    (List.range 4).foldl (fun s i =>
      if r.keys.testBit i && (ks.getD i none).isNone then s.recordFault .wrapFail (.tenant t) (natLE 2 t ++ natLE 1 i)
      else s) s

/-- Bind tenant t to landing l: PROOF, RELOK, tenant-marked handles, key cache, token note and DRBG instance of the
binding before it are cleared (R87, R325, R356, R364). -/
def State.bindTo (s : State) (l t : Nat) : State :=
  let old := (s.land l).tenant
  let s := s.modLand l fun x =>
    { x with tenant := some t, proof := false, relok := false, tenantKeys := [], battery := none, status := none
             handles := x.handles.map fun h => if h.tenantMark then Handle.empty else h }
  if old = some t then s else { s with sec := { s.sec with tenDrbg := Tbl.del s.sec.tenDrbg l } }

/-- FLIGHT_START binds its tenant (R101). -/
def State.bindTenant (s : State) (l t : Nat) : State := (s.bindTo l t).unwrapKeys l t

/-! ### Gallery: roster, leaving -/

/-- LAGGING as this node knows it: the master's own roster, a slave's last beacon (R439, R462). -/
def Gal.lagging (g : Gal) : Nat :=
  if g.role = .master ∨ g.role = .alone then
    (List.range 8).foldl (fun m n => if (vget g.nodes n GalNode.blank).st = 3 then m + 2 ^ n else m) 0
  else g.laggingM

/-- STATUS0 CASC (R439). -/
def Gal.casc (g : Gal) : Nat :=
  match g.role with
  | .master => if g.lagging ≠ 0 then 2 else 3
  | .joined => if g.lagging ≠ 0 then 2 else 1
  | .lagging => 2
  | .standalone | .joining | .alone | .noBeacon | .refused => 0

/-- Roster state of RESULT 10: 0 alone or standalone, 1 agreeing, 2 split (R437). -/
def Gal.rosterByte (g : Gal) : Nat := match g.casc with | 0 => 0 | 2 => 2 | _ => 1

/-- A change of the gallery unit: a change of CASC or of the masks of the beacon sets ATTN_CAUSE CASCADE (R439). -/
def State.galDo (s : State) (f : State → State) : State :=
  let t := f s
  if t.gal.casc = s.gal.casc ∧ t.gal.present = s.gal.present ∧ t.gal.joiningM = s.gal.joiningM
      ∧ t.gal.laggingM = s.gal.laggingM then t
  else t.attn attnCascade

/-- An item of CASCADE_MODE ends with the roster state and the nodes that acknowledged the last mode change (R437). -/
def State.galItem (s : State) (k : Option ItemKey) (c : Code) : State :=
  match k with
  | some k => s.finish k c (natLE 1 s.gal.rosterByte ++ natLE 1 s.gal.ackLast)
  | none => s

/-- The node becomes standalone (R437): every account, unit and roster entry goes; items that waited for the cascade end
CASCADE_ALONE (log 22); the reference is XTAL again (R473). Parts already running keep their results (R458). -/
def State.galAlone (s : State) : State :=
  s.galDo fun s =>
    let g := s.gal
    let open1 := g.joinItem
    let open2 := g.change.bind (·.item)
    let g := { g with role := .standalone, leaving := false, listen := none, joinAt := none, joinItem := none
                      present := 0, joiningM := 0, laggingM := 0, nodes := Vector.replicate 8 GalNode.blank, mode := 0
                      bmode := 0, members := 0, out := [], parts := [], sends := [], change := none, held := []
                      pending := none, nextSeq := 1, cmin := 1, grantSeq := 0, calibrated := false, calNeeded := false
                      calPend := none, calNode := none, babbleTill := none, ghush := g.ghush && g.addr != 0, synced := false }
    let p := s.power
    let p := if p.refSrc then { p with refSrc := false, refQual := false, switches := (p.switches + 1) % 65536 } else p
    let s := { s with gal := g, rng := { s.rng with alignValid := false }, power := p }
    (s.galItem open1 .cascadeAlone).galItem open2 .cascadeAlone

/-- A node that leaves becomes standalone at the end of its round (R437). -/
def State.galLeave (s : State) : State :=
  if s.gal.leaving && decide (s.gal.edgeAt + msT ≤ s.now) then s.galAlone else s

/-! ### Gallery messages of a flight -/

/-- Start request key of part n. -/
def partKey (n : Nat) : ItemKey := ⟨partSq, BitVec.ofNat 32 n⟩

/-- Number of a gallery part whose flight the landing runs. -/
def Landing.partId (x : Landing) : Option Nat :=
  match x.item with | some k => if k.sq = partSq then some k.seq.toNat else none | none => none

/-- Node n of the roster. -/
def Gal.node (g : Gal) (n : Nat) : GalNode := vget g.nodes n GalNode.blank

/-- Change node n. -/
def Gal.modNode (g : Gal) (n : Nat) (f : GalNode → GalNode) : Gal := { g with nodes := vset g.nodes n (f (g.node n)) }

/-- Every gallery message of the landing has been acknowledged (R92). -/
def State.galleryClear (s : State) (l : Nat) : Bool := !s.gal.out.any fun u => u.land == some l

/-- Withdraw the unacknowledged messages of a landing (R465): a message never sent returns its credit at once. -/
def Gal.withdraw (g : Gal) (l : Nat) : Gal :=
  let unsent := g.out.filter fun u => u.land == some l && u.sent.isNone
  let g := unsent.foldl (fun g u => (List.range 8).foldl (fun g n =>
    if u.dest.testBit n then g.modNode n fun x => { x with avail := x.avail + 1, flight := x.flight - 1 } else g) g) g
  let out := (g.out.filter fun u => !(u.land == some l && u.sent.isNone)).map fun u =>
    if u.land == some l then { u with land := none, gone := true } else u
  { g with out := out, sends := Tbl.del g.sends l }

/-- A flight begins to end: while traffic is held, its messages are withdrawn (R465). -/
def State.galEnding (s : State) (l : Nat) : State := if s.gal.stopped then { s with gal := s.gal.withdraw l } else s

/-- A FLIGHT_START on the master takes a new RUN (R456). -/
def State.galRun (s : State) (l : Nat) : State :=
  if s.gal.role = .master ∨ s.gal.role = .alone then
    { s with gal := { s.gal with runs := Tbl.put s.gal.runs l s.gal.run, run := (s.gal.run + 1) % 2 ^ 32 } }
  else s

/-- RESULT unit of a part (chapter 14, Units). -/
def resultUnit (code attempts land mseq part run g1 : Nat) (ret : List Byte) : List Byte :=
  natLE 1 2 ++ natLE 1 code ++ natLE 1 attempts ++ natLE 1 land ++ natLE 2 mseq ++ natLE 2 part ++ natLE 4 run
  ++ natLE 4 g1 ++ padTo 48 ret

/-- Queue a unit of a slave with the next message sequence (R452). -/
def Gal.say (g : Gal) (u : Nat → List Byte) : Gal :=
  let o : GalOut := { seq := g.mseq, dest := 1, unit := u g.mseq, sent := none, resend := false, acks := 0, land := none,
                      gone := false }
  { g with mseq := (g.mseq + 1) % 65536, out := g.out ++ [o] }

/-- Parts with at most 64 kept results, the oldest overwritten first (R458). -/
def trimKept (ks : List GalKept) : List GalKept :=
  let done := ks.filter fun e => !e.running
  let old := done.take (done.length - 64)
  ks.filter fun e => e.running || !(old.any fun o => o.id == e.id)

/-- A kept result with its RESULT (R458). -/
def Gal.keep (g : Gal) (k : GalKept) : Gal := { g with kept := trimKept (g.kept.filter (fun e => e.id != k.id) ++ [k]) }

/-- The flight of a gallery part has started: it counts one attempt and its PART is consumed (R452, R458). -/
def State.partStarted (s : State) (id : Nat) : State :=
  let g := s.gal.modNode 0 fun x => { x with cret := x.cret + 1 }
  { s with gal := { g with kept := g.kept.map fun k => if k.id = id then { k with attempts := k.attempts + 1 } else k } }

/-- The start of a part is refused: a RESULT with its code, ATTEMPTS unchanged, remote landing 0xFF; the PART is consumed
(R452, R457). A part that has run before keeps its earlier result. -/
def State.partRefused (s : State) (id : Nat) (code : Code) : State :=
  match s.gal.kept.find? (fun k => k.id == id) with
  | none => s
  | some k =>
    let g := s.gal.modNode 0 fun x => { x with cret := x.cret + 1 }
    let g := g.say fun q => resultUnit code.num k.attempts 0xFF q k.part k.run 0 []
    let kept := g.kept.filterMap fun e =>
      if e.id != id then some e else if e.attempts = 0 then none else some { e with running := false }
    { s with gal := { g with kept := trimKept kept } }

/-- Forget the data-initialisation fetch of a landing. -/
def Dma.dropInit (d : Dma) (l : Nat) : Dma :=
  { d with
    waiting := d.waiting.filter fun e => e.job != .initFetch l
    chans := d.chans.map fun c => match c.desc with
      | some e => if c.active && e.job == .initFetch l then { c with active := false, failed := true } else c
      | none => c }

/-- What an ended flight leaves on the gallery bus (R456, R457): its parts are forgotten, and results that no GWAIT has read are
discarded; a part's own flight sends its
RESULT and begins its hold. -/
def State.partEnded (s : State) (l : Nat) (code : Code) : State :=
  let g := (s.gal.parts.filter fun p => p.land == l && p.result.isSome).foldl (fun g p =>
    g.modNode p.node fun x => { x with cret := x.cret + 1 }) s.gal
  let g := { g with parts := g.parts.filter (fun p => p.land != l), runs := Tbl.del g.runs l, sends := Tbl.del g.sends l }
  let x := s.land l
  match x.partId with
  | none => { s with gal := g }
  | some id =>
    let s := s.modLand l fun x => { x with holdUntil := some (s.now + x.holdUs * msT / 1000) }
    match g.kept.find? (fun k => k.id == id) with
    | none => { s with gal := g }
    | some k =>
      let ro := fieldLE k.unit 28 2
      let ret := (s.hallRead l 1 ro 48).take (x.dataLen - ro)
      let body (mseq : Nat) := resultUnit code.num k.attempts l mseq k.part k.run (x.reg 1).toNat ret
      let g := g.keep { k with running := false, result := body 0, endedAt := s.now }
      let s : State := { s with gal := if g.role = .standalone then g else g.say body }
      let h : HostLink := { s.host with items := s.host.items.map (fun (q : ItemRec) =>
        if q.awaits == some (partKey id) then { q with phase := .ended .ok q.memo, awaits := none } else q) }
      ({ s with host := h } : State).flush

end Sys2Proof.Machine
end

