-- ==== Sys2Proof/Machine/UwbCore.lean ====
section
/-! DEFINITION. The course of a UWB step: frames, their durations and STS, and the instants at which a frame leaves or a window opens
(R172 to R178, R191, R192, R200, R208, R216). What a step does between two commands follows from the end of its checks and waits. -/

namespace Sys2Proof.Machine

open Sys2Proof

/-! ### Timestamps and frames -/

/-- TSC at an instant: it runs while D30 is up (R196), and reads as at reset while D30 is down (log 180). -/
def State.tsc (s : State) (t : Nat) : Nat := if s.domUp 30 then (t - s.rng.tscBase) / 5 % 2 ^ 40 else 0

/-- Difference of two TSC values (R196). -/
def tscSub (a b : Nat) : Nat := (a + 2 ^ 40 - b % 2 ^ 40) % 2 ^ 40

/-- ATX and ARX of a channel (R198). -/
def Rng.delays (r : Rng) (ch : Nat) : Nat × Nat :=
  let w := if ch = 5 then r.antdly5 else r.antdly9
  (bits w 31 16, bits w 15 0)

/-- Repetitions of a two-bit field of RNG_AIR. -/
def airReps (v : Nat) : Nat := match v with | 0 => 32 | 1 => 64 | _ => 128

/-- Lane of a preamble code (chapter 06, Preamble search). -/
def uwbLane (code : Nat) : Option Nat :=
  if 9 ≤ code ∧ code ≤ 12 then some (code - 9) else if 25 ≤ code ∧ code ≤ 28 then some (code - 21) else none

/-- Codes of the HPRF mode (R200). -/
def isHprf (code : Nat) : Bool := decide (12 < code)

/-- Chips of the preamble and the SFD (R200; of HPRF, 16 SFD symbols of 364 chips: log 142). -/
def Rng.sfdChips (r : Rng) (code : Nat) : Nat :=
  let psr := airReps (bits r.air 9 8)
  if isHprf code then (psr + 16) * 364 else psr * 508 + 4064

/-- Chips of the STS of an SP1 frame (R200). -/
def Rng.stsUnits (r : Rng) : Nat := airReps (bits r.air 5 4)

/-- Duration of a frame in CHIP periods, its PSDU of p bytes (R200; of HPRF, log 142). -/
def Rng.frameChips (r : Rng) (code : Nat) (sp1 : Bool) (p : Nat) : Nat :=
  r.sfdChips code + (if sp1 then 512 + r.stsUnits * 512 else 0) + (if isHprf code then 19 * 64 else 9728)
  + 64 * (8 * p + 48 * ((8 * p + 329) / 330))

/-- FCS of a PSDU: reflected CRC-16, low byte first (chapter 06, Mirkuen UWB session frames). -/
def uwbFcs (bs : List Byte) : List Byte := natLE 2 (crcLsb 0x8408 0 bs)

/-- FTYPE of a session frame by role (R208, R227). -/
def uwbFtype (role : Nat) : Nat := 0xA0 + role

/-- Roles sent and received by a step (R208). -/
def uwbSends : FieldKind → Nat | .uwbpoll => 1 | .uwbresp => 2 | _ => 3
def uwbTakes : FieldKind → Nat | .uwbpoll => 2 | .uwbresp => 1 | _ => 4

/-- Overwrite a little-endian field of a frame. -/
def putLE (bs : List Byte) (o n v : Nat) : List Byte := patch bs o (natLE n v)

/-- Exchange record of a landing. -/
def State.rngRec (s : State) (l : Nat) : RngRec := Tbl.get s.rng.records l ⟨none, none⟩

/-! ### STS -/

/-- The counter V of a frame at one AES block (R208), most significant byte first. -/
def stsV (session round role n : Nat) : List Byte :=
  natBE 4 session ++ natBE 2 round ++ [BitVec.ofNat 8 role] ++ List.replicate 5 0 ++ natBE 4 n

/-- AES blocks of an STS: a unit of 512 chips holds 64 bits in BPRF and 128 in HPRF (log 142). -/
def stsBlocks (code units : Nat) : Nat := if isHprf code then units else units / 2

/-- STS bits of a frame: AES-128 of V, block by block (R208). -/
def stsBits (key : List Byte) (session round role blocks : Nat) : List Byte :=
  let k := aesKey key
  (List.range blocks).flatMap fun n => k.enc (stsV session round role n)

/-- STS of a step's frame of a role; none in SP0 (R201, R208). -/
def UwbRun.sts (r : UwbRun) (units role : Nat) : List Byte :=
  if r.sp1 then stsBits r.key r.session r.round role (stsBlocks r.code units) else []

/-! ### The regulatory account and the trims -/

/-- Trim of a channel. -/
def Uwb.trim (u : Uwb) (ch : Nat) : Int := if ch = 5 then u.trim5 else u.trim9

/-- Set the trim of a channel. -/
def Uwb.setTrim (u : Uwb) (ch : Nat) (t : Int) : Uwb := if ch = 5 then { u with trim5 := t } else { u with trim9 := t }

/-- Gain code of the own frame with the trim of its channel, before clamping (R178). -/
def UwbRun.code0 (r : UwbRun) (u : Uwb) : Int := r.gain + u.trim r.ch

/-- The pre-distortion set in use is stored for its channel (R181, R490). -/
def Uwb.store (u : Uwb) : Uwb :=
  match u.dpdUse with
  | none => u
  | some v => if u.lastch = 5 then { u with dpd5 := v } else { u with dpd9 := v }

/-- The front-end stops emitting: a frame on air ends now, and what it was on air counts (R170, R193). -/
def Uwb.cut (u : Uwb) (now : Nat) : Uwb := { u with spans := cutSpans u.spans now }

/-- COEX_GNT is at its active level (R191). -/
def Uwb.granted (u : Uwb) : Bool := u.gnt != u.coexCfg.testBit 30

/-- Coexistence wires are in use. -/
def Uwb.coex (u : Uwb) : Bool := u.coexCfg.testBit 31

/-! ### The course of a step -/

/-- The step's checks, calibrations and waits have ended, by an instant. -/
def UwbRun.ready (r : UwbRun) (t : Nat) : Bool := !r.calWait && !r.coexWait && decide (r.readyAt ≤ t)

/-- Transmit start mark of a final: the first CHIP boundary at least 16 µs after its checks and calibrations (R216); a raw final is sent as
a poll is. -/
def State.finalMark (s : State) (r : UwbRun) : Nat :=
  if r.kind = 0 then r.readyAt + 4 * usT
  else
    let t := r.readyAt + 16 * usT - s.rng.tscBase
    s.rng.tscBase + (t + (chipT - 1)) / chipT * chipT

/-- Instant of the first emission of a poll or a final, or of the opening of a UWBRESP's window, once the waits are over: 4 µs and 8 µs after
them (R173; log 177). -/
def State.uwbStart (s : State) (r : UwbRun) : Nat :=
  match r.step with
  | .uwbresp => r.readyAt + 8 * usT
  | .uwbfinal => s.finalMark r
  | _ => r.readyAt + 4 * usT

/-- Instant at which the response leaves (R175). -/
def respMark (p : Nat) : Nat := p + 1024 * chipT

/-- Instant at which the own frame ends. -/
def UwbRun.airEnd (r : UwbRun) (mark : Nat) : Nat := mark + r.chips * chipT

/-- The own frame is on air at an instant. -/
def UwbRun.onAir (r : UwbRun) (now : Nat) : Bool := r.txMark.elim false fun t => decide (t ≤ now) && decide (now < r.airEnd t)

/-- RA and DA are written into a final that leaves at a mark (R216, R231). -/
def State.uwbFilled (s : State) (r : UwbRun) (mark : Nat) : List Byte :=
  match r.step, r.kind, (s.rngRec r.land).poll with
  | .uwbfinal, 3, some p =>
    let dep := (s.tsc mark + (s.rng.delays r.ch).1) % 2 ^ 40
    putLE (putLE r.out 8 4 (tscSub p.arrival p.departure)) 12 4 (tscSub dep p.arrival)
  | _, _, _ => r.out

/-- CODE, HEADROOM and FLOOR of UWB_PCTL for a gain code before clamping (R178, R195). -/
def gainPctl (g : Int) : Nat := fld 8 24 (clampI 0 255 g).toNat + flg 1 (decide (255 < g)) + flg 0 (decide (g < 0))

/-- The own frame leaves at its mark (R173, R176, R193, R233); ERR of UWB_PCTL still tells of the last frame measured (log 205). -/
def State.uwbLeaves (s : State) (r : UwbRun) (mark : Nat) : Uwb :=
  let u := s.uwb
  let out := s.uwbFilled r mark
  let frame : UwbFrame :=
    { ch := r.ch, code := r.code, gain := (clampI 0 255 (r.code0 u)).toNat, set := if u.dpd.testBit 0 then u.dpdUse else none
      sts := r.sts s.rng.stsUnits (uwbSends r.step), psdu := out ++ uwbFcs out, mark := mark }
  { u with mode := .tx, sent := some frame, pctl := gainPctl (r.code0 u) + fld 8 16 (bits u.pctl 23 16)
           spans := (u.spans.filter fun p => decide (s.now < p.2 + 3600 * secT)) ++ [(mark, r.airEnd mark)]
           run := some { r with out := out, txMark := some mark, reserved := 0 } }

/-- The window opens at an instant (R173, R177). -/
def State.uwbOpens (s : State) (r : UwbRun) (at0 : Nat) : Uwb :=
  { s.uwb with mode := if r.step == .uwbresp then .txarm else .rx
               expect := r.sts s.rng.stsUnits (uwbTakes r.step)
               run := some { r with window := some at0, searchFrom := at0 } }

/-- COEX_GNT is found withdrawn before a frame start or a window opening (R192). -/
def State.uwbBarred (s : State) (r : UwbRun) : Uwb := { s.uwb with mode := .ready, run := some { r with withdrawn := true } }

/-- What the front-end has come to by now: a frame has left or a window has opened, unless COEX_GNT barred it (R175, R177, R192). -/
def State.uwbDue (s : State) : Uwb :=
  match s.uwb.run with
  | none => s.uwb
  | some r =>
    let goes := !r.closed && !r.withdrawn && r.ready s.now && r.txMark.isNone
    let ok := !s.uwb.coex || s.uwb.granted
    match r.step, r.window, r.pollMark with
    | .uwbresp, none, _ =>
      if goes && decide (s.uwbStart r ≤ s.now) then (if ok then s.uwbOpens r (s.uwbStart r) else s.uwbBarred r) else s.uwb
    | .uwbresp, some _, some p =>
      if goes && decide (respMark p ≤ s.now) then (if ok then s.uwbLeaves r (respMark p) else s.uwbBarred r) else s.uwb
    | .uwbresp, some _, none => s.uwb
    | _, _, _ =>
      if goes && decide (s.uwbStart r ≤ s.now) then (if ok then s.uwbLeaves r (s.uwbStart r) else s.uwbBarred r) else s.uwb

/-- The UWB front-end has come to what is due. -/
def State.uwbMoves (s : State) : State := { s with uwb := s.uwbDue }

/-- Replace the UWB state. -/
def State.setUwb (s : State) (u : Uwb) : State := { s with uwb := u }

/-- Mean limit at the ball: -PMAXN - AGAIN (R178, R180). -/
def Uwb.limit (u : Uwb) : Int := -(bits u.reg0 15 8 : Int) - sgn 8 (bits u.reg0 7 0)

/-- What follows the transmission of the own frame: power trim, PWR_OVER, antenna check, pre-distortion (R179 to R182,
R189). -/
def State.uwbMeasure (s : State) (r : UwbRun) (tx : TxMeas) : State :=
  let u := s.uwb
  let t0 := u.trim r.ch
  let t := clampI (-8) 8 (if 2 ≤ r.target - tx.density then t0 + 1 else if 2 ≤ tx.density - r.target then t0 - 1 else t0)
  let hot := decide (u.limit + 4 < tx.density)
  let adapt := u.dpd % 4 == 3 && !tx.saturated && !hot
  let cut := !tx.matched && !u.fault.testBit 4
  let s := s.setUwb { u.setTrim r.ch t with
    pctl := clearBits u.pctl 0xFF0000 + fld 8 16 (unsgn 8 (tx.density - r.target)), loopErr := sat 255 tx.loopErr
    run := some { r with meas := none, measured := true, antenna := cut } }
  let s := if adapt then
      let (s, v) := s.draw
      s.setUwb { s.uwb with dpdUse := some v }
    else s
  let s := if hot && !u.fault.testBit 6 then
      (s.setUwb { s.uwb with fault := s.uwb.fault ||| 64 }).recordFault .uwbPwrOver (.uwbPort 4) []
    else s
  if cut then (s.setUwb { s.uwb with fault := s.uwb.fault ||| 16 }).recordFault .uwbTxAnt (.uwbPort 4) [] else s

/-- The front-end has come to what is due, and a frame that has ended is measured (R179). -/
def State.uwbNow (s : State) : State :=
  let s := s.uwbMoves
  match s.uwb.run with
  | some r =>
    match r.meas, r.txMark with
    | some tx, some t => if r.airEnd t ≤ s.now then s.uwbMeasure r tx else s
    | _, _ => s
  | none => s

/-- What the loopback measured of a frame whose measurement no command has told: free values (log 204). -/
def State.freeMeas (s : State) : State × TxMeas :=
  let (s, a) := s.draw
  let (s, b) := s.draw
  (s, ⟨sgn 16 (a % 65536), b % 256, b.testBit 8, b.testBit 9⟩)

/-- The step is about to be ended from outside: what is due has happened, and a frame that was sent whole is measured (R179, R180, R189). -/
def State.uwbClosing (s : State) : State :=
  let s := s.uwbMoves
  match s.uwb.run with
  | some r =>
    match r.txMark with
    | some t =>
      if r.measured || decide (s.now < r.airEnd t) then s
      else match r.meas with
        | some tx => s.uwbMeasure r tx
        | none => s.freeMeas.1.uwbMeasure r s.freeMeas.2
    | none => s
  | none => s

/-- RNG_ALIGN of this node: on the master, offset 0 and valid (R225). -/
def State.alignNow (s : State) : Nat × Bool :=
  if s.gal.role == .master || s.gal.role == .alone then (0, true) else (s.rng.alignOff, s.rng.alignValid)

/-- Offset to master time for a result: while this node is joined, or the master, and the offset is valid (R225). -/
def State.masterTime (s : State) : Option Nat :=
  if s.gal.role == .master || s.gal.role == .alone || (s.gal.role == .joined && s.rng.alignValid) then some s.alignNow.1 else none

end Sys2Proof.Machine
end

