-- ==== Sys2Proof/Machine/Settle.lean ====
section
/-! DEFINITION. The end of every command: internal voters are brought up to date and votes are evaluated (R488, R489). -/

namespace Sys2Proof.Machine

open Sys2Proof

/-- Voter numbers (R488). -/
def voterSched : Nat := 32
def voterAwake : Nat := 33
def voterAes : Nat := 34
def voterPka : Nat := 38
def voterKdf : Nat := 39
def voterDma : Nat := 40
def voterBist : Nat := 42

/-- V33 while awake: D30, D43, D46 (R477). -/
def awakeMask : Nat := 0x0000480040000000

/-- Resources held by grants, other than those of landing l (all of them for none). -/
def Air.held (a : Air) : Nat := orAll ((a.grants.filter (fun g => !g.suspended)).map (·.mask))

/-- End of a grant's budget (R116). -/
def Grant.budgetEnd (g : Grant) : Nat := g.heldSince + (g.budgetUs * usT - g.usedTicks)

/-- Order of waiting claims: priority, then issue time (R116). -/
def AirClaim.before (a b : AirClaim) : Bool := a.prio < b.prio || (a.prio == b.prio && a.since < b.since)

/-- A suspended grant whose resources are all free comes ahead of this claim (R120). -/
def Air.restoreFirst (a : Air) (c : AirClaim) : Bool :=
  a.grants.any (fun g => g.suspended && g.mask &&& a.held == 0 && g.mask &&& c.mask != 0 && decide (g.prio ≤ c.prio))

/-- No other claim stands before this one (R116). -/
def Air.isFirst (a : Air) (c : AirClaim) : Bool := a.claims.all fun e => !e.before c

/-- The latest budget end among the grants that hold a resource of a claim: its earliest possible grant (R116). -/
def Air.earliest (a : Air) (now : Nat) (c : AirClaim) : Nat :=
  (a.grants.filter (fun g => !g.suspended && g.mask &&& c.mask != 0)).foldl (fun m g => max m g.budgetEnd) now

/-- The resources of a claim are free, no suspended grant of its priority or higher that could be restored wants one of them (R120), and the claim
that stands first in order lets it by: it is this one, shares no resource with it, or cannot be granted before this claim's
budget ends (R116). -/
def Air.mayPass (a : Air) (now : Nat) (c : AirClaim) : Bool :=
  (c.mask &&& a.held == 0) && !a.restoreFirst c &&
  (a.claims.all fun e => !(a.isFirst e && e.before c) || e.mask &&& c.mask == 0
    || decide (now + c.budgetUs * usT ≤ a.earliest now e))

/-- The waiting claim may be granted now (R116, R120): it may pass, and no earlier claim that may pass wants one of its
resources. -/
def Air.eligible (a : Air) (now : Nat) (c : AirClaim) : Bool :=
  a.mayPass now c && (a.claims.all fun e => !e.before c || e.mask &&& c.mask == 0 || !a.mayPass now e)

/-- Domains that V32 has a present reason to vote: banks in use (R107), pipes (R114; the second half also when the first is
unusable and must serve all landings, log 155), airtime of grants and of claims
about to be granted (R143, R171, R236, R255), D47 and D48. -/
def State.v32Demand (s : State) : Nat :=
  let banks := orAll (s.landings.toList.zipIdx.map (fun x => if x.1.holdsBank then 2 ^ (x.2 / 8) else 0))
  let anyBusy := s.landings.toList.any Landing.busy
  let pipes := (if anyBusy then 2 ^ 44 else 0) ||| (if s.runnableCount > 4 || (anyBusy && s.marked (unitPipe 0)) then 2 ^ 45 else 0)
  let air := orAll (s.air.grants.map (fun g => s.airDomains g.mask))
    ||| orAll ((s.air.claims.filter (s.air.eligible s.now)).map (fun c => s.airDomains c.mask))
  banks ||| pipes ||| air ||| s.v32Extra

/-- Bring V32 up to date: a domain that has lost its reason keeps its vote until its hold-off lapses (R107, R114, R479). -/
def State.revote32 (s : State) : State :=
  let demand := s.v32Demand
  let old := s.vote voterSched
  let p := s.power
  let hold := (List.range 50).foldl (fun (h : Tbl Nat) d =>
    if demand.testBit d then Tbl.del h d
    else if old.testBit d && (Tbl.find h d).isNone && holdoffUs d != 0 then Tbl.put h d (s.now + holdoffUs d * usT)
    else h) p.holdoffs
  let mask := demand ||| orAll (hold.map (fun e => 2 ^ e.1))
  { s with power := { p with holdoffs := hold, votes := vset p.votes voterSched mask } }

/-- An engine bit is in use. -/
def State.engineBusy (s : State) (b : Nat) : Bool := (Tbl.find s.sec.busy b).isSome

/-- The engine exists for use: not marked (R363, R559). KDF and WRAP fall out only with their own known-answer test. An
engine in the set of a recovery is not given up before the recovery ends (R420). -/
def State.engineUsable (s : State) (e : Nat) : Bool :=
  if s.engineHeld e then true
  else if e < 4 then !s.marked (unitAes e)
  else if e = 4 ∨ e = 9 then !s.marked unitPka
  else if e = 5 then !s.sec.katFail.testBit 4
  else if e = 10 then !s.sec.katFail.testBit 5
  else if e = 6 then !s.marked unitCan
  else true

/-- Engines a landing's waiting crypto step may use. -/
def State.cryptoNeeds (s : State) (l : Nat) : Nat :=
  match (s.land l).wait with | .crypto j => j.needs | _ => 0

/-- Scopes that an item's own work needs, beyond its page (R419, R420). -/
def ItemRec.needs (r : ItemRec) : List Scope :=
  match r.code with
  | 0x11 => if r.p16 14 < 192 then [.landing (r.p16 14)] else []
  | 0x13 | 0x14 | 0x15 => if r.p16 12 < 192 then [.landing (r.p16 12)] else []
  | 0x20 => [.engine 10]
  | 0x30 => [.engine 4, .engine 5]
  | 0x31 => if r.p16 14 = 0 then [] else [.engine 4]
  | 0x40 | 0x42 => [.engine 9]
  | _ => []

/-- Work is waiting for the engine or runs on it: a step that it serves, a waiting step that it may serve, an item in progress whose
checks need it (R346, R347; log 217). -/
def State.engineWork (s : State) (e : Nat) : Bool :=
  s.engineBusy e || (s.sec.queue.any fun l => (s.cryptoNeeds l).testBit e && s.engineUsable e)
  || s.host.items.any fun r => r.phase == .running && r.needs.contains (.engine e)

/-- Votes of the engines, the DMA engine and BIST (R488). -/
def State.revoteUnits (s : State) : State :=
  let v := s.power.votes
  let on (b : Bool) (m : Nat) : Nat := if b then m else 0
  let v := (List.range 4).foldl (fun v i => vset v (voterAes + i) (on (s.engineWork i) (2 ^ (40 + i / 2)))) v
  let v := vset v voterPka (on (s.engineWork 4 || s.engineWork 9) (2 ^ 42))
  let v := vset v voterKdf (on (s.engineWork 5 || s.engineWork 10) (2 ^ 43))
  let v := vset v voterDma (on (!s.dma.waiting.isEmpty || s.dma.chans.toList.any (·.active)) (2 ^ 49))
  let v := vset v voterBist (on s.bist.running (bistDomains s.bist.scope))
  { s with power := { s.power with votes := v } }

/-- The update and NVM voters: V41 holds D46 up while an operation runs. -/
def voterNvm : Nat := 41

/-- The NVM controller has work: an operation is queued, or an event record waits to be written (R416, R488; log 197). -/
def State.nvmWork (s : State) : Bool := !s.life.jobs.isEmpty || !s.faults.evPending.isEmpty

/-- V41 votes D46 while the NVM controller has work (R488). -/
def State.revoteNvm (s : State) : State :=
  let v := vset s.power.votes voterNvm (if s.nvmWork then 2 ^ 46 else 0)
  { s with power := { s.power with votes := v } }

/-- The domain was up and is not now: its units stop (R490 step 1). -/
def fellNow (old new : Vector Dom 50) (d : Nat) : Bool :=
  vget old d .down == .up && vget new d .down != .up

/-- What stops when domains begin to fall: enabled coils of an LF pair dump (R155), the UWB and UHF synthesisers, the
NFC carrier, the START sampler, vault SRAM with its volatile keys (R350). -/
def State.stopFallen (old : Vector Dom 50) (s : State) : State :=
  let new := s.power.domains
  let pairs := (List.range 4).foldl (fun m p => if fellNow old new (35 + p) then m + 3 * 4 ^ p else m) 0
  let lf := if pairs = 0 then s.lf else
    let m := pairs &&& s.lf.coilEn
    let f := (s.lf.due s.now).modMask m fun (c : Coil) => { c with dump := some (c.dump.getD s.now) }
    { f with run := f.run.map fun r => r.stop m s.now }
  let uwb : Uwb := if fellNow old new 29 then { s.uwb.store with mode := .down, cal := none, rising := false, slice := none, fell := s.now } else s.uwb
  let uhf : Uhf := if fellNow old new 33 then { s.uhf with mode := .down, cal := none, sniff := none } else s.uhf
  let nfc : Reader := if fellNow old new 34 then { s.nfc with fieldOn := false } else s.nfc
  let start : Start := if fellNow old new 47 then { s.start with fellAt := some s.now } else s.start
  let sec : Security := if fellNow old new 43 then { s.sec with vault := [] } else s.sec
  { s with lf := lf, uwb := uwb, uhf := uhf, nfc := nfc, start := start, sec := sec }

/-- What follows from the grants: the coexistence request falls with the exchange (R191), the pre-distortion set in use is
stored when the UWB grant is released (R181; a suspended one is held, log 39), the reader's carrier goes off with its grant (R256). -/
def State.followGrants (s : State) : State :=
  let open1 := s.air.grants.any fun g => g.mask.testBit 1 && g.exch.isSome
  let uwb := s.air.grants.any fun g => g.mask.testBit 1
  let nfc := s.air.grants.any fun g => g.mask.testBit 3 && !g.suspended
  let u : Uwb := if open1 then s.uwb else { s.uwb with req := false, pri := false }
  let u : Uwb := if uwb then u else u.store
  let n : Reader := if nfc then s.nfc else { s.nfc with fieldOn := false }
  { s with uwb := u, nfc := n }

/-! ### Status words -/

/-- STATUS0 PWR (R476, R477, R480). -/
def State.pwrCode (s : State) : Nat :=
  match s.power.entering with
  | some .vestibule => 0
  | some .lobby => 1
  | _ =>
    match s.power.mode with
    | .vestibule => 0
    | .lobby => 1
    | .awake => if (List.range 50).any fun d => s.domUp d && !awakeMask.testBit d then 3 else 2

/-- Odd parity over bits 31 to 1. -/
def parity (v : Nat) : Nat := (popCount 32 v + 1) % 2

/-- STATUS0 (R12, R17). -/
def State.status0 (s : State) : Nat :=
  let w := flg 31 (s.host.attn != 0) + fld 3 28 s.life.st.num + fld 2 26 s.pwrCode + fld 9 17 s.host.pendingCount
    + fld 8 9 s.host.lastErr.num + flg 8 s.host.hushLive + flg 7 s.sec.tamperLatch + fld 2 5 s.gal.casc + fld 4 1 s.host.epoch.toNat
  w + parity w

/-- STATUS1: the host credits. -/
def State.status1 (s : State) : Nat :=
  fld 7 25 (vget s.host.credits 0 0) + fld 7 18 (vget s.host.credits 1 0) + fld 7 11 (vget s.host.credits 2 0)
  + fld 7 4 (vget s.host.credits 3 0)

/-- The status words as they stand join their history when they have changed (R12). -/
def State.show (s : State) : State :=
  let e : Shown := ⟨s.now, s.status0, s.status1⟩
  match s.seen with
  | p :: _ => if p.word0 = e.word0 ∧ p.word1 = e.word1 then s else { s with seen := e :: s.seen }
  | [] => { s with seen := [e] }

/-- The status words at an instant: as they stood at the end of its CORE cycle, every unit event of which they include (R12, R556). -/
def State.shownAt (s : State) (t : Nat) : Shown :=
  (s.seen.find? fun e => decide (e.from_ / coreT ≤ t / coreT)).getD ⟨s.now, s.status0, s.status1⟩

/-! ### Suspended grants (R120) -/

/-- Resource number of a field step: LF 0, UWB 1, UHF 2, NFC 3 (R74). -/
def FieldKind.res : FieldKind → Nat
  | .lftx | .lfrx => 0
  | .uwbpoll | .uwbresp | .uwbfinal => 1
  | .uhfrx | .uhftx => 2
  | .nfcx | .nfctree => 3

/-- A waiting claim of higher priority takes the resources of the mask first: it wants one of them, and no grant stands in its way
(log 168). -/
def Air.takenAbove (a : Air) (mask prio : Nat) : Bool :=
  a.claims.any fun c => c.mask &&& mask != 0 && decide (c.prio < prio) && c.mask &&& a.held == 0

/-- Restore the suspended grants whose resources are free and that no claim of higher priority takes first (R120); the fuel bounds
the number of grants. A restored grant keeps its MINHOLD (R121). Answers the landing and the resources of each. -/
def restoreLoop (now : Nat) : Nat → Air → List (Nat × Nat) → Air × List (Nat × Nat)
  | 0, a, ls => (a, ls)
  | fuel + 1, a, ls =>
    let cands := a.grants.filter (fun g => g.suspended && (g.mask &&& a.held == 0) && !a.takenAbove g.mask g.prio)
    match cands.foldl (fun (m : Option Grant) g =>
        match m with | none => some g | some h => if g.prio < h.prio then some g else some h) none with
    | none => (a, ls)
    | some g =>
      restoreLoop now fuel
        { a with grants := a.grants.map (fun h => if h == g
            then { h with suspended := false, heldSince := now, preempted := false } else h) }
        ((g.landing, g.mask) :: ls)

/-- A landing whose field step waits on a suspended grant of these resources goes on: the step issues again on a pipe (R120, log 12). -/
def Landing.resume (now mask : Nat) (x : Landing) : Landing :=
  match x.wait with
  | .suspended j => if mask.testBit j.kind.res then { x with wait := .none, steps := x.steps - 1, readySince := now } else x
  | _ => x

/-- An NFC grant of one table that was suspended stands restored in the other. -/
def Air.nfcBack (a b : Air) : Bool :=
  a.grants.any fun g => g.suspended && g.mask.testBit 3 && b.grants.any fun h => h.landing == g.landing && h.mask.testBit 3 && !h.suspended

/-- Restore every suspended grant that may be (R120). A restored NFC grant begins with the reader field off (R256). -/
def State.restore (s : State) : State :=
  let r := restoreLoop s.now s.air.grants.length s.air []
  let nfc : Reader := if s.air.nfcBack r.1 then { s.nfc with fieldOn := false } else s.nfc
  { s with air := r.1, nfc := nfc
           landings := r.2.foldl (fun v e => vset v e.1 (Landing.resume s.now e.2 (vget v e.1 Landing.free))) s.landings }

/-! ### Votes and the end of a command -/

/-- The LF field system has come to the frame of its step (R149). -/
def State.lfTakes (s : State) : State := { s with lf := s.lf.due s.now }

/-- Evaluate the votes on every domain (R489). -/
def State.evalVotes (s : State) : State :=
  let old := s.power.domains
  State.stopFallen old { s with power := s.power.eval s.now s.bist.unus }

/-- Count a refusal or abort against a domain (R492). -/
def Power.refuse (p : Power) (d voter : Nat) : Power :=
  { p with refCount := vset p.refCount d (sat 0xFFFF (vget p.refCount d 0 + 1)), refVoter := vset p.refVoter d voter }

/-- An entry in preparation is aborted (R481): bit of REASON, recorded voter and domain it counts against. -/
def State.abortEntry (s : State) (bit voter d : Nat) : State :=
  if s.power.entering.isNone then s else
  let p := s.power
  { s with power := { p.refuse d voter with
    outcome := 3, reason := 2 ^ bit, voter := voter, entering := none, restoring := true
    votes := vset p.votes voterAwake awakeMask } }

/-- A vote during preparation aborts the entry (R481): of the internal voters only V41 can find work then, an event record to
write (log 197). -/
def State.voteAborts (s : State) : State :=
  if s.power.entering.isSome && s.nvmWork then s.revoteNvm.abortEntry 9 voterNvm 46 else s

/-- Bring every internal voter up to date and evaluate the votes, while the units act (R489); otherwise, while the device
is awake or waking, the votes that stand are evaluated. The status words that result join their history. -/
def settle (s : State) : State :=
  if s.live then (s.galLeave.restore.lfTakes.uwbMoves.followGrants.revote32.revoteUnits.revoteNvm).evalVotes.show
  else if s.power.mode == .awake || s.power.waking then s.voteAborts.evalVotes.show
  else s.show

/-- The outcome of a command: time passes, the effect acts, the votes are evaluated. -/
def occur (dt : Nat) (s : State) (f : State → State) : Host.Outcome State Fault Refusal :=
  .next (settle (f (s.tick dt)))

/-- As occur, at a place in the order of R556: after an event that comes later in that order and in the same CORE cycle, the command
does not occur and only time passes (log 8, log 149). -/
def occurAt (k dt : Nat) (s : State) (f : State → State) : Host.Outcome State Fault Refusal :=
  occur dt s fun s => if s.inTurn k then f (s.act k) else s

/-- As occurAt, for units that act only while the device is awake and in no warm reset, fault halt or scan (log 8). -/
def occurLive (dt : Nat) (s : State) (f : State → State) (k : Nat := rankUnit) : Host.Outcome State Fault Refusal :=
  occurAt k dt s (fun s => if s.live then f s else s)

/-- As occurLive, for faults and qualified tamper events (R556). -/
def occurFault (dt : Nat) (s : State) (f : State → State) : Host.Outcome State Fault Refusal := occurLive dt s f rankFault

/-- As occurLive, for item starts and steps: they occur where p holds, and take their place in the order when they act. -/
def occurWhen (p : State → Bool) (dt : Nat) (s : State) (f : State → State) : Host.Outcome State Fault Refusal :=
  occur dt s fun s => if s.live && p s then f s else s

end Sys2Proof.Machine
end

