-- ==== Sys2Proof/Machine/FlightOps.lean ====
section
/-! DEFINITION. Starting and ending a flight (R57 to R64, R99 to R109), airtime grants (R116 to R120), and the common
part of field steps (R72 to R75). -/

namespace Sys2Proof.Machine

open Sys2Proof

/-! ### Airtime -/

/-- Ticks a grant has held its resources. -/
def Grant.ticks (g : Grant) (now : Nat) : Nat := if g.suspended then g.usedTicks else g.usedTicks + (now - g.heldSince)

/-- Record the airtime a landing used on the resources of a mask, and mark them released (R110). -/
def Landing.noteReleased (us mask : Nat) (x : Landing) : Landing :=
  { x with
    airUsed := Vector.ofFn (fun i : Fin 4 => x.airUsed.get i + (if bit mask i.val = 1 then us else 0))
    airReleased := x.airReleased ||| mask }

/-- A waiting claim of higher priority wants a resource of the mask. -/
def Air.wantedAbove (a : Air) (mask prio : Nat) : Bool :=
  a.claims.any (fun c => c.mask &&& mask != 0 && decide (c.prio < prio))

/-- Take resources of a mask away from a landing's grants, and restore others (R71, R117, R120). -/
def State.airRelease (s : State) (l mask : Nat) : State :=
  let mine := s.air.grants.filter (fun g => g.landing == l && g.mask &&& mask != 0)
  let s := mine.foldl (fun s g => s.modLand l (Landing.noteReleased (g.ticks s.now / usT) (g.mask &&& mask))) s
  let gs := (s.air.grants.map (fun g =>
      if g.landing == l then { g with mask := g.mask &&& (15 ^^^ (mask &&& 15)) } else g)).filter (fun g => g.mask != 0)
  ({ s with air := { s.air with grants := gs } }).restore

/-- Release every grant and withdraw every claim of a landing (R63). -/
def State.airDrop (s : State) (l : Nat) : State :=
  ({ s with air := { s.air with claims := s.air.claims.filter (fun c => c.landing != l) } }).airRelease l 15

/-- Change the grants of a landing that hold a resource. -/
def Air.modGrant (a : Air) (l r : Nat) (f : Grant → Grant) : Air :=
  { a with grants := a.grants.map (fun g => if g.landing == l && g.mask.testBit r then f g else g) }

/-- The grant of a landing that holds a resource. -/
def Air.grantOf (a : Air) (l r : Nat) : Option Grant := a.grants.find? (fun g => g.landing == l && g.mask.testBit r)

/-- A grant has held for MINHOLD and is not of priority 0 (R119). -/
def Grant.held (g : Grant) (now : Nat) : Bool := g.prio != 0 && decide (g.heldSince + g.minHoldUs * usT ≤ now)

/-- An exchange boundary of the grant that holds resource r (R117 to R119): a grant whose budget has run out lapses, a
pre-empted one is suspended whole, and what that frees restores others (R120). -/
def State.boundary (s : State) (l r : Nat) : State :=
  match s.air.grantOf l r with
  | none => s
  | some g =>
    if g.lapsing || decide (g.budgetEnd ≤ s.now) then s.airRelease l g.mask
    else if (g.preempted || g.held s.now) && s.air.wantedAbove g.mask g.prio then
      ({ s with air := s.air.modGrant l r (fun g =>
          { g with exch := none, suspended := true, usedTicks := g.ticks s.now, preempted := false }) } : State).restore
    else { s with air := s.air.modGrant l r (fun g => { g with exch := none, preempted := false }) }

/-- 60 ms (R118). -/
def exchMax : Nat := 60 * msT

/-- An open exchange has ended by its gap, or by reaching 60 ms in a gap (R118). -/
def Exchange.over (e : Exchange) (now : Nat) : Bool :=
  !e.running && (decide (e.lastEnd + e.chainUs * usT < now) || (!e.challenge && decide (e.opened + exchMax ≤ now)))

/-! ### Ending a flight -/

/-- The turn of the pipe that serves a landing ends (R111). -/
def State.leavePipe (s : State) (l : Nat) : State :=
  { s with sched := { s.sched with pipes := s.sched.pipes.map (fun p =>
      if p.serving == some l then { p with serving := none, last := some l } else p) } }

/-- The banister conditions of R92 for a landing. -/
def State.banisterClear (s : State) (l : Nat) : Bool :=
  s.evidenceClear l && s.galleryClear l &&
  (match (s.land l).item with
   | none => true
   | some k =>
     match s.host.items.find? (fun r => r.key == k) with
     | none => true
     | some r => r.bgrp == 0 ||
       !(s.host.items.takeWhile (fun q => q.key != k)).any (fun q => q.key.sq == k.sq && q.bgrp == r.bgrp))

/-- Context cleared of keys and latches at the end of a flight (R63 step 5, R84, R356). -/
def Landing.shed (x : Landing) : Landing :=
  { x with handles := Vector.replicate 4 Handle.empty, proof := false, relok := false, staged := none,
           fuse := [], tenantKeys := [], battery := none, status := none }

/-- Run time of a flight so far, in microseconds. -/
def Landing.ran (now : Nat) (x : Landing) : Nat :=
  match x.startedAt with
  | some t => if x.st == .busy then (now - t) / usT else x.ranUs
  | none => x.ranUs

/-- A landing timer has reached 0 (R69, Timers). -/
def LTimer.isExpired (t : LTimer) (now : Nat) : Bool := t.expired || (t.running && decide (t.deadline ≤ now))

/-- Microseconds a landing timer has left. -/
def LTimer.remaining (t : LTimer) (now : Nat) : Nat :=
  if t.expired then 0 else if t.running then (t.deadline - now + (usT - 1)) / usT else t.left

/-- A landing timer as it stands at an instant, counting no more: the context of a flight that has ended stands still (R103). -/
def LTimer.frozen (t : LTimer) (now : Nat) : LTimer := if t.isExpired now then ⟨false, true, 0, 0⟩ else ⟨false, false, 0, t.remaining now⟩

/-- A deferred start that ran no step waits with its DEFER_LOG entry for the posting of its completion (R106). -/
def State.deferNote (s : State) (l : Nat) (k : ItemKey) (since : Nat) : State :=
  { s with sched := { s.sched with deferWait := s.sched.deferWait ++ [(k, l, since)] } }

/-- A deferred start that ran no step is entered in DEFER_LOG: with the posting of its completion, and at once for a gallery part, which
has none (R106, log 169). -/
def State.deferEntry (s : State) (l : Nat) (k : ItemKey) (since : Nat) : State :=
  if k.sq = partSq then s.deferLog l k since else s.deferNote l k since

/-- Steps 2 to 7 of R63, once the banister is clear. -/
def State.finishEnd (s : State) (l : Nat) (code : Code) : State :=
  let s := s.relEnd l 3
  let s := s.airDrop l
  let x := s.land l
  let s := { s with verdict := { s.verdict with queue := s.verdict.queue.filter (·.1 != l) }
                    ten := { s.ten with newels := s.ten.newels.filter (· != l) }
                    rng := { s.rng with records := Tbl.del s.rng.records l } }
  let s := { s with sec := { s.sec with tenDrbg := Tbl.del s.sec.tenDrbg l, busy := s.sec.busy.filter (fun e => e.2 != l),
                                        queue := s.sec.queue.filter (· != l)
                                        drbgQueue := s.sec.drbgQueue.filter (· != l) } }
  let y := { x.shed with
      st := .hold
      ranUs := x.ran s.now, wait := .none, endReq := none, stopPc := x.pc, relSession := false
      lts := x.lts.map fun t => t.frozen s.now
      holdUs := s.sched.drainHold * 1000, holdUntil := none }
  let s := (s.setLand l y).partEnded l code
  let s := if x.becomesUnusable then s.setLand l { Landing.free with st := .unusable } else s
  let s := { s with sched := { s.sched with pipes := s.sched.pipes.map (fun p =>
      if p.serving == some l then { p with serving := none, last := some l } else p) } }
  match x.item with
  | none => s
  | some k =>
    let s := if x.deferred && x.startedAt.isNone then s.deferEntry l k x.itemSince else s
    s.finish k (if x.deferred && code == .ok then .okDeferred else code) (natLE 2 l ++ natLE 4 (x.reg 1).toNat)

/-- Begin the end of a flight: perform the banister, then the rest when it is clear (R63). The landing holds no pipe while it waits at
that banister (R136). -/
def State.endFlight (s : State) (l : Nat) (code : Code) : State :=
  let s := ((s.closeCapture l).galEnding l).leaveTurn l
  let s := { s with verdict := { s.verdict with queue := s.verdict.queue.filter (·.1 != l) } }
  let s := (s.modLand l fun x => { x with wait := .ending code, endReq := none }).leavePipe l
  if s.banisterClear l then s.finishEnd l code else s

/-- The fault word of R62. -/
def faultWord (kind op pc : Nat) : Word := BitVec.ofNat 32 (kind * 2 ^ 24 + (op % 256) * 2 ^ 16 + pc % 65536)

/-- A step fault: no effect, fault word in g1, the flight ends FAILED_FAULT (R62). -/
def State.stepFault (s : State) (l : Nat) (k : StepFault) (op : Nat) : State :=
  let s := s.modLand l fun x => x.setReg 1 (faultWord k.num op x.pc)
  (s.recordFault (.step k) (.landing l) []).endFlight l .failedFault

/-- End a flight from outside: at once, or after the exchange, the durable write or the engine operation its wait is
in (R61, R64). `fault` is the word for g1, when one is written. -/
def State.endFromOutside (s : State) (l : Nat) (code : Code) (fault : Option Nat) : State :=
  let put (s : State) := match fault with
    | some w => s.modLand l fun x => x.setReg 1 (BitVec.ofNat 32 w)
    | none => s
  match (s.land l).wait with
  | .ending _ => s
  | .starting _ => (put { s with dma := s.dma.dropInit l }).endFlight l code
  | .field _ | .newel _ | .tfail _ | .crypto _ =>
    s.modLand l fun x => if x.endReq.isSome then x else { x with endReq := some ⟨code, fault⟩ }
  | .airClaim _ =>
    let s := { s with air := { s.air with claims := s.air.claims.filter (fun c => c.landing != l) } }
    (put s).endFlight l code
  | _ => (put s).endFlight l code

/-- Move a landing on past its step: wait over, runnable again, unless its end was asked for (R64). -/
def State.stepEnds (s : State) (l : Nat) (f : Landing → Landing) : State :=
  let x := f (s.land l)
  let y := { x with wait := .none, pc := x.pc + 1, readySince := s.now }
  match y.endReq with
  | none => s.setLand l y
  | some r =>
    let y := match r.fault with | some w => y.setReg 1 (BitVec.ofNat 32 w) | none => y
    (s.setLand l { y with pc := x.pc }).endFlight l r.code

/-- Outcome word of R60. -/
def outcomeWord (code detail count : Nat) : Word := BitVec.ofNat 32 (code + detail % 256 * 256 + count % 65536 * 65536)

/-- Write an outcome to gD and Z (R60). -/
def Landing.outcome (x : Landing) (d : Nat) (c : Code) (detail count : Nat) : Landing :=
  let y := x.setReg d (outcomeWord c.num detail count)
  { y with flags := { y.flags with z := c == .ok } }

/-! ### Field steps: the common part -/

/-- Default WINDOW in microseconds (R74). -/
def FieldKind.window : FieldKind → Nat
  | .lftx | .uhftx => 0
  | .lfrx => 500
  | .uwbpoll | .uwbfinal => 1000
  | .uwbresp => 10000
  | .uhfrx => 20000
  | .nfcx => 5000
  | .nfctree => 50000

/-- Run of disturbed executions of a kind within a grant (R74). -/
def Grant.run (g : Grant) (k : FieldKind) : Nat := (g.runs.find? (fun p => p.1 == k)).elim 0 (·.2)

/-- Set a run. -/
def Grant.setRun (g : Grant) (k : FieldKind) (n : Nat) : Grant :=
  { g with runs := (k, n) :: g.runs.filter (fun p => p.1 != k) }

/-- A challenge whose reply arrives in a later step: LFTX of kind CHALLENGE or WAKE_CHALLENGE (R118, R157). -/
def FieldJob.isChallenge (j : FieldJob) : Bool := j.kind == .lftx && (byteAt j.blk 11 == 1 || byteAt j.blk 11 == 2)

/-- The end of a field step on its grant: the exchange bookkeeping of R118 and the runs of R74. -/
def State.airStepEnd (s : State) (l : Nat) (j : FieldJob) (c : Code) : State :=
  let r := j.kind.res
  let s := { s with air := s.air.modGrant l r (fun g =>
    let g := g.setRun j.kind (if c == Code.fieldDisturbed then g.run j.kind + 1 else 0)
    match g.exch with
    | none => g
    | some e => { g with exch := some { e with
        running := false, lastEnd := s.now, challenge := j.isChallenge, overdue := e.overdue } }) }
  match s.air.grantOf l r with
  | some g =>
    match g.exch with
    | some e => if !e.challenge && decide (e.opened + exchMax ≤ s.now) then s.boundary l r else s
    | none => s
  | none => s

/-- Result area of a field step: header of R75, then the step's own bytes. -/
def fieldResult (c : Code) (srcs usedUs us : Nat) (rest : List Byte) : List Byte :=
  [BitVec.ofNat 8 c.num, BitVec.ofNat 8 srcs] ++ natLE 2 (sat 65535 usedUs) ++ natLE 4 us ++ rest

/-- A field step ends: result area, gD, Z, F and D (R72, R75, R78); its time in use runs to `till`, or to now. -/
def State.fieldDone (s : State) (l : Nat) (j : FieldJob) (c : Code) (srcs : Nat) (rest : List Byte) (till : Option Nat := none) : State :=
  let used := sat 65535 ((till.getD s.now - j.issued) / usT)
  let s := s.hallWrite l 1 (fieldLE j.blk 0 2) (fieldResult c srcs used s.us (padTo (j.resLen - 8) rest))
  let s := s.fieldEvidence l j
  let s := s.airStepEnd l j c
  s.stepEnds l fun x =>
    let y := x.outcome j.d c srcs used
    { y with flags := { y.flags with f := c == .ok, d := c == .fieldDisturbed } }

/-! ### Starting a flight -/

/-- A start that runs no step: the landing returns to free with no hold (R101, R104). A refused gallery part sends its
RESULT (R457). -/
def State.startFails (s : State) (l : Nat) (r : StartReq) (c : Code) : State :=
  let s := (s.setLand l (if (s.land l).becomesUnusable then { Landing.free with st := .unusable } else Landing.free)).leaveTurn l
  let s := { s with dma := s.dma.dropInit l, sec := { s.sec with tenDrbg := Tbl.del s.sec.tenDrbg l } }
  let s := if r.deferred then s.deferEntry l r.key r.since else s
  if r.key.sq = partSq then s.partRefused r.key.seq.toNat c else s.finish r.key c (natLE 2 l ++ [0, 0, 0, 0])

/-- The published image of a slot. -/
def State.slotImage (s : State) (slot : Nat) : Option (Nat × Image) :=
  match Tbl.find s.halls.published slot with
  | none => none
  | some id => (Tbl.find s.halls.images id).map (fun i => (id, i))

/-- The start checks of R101, in order. -/
def State.startCheck (s : State) (l : Nat) (r : StartReq) : Code :=
  match s.slotImage r.slot with
  | none => .badRef
  | some (_, i) =>
    if i.hdr.tenant && r.tenant.isNone then .badRef
    else if decide (i.hdr.shared < 16) && (vget s.halls.templates i.hdr.shared ⟨0, 0, 0⟩).limit == 0 then .badRef
    else
      let tc := match r.tenant with | some t => s.tenantCheck l t | none => .ok
      if tc != .ok then tc
      else if (s.poolFind i.hdr.dataLen).isNone then .noSpace
      else if i.hdr.cir && s.cirFind.isNone then .noSpace
      else .ok

/-- A start with a tenant waits for its turn at the tenant (R57, R87). -/
def State.startWaits (s : State) (l : Nat) (r : StartReq) : Bool := match r.tenant with | some t => !s.tenantTurn l t | none => false

/-- Bind the halls of a landing to an image; the data hall reads 0 but for the image's own initialisation (R58). -/
def State.bindHalls (s : State) (l id : Nat) (i : Image) : State :=
  let base := (s.poolFind i.hdr.dataLen).getD 0
  let cir := if i.hdr.cir then s.cirFind else none
  let init := if 0x80 ≤ i.slot then [] else i.init
  let pool := (s.halls.pool.clear base (base + i.hdr.dataLen)).writeN base init
  let s := { s with halls := { s.halls with pool := pool
                                            poolPoison := s.halls.poolPoison.filter (fun g =>
                                              !(decide (base / 32 ≤ g) && decide (g < (base + i.hdr.dataLen) / 32))) } }
  s.modLand l fun x => { x with slot := i.slot, image := id, dataBase := base, dataLen := i.hdr.dataLen, cirBuf := cir
                                hallsBound := true }

/-- A started flight counts: a gallery part's attempt, or a new RUN on the master (R456, R458). -/
def State.runCounts (s : State) (l : Nat) (k : ItemKey) : State := if k.sq = partSq then s.partStarted k.seq.toNat else s.galRun l

/-- The flight is on its landing, which is busy from now on: first registers, counters, tenant (R52, R58, R99). -/
def State.runFlight (s : State) (l : Nat) (r : StartReq) : State :=
  let entry := match s.imageOf l with | some i => i.hdr.entry | none => 0
  let s := s.modLand l fun x => { Landing.free with
    st := .busy, prio := r.prio, slot := x.slot, image := x.image
    regs := Vector.ofFn (fun n : Fin 16 => if n.val = 1 then r.g1 else if n.val = 2 then r.g2 else if n.val = 3 then r.g3 else 0)
    pc := entry, item := some r.key, itemSince := r.since, deferred := r.deferred
    dataBase := x.dataBase, dataLen := x.dataLen, cirBuf := x.cirBuf, hallsBound := true, readySince := s.now }
  match r.tenant with
  | some t => s.bindTenant l t
  | none => s

/-- The data-initialisation bytes of a start are in its hall: the landing runs (R407). -/
def State.initFetched (s : State) (l : Nat) (r : StartReq) : State :=
  (s.modLand l fun x => { x with wait := .none, readySince := s.now }).runCounts l r.key

/-- Bind the halls and start. The data initialisation of a library image comes by a descriptor (R407), from the bank or, through
staging, from OSPI flash; the landing is busy and waits for it. -/
def State.startRuns (s : State) (l : Nat) (r : StartReq) (id : Nat) (i : Image) : State :=
  let s := (s.bindHalls l id i).runFlight l r
  if i.slot < 0x80 ∨ i.hdr.initLen = 0 then s.runCounts l r.key else
  let s := s.modLand l fun x => { x with wait := .starting r }
  let d : Desc := { job := .initFetch l, itemCode := 0xFE, srcKind := if i.external then 4 else 3
                    dstKind := if i.external then 6 else 1, src := .bytes i.init, dst := .hall l 1, srcOff := 0, dstOff := 0
                    len := i.hdr.initLen, done := 0, buf := [], lastGranule := s.now }
  { s with dma := { s.dma with waiting := s.dma.waiting ++ [d] } }

/-- The bank is up: the start makes its checks, once its turn at its tenant has come (R57, R87, R101). -/
def State.startGoes (s : State) (l : Nat) (r : StartReq) (go : State → State) : State :=
  if s.startWaits l r then match r.tenant with | some t => s.joinTurn l t | none => s
  else go (s.leaveTurn l)

/-- Claim checks done: start the flight, or post the failing code (R101). -/
def State.beginFlight (s : State) (l : Nat) (r : StartReq) : State :=
  match s.startCheck l r, s.slotImage r.slot with
  | .ok, some (id, i) => s.startRuns l r id i
  | c, _ => s.startFails l r c

/-- Context bytes of a landing after scrub: a claimed start keeps its claim (R105, R106). -/
def Landing.scrubbed (x : Landing) : Landing :=
  match x.pending with
  | some r => { Landing.free with st := .claimed, pending := some r }
  | none => Landing.free

end Sys2Proof.Machine
end

