-- ==== Sys2Proof/Machine/Operands.lean ====
section
/-! DEFINITION. Operand forms of the steps: operand B of the arithmetic steps (R65), hall addresses (R67), block addresses (R72). -/

namespace Sys2Proof.Machine

open Sys2Proof

/-- Operand B of an arithmetic and logic step (R65). -/
def operandB (f : StepWord) (ext : Nat) (x : Landing) : Nat :=
  match bits f.imm 13 12 with
  | 2 => unsgn 32 (sgn 12 (bits f.imm 11 0))
  | 3 => ext
  | _ => (x.reg (bits f.imm 3 0)).toNat

/-- Register gS as a number. -/
def srcReg (f : StepWord) (x : Landing) : Nat := (x.reg f.s).toNat

/-- Hall address or block address: gS + IMM [11:0] on 32 bits (R67, R72; log 9). -/
def hallAddr (f : StepWord) (x : Landing) : Nat := (srcReg f x + bits f.imm 11 0) % 2 ^ 32

end Sys2Proof.Machine
end

