-- ==== Sys2Proof/Machine/Flags.lean ====
section
/-! DEFINITION. Results and flags of the arithmetic and logic steps (R65, R66, table of flags in chapter 02). -/

namespace Sys2Proof.Machine

open Sys2Proof

/-- A result with its flags: the flag values a step sets, none for those it leaves. -/
structure AluOut where
  r : Nat
  c : Option Bool
  v : Option Bool
deriving DecidableEq, Repr

/-- Signed overflow of an exact sum. -/
def overflow32 (i : Int) : Bool := decide (i < -(2 ^ 31)) || decide (2 ^ 31 ≤ i)

/-- Addition with a carry in: C is the carry out, V signed overflow. -/
def aluAdd (a b cin : Nat) : AluOut :=
  ⟨(a + b + cin) % 2 ^ 32, some (decide (2 ^ 32 ≤ a + b + cin)), some (overflow32 (sgn 32 a + sgn 32 b + cin))⟩

/-- Subtraction with a borrow in: C = 1 means no borrow, V signed overflow. -/
def aluSub (a b bin : Nat) : AluOut :=
  ⟨(a + 2 ^ 32 - b + (2 ^ 32 - bin)) % 2 ^ 32, some (decide (b + bin ≤ a)), some (overflow32 (sgn 32 a - sgn 32 b - bin))⟩

/-- Left shift; C is the last bit shifted out, unchanged for a shift of 0 (R66). -/
def aluShl (a n : Nat) : AluOut :=
  ⟨(a <<< n) % 2 ^ 32, if n = 0 then none else some (a.testBit (32 - n)), none⟩

/-- Right shift with zero fill. -/
def aluShr (a n : Nat) : AluOut := ⟨a >>> n, if n = 0 then none else some (a.testBit (n - 1)), none⟩

/-- Right shift with sign fill. -/
def aluSar (a n : Nat) : AluOut :=
  ⟨unsgn 32 (sgn 32 a / 2 ^ n), if n = 0 then none else some (a.testBit (n - 1)), none⟩

/-- A logic result: C and V stay. -/
def aluLogic (r : Nat) : AluOut := ⟨r % 2 ^ 32, none, none⟩

/-- Bit field extract (BFX). -/
def aluBfx (a b : Nat) : AluOut := aluLogic ((a >>> bits b 4 0) % 2 ^ (bits b 9 5 + 1))

/-- Flags after an arithmetic or logic result: Z and N from the result, C and V where the step sets them. -/
def Flags.ofAlu (f : Flags) (o : AluOut) : Flags :=
  { f with z := o.r == 0, n := o.r.testBit 31, c := o.c.getD f.c, v := o.v.getD f.v }

/-- Z and N from a value read (LTREAD, TMREAD). -/
def Flags.ofValue (f : Flags) (v : Nat) : Flags := { f with z := v == 0, n := v.testBit 31 }

end Sys2Proof.Machine
end

