-- ==== Sys2Proof/Machine/Arith.lean ====
section
/-! DEFINITION. Running a step (R53, R59, R61, R106, R111) and the arithmetic and logic steps (R65, R66). -/

namespace Sys2Proof.Machine

open Sys2Proof

/-- A pipe serves the landing and its turn has steps left (R111). -/
def State.served (s : State) (l : Nat) : Bool :=
  s.sched.pipes.toList.any (fun p => p.serving == some l && decide (p.turnSteps < p.quantum))

/-- Place of a landing's step among the events of a CORE cycle: the number of the pipe that serves it (R68, R556). -/
def State.stepRank (s : State) (l : Nat) : Nat := rankStep ((findIdx (fun p => p.serving == some l) s.sched.pipes.toList).getD 0)

/-- No HUSH frame holds everything between its eighth edge and its TARGET (R20). -/
def State.unhushed (s : State) : Bool := decide (s.hushTill ≤ s.now)

/-- The word at a landing's step address, when the fetch lies inside the code. -/
def State.fetch (s : State) (l : Nat) : Option StepWord :=
  let code := s.codeOf l
  let pc := (s.land l).pc
  if 4 * pc + 4 ≤ code.length then
    let f := stepFields (codeWord code pc)
    if f.ext && decide (code.length < 4 * pc + 8) then none else some f
  else none

/-- The step is an END or a RELCLOSE in the PERI cycle in which the session of its landing ended by its window or a withdrawn start: in the
order of R336 it would have come first. -/
def State.closesLate (s : State) (l : Nat) : Bool :=
  s.relJustEnded (some l) [0, 1] && (match s.fetch l with | some f => f.step == some .end_ || f.step == some .relclose | none => false)

/-- Units of the map that a step on the pipe needs as it starts; the field steps and the cryptographic steps have their own waits. -/
def StepWord.units (f : StepWord) : Nat :=
  match f.step with
  | some .airClaim => airUnits (bits f.imm 3 0)
  | some .relopen => 2 ^ unitCan
  | some .drbg => 2 ^ unitEntropy
  | _ => 0

/-- The step that the landing is to start needs a unit in the set of the recovery that runs, and waits for its end (R420); one whose condition
does not pass starts no wait (R53). -/
def State.stepHeld (s : State) (l : Nat) : Bool :=
  match s.fetch l with
  | some f => condPasses f.cond (s.land l).flags && (s.setUnits &&& f.units != 0 || (f.step == some .tload && s.engineHeld 10))
  | none => false

/-- The landing may begin a step now: no step starts on a landing in the set of a recovery (R418) or for a unit in it (R420), in the pause
of a HUSH frame (R20), or after a step of a higher-numbered pipe in the same CORE cycle (R68, R556); no END or RELCLOSE too late for R336. -/
def State.canStep (s : State) (l : Nat) : Bool :=
  (s.land l).runnable && s.served l && !s.inSet (.landing l) && !s.stepHeld l && s.unhushed && s.inTurn (s.stepRank l) && !s.closesLate l

/-- The extension word that follows a landing's step address. -/
def State.fetchExt (s : State) (l : Nat) : Nat := codeWord (s.codeOf l) ((s.land l).pc + 1)

/-- Account a step: run time counts from the first step (R61), turns count steps (R111), and a deferred start is
logged at its first step (R106). -/
def State.countStep (s : State) (l : Nat) : State :=
  let s := s.act (s.stepRank l)
  let x := s.land l
  let s := match x.startedAt, x.deferred, x.item with
    | none, true, some k => s.deferLog l k x.itemSince
    | _, _, _ => s
  let s := s.setLand l { x with startedAt := some (x.startedAt.getD s.now), steps := (x.steps + 1) % 2 ^ 32 }
  { s with sched := { s.sched with pipes := s.sched.pipes.map (fun p =>
      if p.serving == some l then { p with turnSteps := p.turnSteps + 1, stepAt := s.now } else p) } }

/-- Move on past a step of n words. -/
def State.advance (s : State) (l n : Nat) (f : Landing → Landing) : State :=
  s.modLand l fun x => { f x with pc := x.pc + n }

/-- Run step k on landing l: it occurs when a pipe serves the landing and the word at its step address is that step;
a condition that does not pass changes nothing but the step address (R53). -/
def runStep (dt l : Nat) (k : Step) (s : State) (eff : StepWord → State → State) : Host.Outcome State Fault Refusal :=
  occurWhen (·.canStep l) dt s fun s =>
    match s.fetch l with
    | none => s
    | some f =>
      if f.step = some k then
        let s := s.countStep l
        if condPasses f.cond (s.land l).flags then eff f s
        else s.advance l (if f.ext then 2 else 1) id
      else s

/-- An arithmetic or logic step: result to gD, flags as the step sets them. -/
def aluStep (dt l : Nat) (k : Step) (s : State) (op : Nat → Nat → Flags → AluOut) : Host.Outcome State Fault Refusal :=
  runStep dt l k s fun f s =>
    let ext := s.fetchExt l
    s.advance l (if f.ext then 2 else 1) fun x =>
      let o := op (srcReg f x) (operandB f ext x) x.flags
      { x.setReg f.d (BitVec.ofNat 32 o.r) with flags := x.flags.ofAlu o }

/-- A compare step: flags only. -/
def cmpStep (dt l : Nat) (k : Step) (s : State) (op : Nat → Nat → AluOut) : Host.Outcome State Fault Refusal :=
  runStep dt l k s fun f s =>
    let ext := s.fetchExt l
    s.advance l (if f.ext then 2 else 1) fun x =>
      { x with flags := x.flags.ofAlu (op (srcReg f x) (operandB f ext x)) }

/-- MOV (R65): gD := B, no flags. -/
def execStMov (dt l : Nat) (s : State) : Host.Outcome State Fault Refusal :=
  runStep dt l .mov s fun f s =>
    let ext := s.fetchExt l
    s.advance l (if f.ext then 2 else 1) fun x => x.setReg f.d (BitVec.ofNat 32 (operandB f ext x))

/-- ADD. -/
def execStAdd (dt l : Nat) (s : State) : Host.Outcome State Fault Refusal :=
  aluStep dt l .add s fun a b _ => aluAdd a b 0

/-- SUB. -/
def execStSub (dt l : Nat) (s : State) : Host.Outcome State Fault Refusal :=
  aluStep dt l .sub s fun a b _ => aluSub a b 0

/-- MUL: low 32 bits of the product. -/
def execStMul (dt l : Nat) (s : State) : Host.Outcome State Fault Refusal :=
  aluStep dt l .mul s fun a b _ => aluLogic (a * b)

/-- AND. -/
def execStAnd (dt l : Nat) (s : State) : Host.Outcome State Fault Refusal :=
  aluStep dt l .and s fun a b _ => aluLogic (a &&& b)

/-- OR. -/
def execStOr (dt l : Nat) (s : State) : Host.Outcome State Fault Refusal :=
  aluStep dt l .or s fun a b _ => aluLogic (a ||| b)

/-- XOR. -/
def execStXor (dt l : Nat) (s : State) : Host.Outcome State Fault Refusal :=
  aluStep dt l .xor s fun a b _ => aluLogic (a ^^^ b)

/-- SHL by B [4:0]. -/
def execStShl (dt l : Nat) (s : State) : Host.Outcome State Fault Refusal :=
  aluStep dt l .shl s fun a b _ => aluShl a (b % 32)

/-- SHR by B [4:0], zero fill. -/
def execStShr (dt l : Nat) (s : State) : Host.Outcome State Fault Refusal :=
  aluStep dt l .shr s fun a b _ => aluShr a (b % 32)

/-- SAR by B [4:0], sign fill. -/
def execStSar (dt l : Nat) (s : State) : Host.Outcome State Fault Refusal :=
  aluStep dt l .sar s fun a b _ => aluSar a (b % 32)

/-- CMP: flags of gS - B. -/
def execStCmp (dt l : Nat) (s : State) : Host.Outcome State Fault Refusal :=
  cmpStep dt l .cmp s fun a b => aluSub a b 0

/-- TST: flags of gS and B. -/
def execStTst (dt l : Nat) (s : State) : Host.Outcome State Fault Refusal :=
  cmpStep dt l .tst s fun a b => aluLogic (a &&& b)

/-- ADC. -/
def execStAdc (dt l : Nat) (s : State) : Host.Outcome State Fault Refusal :=
  aluStep dt l .adc s fun a b f => aluAdd a b (b2n f.c)

/-- SBC: gS - B - (1 - C). -/
def execStSbc (dt l : Nat) (s : State) : Host.Outcome State Fault Refusal :=
  aluStep dt l .sbc s fun a b f => aluSub a b (1 - b2n f.c)

/-- BFX. -/
def execStBfx (dt l : Nat) (s : State) : Host.Outcome State Fault Refusal :=
  aluStep dt l .bfx s fun a b _ => aluBfx a b

/-- MHU: high 32 bits of the unsigned product. -/
def execStMhu (dt l : Nat) (s : State) : Host.Outcome State Fault Refusal :=
  aluStep dt l .mhu s fun a b _ => aluLogic (a * b / 2 ^ 32)

end Sys2Proof.Machine
end

