-- ==== Sys2Proof/Machine/TimerOps.lean ====
section
/-! DEFINITION. Counting, compare events, wraps and triggers of TM0 to TM15 (R494 to R504). The count at an instant is
computed from the count and the scaled base held since the timer's last event. -/

namespace Sys2Proof.Machine

open Sys2Proof

/-- Timer k. -/
def State.timer (s : State) (k : Nat) : Timer := vget s.timers k (Timer.reset k)

/-- Change timer k. -/
def State.modTimer (s : State) (k : Nat) (f : Timer → Timer) : State :=
  { s with timers := vset s.timers k (f (s.timer k)) }

/-- Period of a clock source in ticks of U / 5; 0 for the TMIN pins (R495). -/
def timerSrcT (src : Nat) : Nat :=
  match src with | 0 => coreT | 1 => periT | 2 => chipT | 3 => slowT | _ => 0

/-- Smallest prescaler of a source (R495). -/
def timerMinPre (src : Nat) : Nat :=
  match src with | 0 => 0x20000 | 2 => 0x40000 | _ => 0x10000

/-- Number of counts before the timer returns to 0. -/
def Timer.modulus (t : Timer) : Nat := if t.cadence then max t.period 1 else 2 ^ 32

/-- Prescaler ticks emitted since the base and counted by now: a tick is counted in the PERI cycle after the one in which it is
emitted, so those emitted before the present PERI cycle began (R494). The base is held in 1/65536 tick. -/
def Timer.emitted (t : Timer) (k now : Nat) : Nat :=
  if !t.running || t.trigMode == 3 then 0
  else if timerSrcT t.source = 0 then Config.tminTicks k (t.base / 65536) now
  else (now / periT * periT * 65536 - 1 - t.base) / (timerSrcT t.source * t.prescale)

/-- The gate of a slave is open: its master runs with its count below its COMPARE (R503). The master's stored count
has the same relation to COMPARE until its next event. -/
def State.gateOpen (s : State) (t : Timer) : Bool :=
  t.trigMode != 1 || (let m := s.timer t.trigSrc; m.running && decide (m.count < m.compare))

/-- Ticks counted since the base. -/
def State.counted (s : State) (k : Nat) : Nat :=
  let t := s.timer k
  if s.gateOpen t then t.emitted k s.now else 0

/-- COUNT of a timer now (R505). -/
def State.timerCount (s : State) (k : Nat) : Nat := ((s.timer k).count + s.counted k) % (s.timer k).modulus

/-- The instant at which the next PERI cycle begins. -/
def State.nextPeri (s : State) : Nat := (s.now / periT + 1) * periT

/-- Move the base of a timer forward by n emitted ticks, keeping the prescaler's phase. -/
def Timer.shiftBase (t : Timer) (n now : Nat) : Timer :=
  if timerSrcT t.source = 0 then { t with base := now * 65536 }
  else { t with base := t.base + n * (timerSrcT t.source * t.prescale) }

/-- Bring a timer's stored count up to now. -/
def State.rebase (s : State) (k : Nat) : State :=
  let c := s.timerCount k
  let e := (s.timer k).emitted k s.now
  s.modTimer k fun t => { t.shiftBase e s.now with count := c }

/-- Slaves of a master. -/
def State.slaves (s : State) (k : Nat) : List Nat :=
  (List.range 16).filter fun i => (s.timer i).trigSrc == k && (s.timer i).trigMode != 0

/-- Bring the gated slaves of a master up to date before the master's gate may change. -/
def State.rebaseGated (s : State) (k : Nat) : State :=
  ((s.slaves k).filter fun i => (s.timer i).trigMode == 1).foldl State.rebase s

/-- What a compare event of timer k does: it counts, ends waits that began before it, and is due at its slaves one
PERI cycle later (R69, R502, R504). The timer's stored count is COMPARE. -/
def State.compareEvent (s : State) (k : Nat) : State :=
  let s := s.modTimer k fun t => { t with events := (t.events + 1) % 2 ^ 32
                                          cmpPending := if t.cadence then t.cmpPending else false }
  let c := (s.timer k).compare
  let s := ((s.slaves k).filter fun i => (s.timer i).trigMode != 1 && (s.timer i).running).foldl
    (fun s i => s.modTimer i fun t => { t with trigDue := some s.nextPeri }) s
  (s.landsWhere fun x => match x.wait with | .tmWait j _ n => j == k && decide (n / periT < s.now / periT) | _ => false).foldl
    (fun s l => match (s.land l).wait with
    | .tmWait _ d _ => s.stepEnds l fun x => x.setReg d (BitVec.ofNat 32 c)
    | _ => s) s

/-- Copy preloads into force at a return to 0 that falls in a PERI cycle after the one of the configure (R499). -/
def Timer.loadPre (t : Timer) (now : Nat) : Timer :=
  if t.cadence && t.preloaded && decide (t.setAt / periT < now / periT) then { t with compare := t.cmpPre, period := t.perPre, preloaded := false, cmpPending := false }
  else t

/-- Ticks from the stored count to COMPARE, at least 1. -/
def Timer.toCompare (t : Timer) : Nat :=
  let m := t.modulus
  let d := (t.compare + m - t.count % m) % m
  if d = 0 then m else d

/-- Ticks from the stored count to the wrap. -/
def Timer.toWrap (t : Timer) : Nat := t.modulus - t.count % t.modulus

/-- The count may have come this far: TMIN edges are the outside's, so any number may have come. A tick that falls in the PERI cycle of
a reset by the master, or after it, is not counted before that reset (R504). -/
def State.reached (s : State) (k n : Nat) : Bool :=
  let t := s.timer k
  let upTo := match t.trigDue with | some due => if t.trigMode = 2 then min s.now (due - 1) else s.now | none => s.now
  t.running && t.trigMode != 3 && s.gateOpen t &&
    (if timerSrcT t.source = 0 then decide (upTo = s.now) else decide (n ≤ t.emitted k upTo))

/-- TIMER_COMPARE (R497, R498): the count changes to COMPARE; COMPARE 0 belongs to the wrap. -/
def execEvTimerCompare (dt k : Nat) (s : State) : Host.Outcome State Fault Refusal :=
  occurLive dt s fun s =>
    let t := s.timer k
    if t.compare != 0 && decide (t.toCompare ≤ t.toWrap) && s.reached k t.toCompare then
      let s := s.rebaseGated k
      (s.modTimer k fun t => { t.shiftBase t.toCompare s.now with count := t.compare }).compareEvent k
    else s

/-- TIMER_WRAP (R497 to R499): the count returns to 0, preloads are copied, and COMPARE 0 has its event. A compare
event that is due first comes first. -/
def execEvTimerWrap (dt k : Nat) (s : State) : Host.Outcome State Fault Refusal :=
  occurLive dt s fun s =>
    let t := s.timer k
    if (t.compare == 0 || decide (t.toWrap ≤ t.toCompare)) && s.reached k t.toWrap then
      let s := s.rebaseGated k
      let s := s.modTimer k fun t => { (t.shiftBase t.toWrap s.now).loadPre s.now with count := 0 }
      if (s.timer k).compare == 0 then s.compareEvent k else s
    else s

/-- TIMER_TRIGGER (R503, R504): a master's compare event acts on slave k one PERI cycle later. A reset drops the ticks of its own cycle, and is
a compare event where it changes the count to a COMPARE of 0 (R497). -/
def execEvTimerTrigger (dt k : Nat) (s : State) : Host.Outcome State Fault Refusal :=
  occurLive dt s fun s =>
    let t := s.timer k
    match t.trigDue with
    | none => s
    | some due =>
      if s.now < due then s else
      let s := s.rebaseGated k
      let s := s.modTimer k fun t => { t with trigDue := none }
      if !t.running then s
      else if t.trigMode == 2 then
        let before := (t.count + t.emitted k (due - 1)) % t.modulus
        let s := s.modTimer k fun t => { (t.shiftBase (t.emitted k due) due).loadPre due with count := 0 }
        if (s.timer k).compare == 0 && before != 0 then s.compareEvent k else s
      else if t.trigMode == 3 then
        let s := s.modTimer k fun t =>
          if t.count + 1 < t.modulus then { t with count := t.count + 1 } else { t.loadPre due with count := 0 }
        if (s.timer k).count == (s.timer k).compare then s.compareEvent k else s
      else s

/-- The release engine sets TM0's COMPARE for the repeat instant t (R501): the count that TM0 has reached there. -/
def State.relCompare (s : State) (t : Nat) : State :=
  s.modTimer 0 fun x => { x with compare := (x.count + x.emitted 0 t) % 2 ^ 32, cmpPending := true }

/-- Every timer as after a boot or a wake (R501, R502). -/
def State.resetTimers (s : State) : State := { s with timers := Vector.ofFn fun k : Fin 16 => bootTimer k.val s.now }

end Sys2Proof.Machine
end

