-- ==== Sys2Proof/Machine/Control.lean ====
section
/-! DEFINITION. Control steps (R69, R70, R98), timer steps, AIR (R71), BANISTER (R92), and the events of pipes, landing
timers and airtime (R61, R103 to R120). -/

namespace Sys2Proof.Machine

open Sys2Proof

/-- A landing enters a wait: its turn ends (R59, R111). -/
def State.enterWait (s : State) (l : Nat) (w : Wait) : State := (s.modLand l fun x => { x with wait := w }).leavePipe l

/-- Transfer of control to a step address: it must be a step of the code (R62, PC_RANGE). -/
def State.goTo (s : State) (l op : Nat) (t : Int) (f : Landing → Landing) : State :=
  match codeSteps (s.codeOf l) with
  | some as =>
    if decide (0 ≤ t) && as.contains t.toNat then s.modLand l fun x => { f x with pc := t.toNat }
    else s.stepFault l .pcRange op
  | none => s.stepFault l .pcRange op

/-- JMP. -/
def execStJmp (dt l : Nat) (s : State) : Host.Outcome State Fault Refusal :=
  runStep dt l .jmp s fun f s => s.goTo l f.op (((srcReg f (s.land l) + f.imm) % 2 ^ 32 : Nat) : Int) id

/-- BR: relative to its own address. -/
def execStBr (dt l : Nat) (s : State) : Host.Outcome State Fault Refusal :=
  runStep dt l .br s fun f s => s.goTo l f.op (((s.land l).pc : Int) + sgn 14 f.imm) id

/-- CALL: g15 := own address + 1, then as JMP. -/
def execStCall (dt l : Nat) (s : State) : Host.Outcome State Fault Refusal :=
  runStep dt l .call s fun f s =>
    s.goTo l f.op (((srcReg f (s.land l) + f.imm) % 2 ^ 32 : Nat) : Int)
      fun x => x.setReg 15 (BitVec.ofNat 32 (x.pc + 1))

/-- RET. -/
def execStRet (dt l : Nat) (s : State) : Host.Outcome State Fault Refusal :=
  runStep dt l .ret s fun f s => s.goTo l f.op (((s.land l).reg 15).toNat : Int) id


/-- Mask of the expired landing timers. -/
def Landing.expiredMask (x : Landing) (now : Nat) : Nat :=
  (List.range 4).foldl (fun m i => if (vget x.lts i LTimer.idle).isExpired now then m + 2 ^ i else m) 0

/-- WAIT (R69): for landing timers, ended at once by one that has expired; or for a compare event of TMk. -/
def execStWait (dt l : Nat) (s : State) : Host.Outcome State Fault Refusal :=
  runStep dt l .wait s fun f s =>
    let x := s.land l
    let sel := bits f.imm 3 0
    if bit f.imm 13 = 1 then s.enterWait l (.tmWait sel f.d s.now)
    else
      let m := x.expiredMask s.now &&& sel
      if m != 0 then s.advance l 1 fun x => x.setReg f.d (BitVec.ofNat 32 m)
      else s.enterWait l (.ltWait sel f.d)

/-- YIELD: the turn ends; the landing stays runnable. -/
def execStYield (dt l : Nat) (s : State) : Host.Outcome State Fault Refusal :=
  runStep dt l .yield s fun _ s => (s.advance l 1 fun x => { x with readySince := s.now }).leavePipe l

/-- END (R70, R63). -/
def execStEnd (dt l : Nat) (s : State) : Host.Outcome State Fault Refusal :=
  runStep dt l .end_ s fun f s =>
    let n := if bit f.imm 13 = 1 then srcReg f (s.land l) % 256 else bits f.imm 7 0
    match Code.ofNum n with
    | some c => if c.mayEnd then (s.endFlight l c).leavePipe l else s.stepFault l .badEnd f.op
    | none => s.stepFault l .badEnd f.op

/-- STEP_ILLEGAL (R98, R62): the word at the step address is illegal, or the fetch runs past the code hall, which is an
access past its limit (log 6). -/
def execStStepIllegal (dt l : Nat) (s : State) : Host.Outcome State Fault Refusal :=
  occurWhen (·.canStep l) dt s fun s =>
    match s.fetch l with
    | none => (s.countStep l).stepFault l .hallBound Config.fetchPastOp
    | some f => if f.step.isNone then (s.countStep l).stepFault l .illegal f.op else s

/-! ### Timers of a landing -/

/-- LTSET: LTn := gS + IMM [13:2], started, expired bit cleared; a sum of 0 expires at once. -/
def execStLtset (dt l : Nat) (s : State) : Host.Outcome State Fault Refusal :=
  runStep dt l .ltset s fun f s =>
    s.advance l 1 fun x =>
      let v := (srcReg f x + bits f.imm 13 2) % 2 ^ 32
      let t : LTimer := if v = 0 then ⟨false, true, 0, 0⟩ else ⟨true, false, s.now + v * usT, v⟩
      { x with lts := vset x.lts (bits f.imm 1 0) t }

/-- LTREAD: gD := remaining; Z and N. -/
def execStLtread (dt l : Nat) (s : State) : Host.Outcome State Fault Refusal :=
  runStep dt l .ltread s fun f s =>
    s.advance l 1 fun x =>
      let v := (vget x.lts (bits f.imm 1 0) LTimer.idle).remaining s.now
      { x.setReg f.d (BitVec.ofNat 32 v) with flags := x.flags.ofValue v }

/-- LTSTOP: stopped, expired bit cleared; the time left stays. -/
def execStLtstop (dt l : Nat) (s : State) : Host.Outcome State Fault Refusal :=
  runStep dt l .ltstop s fun f s =>
    s.advance l 1 fun x =>
      let n := bits f.imm 1 0
      let t := vget x.lts n LTimer.idle
      { x with lts := vset x.lts n ⟨false, false, 0, t.remaining s.now⟩ }

/-- TMREAD: gD := count of TMk; Z and N. -/
def execStTmread (dt l : Nat) (s : State) : Host.Outcome State Fault Refusal :=
  runStep dt l .tmread s fun f s =>
    let v := s.timerCount (bits f.imm 3 0)
    s.advance l 1 fun x => { x.setReg f.d (BitVec.ofNat 32 v) with flags := x.flags.ofValue v }

/-- LT_EXPIRE: landing timer n reaches 0, sets its expired bit and ends a WAIT that names it (R69). -/
def execEvLtExpire (dt l n : Nat) (s : State) : Host.Outcome State Fault Refusal :=
  occurLive dt s fun s =>
    let x := s.land l
    let t := vget x.lts n LTimer.idle
    if x.busy && t.running && decide (t.deadline ≤ s.now) then
      let s := s.setLand l { x with lts := vset x.lts n ⟨false, true, 0, 0⟩ }
      let x := s.land l
      match x.wait with
      | .ltWait sel d =>
        let m := x.expiredMask s.now &&& sel
        if m != 0 then s.stepEnds l fun x => x.setReg d (BitVec.ofNat 32 m) else s
      | _ => s
    else s

/-! ### Airtime steps and events -/

/-- A unit that a resource needs is marked unusable (R43, R116). -/
def State.airUnusable (s : State) (mask : Nat) : Bool := s.bist.unus &&& airUnits mask != 0

/-- Resources a landing holds, suspended grants included. -/
def Air.heldBy (a : Air) (l : Nat) : Nat := orAll ((a.grants.filter (fun g => g.landing == l)).map (·.mask))

/-- AIR claim (R71, R116). -/
def execStAirClaim (dt l : Nat) (s : State) : Host.Outcome State Fault Refusal :=
  runStep dt l .airClaim s fun f s =>
    let x := s.land l
    let mask := bits f.imm 3 0
    let budget := srcReg f x
    if mask = 0 ∨ budget < 1 ∨ 200000 < budget then s.stepFault l .operand f.op
    else
      let s := s.modLand l fun x => { x with claimedEver := x.claimedEver ||| mask }
      if s.air.heldBy l &&& mask != 0 then s.advance l 1 fun x => x.outcome f.d .stateRefused 0 0
      else if s.airUnusable mask then s.advance l 1 fun x => x.outcome f.d .unitUnusable 0 0
      else
        let s := s.modLand l fun x => { x with airReleased := x.airReleased &&& (15 ^^^ mask) }
        ({ s with air := { s.air with claims := s.air.claims ++ [AirClaim.mk l mask x.prio budget s.now] } }).enterWait l (.airClaim f.d)

/-- AIR release (R71, R120): always OK. -/
def execStAirRelease (dt l : Nat) (s : State) : Host.Outcome State Fault Refusal :=
  runStep dt l .airRelease s fun f s =>
    (s.airRelease l (bits f.imm 3 0)).advance l 1 fun x => x.outcome f.d .ok 0 0

/-- Domains of a mask that are not held down are up. -/
def State.airUp (s : State) (mask : Nat) : Bool :=
  (List.range 50).all fun d => !(s.airDomains mask).testBit d || heldDown s.bist.unus d || s.domUp d

/-- AIR_GRANT (R116): a claim that may be granted, with its domains up, is granted whole. -/
def execEvAirGrant (dt l : Nat) (s : State) : Host.Outcome State Fault Refusal :=
  occurLive dt s fun s =>
    match s.air.claims.find? (fun c => c.landing == l), (s.land l).wait with
    | some c, .airClaim d =>
      if s.air.eligible s.now c && s.airUp c.mask && s.airReady c.mask then
        let g : Grant := { landing := l, mask := c.mask, prio := c.prio, suspended := false, budgetUs := c.budgetUs,
                           usedTicks := 0, heldSince := s.now, minHoldUs := s.air.minHoldUs, exch := none,
                           lapsing := false, preempted := false, runs := [] }
        let s := { s with air := { s.air with claims := s.air.claims.filter (fun e => e.landing != l)
                                              grants := s.air.grants ++ [g] } }
        s.stepEnds l fun x => x.outcome d .ok 0 0
      else s
    | _, _ => s

/-- EXCHANGE_BOUNDARY (R118): an exchange ends at a gap longer than CHAIN, or at 60 ms in a gap. -/
def execEvExchangeBoundary (dt l : Nat) (s : State) : Host.Outcome State Fault Refusal :=
  occurLive dt s fun s =>
    (List.range 4).foldl (fun s r =>
      match s.air.grantOf l r with
      | some g => match g.exch with
        | some e => if e.over s.now then s.boundary l r else s
        | none => s
      | none => s) s

/-- BUDGET_EXHAUSTED (R117): the grant lapses at the next exchange boundary, at once when no exchange is open. -/
def execEvBudgetExhausted (dt l : Nat) (s : State) : Host.Outcome State Fault Refusal :=
  occurLive dt s fun s =>
    let due := s.air.grants.filter (fun g => g.landing == l && !g.suspended && decide (g.budgetEnd ≤ s.now))
    due.foldl (fun s g =>
      if g.exch.isNone then s.airRelease l g.mask
      else { s with air := { s.air with grants := s.air.grants.map (fun h =>
          if h.landing == l && h.mask == g.mask then { h with lapsing := true } else h) } }) s

/-- MINHOLD_REACHED (R119): a waiting claim of higher priority may pre-empt the landing's grants that have held for
MINHOLD; outside an exchange the grant is suspended at once, and what that frees restores others (R120). -/
def execEvMinholdReached (dt l : Nat) (s : State) : Host.Outcome State Fault Refusal :=
  occurLive dt s fun s =>
    let due := s.air.grants.filter (fun g => g.landing == l && !g.suspended && g.prio != 0
      && decide (g.heldSince + g.minHoldUs * usT ≤ s.now) && s.air.wantedAbove g.mask g.prio)
    (due.foldl (fun s g =>
      { s with air := { s.air with grants := s.air.grants.map (fun h =>
          if h.landing == l && h.mask == g.mask then
            (if h.exch.isNone then { h with suspended := true, usedTicks := h.ticks s.now }
             else { h with preempted := true })
          else h) } }) s).restore

/-! ### Ordering, pipes and the end of landings -/

/-- BANISTER (R92): the landing waits until the conditions hold, or goes on at once. -/
def execStBanister (dt l : Nat) (s : State) : Host.Outcome State Fault Refusal :=
  runStep dt l .banister s fun _ s =>
    let s := s.closeCapture l
    if s.banisterClear l then s.advance l 1 id else s.enterWait l .banister

/-- BANISTER_CLEAR (R92, R63): the conditions of a waiting BANISTER, or of a flight's end, are met. -/
def execEvBanisterClear (dt l : Nat) (s : State) : Host.Outcome State Fault Refusal :=
  occurLive dt s fun s =>
    if s.banisterClear l then
      match (s.land l).wait with
      | .banister => s.stepEnds l id
      | .ending c => s.finishEnd l c
      | _ => s
    else s

/-- Landings that may take a pipe: runnable and served by none. -/
def State.candidates (s : State) : List Nat :=
  (s.landsWhere Landing.runnable).filter fun l => !s.sched.pipes.toList.any (fun p => p.serving == some l)

/-- The next landing after `last` in number order, wrapping (R111). -/
def nextAfter (last : Option Nat) (ls : List Nat) : Option Nat :=
  match last with
  | none => ls.head?
  | some p => ((ls.filter (fun l => decide (p < l))).head?).orElse fun _ => ls.head?

/-- Highest priority among landings, as the lowest number. -/
def State.bestPrio (s : State) (ls : List Nat) : Nat := ls.foldl (fun m l => min m (s.land l).prio) 4

/-- The landing a pipe takes: by priority and landing order, or on every AGING-th turn the one that has waited longest
(R111, R112). -/
def State.pick (s : State) (aged : Bool) : Option Nat :=
  let ls := s.candidates
  if aged then
    ls.foldl (fun m l => match m with
      | none => some l
      | some k => if (s.land l).readySince < (s.land k).readySince then some l else some k) none
  else
    let p := s.bestPrio ls
    nextAfter (vget s.sched.lastServed p none) (ls.filter (fun l => (s.land l).prio == p))

/-- Pipe p is up and usable (R114). -/
def State.pipeUsable (s : State) (p : Nat) : Bool :=
  decide (p < 8) && s.domUp (44 + p / 4) && !s.marked (unitPipe (p / 4))

/-- The pipe that a landing of higher priority pre-empts: the one whose landing has the lowest priority, and among
those the one whose turn has lasted longest (R113). -/
def State.victim (s : State) (prio : Nat) : Option Nat :=
  ((List.range 8).filter fun p => s.pipeUsable p).foldl (fun m p =>
    let q := vget s.sched.pipes p Pipe.reset
    match q.serving with
    | none => m
    | some l =>
      if (s.land l).prio ≤ prio then m else
      match m with
      | none => some p
      | some k =>
        let r := vget s.sched.pipes k Pipe.reset
        match r.serving with
        | none => some p
        | some j =>
          if (s.land j).prio < (s.land l).prio ∨ ((s.land j).prio = (s.land l).prio ∧ q.turnStart < r.turnStart)
          then some p else some k) none

/-- A runnable landing of higher priority pre-empts pipe p: it became runnable after the turn of that pipe began (R113). -/
def State.newcomer (s : State) (p : Nat) : Bool :=
  s.candidates.any fun l => s.victim (s.land l).prio == some p
    && decide ((vget s.sched.pipes p Pipe.reset).turnStart < (s.land l).readySince)

/-- Pipe p begins a turn with a landing (R111, R115). -/
def State.beginTurn (s : State) (p l : Nat) : State :=
  let q := vget s.sched.pipes p Pipe.reset
  { s with sched := { s.sched with
      pipes := vset s.sched.pipes p { q with serving := some l, turnSteps := 0, quantum := s.sched.quantum
                                             turns := if q.turns + 1 < s.sched.aging then q.turns + 1 else 0
                                             turnStart := s.now, stepAt := s.now }
      lastServed := vset s.sched.lastServed (s.land l).prio (some l) } }

/-- Lowest-numbered free usable pipe. -/
def State.freePipe (s : State) : Option Nat :=
  (List.range 8).find? fun p => s.pipeUsable p && (vget s.sched.pipes p Pipe.reset).serving.isNone

/-- The pipe's next turn is its AGING-th; an AGING lowered below the turns counted makes it the next one (R112, log 167). -/
def Pipe.agedTurn (q : Pipe) (aging : Nat) : Bool := decide (aging ≤ q.turns + 1)

/-- PIPE_DISPATCH (R111 to R113): the lowest-numbered free pipe takes the next runnable landing; when no pipe is free,
a landing of higher priority that becomes runnable pre-empts one, whose next turn is a turn as any other. -/
def execEvPipeDispatch (dt p : Nat) (s : State) : Host.Outcome State Fault Refusal :=
  occurLive dt s fun s =>
    let q := vget s.sched.pipes p Pipe.reset
    match s.freePipe with
    | some k =>
      if k = p then
        match s.pick (q.agedTurn s.sched.aging) with
        | some l => s.beginTurn p l
        | none => s
      else s
    | none =>
      match s.pick false with
      | some l =>
        if s.newcomer p then
          match q.serving with
          | some v =>
            let s := (s.modLand v fun x => { x with readySince := s.now }).leavePipe v
            if q.agedTurn s.sched.aging then
              match s.pick true with
              | some k => s.beginTurn p k
              | none => s
            else s.beginTurn p l
          | none => s
        else s
      | none => s

/-- QUANTUM_EXPIRE (R111): a landing that has executed QUANTUM steps ends its turn. -/
def execEvQuantumExpire (dt p : Nat) (s : State) : Host.Outcome State Fault Refusal :=
  occurLive dt s fun s =>
    let q := vget s.sched.pipes p Pipe.reset
    match q.serving with
    | some l => if q.quantum ≤ q.turnSteps then (s.modLand l fun x => { x with readySince := s.now }).leavePipe l else s
    | none => s

/-- RUNLIMIT_REACHED (R61): the flight takes a RUNTIME fault; an exchange in progress and a NEWEL or TFAIL write
finish first. -/
def execEvRunlimitReached (dt l : Nat) (s : State) : Host.Outcome State Fault Refusal :=
  occurFault dt s fun s =>
    let x := s.land l
    match x.startedAt, s.imageOf l with
    | some t, some i =>
      if x.busy && decide (t + i.hdr.runLimit * msT ≤ s.now) && x.endReq.isNone &&
          (match x.wait with | .ending _ => false | _ => true) then
        let op := match s.fetch l with | some f => f.op | none => Config.fetchPastOp
        let s := s.recordFault (.step .runtime) (.landing l) []
        let w := faultWord StepFault.runtime.num op x.pc
        match x.wait with
        | .crypto _ => ((s.modLand l fun x => x.setReg 1 w).endFlight l .failedFault).leavePipe l
        | _ => (s.endFromOutside l .failedFault (some w.toNat)).leavePipe l
      else s
    | _, _ => s

/-- RELOK_EXPIRE (R86): RELOK clears 500 ms after the JUDGE that set it. -/
def execEvRelokExpire (dt l : Nat) (s : State) : Host.Outcome State Fault Refusal :=
  occurLive dt s fun s =>
    s.modLand l fun x => if x.relok && decide (x.relokAt + 500 * msT ≤ s.now) then { x with relok := false } else x

/-- DRAIN_HOLD_LAPSE (R103): the hold ends DRAIN_HOLD ms after the completion was posted. -/
def execEvDrainHoldLapse (dt l : Nat) (s : State) : Host.Outcome State Fault Refusal :=
  occurLive dt s fun s =>
    s.modLand l fun x => match x.st, x.holdUntil with
      | .hold, some t => if t ≤ s.now then { x with st := .scrub } else x
      | _, _ => x

/-- Item codes whose bytes 12-13 name a landing, and TENANT_ENROL's bytes 16-17 (R105). -/
def ItemRec.namesLanding (r : ItemRec) (l : Nat) : Bool :=
  ((r.code == 0x12 || r.code == 0x13 || r.code == 0x14 || r.code == 0x15) && r.p16 12 == l)
  || (r.code == 0x20 && r.p16 16 == l)

/-- SCRUB_DONE (R105): halls unbound, data hall and CIR buffer returned, context cleared; the landing is free, or goes
on to the start that claimed it. It waits while an accepted, uncompleted item names the landing. -/
def execEvScrubDone (dt l : Nat) (s : State) : Host.Outcome State Fault Refusal :=
  occurLive dt s fun s =>
    let x := s.land l
    if x.st == .scrub && !s.host.items.any (fun r => r.namesLanding l) then
      let lo := x.dataBase / 32
      let hi := (x.dataBase + x.dataLen) / 32
      let s := { s with halls := { s.halls with poolPoison := s.halls.poolPoison.filter (fun g =>
          !(decide (lo ≤ g) && decide (g < hi))) } }
      let s := s.setLand l x.scrubbed
      { s with halls := { s.halls with images := s.halls.images.filter (fun e =>
          s.halls.published.any (fun p => p.2 == e.1) || s.landings.toList.any (fun y => y.hallsBound && y.image == e.1)) } }
    else s

/-- DEFERRED_START_RESUME (R100, R106): a claimed start goes on once its landing is scrubbed and its bank is up. -/
def execEvDeferredStartResume (dt l : Nat) (s : State) : Host.Outcome State Fault Refusal :=
  occurLive dt s fun s =>
    let x := s.land l
    match x.st, x.pending with
    | .claimed, some r => if s.domUp (l / 8) then s.startGoes l r fun s => s.beginFlight l r else s
    | _, _ => s

end Sys2Proof.Machine
end

