-- ==== Sys2Proof/Machine/StartOps.lean ====
section
/-! DEFINITION. Legality of items by lifecycle (R42), claiming a landing (R100 to R102, R106) and stopping a flight or a start
(R39, R104). -/

namespace Sys2Proof.Machine

open Sys2Proof

/-! ### Legality -/

/-- Lifecycle states that allow an item, by item code, and whether FUSE-FAULT mode allows it (R42). -/
def lifeRow (code : Nat) : List Life × Bool :=
  if code = 0x00 ∨ code = 0x01 ∨ code = 0x50 then ([.factory, .provisioned, .bound, .service, .tampered, .retired], true)
  else if code = 0x12 ∨ code = 0x31 then ([.factory, .provisioned, .bound, .service, .tampered], false)
  else if code = 0x53 ∨ code = 0x54 then ([.factory, .provisioned, .bound, .service, .tampered], true)
  else if code = 0x20 ∨ code = 0x21 ∨ code = 0x23 ∨ code = 0x52 ∨ code = 0x55 then ([.provisioned, .bound, .service], false)
  else if code = 0x22 then ([.service], false)
  else ([.factory, .provisioned, .bound, .service], false)

/-- The present lifecycle state and FUSE-FAULT mode allow an item (R42). -/
def State.lifeAllows (s : State) (code : Nat) : Bool :=
  if s.life.fuseFault then (lifeRow code).2 else (lifeRow code).1.contains s.life.st

/-! ### Claiming -/

/-- Free landings whose bank meets a test, in number order. -/
def State.freeIn (s : State) (p : Nat → Bool) : Option Nat :=
  (s.landings.toList.zipIdx.find? fun x => x.1.st == .free && p (x.2 / 8)).map (·.2)

/-- The landing that 0xFFFF takes (R100): the lowest free one in a bank that is up, else the lowest free one. -/
def State.anyFree (s : State) : Option Nat := (s.freeIn s.domUp).orElse fun _ => s.freeIn fun _ => true

/-- Both pipe halves are unusable (R114). -/
def State.noPipe (s : State) : Bool := s.marked (unitPipe 0) && s.marked (unitPipe 1)

/-- The named landing may take a start (R43, R102). -/
def State.claimCheck (s : State) (l : Nat) : Code :=
  let x := s.land l
  if s.noPipe then .unitUnusable
  else match x.st with
    | .unusable => .unitUnusable
    | .busy | .claimed => .stateRefused
    | .free | .hold | .scrub =>
      if x.pending.isSome || s.host.hushLandings.contains l then .stateRefused else .ok

/-- A start claims landing l (R100, R103, R106): a landing in draining or in a falling bank defers it; a bank that is down
rises first. -/
def State.claimStart (s : State) (l : Nat) (r : StartReq) : State :=
  let x := s.land l
  if x.draining then s.setLand l { x with st := .scrub, pending := some { r with deferred := true } }
  else
    let r := { r with deferred := s.domFalling (l / 8) }
    let s := s.setLand l { x with st := .claimed, pending := some r }
    if s.domUp (l / 8) then s.startGoes l r fun s => s.beginFlight l r else s

/-- Check and claim: the named landing, or any free one for 0xFFFF (R43, R100). Answers the refusal, if any. -/
def State.tryStart (s : State) (landing : Nat) (r : StartReq) : State × Code :=
  if landing = 0xFFFF then
    if s.noPipe then (s, .unitUnusable) else
    match s.anyFree with
    | none => (s, .noLanding)
    | some l => if s.host.hushLandings.contains l then (s, .stateRefused) else (s.claimStart l r, .ok)
  else
    match s.claimCheck landing with
    | .ok => (s.claimStart landing r, .ok)
    | c => (s, c)

/-! ### Stopping -/

/-- Cancel the start that claims a landing (R104). A landing in scrub goes on scrubbing and is then free. -/
def State.cancelStart (s : State) (l : Nat) (c : Code) : State :=
  let x := s.land l
  match x.pending with
  | none => s
  | some r =>
    let s := s.startFails l r c
    if x.st == .scrub then s.setLand l { x with pending := none } else s

/-- The flight of a landing ends from outside and leaves its pipe (R61, R63). -/
def State.stopFlight (s : State) (l : Nat) (c : Code) (fault : Option Nat) : State :=
  (s.endFromOutside l c fault).leavePipe l

/-- Item k ends OK, with these result bytes, once the completion of item q has been posted (R39). -/
def State.awaits (s : State) (k q : ItemKey) (res : List Byte) : State :=
  { s with host := { s.host with items := s.host.items.map fun (r : ItemRec) =>
      if r.key == k then { r with awaits := some q, memo := res } else r } }

/-- FLIGHT_STOP of item k cancels a start: the start's own completion is posted first (R39, R104). The start of a gallery part has no
item, and the FLIGHT_STOP ends at once. -/
def State.stopStart (s : State) (k : ItemKey) (start : Option ItemKey) (cancel : State → State) : State :=
  let res := natLE 4 0xFFFFFFFF
  match start.filter fun q => (s.item q).isSome with
  | some q => cancel (s.awaits k q res)
  | none => (cancel s).finish k .ok res

/-- FLIGHT_STOP on landing l by item k (R39, R104). A start whose initialisation bytes are on their way has run no step, and their
failure ends it as a failed check of R101 does (R407): it is cancelled as one in those checks (log 170). -/
def State.stopLanding (s : State) (k : ItemKey) (l : Nat) : State :=
  let x := s.land l
  match x.st, x.pending with
  | .hold, _ => (s.setLand l { x with st := .scrub }).finish k .ok (natLE 4 x.stopPc)
  | .scrub, none => s.finish k .ok (natLE 4 x.stopPc)
  | .scrub, some _ | .claimed, _ => s.stopStart k (x.pending.map (·.key)) fun s => s.cancelStart l .failedHush
  | .busy, _ =>
    match x.wait with
    | .starting r => s.stopStart k (some r.key) fun s => s.startFails l r .failedHush
    | _ =>
    let h : HostLink := { s.host with items := s.host.items.map (fun (r : ItemRec) =>
      if r.key == k then { r with awaits := x.item, memo := natLE 4 x.pc } else r) }
    ({ s with host := h } : State).stopFlight l .failedHush none
  | .free, _ | .unusable, _ => s.finish k .badRef []

end Sys2Proof.Machine
end

