-- ==== Sys2Proof/Machine/Angle.lean ====
section
/-! DEFINITION. Angle of arrival (R219): least squares over the phase differences of the eligible ports. -/

namespace Sys2Proof.Machine

open Sys2Proof

/-- One port of the array: position in 0.1 mm and phase after PHOFF in 1/65,536 turn. -/
structure AoaPort where
  x : Int
  y : Int
  ph : Nat
deriving DecidableEq, Repr

/-- Result of R219: azimuth and elevation in 0.01 degree, AOAQ; whether the arcsine left its range. -/
structure AoaOut where
  azimuth : Int
  elevation : Int
  quality : Nat
  outside : Bool
deriving DecidableEq, Repr

/-- Wrapped phase difference in 1/65,536 turn, from -32,768 to 32,767. -/
def phaseDiff (a b : Nat) : Int := sgn 16 ((a + 65536 - b % 65536) % 65536)

/-- Wavelength in 1 / 2 ^ 20 of 0.1 mm: c / f with c = 299,792,458 m/s (R168, R219). -/
def wavelength20 (ch : Nat) : Nat :=
  299792458 * 10000 * 2 ^ 20 / (if ch = 5 then 6489600000 else 7987200000)

/-- Radians in fixed point to 0.01 degree, nearest. -/
def centiDegrees (r : Int) : Int := nearestDiv (r * 18000) fxPi

/-- The angle of a frame on channel ch; `ref` is the data port, `rest` the other eligible ports. None when fewer than
three ports are eligible or they are collinear. -/
def aoa (ch : Nat) (ref : AoaPort) (rest : List AoaPort) : Option AoaOut :=
  let eqs := rest.map fun p => (p.x - ref.x, p.y - ref.y, phaseDiff p.ph ref.ph)
  let sum (f : Int → Int → Int → Int) : Int := eqs.foldl (fun a e => a + f e.1 e.2.1 e.2.2) 0
  let sxx := sum fun x _ _ => x * x
  let sxy := sum fun x y _ => x * y
  let syy := sum fun _ y _ => y * y
  let sxp := sum fun x _ p => x * p
  let syp := sum fun _ y p => y * p
  let det := sxx * syy - sxy * sxy
  if eqs.length < 2 ∨ det = 0 then none else
  let one : Int := fxOne
  let lam : Int := wavelength20 ch
  let scale (n : Int) : Int := n * lam * (2 ^ 44 : Int) / det
  let ux := scale (sxp * syy - syp * sxy)
  let uy := scale (sxx * syp - sxy * sxp)
  let rad := one - ux * ux / one - uy * uy / one
  let uz : Int := if rad < 0 then 0 else fxSqrt rad.toNat
  let cosY := one - uy * uy / one
  let elev := if cosY < 0 then 0 else fxAtan2 uy (fxSqrt cosY.toNat : Int)
  let res2 : Int := eqs.foldl (fun a e =>
    let r := e.2.2 * (2 ^ 64 : Int) - (e.1 * ux + e.2.1 * uy) * (2 ^ 20 : Int) * 65536 / lam / (2 ^ 16 : Int)
    a + r * r) 0
  let rms : Nat := isqrt (res2.toNat / eqs.length)
  let q := 255 - min 255 (nearestDiv (255 * rms) (16384 * 2 ^ 64)).toNat
  some ⟨centiDegrees (fxAtan2 ux uz), centiDegrees elev, q, decide (cosY < 0)⟩

end Sys2Proof.Machine
end

