-- ==== Sys2Proof/Machine/Cir.lean ====
section
/-! DEFINITION. Channel impulse responses: first paths, STSQ and FP_DIFF (R204, R210, R212, R213). -/

namespace Sys2Proof

open Sys2Proof.Machine

/-- Taps of a CIR: I, then Q, each signed 16-bit (R213). -/
def cirTaps : List Byte → List (Int × Int)
  | a :: b :: c :: d :: t => (sgn 16 (leNat [a, b]), sgn 16 (leNat [c, d])) :: cirTaps t
  | _ => []

/-- Squared magnitudes of the taps. -/
def cirPowers (cir : List Byte) : List Nat := (cirTaps cir).map fun p => (p.1 * p.1 + p.2 * p.2).toNat

/-- The strongest tap: of equal ones the first. -/
def strongestTap (ps : List Nat) : Nat :=
  (ps.zipIdx.foldl (fun (m : Nat × Nat) p => if m.1 < p.1 then p else m) (0, 0)).2

/-- A squared magnitude exceeds a noise floor by 12 dB, a ratio of 10 ^ (6 / 5) in power (R212). -/
def over12dB (noise p : Nat) : Bool := decide (noise ^ 10 * 10 ^ 6 < p ^ 5)

/-- The tap of the first path: the earliest that exceeds the noise floor by 12 dB within 64 taps before the strongest (R212). -/
def pathTap (noise : Nat) (cir : List Byte) : Nat :=
  let ps := cirPowers cir
  let m := strongestTap ps
  match ps.zipIdx.find? fun p => decide (m ≤ p.2 + 64) && decide (p.2 ≤ m) && over12dB noise p.1 with
  | some p => p.2
  | none => Config.noPath noise cir

/-- The first path in 1/64 tap: the crossing lies `back` before the tap (R212; log 179). -/
def firstPath (noise back : Nat) (cir : List Byte) : Int := (64 * pathTap noise cir : Nat) - (back % 64 : Nat)

/-- Chain n of a frame. -/
def UwbRx.port (rx : UwbRx) (n : Nat) : PortRx := rx.ports.getD n ⟨(0, 0), 0, 0, 0, false, 0, 0, 0, []⟩

/-- The first path of a chain. -/
def PortRx.path (p : PortRx) : Int := firstPath p.cirNoise p.back p.cir

/-- The tap of a chain's first path. -/
def PortRx.tap (p : PortRx) : Nat := pathTap p.cirNoise p.cir

/-- The chain detected the preamble: two successive accumulations exceed DET_THR (R204). -/
def PortRx.detected (p : PortRx) (thr : Nat) : Bool := decide (thr < p.corr.1) && decide (thr < p.corr.2)

/-- Nearest integer to c times the square root of a / b. -/
def nearestRoot (c a b : Nat) : Nat := (isqrt (4 * c * c * a / b) + 1) / 2

/-- STSQ (R210): 128 times the ratio of the STS first-path amplitude to the one predicted from the preamble's, `gain` being the
prediction per unit of the latter in 1/65,536. -/
def stsQuality (sts pre gain : Nat) : Nat :=
  if pre * gain * gain = 0 then 255 else sat 255 (nearestRoot (128 * 65536) sts (pre * gain * gain))

/-- STSQ of a frame whose data port is p. -/
def UwbRx.stsq (rx : UwbRx) (p : PortRx) : Nat :=
  stsQuality ((cirPowers rx.stsCir).getD (pathTap rx.stsNoise rx.stsCir) 0) ((cirPowers p.cir).getD p.tap 0) rx.predict

/-- FP_DIFF in U: the STS first path minus the preamble first path, each in 0.5 U (R210). -/
def UwbRx.fpDiff (rx : UwbRx) (p : PortRx) : Int := nearestDiv (firstPath rx.stsNoise rx.stsBack rx.stsCir - p.path) 2

/-- A CIR placed so that tap 64 is tap k (R213). -/
def cirFrom (k : Nat) (cir : List Byte) : List Byte :=
  padTo 4064 (if 64 ≤ k then cir.drop (4 * (k - 64)) else List.replicate (4 * (64 - k)) 0 ++ cir)

end Sys2Proof
end

