-- ==== Sys2Proof/Machine/FieldOps.lean ====
section
/-! DEFINITION. Issue of a field step: block, ranges, grant and exchange (R71 to R76, R118, R120, R562). -/

namespace Sys2Proof.Machine

open Sys2Proof

/-- What a field step asks of its block at issue. -/
structure FieldSpec where
  step : Step
  kind : FieldKind
  /-- Bytes of the parameter block. -/
  blkLen : Nat
  /-- A step-specific field is outside its range (R76). -/
  bad : List Byte → Bool
  /-- Frame content: offset and length in the data hall. -/
  frame : List Byte → Nat × Nat
  /-- The frame content is outside what the block allows (R258). -/
  badFrame : List Byte → List Byte → Bool := fun _ _ => false
  /-- Bytes of the result area. -/
  resLen : List Byte → Nat

/-- Header fields outside their range: HANDLE 0-3 or 0xFF, bytes 5-7 zero (R75). -/
def blkHeaderBad (blk : List Byte) : Bool :=
  !(decide (byteAt blk 4 < 4) || byteAt blk 4 == 0xFF) || !zerosAt blk 5 3

/-- WINDOW of a block, or the default of the kind (R74). -/
def blkWindow (k : FieldKind) (blk : List Byte) : Nat :=
  let w := fieldLE blk 2 2
  if w = 0 then k.window else w

/-- The faults that come before the grant checks: the block's own range, RESOFF and the result area (R72, R76; log 16). -/
def State.fieldFault (s : State) (l : Nat) (sp : FieldSpec) (base : Nat) : Option StepFault :=
  let blk := s.hallRead l 1 base sp.blkLen
  firstFault [
    if base % 4 = 0 then none else some .align,
    s.rangeFault l 1 base sp.blkLen permRd,
    if fieldLE blk 0 2 % 4 = 0 then none else some .operand,
    s.rangeFault l 1 (fieldLE blk 0 2) (sp.resLen blk) permW]

/-- The faults that come after the grant checks (R162 order 2): the block's fields, then its frame content (R562), then what
the frame holds (R258). -/
def State.fieldFault2 (s : State) (l : Nat) (sp : FieldSpec) (blk : List Byte) : Option StepFault :=
  let fr := sp.frame blk
  firstFault [
    if blkHeaderBad blk || sp.bad blk then some .operand else none,
    s.rangeFault l 1 fr.1 fr.2 permRd,
    if sp.badFrame blk (s.hallRead l 1 fr.1 fr.2) then some .operand else none]

/-- A field step ends at once, with nothing emitted: its result bytes from byte 8 are `rest`. -/
def State.fieldAtOnce (s : State) (l : Nat) (j : FieldJob) (c : Code) (rest : List Byte) : State :=
  let s := s.hallWrite l 1 (fieldLE j.blk 0 2) (fieldResult c 0 0 s.us (padTo (j.resLen - 8) rest))
  let s := s.fieldEvidence l j
  s.stepEnds l fun x =>
    let y := x.outcome j.d c 0 0
    { y with flags := { y.flags with f := c == Code.ok, d := c == Code.fieldDisturbed } }

/-- Result bytes from byte 8 of a step that ends before any exchange: zeros, but for the TOF of the UWB steps, which
reads absent (R224), and for the first collision bit of NFCX, 0xFF without a reply (R76). -/
def noRest (k : FieldKind) : List Byte :=
  match k with
  | .uwbpoll | .uwbresp | .uwbfinal => List.replicate 12 0 ++ natLE 4 0x80000000
  | .nfcx => [0, 0, 0xFF]
  | .lftx | .lfrx | .uhfrx | .uhftx | .nfctree => []

/-- The open exchange of the grant takes the step in, or a new exchange opens (R118). -/
def State.openExchange (s : State) (l r : Nat) : State :=
  { s with air := s.air.modGrant l r (fun g =>
      let e : Exchange := match g.exch with
        | some e => { e with running := true }
        | none => { opened := s.now, lastEnd := s.now, running := true, chainUs := s.air.chainUs,
                    challenge := false, overdue := false }
      { g with exch := some e }) }

/-- The units that the field step at a landing's step address needs (R420). -/
def State.stepUnits (s : State) (l : Nat) (k : FieldKind) : Nat :=
  s.unitsOf k (match s.fetch l with | some f => byteAt (s.hallRead l 1 (hallAddr f (s.land l)) 16) 8 | none => 0)

/-- The field step needs a unit in the set of a recovery and waits for its end (R420); one whose condition does not pass starts no wait
(R53). -/
def State.fieldHeld (s : State) (l : Nat) (k : FieldKind) : Bool :=
  s.setUnits &&& k.units &&& s.stepUnits l k != 0
  && (match s.fetch l with | some f => condPasses f.cond (s.land l).flags | none => true)

/-- Issue a field step; one whose unit lies in the set of a recovery waits for its end (R420). `go` is what the unit does once the step runs; the landing is then in its wait. -/
def fieldStep (dt l : Nat) (sp : FieldSpec) (s : State) (go : FieldJob → State → State) : Host.Outcome State Fault Refusal :=
  if (s.tick dt).fieldHeld l sp.kind then occur dt s id else
  runStep dt l sp.step s fun f s =>
    let x := s.land l
    let base := hallAddr f x
    match s.fieldFault l sp base with
    | some e => s.stepFault l e f.op
    | none =>
      let blk := s.hallRead l 1 base sp.blkLen
      let fr := sp.frame blk
      let j : FieldJob := { kind := sp.kind, d := f.d, base := base, blk := blk, frame := s.hallRead l 1 fr.1 fr.2,
                            issued := s.now, window := blkWindow sp.kind blk, resLen := sp.resLen blk,
                            started := none, srcs := 0, fin := none }
      let r := sp.kind.res
      let s := match s.air.grantOf l r with
        | some g => match g.exch with
          | some e => if e.over s.now then s.boundary l r else s
          | none => s
        | none => s
      match s.air.grantOf l r with
      | none =>
        if x.claimedEver.testBit r then s.fieldAtOnce l j .stateRefused (noRest sp.kind)
        else s.stepFault l .noAirtime f.op
      | some g =>
        match s.fieldFault2 l sp blk with
        | some e => s.stepFault l e f.op
        | none =>
          if g.suspended then s.enterWait l (.suspended j)
          else if 4 ≤ g.run sp.kind then s.fieldAtOnce l j .fieldDisturbed (noRest sp.kind)
          else go j ((s.openExchange l r).enterWait l (.field j))

/-- The field step in progress on a landing. -/
def State.fieldJob (s : State) (l : Nat) : Option FieldJob :=
  match (s.land l).wait with
  | .field j => some j
  | _ => none

/-- Change the field step in progress. -/
def State.setJob (s : State) (l : Nat) (j : FieldJob) : State := s.modLand l fun x => { x with wait := .field j }

/-- The landing whose field step uses resource r. -/
def State.fieldLanding (s : State) (r : Nat) : Option Nat :=
  (s.landsWhere fun x => match x.wait with | .field j => j.kind.res == r | _ => false).head?

end Sys2Proof.Machine
end

