-- ==== Sys2Proof/Machine/Sha.lean ====
section
/-! DEFINITION. SHA-256, SHA-384 and SHA-512 (FIPS 180-4), used by image and message verification. -/

namespace Sys2Proof.Machine

open Sys2Proof

/-- SHA-256 round constants, constant i in bits [32i+31:32i]. -/
def sha256K : Nat :=
  0xC67178F2BEF9A3F7A4506CEB90BEFFFA8CC7020884C8781478A5636F748F82EE682E6FF35B9CCA4F4ED8AA4A391C0CB334B0BCB52748774C1E376C0819A4C116106AA070F40E3585D6990624D192E819C76C51A3C24B8B70A81A664BA2BFE8A192722C8581C2C92E766A0ABB650A735453380D134D2C6DFC2E1B213827B70A851429296706CA6351D5A79147C6E00BF3BF597FC7B00327C8A831C66D983E515276F988DA5CB0A9DC4A7484AA2DE92C6F240CA1CC0FC19DC6EFBE4786E49B69C1C19BF1749BDC06A780DEB1FE72BE5D74550C7DC3243185BE12835B01D807AA98AB1C5ED5923F82A459F111F13956C25BE9B5DBA5B5C0FBCF71374491428A2F98

/-- SHA-512 round constants, constant i in bits [64i+63:64i]. -/
def sha512K : Nat :=
  0x6C44198C4A4758175FCB6FAB3AD6FAEC597F299CFC657E2A4CC5D4BECB3E42B6431D67C49C100D4C3C9EBE0A15C9BEBC32CAAB7B40C7249328DB77F523047D841B710B35131C471B113F9804BEF90DAE0A637DC5A2C898A606F067AA72176FBAF57D4F7FEE6ED178EADA7DD6CDE0EB1ED186B8C721C0C207CA273ECEEA26619CC67178F2E372532BBEF9A3F7B2C67915A4506CEBDE82BDE990BEFFFA23631E288CC702081A6439EC84C87814A1F0AB7278A5636F43172F60748F82EE5DEFB2FC682E6FF3D6B2B8A35B9CCA4F7763E3734ED8AA4AE3418ACB391C0CB3C5C95A6334B0BCB5E19B48A82748774CDF8EEB991E376C085141AB5319A4C116B8D2D0C8106AA07032BBD1B8F40E35855771202AD69906245565A910D192E819D6EF5218C76C51A30654BE30C24B8B70D0F89791A81A664BBC423001A2BFE8A14CF1036492722C851482353B81C2C92E47EDAEE6766A0ABB3C77B2A8650A73548BAF63DE53380D139D95B3DF4D2C6DFC5AC42AED2E1B21385C26C92627B70A8546D22FFC142929670A0E6E7006CA6351E003826FD5A79147930AA725C6E00BF33DA88FC2BF597FC7BEEF0EE4B00327C898FB213FA831C66D2DB43210983E5152EE66DFAB76F988DA831153B55CB0A9DCBD41FBD44A7484AA6EA6E4832DE92C6F592B0275240CA1CC77AC9C650FC19DC68B8CD5B5EFBE4786384F25E3E49B69C19EF14AD2C19BF174CF6926949BDC06A725C7123580DEB1FE3B1696B172BE5D74F27B896F550C7DC3D5FFB4E2243185BE4EE4B28C12835B0145706FBED807AA98A3030242AB1C5ED5DA6D8118923F82A4AF194F9B59F111F1B605D0193956C25BF348B538E9B5DBA58189DBBCB5C0FBCFEC4D3B2F7137449123EF65CD428A2F98D728AE22

/-- SHA-256 initial words. -/
def sha256Init : Nat :=
  0x5BE0CD191F83D9AB9B05688C510E527FA54FF53A3C6EF372BB67AE856A09E667

/-- SHA-384 initial words. -/
def sha384Init : Nat :=
  0x47B5481DBEFA4FA4DB0C2E0D64F98FA78EB44A876858151167332667FFC00B31152FECD8F70E59399159015A3070DD17629A292A367CD507CBBB9D5DC1059ED8

/-- SHA-512 initial words. -/
def sha512Init : Nat :=
  0x5BE0CD19137E21791F83D9ABFB41BD6B9B05688C2B3E6C1F510E527FADE682D1A54FF53A5F1D36F13C6EF372FE94F82BBB67AE8584CAA73B6A09E667F3BCC908

/-- Rotate right within w bits. -/
def rotR (w x n : Nat) : Nat := (x >>> n) ||| ((x <<< (w - n)) % 2 ^ w)

/-- One hash of the family: word width w, rounds, the six rotation triples, constants and initial words. -/
structure ShaParams where
  w : Nat
  rounds : Nat
  k : Nat
  init : Nat
  bigA : Nat × Nat × Nat
  bigE : Nat × Nat × Nat
  sm0 : Nat × Nat × Nat
  sm1 : Nat × Nat × Nat

/-- SHA-256. -/
def sha256P : ShaParams := ⟨32, 64, sha256K, sha256Init, (2, 13, 22), (6, 11, 25), (7, 18, 3), (17, 19, 10)⟩

/-- SHA-512. -/
def sha512P : ShaParams := ⟨64, 80, sha512K, sha512Init, (28, 34, 39), (14, 18, 41), (1, 8, 7), (19, 61, 6)⟩

/-- SHA-384. -/
def sha384P : ShaParams := { sha512P with init := sha384Init }

/-- Message schedule, newest word first. -/
def shaSchedule (p : ShaParams) (m : List Nat) : List Nat :=
  (List.range (p.rounds - 16)).foldl (fun ws _ =>
    let x := ws.getD 14 0
    let y := ws.getD 1 0
    let s0 := rotR p.w x p.sm0.1 ^^^ rotR p.w x p.sm0.2.1 ^^^ (x >>> p.sm0.2.2)
    let s1 := rotR p.w y p.sm1.1 ^^^ rotR p.w y p.sm1.2.1 ^^^ (y >>> p.sm1.2.2)
    ((ws.getD 15 0 + s0 + ws.getD 6 0 + s1) % 2 ^ p.w) :: ws) m.reverse

/-- Compress one block of 16 words into the eight state words. -/
def shaCompress (p : ShaParams) (h : List Nat) (m : List Nat) : List Nat :=
  let ws := (shaSchedule p m).reverse
  let md := 2 ^ p.w
  let out := ws.zipIdx.foldl (fun (s : List Nat) (wi : Nat × Nat) =>
    let a := s.getD 0 0
    let b := s.getD 1 0
    let c := s.getD 2 0
    let e := s.getD 4 0
    let f := s.getD 5 0
    let g := s.getD 6 0
    let s1 := rotR p.w e p.bigE.1 ^^^ rotR p.w e p.bigE.2.1 ^^^ rotR p.w e p.bigE.2.2
    let ch := (e &&& f) ^^^ ((md - 1 - e) &&& g)
    let t1 := s.getD 7 0 + s1 + ch + (p.k >>> (p.w * wi.2)) % md + wi.1
    let s0 := rotR p.w a p.bigA.1 ^^^ rotR p.w a p.bigA.2.1 ^^^ rotR p.w a p.bigA.2.2
    let mj := (a &&& b) ^^^ (a &&& c) ^^^ (b &&& c)
    [(t1 + s0 + mj) % md, a, b, c, (s.getD 3 0 + t1) % md, e, f, g]) h
  List.zipWith (fun x y => (x + y) % md) h out

/-- The hash, all eight words big-endian. -/
def shaFull (p : ShaParams) (msg : List Byte) : List Byte :=
  let bsz := 2 * p.w
  let lenB := p.w / 4
  let zeros := (bsz - (msg.length + 1 + lenB) % bsz) % bsz
  let padded := msg ++ [0x80] ++ List.replicate zeros 0 ++ natBE lenB (8 * msg.length)
  let wB := p.w / 8
  let h0 := (List.range 8).map (fun i => (p.init >>> (p.w * i)) % 2 ^ p.w)
  let h := (List.range (padded.length / bsz)).foldl (fun h i =>
    let blk := (padded.drop (bsz * i)).take bsz
    shaCompress p h ((List.range 16).map (fun j => beNat ((blk.drop (wB * j)).take wB)))) h0
  (h.map (natBE wB)).flatten

/-- SHA-256 digest. -/
def sha256 (msg : List Byte) : List Byte := shaFull sha256P msg

/-- SHA-384 digest. -/
def sha384 (msg : List Byte) : List Byte := (shaFull sha384P msg).take 48

/-- SHA-512 digest. -/
def sha512 (msg : List Byte) : List Byte := shaFull sha512P msg

end Sys2Proof.Machine
end

