-- ==== Sys2Proof/Machine/PubKey.lean ====
section
/-! DEFINITION. The public-key operations of R347: P-256 ECDH, ECDSA verification and point validation, X25519,
and Ed25519 verification. -/

namespace Sys2Proof.Machine

open Sys2Proof

/-- b to the e modulo m over the low n bits of e. -/
def powModBits (m : Nat) : Nat → Nat → Nat → Nat
  | 0, _, _ => 1 % m
  | n + 1, b, e =>
    let r := powModBits m n (b * b % m) (e / 2)
    if e % 2 = 1 then b * r % m else r

/-- b to the e modulo m, exponents below 2^256. -/
def powMod (m b e : Nat) : Nat := powModBits m 256 (b % m) e

/-- Inverse modulo a prime. -/
def invMod (m x : Nat) : Nat := powMod m x (m - 2)

/-- Subtraction modulo m of residues. -/
def subMod (m a b : Nat) : Nat := (a + m - b % m) % m

/-! ### P-256 -/

/-- The P-256 field prime. -/
def p256P : Nat := 2 ^ 256 - 2 ^ 224 + 2 ^ 192 + 2 ^ 96 - 1

/-- The P-256 group order. -/
def p256N : Nat := 0xFFFFFFFF00000000FFFFFFFFFFFFFFFFBCE6FAADA7179E84F3B9CAC2FC632551

/-- The P-256 coefficient b. -/
def p256B : Nat := 0x5AC635D8AA3A93E7B3EBBD55769886BC651D06B0CC53B0F63BCE3C3E27D2604B

/-- The base point. -/
def p256G : Nat × Nat :=
  (0x6B17D1F2E12C4247F8BCE6E563A440F277037D812DEB33A0F4A13945D898C296,
   0x4FE342E2FE1A7F9B8EE7EB4A7C0F9E162BCE33576B315ECECBB6406837BF51F5)

/-- A point of a curve in affine form; none is the point at infinity. -/
abbrev Pt := Option (Nat × Nat)

/-- Point of Jacobian coordinates; Z = 0 is infinity. -/
structure Jac where
  x : Nat
  y : Nat
  z : Nat

/-- Double a Jacobian point (a = -3). -/
def jacDouble (q : Jac) : Jac :=
  let p := p256P
  let zz := q.z * q.z % p
  let m := 3 * (subMod p q.x zz * ((q.x + zz) % p) % p) % p
  let yy := q.y * q.y % p
  let s := 4 * q.x * yy % p
  let x := subMod p (m * m % p) (2 * s)
  ⟨x, subMod p (m * subMod p s x % p) (8 * (yy * yy % p)), 2 * q.y * q.z % p⟩

/-- Add two Jacobian points. -/
def jacAdd (a b : Jac) : Jac :=
  let p := p256P
  if a.z = 0 then b else if b.z = 0 then a else
  let za := a.z * a.z % p
  let zb := b.z * b.z % p
  let u1 := a.x * zb % p
  let u2 := b.x * za % p
  let s1 := a.y * zb % p * b.z % p
  let s2 := b.y * za % p * a.z % p
  if u1 = u2 then (if s1 = s2 then jacDouble a else ⟨1, 1, 0⟩) else
  let h := subMod p u2 u1
  let r := subMod p s2 s1
  let hh := h * h % p
  let hhh := h * hh % p
  let v := u1 * hh % p
  let x := subMod p (subMod p (r * r % p) hhh) (2 * v)
  ⟨x, subMod p (r * subMod p v x % p) (s1 * hhh % p), h * a.z % p * b.z % p⟩

/-- Scalar multiple over the low n bits of k. -/
def jacMul : Nat → Nat → Jac → Jac
  | 0, _, _ => ⟨1, 1, 0⟩
  | n + 1, k, q =>
    let r := jacMul n (k / 2) (jacDouble q)
    if k % 2 = 1 then jacAdd q r else r

/-- Back to affine form. -/
def jacAff (q : Jac) : Pt :=
  if q.z % p256P = 0 then none else
  let i := invMod p256P q.z
  let ii := i * i % p256P
  some (q.x * ii % p256P, q.y * ii % p256P * i % p256P)

/-- The point lies on the curve. -/
def p256OnCurve (q : Nat × Nat) : Bool :=
  decide (q.1 < p256P) && decide (q.2 < p256P) &&
  decide (q.2 * q.2 % p256P = (q.1 * q.1 % p256P * q.1 + (p256P - 3) * q.1 + p256B) % p256P)

/-- Scalar multiple of an affine point. -/
def p256Mul (k : Nat) (q : Nat × Nat) : Pt := jacAff (jacMul 256 k ⟨q.1, q.2, 1⟩)

/-- Public point of a private key, X then Y. -/
def p256Pub (d : Nat) : List Byte :=
  match p256Mul d p256G with
  | some q => natBE 32 q.1 ++ natBE 32 q.2
  | none => List.replicate 64 0

/-- A 64-byte octet string as a point on the curve. -/
def p256Point (bs : List Byte) : Option (Nat × Nat) :=
  let q := (beNat (bs.take 32), beNat ((bs.drop 32).take 32))
  if p256OnCurve q then some q else none

/-- ECDH: the 32-byte X coordinate, none for a bad point. -/
def p256Ecdh (d : Nat) (peer : List Byte) : Option (List Byte) := do
  let q ← p256Point peer
  let r ← p256Mul d q
  some (natBE 32 r.1)

/-- ECDSA verification of a digest; the signature is r then s. -/
def p256Verify (pub digest sig : List Byte) : Bool :=
  match p256Point pub with
  | none => false
  | some q =>
    let r := beNat (sig.take 32)
    let s := beNat ((sig.drop 32).take 32)
    if r = 0 ∨ s = 0 ∨ p256N ≤ r ∨ p256N ≤ s then false else
    let e := beNat (digest.take 32)
    let w := invMod p256N s
    let j := jacAdd (jacMul 256 (e * w % p256N) ⟨p256G.1, p256G.2, 1⟩)
      (jacMul 256 (r * w % p256N) ⟨q.1, q.2, 1⟩)
    match jacAff j with
    | none => false
    | some x => decide (x.1 % p256N = r)

/-! ### Curve25519 -/

/-- The field prime 2^255 - 19. -/
def p25519 : Nat := 2 ^ 255 - 19

/-- One ladder: x2 : z2 and x3 : z3, over bits i downward of k. -/
def x25519Ladder (k u : Nat) : Nat → Nat × Nat × Nat × Nat → Nat × Nat × Nat × Nat
  | 0, st => st
  | i + 1, (x2, z2, x3, z3) =>
    let p := p25519
    let sw := bit k i = 1
    let (x2, x3) := if sw then (x3, x2) else (x2, x3)
    let (z2, z3) := if sw then (z3, z2) else (z2, z3)
    let a := (x2 + z2) % p
    let aa := a * a % p
    let b := subMod p x2 z2
    let bb := b * b % p
    let e := subMod p aa bb
    let da := subMod p x3 z3 * a % p
    let cb := (x3 + z3) % p * b % p
    let x3' := (da + cb) % p * ((da + cb) % p) % p
    let dc := subMod p da cb
    let z3' := u * (dc * dc % p) % p
    let x2' := aa * bb % p
    let z2' := e * ((aa + 121665 * e) % p) % p
    let (x2, x3) := if sw then (x3', x2') else (x2', x3')
    let (z2, z3) := if sw then (z3', z2') else (z2', z3')
    x25519Ladder k u i (x2, z2, x3, z3)

/-- X25519 of a 32-byte private key and a 32-byte peer u coordinate (little-endian, RFC 7748). -/
def x25519 (priv peer : List Byte) : List Byte :=
  let k0 := leNat (priv.take 32)
  let k := (k0 % 2 ^ 254 / 8 * 8) + 2 ^ 254
  let u := leNat (peer.take 32) % 2 ^ 255 % p25519
  let (x2, z2, _, _) := x25519Ladder k u 255 (1, 0, u, 1)
  natLE 32 (x2 * invMod p25519 z2 % p25519)

/-- The Edwards coefficient d. -/
def ed25519D : Nat := subMod p25519 0 (121665 * invMod p25519 121666 % p25519)

/-- The group order of Ed25519. -/
def ed25519L : Nat := 2 ^ 252 + 27742317777372353535851937790883648493

/-- Extended Edwards point X : Y : Z : T. -/
structure EdPt where
  x : Nat
  y : Nat
  z : Nat
  t : Nat

/-- Add Edwards points. -/
def edAdd (a b : EdPt) : EdPt :=
  let p := p25519
  let aa := subMod p a.y a.x * subMod p b.y b.x % p
  let bb := (a.y + a.x) * (b.y + b.x) % p
  let cc := 2 * a.t * b.t % p * ed25519D % p
  let dd := 2 * a.z * b.z % p
  let e := subMod p bb aa
  let f := subMod p dd cc
  let g := (dd + cc) % p
  let h := (bb + aa) % p
  ⟨e * f % p, g * h % p, f * g % p, e * h % p⟩

/-- Scalar multiple over the low n bits of k. -/
def edMul : Nat → Nat → EdPt → EdPt
  | 0, _, _ => ⟨0, 1, 1, 0⟩
  | n + 1, k, q =>
    let r := edMul n (k / 2) (edAdd q q)
    if k % 2 = 1 then edAdd q r else r

/-- Recover a point from its 32-byte encoding. -/
def edDecode (bs : List Byte) : Option EdPt :=
  let p := p25519
  let v := leNat (bs.take 32)
  let y := v % 2 ^ 255
  let sign := bit v 255
  if p ≤ y then none else
  let yy := y * y % p
  let u := subMod p yy 1
  let w := (ed25519D * yy + 1) % p
  let w3 := w * w % p * w % p
  let x0 := u * w3 % p * powMod p (u * (w3 * w3 % p * w % p) % p) ((p - 5) / 8) % p
  let chk := w * (x0 * x0 % p) % p
  let x1 := if chk = u then some x0
    else if chk = subMod p 0 u then some (x0 * powMod p 2 ((p - 1) / 4) % p) else none
  match x1 with
  | none => none
  | some x =>
    if x = 0 ∧ sign = 1 then none else
    let x := if x % 2 = sign then x else subMod p 0 x
    some ⟨x, y, 1, x * y % p⟩

/-- The Ed25519 base point. -/
def edBase : Option EdPt := edDecode (natLE 32 (4 * invMod p25519 5 % p25519))

/-- Same affine point. -/
def edEq (a b : EdPt) : Bool :=
  decide (a.x * b.z % p25519 = b.x * a.z % p25519) && decide (a.y * b.z % p25519 = b.y * a.z % p25519)

/-- Ed25519 verification (RFC 8032, cofactorless). -/
def ed25519Verify (pub msg sig : List Byte) : Bool :=
  match edDecode pub, edDecode (sig.take 32), edBase with
  | some a, some r, some b =>
    let s := leNat ((sig.drop 32).take 32)
    if ed25519L ≤ s then false else
    let k := leNat (sha512 (sig.take 32 ++ pub.take 32 ++ msg)) % ed25519L
    edEq (edMul 256 s b) (edAdd r (edMul 256 k a))
  | _, _, _ => false

/-- The 32-byte string decodes to a point of the curve. -/
def ed25519Valid (pub : List Byte) : Bool := (edDecode pub).isSome

end Sys2Proof.Machine
end

