-- ==== Sys2Proof/Machine/CryptoSteps.lean ====
section
/-! DEFINITION. Cryptographic steps and their engines (R79 to R83, R345 to R347, R557, R364 to R366). -/

namespace Sys2Proof.Machine

open Sys2Proof

/-- Engine and usage bits (R344). -/
def engAes : Nat := 0x000F
def engPka : Nat := 4
def engKdf : Nat := 5
def engCansec : Nat := 6
def engSts : Nat := 7
def engNfcsec : Nat := 8
def engUpdver : Nat := 9
def engWrap : Nat := 10
def useEnc : Nat := 0
def useDec : Nat := 1
def useDer : Nat := 2
def useVer : Nat := 3

/-- Vault slot n (R348). -/
def State.vaultSlot (s : State) (n : Nat) : VaultSlot := Tbl.get s.sec.vault n ⟨0, 0, 0, 0, false, []⟩

/-- ZAP has destroyed every key: steps that need one end TAMPERED (R370). -/
def State.zapped (s : State) : Bool := s.life.st == .tampered

/-! ### Engines -/

/-- The lowest-numbered engine of a mask that is free, up and usable (R346). -/
def State.findEngine (s : State) (needs : Nat) : Option Nat :=
  (List.range 11).find? fun e => needs.testBit e && s.engineUsable e && !s.engineBusy e && !s.engineHeld e && s.domUp (engineDomain e)

/-- Give an engine to the crypto step of a landing. -/
def State.giveEngine (s : State) (l e : Nat) : State :=
  let s := { s with sec := { s.sec with busy := Tbl.put s.sec.busy e l, queue := s.sec.queue.filter (· != l) } }
  s.modLand l fun x => match x.wait with
    | .crypto j => { x with wait := .crypto { j with engine := some e, since := s.now } }
    | _ => x

/-- Serve waiting crypto steps in issue order (R346, R347). -/
def State.serveEngines (s : State) : State :=
  s.sec.queue.foldl (fun s l => match s.findEngine (s.cryptoNeeds l) with
    | some e => s.giveEngine l e
    | none => s) s

/-- A crypto step issues: it waits for one of its engines, or ends UNIT_UNUSABLE when none of them is usable. -/
def State.cryptoIssue (s : State) (l : Nat) (j : CryptoJob) : State :=
  if ((List.range 11).any fun e => j.needs.testBit e && s.engineUsable e) then
    let s := s.enterWait l (.crypto j)
    ({ s with sec := { s.sec with queue := s.sec.queue ++ [l] } }).serveEngines
  else s.advance l 1 fun x => x.outcome j.d .unitUnusable 0 0

/-- A crypto step ends: its bytes land, its handle loads, PROOF is set, its outcome is written (R62, R79, R83). -/
def State.cryptoEnds (s : State) (l : Nat) (j : CryptoJob) : State :=
  let s := j.writes.foldl (fun s w => s.hallWrite l 1 w.1 w.2) s
  s.stepEnds l fun x =>
    let x := match j.handle with | some (i, h) => { x with handles := vset x.handles i h } | none => x
    { x.outcome j.d j.code 0 0 with proof := x.proof || j.proof }

/-- CRYPTO_DONE (R59, R346): an engine finishes the operation of a landing's crypto step and serves the next. -/
def execEvCryptoDone (dt l : Nat) (s : State) : Host.Outcome State Fault Refusal :=
  occurLive dt s fun s =>
    match (s.land l).wait with
    | .crypto j =>
      match j.engine with
      | some e =>
        if s.domUp (engineDomain e) then
          let s := { s with sec := { s.sec with busy := Tbl.del s.sec.busy e } }
          (s.cryptoEnds l j).serveEngines
        else s
      | none => s
    | _ => s

/-! ### AESK -/

/-- AESK (R79, R313). -/
def execStAesk (dt l : Nat) (s : State) : Host.Outcome State Fault Refusal :=
  runStep dt l .aesk s fun f s =>
    let x := s.land l
    let h := bits f.imm 11 10
    let idx := bits f.imm 7 0
    let fin (c : Code) := s.advance l 1 fun x => x.outcome f.d c 0 0
    let load (k : Handle) := s.advance l 1 fun x => { x.outcome f.d .ok 0 0 with handles := vset x.handles h k }
    if bits f.imm 13 12 = 1 then
      if x.tenant.isNone then s.stepFault l .noTenant f.op
      else if s.zapped then fin .tampered
      else match x.tenantKeys.getD idx none with
        | some k => load k
        | none => fin .badRef
    else if s.zapped then fin .tampered
    else
      let v := s.vaultSlot idx
      if v.st = 1 then load ⟨.vault idx, v.ktype, v.engines, v.usage, false, v.key⟩ else fin .badRef

/-! ### AESX, MACV, DERIVE -/

/-- Handle i of a landing. -/
def Landing.handle (x : Landing) (i : Nat) : Handle := vget x.handles i Handle.empty

/-- The faults of a block step at issue: its block range, its fields, its data ranges (offset, length, permission). -/
def State.blockFault (s : State) (l base n : Nat) (bad : List Byte → Bool) (ranges : List Byte → List (Nat × Nat × Nat)) :
    Option StepFault :=
  let blk := s.hallRead l 1 base n
  firstFault ([s.rangeFault l 1 base n permRd, if bad blk then some .operand else none]
    ++ (ranges blk).map fun r => s.rangeFault l 1 r.1 r.2.1 r.2.2)

/-- AESX block fields out of range; the AAD fields are read in the GCM modes only (R557). -/
def aesxBad (b : List Byte) : Bool :=
  let mode := byteAt b 8
  let len := fieldLE b 14 2
  !zerosAt b 0 8 || decide (5 < mode) || decide (3 < byteAt b 9) || decide (len < 1) || decide (1024 < len)
  || (decide (mode < 2) && len % 16 != 0) || ((mode == 3 || mode == 4) && decide (256 < fieldLE b 20 2))

/-- Data ranges of an AESX block that its mode uses (R557, R562). -/
def aesxRanges (b : List Byte) : List (Nat × Nat × Nat) :=
  let mode := byteAt b 8
  let len := fieldLE b 14 2
  [(fieldLE b 10 2, len, permRd)]
  ++ (if mode = 2 then [(fieldLE b 16 2, 16, permRd)] else [])
  ++ (if mode = 3 ∨ mode = 4 then [(fieldLE b 16 2, 12, permRd), (fieldLE b 18 2, fieldLE b 20 2, permRd)] else [])
  ++ (if mode = 4 then [(fieldLE b 22 2, 16, permRd)] else [])
  ++ (if mode ≠ 5 then [(fieldLE b 12 2, len, permW)] else [])
  ++ (if mode = 3 ∨ mode = 5 then [(fieldLE b 22 2, 16, permW)] else [])

/-- The handle may serve an AESX mode (R80). -/
def aesxAllowed (h : Handle) (mode : Nat) : Bool :=
  h.engines &&& engAes != 0 &&
  (match mode with
   | 0 | 3 | 5 => h.usage.testBit useEnc
   | 2 => h.usage.testBit useEnc || h.usage.testBit useDec
   | _ => h.usage.testBit useDec)

/-- A crypto job without effects. -/
def CryptoJob.blank (d needs : Nat) : CryptoJob :=
  { d := d, code := .ok, engine := none, needs := needs, writes := [], handle := none, proof := false, drbg := none,
    drbgSys := none, since := 0, most := 0 }

/-- AESX (R80, R83, R557). -/
def execStAesx (dt l : Nat) (s : State) : Host.Outcome State Fault Refusal :=
  runStep dt l .aesx s fun f s =>
    let x := s.land l
    let base := hallAddr f x
    match s.blockFault l base 24 aesxBad aesxRanges with
    | some e => s.stepFault l e f.op
    | none =>
      let b := s.hallRead l 1 base 24
      let mode := byteAt b 8
      let h := x.handle (byteAt b 9)
      let len := fieldLE b 14 2
      let rd (o n : Nat) := s.hallRead l 1 (fieldLE b o 2) n
      let src := rd 10 len
      let dst := fieldLE b 12 2
      let tagAt := fieldLE b 22 2
      if s.zapped then s.advance l 1 fun x => x.outcome f.d .tampered 0 0
      else if !aesxAllowed h mode then s.advance l 1 fun x => x.outcome f.d .keyPolicy 0 0
      else
        let aad := rd 18 (fieldLE b 20 2)
        let nonce := rd 16 12
        let (code, writes) : Code × List (Nat × List Byte) :=
          match mode with
          | 0 => (.ok, [(dst, aesEcb false h.key src)])
          | 1 => (.ok, [(dst, aesEcb true h.key src)])
          | 2 => (.ok, [(dst, aesCtr h.key (rd 16 16) src)])
          | 3 => let r := gcmEncrypt h.key nonce aad src
                 (.ok, [(dst, r.1), (tagAt, r.2)])
          | 4 => match gcmDecrypt h.key nonce aad src (rd 22 16) with
                 | some pt => (.ok, [(dst, pt)])
                 | none => (.authFail, [(dst, List.replicate len 0)])
          | _ => (.ok, [(tagAt, aesCmac h.key src)])
        s.cryptoIssue l { CryptoJob.blank f.d (h.engines &&& engAes) with
          code := code, writes := writes, most := (if mode = 3 ∨ mode = 4 then 3 else 2) * ((len + 15) / 16) * coreT }

/-- MACV block fields out of range. -/
def macvBad (b : List Byte) : Bool :=
  let n := fieldLE b 12 2 + fieldLE b 16 2
  !zerosAt b 0 8 || byteAt b 8 != 0 || decide (3 < byteAt b 9) || decide (n < 1) || decide (512 < n)
  || decide (byteAt b 20 < 4) || decide (16 < byteAt b 20) || !zerosAt b 21 3

/-- MACV (R80, R83): verifies a tag; PROOF when the handle carries the mark of the bound tenant. -/
def execStMacv (dt l : Nat) (s : State) : Host.Outcome State Fault Refusal :=
  runStep dt l .macv s fun f s =>
    let x := s.land l
    let base := hallAddr f x
    let ranges := fun b => [(fieldLE b 10 2, fieldLE b 12 2, permRd), (fieldLE b 14 2, fieldLE b 16 2, permRd),
                            (fieldLE b 18 2, byteAt b 20, permRd)]
    match s.blockFault l base 24 macvBad ranges with
    | some e => s.stepFault l e f.op
    | none =>
      let b := s.hallRead l 1 base 24
      let h := x.handle (byteAt b 9)
      let rd (o n : Nat) := s.hallRead l 1 (fieldLE b o 2) n
      if s.zapped then s.advance l 1 fun x => x.outcome f.d .tampered 0 0
      else if !(h.engines &&& engAes != 0 && h.usage.testBit useVer) then s.advance l 1 fun x => x.outcome f.d .keyPolicy 0 0
      else
        let good := (aesCmac h.key (rd 10 (fieldLE b 12 2) ++ rd 14 (fieldLE b 16 2))).take (byteAt b 20) == rd 18 (byteAt b 20)
        s.cryptoIssue l { CryptoJob.blank f.d (h.engines &&& engAes) with
          code := if good then .ok else .authFail, proof := good && h.tenantMark && x.tenant.isSome
          most := 2 * ((fieldLE b 12 2 + fieldLE b 16 2 + 15) / 16) * coreT }

/-- DERIVE block fields out of range (R82). -/
def deriveBad (b : List Byte) : Bool :=
  let mode := byteAt b 8
  !zerosAt b 0 8 || decide (2 < mode) || decide (3 < byteAt b 9) || decide (3 < byteAt b 10) || decide (7 < byteAt b 11)
  || decide (64 < fieldLE b 14 2) || decide (64 < fieldLE b 18 2) || decide (15 < byteAt b 22) || decide (1 < byteAt b 23)
  || (mode != 0 && byteAt b 23 != 1)

/-- Output engines of DERIVE: byte 11 intersected with the input handle's mask (R82, R344). -/
def deriveEngines (b11 mask : Nat) : Nat :=
  ((if b11.testBit 0 then engAes else 0) + (if b11.testBit 1 then 2 ^ engSts else 0)
    + (if b11.testBit 2 then 2 ^ engNfcsec else 0)) &&& mask

/-- Vault slot a handle descends from (R351). -/
def Handle.slot (h : Handle) : Option Nat :=
  match h.src with | .vault n => some n | .derived s => s | _ => none

/-- DERIVE (R80, R82, R558). A peer point off the curve ends AUTH_FAIL (log 13). -/
def execStDerive (dt l : Nat) (s : State) : Host.Outcome State Fault Refusal :=
  runStep dt l .derive s fun f s =>
    let x := s.land l
    let base := hallAddr f x
    let ranges := fun b =>
      [(fieldLE b 12 2, fieldLE b 14 2, permRd), (fieldLE b 16 2, fieldLE b 18 2, permRd)]
      ++ (match byteAt b 8 with
          | 0 => []
          | 1 => [(fieldLE b 20 2, 32, permRd)]
          | _ => [(fieldLE b 20 2, 64, permRd)])
    match s.blockFault l base 24 deriveBad ranges with
    | some e => s.stepFault l e f.op
    | none =>
      let b := s.hallRead l 1 base 24
      let mode := byteAt b 8
      let h := x.handle (byteAt b 9)
      let rd (o n : Nat) := s.hallRead l 1 (fieldLE b o 2) n
      let eng := if mode = 0 then engKdf else engPka
      let ktypeOk := match mode with | 0 => true | 1 => h.ktype == 4 | _ => h.ktype == 2
      if s.zapped then s.advance l 1 fun x => x.outcome f.d .tampered 0 0
      else if !(h.engines.testBit eng && h.usage.testBit useDer && ktypeOk) then
        s.advance l 1 fun x => x.outcome f.d .keyPolicy 0 0
      else
        let key : Option (List Byte) := match mode with
          | 0 => some (kdf h.key (rd 12 (fieldLE b 14 2)) (rd 16 (fieldLE b 18 2)) (if byteAt b 23 = 1 then 256 else 128))
          | 1 => some (x25519 h.key (rd 20 32))
          | _ => p256Ecdh (beNat h.key) (rd 20 64)
        let out : Option (Nat × Handle) := key.map fun k =>
          (byteAt b 10, ⟨.derived h.slot, byteAt b 23, deriveEngines (byteAt b 11) h.engines, byteAt b 22, h.tenantMark, k⟩)
        s.cryptoIssue l { CryptoJob.blank f.d (2 ^ eng) with
          code := if key.isSome then .ok else .authFail, handle := out
          most := match mode with | 0 => 24 * (1 + byteAt b 23) * coreT | 1 => 900 * usT | _ => 1400 * usT }

/-! ### DRBG -/

/-- No fresh randomness: the alarm stands or the source is unusable (R363). -/
def State.noEntropy (s : State) : Bool := s.sec.ent == .alarm || s.marked unitEntropy

/-- The instance a request draws from. -/
def State.drbgInst (s : State) (l : Nat) (sys : Option Nat) : Option DrbgInst :=
  match sys with
  | some k => Tbl.find s.sec.sysDrbg k
  | none => Tbl.find s.sec.tenDrbg l

/-- The instance must be instantiated or reseeded first (R365). -/
def State.needsSeed (s : State) (l : Nat) (sys : Option Nat) : Bool :=
  match s.drbgInst l sys with
  | none => true
  | some i => decide (s.sec.reseedReq ≤ i.served) || decide (i.seededAt + s.sec.reseedS * secT ≤ s.now)

/-- Store an instance. -/
def State.putInst (s : State) (l : Nat) (sys : Option Nat) (i : DrbgInst) : State :=
  match sys with
  | some k => { s with sec := { s.sec with sysDrbg := Tbl.put s.sec.sysDrbg k i } }
  | none => { s with sec := { s.sec with tenDrbg := Tbl.put s.sec.tenDrbg l i } }

/-- Seed an instance with three pool blocks (R364). -/
def State.seedInst (s : State) (l : Nat) (sys : Option Nat) : State :=
  let e := (s.sec.pool.take 3).flatten
  let ident := match sys with
    | some k => Config.drbgIdentity false k
    | none => Config.drbgIdentity true ((s.land l).tenant.getD 0)
  let i : DrbgInst := match s.drbgInst l sys with
    | some i => { i with kv := drbgReseed i.kv e, served := 0, seededAt := s.now }
    | none => { kv := drbgInstantiate e (ident.take 2 ++ natLE 16 s.life.devid), last := [], served := 0, seededAt := s.now }
  let s := { s with sec := { s.sec with
    pool := s.sec.pool.drop 3, drawnSeed := s.sec.drawnSeed + 3
    sysSeeds := s.sec.sysSeeds + b2n sys.isSome, tenSeeds := s.sec.tenSeeds + b2n sys.isNone } }
  s.putInst l sys i

/-- Generate n bytes from an instance that is seeded (R365, R366). -/
def State.drbgOut (s : State) (l : Nat) (sys : Option Nat) (n : Nat) : State × List Byte :=
  match s.drbgInst l sys with
  | none => (s, [])
  | some i =>
    let k := aesKey i.kv.key
    let want := (n + 15) / 16
    let (bs, v, last, dropped) := drbgBlocks k (want + 16) want i.kv.v i.last
    let kv := drbgUpdate ⟨i.kv.key, v⟩ (List.replicate 48 0)
    let s := s.putInst l sys { i with kv := kv, last := last, served := i.served + 1 }
    ({ s with sec := { s.sec with cot := (s.sec.cot + dropped) % 65536 } }, bs.flatten.take n)

/-- A DRBG request that found no fresh output (R81, DRBG_COUNT UNAVAIL). -/
def State.drbgUnavail (s : State) : State := { s with sec := { s.sec with unavail := (s.sec.unavail + 1) % 65536 } }

/-- DRBG (R81, R363 to R366). -/
def execStDrbg (dt l : Nat) (s : State) : Host.Outcome State Fault Refusal :=
  runStep dt l .drbg s fun f s =>
    let x := s.land l
    let n := bits f.imm 5 0 + 1
    let dst := srcReg f x
    let sys := if bit f.imm 13 = 1 then some (bits f.imm 11 8) else none
    if sys.isNone && x.tenant.isNone then s.stepFault l .noTenant f.op
    else match s.rangeFault l 1 dst n permW with
      | some e => s.stepFault l e f.op
      | none =>
        if s.zapped then s.advance l 1 fun x => x.outcome f.d .tampered 0 0
        else if s.noEntropy then s.drbgUnavail.advance l 1 fun x => x.outcome f.d .entropyUnavailable 0 0
        else if s.needsSeed l sys && (decide (s.sec.pool.length < 3) || !s.sec.drbgQueue.isEmpty) then
          let j := { CryptoJob.blank f.d 0 with drbg := some (n, dst, s.now), drbgSys := sys }
          let s := s.enterWait l (.crypto j)
          { s with sec := { s.sec with drbgQueue := s.sec.drbgQueue ++ [l] } }
        else
          let s := if s.needsSeed l sys then s.seedInst l sys else s
          let (s, out) := s.drbgOut l sys n
          (s.hallWrite l 1 dst out).advance l 1 fun x => x.outcome f.d .ok 0 0

/-- Serve waiting DRBG requests, in issue order, while the pool holds three blocks or the instance of the first needs none any more: a
request before it has seeded it (R365). The fuel bounds the queue. -/
def State.serveDrbg : Nat → State → State
  | 0, s => s
  | fuel + 1, s =>
    match s.sec.drbgQueue with
    | [] => s
    | l :: rest =>
      let s' := { s with sec := { s.sec with drbgQueue := rest } }
      match (s.land l).wait with
      | .crypto j =>
        match j.drbg with
        | some (n, dst, _) =>
          let seeds := s.needsSeed l j.drbgSys
          if seeds && decide (s.sec.pool.length < 3) then s else
          let s' := if seeds then s'.seedInst l j.drbgSys else s'
          let (s', out) := s'.drbgOut l j.drbgSys n
          State.serveDrbg fuel (s'.cryptoEnds l { j with writes := [(dst, out)] })
        | none => State.serveDrbg fuel s'
      | _ => State.serveDrbg fuel s'

/-- DRBG_WAIT_LAPSE (R365): a request still short of pool blocks after 150 us ends ENTROPY_UNAVAILABLE. -/
def execEvDrbgWaitLapse (dt l : Nat) (s : State) : Host.Outcome State Fault Refusal :=
  occurLive dt s fun s =>
    match (s.land l).wait with
    | .crypto j =>
      match j.drbg with
      | some (_, _, t) =>
        if t + 150 * usT ≤ s.now then
          let s := { s with sec := { s.sec with drbgQueue := s.sec.drbgQueue.filter (· != l) } }
          let s := s.drbgUnavail.cryptoEnds l { j with code := .entropyUnavailable }
          s.serveDrbg s.sec.drbgQueue.length
        else s
      | none => s
    | _ => s

end Sys2Proof.Machine
end

