-- ==== Sys2Proof/Machine/NvmOps.lean ====
section
/-! DEFINITION. NVM: its sectors, their erases and remaps (R389 to R393), the copies of the provisioning record (R379, R383), the update
banks and the library directory (R394, R395, R398, R405), and the entries of the tenant journal (R137, R317, R389). -/

namespace Sys2Proof.Machine

open Sys2Proof

/-! ### Sectors -/

/-- Region code of a sector (chapter 12, NVM), in the order of R389; the spec gives no codes (log 28). -/
def sectorRegion (n : Nat) : Nat :=
  if n < 128 then 0 else if n < 256 then 1 else if n < 320 then 2 else if n < 384 then 3 else if n < 448 then 4
  else if n < 512 then 5 else if n < 544 then 6 else if n < 576 then 7 else if n < 592 then 8 else if n < 624 then 9
  else if n < 816 then 10 else if n < 824 then 11 else 12

/-- The stamp of sector n: MAGIC, sector number, erase count, EPOCH, 0 and its CRC-32 (R391). -/
def Sector.stamp (x : Sector) (n : Nat) : List Byte :=
  let b := natLE 2 0x7E5A ++ natLE 2 n ++ natLE 4 x.erases ++ natLE 2 x.stampEpoch ++ natLE 2 0
  b ++ natLE 4 (crc32 b)

/-- The erase count of a sector: of its stamp, or of its open intent (R391). -/
def Sector.count (x : Sector) : Nat := x.intent.getD x.erases

/-- The sector is half-erased (R392). -/
def Sector.halfErased (x : Sector) : Bool :=
  match x.intent with | some c => !(x.stampOk && x.erases == c) | none => !x.stampOk

/-- Physical sector p. -/
def LifeCycle.sector (c : LifeCycle) (p : Nat) : Sector := Tbl.get c.sectors p Sector.blank

/-- Change physical sector p. -/
def LifeCycle.modSector (c : LifeCycle) (p : Nat) (f : Sector → Sector) : LifeCycle :=
  { c with sectors := Tbl.put c.sectors p (f (c.sector p)) }

/-- The physical sector that holds the role of sector n: n itself, or the spare that the role has moved to (R393). -/
def LifeCycle.phys (c : LifeCycle) (n : Nat) : Nat := Tbl.get c.remaps n n

/-- The role that a physical sector holds. -/
def LifeCycle.roleOf (c : LifeCycle) (p : Nat) : Option Nat :=
  match c.remaps.find? fun e => e.2 == p with
  | some e => some e.1
  | none => if (Tbl.find c.remaps p).isSome || decide (824 ≤ p) then none else some p

/-- The intent record of an erase is durable; a half-erased sector counts as recovered (R391 step 1, R392). -/
def LifeCycle.openErase (c : LifeCycle) (n : Nat) : LifeCycle :=
  let x := c.sector (c.phys n)
  ({ c with half := if x.halfErased then (c.half + 1) % 2 ^ 32 else c.half } : LifeCycle).modSector (c.phys n) fun x =>
    { x with intent := some (x.count + 1) }

/-- The sector is erased and stamped, and its intent closed (R391 steps 2 to 4). -/
def LifeCycle.closeErase (c : LifeCycle) (epoch n : Nat) : LifeCycle :=
  c.modSector (c.phys n) fun x => { x with erases := x.count, stampOk := true, intent := none, stampEpoch := epoch }

/-- A whole erase. -/
def LifeCycle.eraseSector (c : LifeCycle) (epoch n : Nat) : LifeCycle := (c.openErase n).closeErase epoch n

/-- Erase a run of sectors. -/
def LifeCycle.eraseRun (c : LifeCycle) (epoch lo n : Nat) : LifeCycle :=
  (List.range n).foldl (fun c i => c.eraseSector epoch (lo + i)) c

/-- A spare sector that holds no role and was not taken out of use (R389, R393). -/
def LifeCycle.spareFree (c : LifeCycle) (p : Nat) : Bool := !(c.sector p).retired && c.remaps.all fun e => e.2 != p

/-- The lowest-numbered free spare sector. -/
def LifeCycle.freeSpare (c : LifeCycle) : Option Nat := ((List.range 200).map (824 + ·)).find? c.spareFree

/-- Free spare sectors. -/
def LifeCycle.spares (c : LifeCycle) : Nat := (List.range 200).countP fun i => c.spareFree (824 + i)

/-- The role of physical sector p moves to the spare q with its live data, under a remap record; p is never used again (R393). -/
def LifeCycle.remapTo (c : LifeCycle) (p q : Nat) : LifeCycle :=
  match c.roleOf p with
  | some r => ({ c with remaps := Tbl.put c.remaps r q, remapped := c.remapped + 1 } : LifeCycle).modSector p fun x => { x with retired := true, intent := none }
  | none => c

/-- Erase the next sector of a ring; at 10,000 erases its role moves to a spare while one is free (R393). -/
def LifeCycle.eraseRing (c : LifeCycle) (epoch n : Nat) : LifeCycle :=
  let c := c.eraseSector epoch n
  if (c.sector (c.phys n)).erases < 10000 then c
  else match c.freeSpare with | some q => c.remapTo (c.phys n) q | none => c

/-- Erases of the sectors whose use the spec fixes, and those that levelling has made in the rings of the tenant journal and of the
counters region, whose number is a free value at every instant (R393; log 137). -/
def State.ringErases (s : State) (p : Nat) : Nat :=
  if 384 ≤ p ∧ p < 512 ∨ 592 ≤ p ∧ p < 624 then Config.ringErases p s.now else 0

/-- Sum, highest and mean of the erase counts of all 1,024 sectors (R431 ledger 8). -/
def State.erasesTotal (s : State) : Nat := (List.range 1024).foldl (fun n p => n + (s.life.sector p).count + s.ringErases p) 0
def State.erasesMax (s : State) : Nat := (List.range 1024).foldl (fun n p => max n ((s.life.sector p).count + s.ringErases p)) 0
def State.erasesMean (s : State) : Nat := s.erasesTotal / 1024

/-- Detail of a class 2 sector fault: the sector, the region it serves, its erase count (R416). -/
def State.sectorDetail (s : State) (p : Nat) : List Byte :=
  natLE 2 p ++ natLE 1 (sectorRegion ((s.life.roleOf p).getD p)) ++ natLE 4 ((s.life.sector p).count + s.ringErases p)

/-! ### The provisioning record -/

/-- The record of the first valid copy (R389, R411 step 7). -/
def LifeCycle.prov (c : LifeCycle) : Option ProvRecord :=
  if c.copy0.crcOk then c.copy0.gov else if c.copy1.crcOk then c.copy1.gov else none

/-- First sector of a copy (log 221). -/
def copySector (j : Nat) : Nat := 816 + 4 * j

/-- Change copy 0 or 1. -/
def LifeCycle.modCopy (c : LifeCycle) (j : Nat) (f : RecordCopy → RecordCopy) : LifeCycle :=
  if j = 0 then { c with copy0 := f c.copy0 } else { c with copy1 := f c.copy1 }

/-- A copy whose CRC-32 does not hold. -/
def LifeCycle.badCopy (c : LifeCycle) (j : Nat) : LifeCycle := c.modCopy j fun k => { k with crcOk := false }

/-- Step 2 of R381: the record of a change is written to a copy, beside the one that governs until the change is proven (R383). -/
def LifeCycle.writeCopy (c : LifeCycle) (j : Nat) (i : LifeIntent) : LifeCycle := c.modCopy j fun _ => ⟨i.base, i.record, true⟩

/-- Parts of a record replace the stored parts they name (R379). -/
def ProvRecord.over (new : ProvRecord) (old : Option ProvRecord) : ProvRecord :=
  match old with
  | none => new
  | some o => { region := new.region, regulatory := new.regulatory.orElse fun _ => o.regulatory
                protection := new.protection.orElse fun _ => o.protection
                lockout := new.lockout.orElse fun _ => o.lockout }

/-- The change that carried a record is proven: the record governs (R383). -/
def RecordCopy.prove (k : RecordCopy) : RecordCopy :=
  match k.attempt with | some r => { k with gov := some (r.over k.gov), attempt := none } | none => k

/-- Bit position of the fuse stage that proves a state: P, B and R (R384). -/
def stageShift : Life → Option Nat
  | .provisioned => some 0
  | .bound => some 8
  | .retired => some 16
  | _ => none

/-! ### Banks -/

/-- Fields of a manifest (R395). -/
def Bank.signer (k : Bank) : Nat := byteAt k.manifest 7
def Bank.version (k : Bank) : Nat := fieldLE k.manifest 8 2
def Bank.ilen (k : Bank) : Nat := fieldLE k.manifest 12 4
def Bank.digest (k : Bank) : List Byte := sliceP k.manifest 32 48

/-- Bank b: firmware A and B, library A and B. -/
def LifeCycle.bank (c : LifeCycle) (b : Nat) : Bank := vget c.banks b Bank.blank

/-- Change bank b. -/
def LifeCycle.modBank (c : LifeCycle) (b : Nat) (f : Bank → Bank) : LifeCycle := { c with banks := vset c.banks b (f (c.bank b)) }

/-- Rollback floor of a target. -/
def LifeCycle.floor (c : LifeCycle) (target : Nat) : Nat := if target = 0 then c.fwFloor else c.libFloor

/-- The bank of a target in a state. -/
def LifeCycle.bankIn (c : LifeCycle) (target : Nat) (st : BankState) : Option Nat :=
  [2 * target, 2 * target + 1].find? fun b => (c.bank b).st == st

/-- The bank of a target that is ACTIVE or TRIAL. -/
def LifeCycle.selected (c : LifeCycle) (target : Nat) : Option Nat :=
  (c.bankIn target .active).orElse fun _ => c.bankIn target .trial

/-- First NVM sector of a bank. -/
def bankSector (b : Nat) : Nat := if b < 2 then 128 * b else 256 + 64 * (b - 2)

/-- The bank of the open update. -/
def LifeCycle.openBank (c : LifeCycle) : Option Nat :=
  c.openTarget.bind fun t => [2 * t, 2 * t + 1].find? fun b =>
    match (c.bank b).st with | .downloading | .downloaded | .verified => true | _ => false

/-- The rewind of R398: the bytes held, not those journalled, go back to a sector, which is erased again before the next chunk. -/
def LifeCycle.rewind (c : LifeCycle) : LifeCycle :=
  if c.openTarget.isSome then { c with held := c.bytes / 4096 * 4096, erasedTo := c.bytes / 4096 } else c

/-- What a chunk or an atlas has staged, once its item ends in a fault: rewound, or discarded (R282, R398, R427). -/
def State.rewound (s : State) (k : ItemKey) : State :=
  match (s.item k).map (·.code) with
  | some 0x41 => { s with life := s.life.rewind }
  | some 0x52 => { s with verdict := { s.verdict with held := 0 } }
  | _ => s

/-- A sector of the open update begins to be erased: what was journalled in it and behind it is gone, and the bank is incomplete (R394,
R397, R398). -/
def LifeCycle.dropJournal (c : LifeCycle) : LifeCycle :=
  let lo := 4096 * c.erasedTo
  if c.bytes ≤ lo then c else
  let c := match c.openBank with | some b => c.modBank b fun k => { k with st := .downloading } | none => c
  { c with bytes := lo, lastVerifyOk := false }

/-- The target whose trial bank runs (R43). -/
def LifeCycle.trialTarget (c : LifeCycle) : Option Nat :=
  [0, 1].find? fun t => match c.bankIn t .trial with | some b => b == (if t = 0 then c.runFw else c.runLib) | none => false

/-! ### The library directory (R405) -/

/-- Bytes of the running library image. -/
def State.libImage (s : State) : List Byte :=
  let k := s.life.bank s.life.runLib
  k.image.readN 0 k.ilen

/-- Fields of a library directory (R405). -/
def dirSlot (img : List Byte) : Nat := byteAt img 6
def dirBlocks (img : List Byte) : Nat := fieldLE img 12 2
def dirGen (img : List Byte) : Nat := fieldLE img 16 4

/-- Entry of a slot: external, offset, length. -/
def dirEntry (img : List Byte) (slot : Nat) : Bool × Nat × Nat :=
  let o := 32 + 8 * (slot - 0x80)
  let loc := fieldLE img o 4
  (loc.testBit 31, loc % 2 ^ 31, fieldLE img (o + 4) 4)

/-! ### Entries of the tenant journal -/

/-- The tenant that an enrolment record makes: active, with an empty life record (R316, R317); its wrapped keys follow the record. -/
def enrolledTenant (b : List Byte) (enrolled : Nat) : Tenant :=
  let u (o n : Nat) : Nat := fieldLE b o n
  let keys := u 9 1
  { st := 1, ttype := u 8 1, keys := keys, rights := u 10 1, tokid := u 32 4, counter := u 36 4, climit := u 40 4
    vfrom := u 44 4, vuntil := u 48 4, mlimit := u 52 2, startZones := u 54 2, entryZones := u 56 2, replycfg := u 11 1
    revokedBy := 0, cf := 0, lockEnd := none, lctr := u 12 4, enrolled := enrolled, passes := 0, fails := 0
    lastpass := 0, batt := 0, life := 0, elimit := u 58 2, tstatus := 0
    wrapped := (List.range 4).map fun i => if keys.testBit i then sliceP b (192 + 24 * i) 24 else [] }

/-- The entry of an enrolment stands (R317). -/
def State.enrolEntry (s : State) (r : ItemRec) (b : List Byte) : State :=
  { s with ten := { s.ten with recs := Tbl.put s.ten.recs (r.p16 12) (enrolledTenant b (s.vehicle.getD 0)), learnCtr := fieldLE b 12 4 } }

/-- The entry of a suspension or resumption stands (R319). -/
def State.suspendEntry (s : State) (r : ItemRec) : State :=
  s.modTenant (r.p16 12) fun x => { x with st := if r.p8 14 = 0 then 2 else 1 }

/-- The entry of a revocation stands: its wrapped keys are destroyed with it (R320). -/
def State.revokeEntry (s : State) (r : ItemRec) : State :=
  s.modTenant (r.p16 12) fun x => { x with st := 3, revokedBy := 1, keys := 0, wrapped := [] }

/-- The entry of a tenant item stands. -/
def State.itemEntry (s : State) (r : ItemRec) (b : List Byte) : State :=
  match r.code with
  | 0x20 => s.enrolEntry r b
  | 0x21 => s.suspendEntry r
  | 0x22 => s.revokeEntry r
  | _ => s

/-- One counted failure of a tenant (R322). -/
def State.countFailure (s : State) (t : Nat) : State × Code :=
  let s := s.learnFail
  match s.tenant t with
  | none => (s, .ok)
  | some r =>
    let cf := min (r.cf + 1) 255
    let locks := r.lockEnd.isSome || decide (s.lockLim ≤ cf)
    (s.modTenant t fun r =>
      { r with cf := cf, fails := (r.fails + 1) % 2 ^ 32,
               lockEnd := if locks then some (s.counting + s.lockS * secT) else none },
     if locks then .lockedOut else .ok)

/-- A staged change takes effect on its tenant (R325). -/
def Tenant.commit (r : Tenant) (g : Staged) : Tenant :=
  { r with counter := g.counter, cf := 0, passes := (r.passes + 1) % 2 ^ 32, lastpass := g.passedAt.getD r.lastpass
           batt := g.battery.getD r.batt
           tstatus := match g.status with | some v => bits v 2 1 + 4 | none => r.tstatus }

/-- The journal entry of a NEWEL stands (R93, R326). -/
def State.newelEntry (s : State) (g : Staged) : State :=
  let s := s.modTenant g.tenant fun r => r.commit g
  s.modTenant g.tenant fun r => { r with life := s.lifeFlags r }

/-- A reset cuts the program of a tenant journal entry. Copy 0 is programmed first, and an entry that it holds stands at the next boot; whether
it did is a free value, and so is which of an item, a NEWEL and a TFAIL was being programmed (R89, R93, R389; log 222). -/
def State.cutJournal (s : State) : State :=
  let item := match s.life.jobs with
    | .commit k 0 b :: _ => (s.item k).bind fun r => if r.code = 0x20 ∨ r.code = 0x21 ∨ r.code = 0x22 then some (r, b) else none
    | _ => none
  let newel := s.ten.newels.head?.bind fun l => (s.land l).staged
  let tfail := (s.landsWhere fun x => match x.wait with | .tfail _ => true | _ => false).head?.bind fun l => (s.land l).tenant
  if item.isNone && newel.isNone && tfail.isNone then s else
  let (s, n) := s.draw
  match n % 4, item, newel, tfail with
  | 1, some (r, b), _, _ => s.itemEntry r b
  | 2, _, some g, _ => s.newelEntry g
  | 3, _, _, some t => (s.countFailure t).1
  | _, _, _, _ => s

end Sys2Proof.Machine
end

