-- ==== Sys2Proof/Machine/DmaCore.lean ====
section
/-! DEFINITION. Descriptors: their granules, their poison and their failure (R130 to R133, R564). -/

namespace Sys2Proof.Machine

open Sys2Proof

/-- Bytes of the next granule: up to the next 32-byte boundary of the destination (R130). -/
def Desc.chunk (d : Desc) : Nat := min (d.len - d.done) (32 - (d.dstOff + d.done) % 32)

/-- The source bytes of the next granule; none when a source granule is poison-tagged (R131, R132). -/
def State.dmaRead (s : State) (d : Desc) : Option (List Byte) :=
  let n := d.chunk
  let o := d.srcOff + d.done
  match d.src with
  | .page p =>
    let a := 0x800 * p + o
    if s.host.pagePoison.any fun g => decide (a / 32 ≤ g) && decide (g ≤ (a + n - 1) / 32) then none
    else some (s.host.pages.readN a n)
  | .hall l h => if s.hallPoisoned l h o n then none else some (s.hallRead l h o n)
  | .bytes bs => some (sliceP bs o n)

/-- Write a granule; a whole one clears its poison tag (R132). -/
def State.dmaWrite (s : State) (d : Desc) (bs : List Byte) : State :=
  let o := d.dstOff + d.done
  match d.dst with
  | .page p =>
    let a := 0x800 * p + o
    let poison := if bs.length = 32 then s.host.pagePoison.filter (· != a / 32) else s.host.pagePoison
    { s with host := { s.host with pages := s.host.pages.writeN a bs, pagePoison := poison } }
  | .hall l h =>
    let s := s.hallWrite l h o bs
    let g := (s.hallBase l h + o) / 32
    if bs.length = 32 then s.setHallPoison l h fun ps => ps.filter (· != g) else s
  | .stage => s

/-- Poison the granules of the destination from the one at which the descriptor stopped (R131). -/
def State.dmaPoison (s : State) (d : Desc) : State :=
  if d.len ≤ d.done then s else
  let lo := d.dstOff + d.done
  let hi := d.dstOff + d.len - 1
  match d.dst with
  | .page p =>
    { s with host := { s.host with
        pagePoison := insRange ((0x800 * p + lo) / 32) ((0x800 * p + hi) / 32) s.host.pagePoison } }
  | .hall l h =>
    let b := s.hallBase l h
    s.setHallPoison l h (insRange ((b + lo) / 32) ((b + hi) / 32))
  | .stage => s

/-- Slot, bytes held and item of a FLIGHT_LOAD (R55). -/
def State.heldBytes (s : State) (slot : Nat) : List Byte := Tbl.get s.halls.held slot []

/-- Append delivered bytes to the unpublished bytes of a slot; offset 0 starts anew (R55, R133). -/
def State.loadBytes (s : State) (slot off : Nat) (bs : List Byte) : State :=
  let old := if off = 0 then [] else s.heldBytes slot
  { s with halls := { s.halls with held := Tbl.put s.halls.held slot (old ++ bs) } }

/-- The completion of an item whose descriptor failed (R131, R133, R427). -/
def State.itemFails (s : State) (k : ItemKey) (d : Desc) (code : Code) : State :=
  match s.host.items.find? (fun r => r.key == k) with
  | none => s
  | some r =>
    match r.code with
    | 0x10 =>
      let s := s.loadBytes (r.p16 12) (r.p32 16) (d.buf.take d.done)
      s.finish k code (natLE 4 (s.heldBytes (r.p16 12)).length)
    | 0x01 | 0x13 | 0x14 | 0x15 | 0x23 | 0x53 => s.finish k code (natLE 2 d.done)
    | _ => s.finish k code []

/-- What the failure of a descriptor ends: its item, or the start that it served (R101, R407). -/
def State.jobFails (s : State) (d : Desc) (code : Code) : State :=
  match d.job with
  | .item k => s.itemFails k d code
  | .initFetch l => match (s.land l).wait with
    | .starting r => s.startFails l r (if code == .imageMacFail || code == .failedHush then code else .failedFault)
    | _ => s
  | .cir _ | .place => s

/-- Channel ch. -/
def Dma.chan (d : Dma) (ch : Nat) : Chan := vget d.chans ch Chan.reset

/-- The lowest idle channel that no recovery holds. -/
def State.freeChannel (s : State) : Option Nat := (List.range 8).find? fun ch => !(s.dma.chan ch).active && !s.inSet (.dma ch)

/-- A move that the device made within a command stands in the channel that it took (R135, R564): `done` of `len` bytes, cause 4 where a
block of OSPI flash failed. -/
def State.showMove (s : State) (job : DmaJob) (code srcKind dstKind srcOff len done : Nat) : State :=
  match s.freeChannel with
  | none => s
  | some ch =>
    let d : Desc := { job := job, itemCode := code, srcKind := srcKind, dstKind := dstKind, src := .bytes [], dst := .stage, srcOff := srcOff
                      dstOff := 0, len := len, done := done, buf := [], lastGranule := s.now }
    let ok := decide (len ≤ done)
    let c : Chan := { active := false, doneFlag := ok, failed := !ok, cause := if ok then 0 else 4, desc := some d }
    { s with dma := { s.dma with chans := vset s.dma.chans ch c } }

/-- Fail the descriptor of a channel (R131): cause as in DMA_CHn. What a recovery ends is rewound (R427). -/
def State.failDesc (s : State) (ch cause : Nat) (code : Code) : State :=
  let c := s.dma.chan ch
  match c.active, c.desc with
  | true, some d =>
    let s := s.dmaPoison d
    let s := match cause, d.job with | 1, .item k => s.rewound k | _, _ => s
    let c := { c with active := false, doneFlag := false, failed := true, cause := cause }
    ({ s with dma := { s.dma with chans := vset s.dma.chans ch c } } : State).jobFails d code
  | _, _ => s

/-- A descriptor touches a scope: its channel, its page, a landing whose halls it reads or writes (R419). -/
def Desc.touches (d : Desc) (ch : Nat) (set : List Scope) : Bool :=
  insideSet set (.dma ch)
  || (match d.src with | .page p => insideSet set (.page p) | .hall l _ => insideSet set (.landing l) | .bytes _ => false)
  || (match d.dst with | .page p => insideSet set (.page p) | .hall l _ => insideSet set (.landing l) | .stage => false)
  || (match d.job with | .initFetch l | .cir l => insideSet set (.landing l) | .item _ | .place => false)

/-- Fail every running descriptor that meets a test on its channel number and itself. -/
def State.failWhere (s : State) (p : Nat → Desc → Bool) (cause : Nat) (code : Code) : State :=
  (List.range 8).foldl (fun s ch =>
    let c := s.dma.chan ch
    match c.active, c.desc with
    | true, some d => if p ch d then s.failDesc ch cause code else s
    | _, _ => s) s

/-- What is left of the descriptor is the last granule of an item whose checks need engine e. -/
def State.lastOfItem (s : State) (d : Desc) (e : Nat) : Bool :=
  d.dst == .stage && decide (d.len ≤ d.done + d.chunk) && (match d.job with
    | .item k => match s.item k with | some r => r.needs.contains (.engine e) | none => false
    | _ => false)

/-- The last granule of an item waits for the engines of its checks, which serve one operation at a time and whose domains are voted up
(R347; log 217). -/
def State.stageHeld (s : State) (d : Desc) : Bool :=
  (List.range 11).any fun e => s.lastOfItem d e && (s.engineBusy e || !s.domUp (engineDomain e))

end Sys2Proof.Machine
end

