-- ==== Sys2Proof/Machine/ResetOps.lean ====
section
/-! DEFINITION. Resets: what a reset that closes an epoch leaves (R29, R45 to R47, R309, R324, R331, R398, R428, R433), what a warm
reset leaves (R423), and what a sleep leaves (R482, R483). -/

namespace Sys2Proof.Machine

open Sys2Proof

/-- Change the release engine. -/
def State.setRel (s : State) (f : Release → Release) : State := { s with rel := f s.rel }

/-! ### Ends of a session -/

/-- The session ends with a reason, and a RELHOLD that waits for it ends (R91, R336). A RELOPEN that still waits for its
first frame ends as refused. -/
def State.relFinish (s : State) (reason : Nat) : State :=
  match s.rel.session with
  | none => s.relAmend none reason
  | some q =>
    let s := s.relEnd q.land reason
    match (s.land q.land).wait with
    | .relHold d =>
      let c := relOutcome q reason
      (s.hallWrite q.land 1 q.resOff (relResult q reason)).stepEnds q.land fun x =>
        x.outcome d c (if c = .fieldTimeout then 1 else 0) 0
    | .relOpen d _ => s.stepEnds q.land fun x => x.outcome d (if reason = 4 then .tampered else .stateRefused) 0 0
    | _ => s

/-- Both pins are driven low at once and the pattern stops (R338). -/
def State.relClamp (s : State) : State :=
  s.setRel fun r => { r with pattern := false, stopping := false, relA := false, relB := false }

/-! ### Parts of the state as a reset leaves them

`X.again` is the part as after a power-on reset, but for its counters of the epoch, the terms of the ledgers and what
always-on latches hold: a warm reset and a sleep leave it (R423, R482). -/

/-- The LF field system when every pair domain is taken down: the step in progress is over, the enabled coils of every pair that is up
dump, and a dump in progress goes on (R155). -/
def State.lfOff (s : State) : Lf :=
  let f := (s.lf.due s.now).endRun s.now
  { f with coils := Vector.ofFn fun i : Fin 8 =>
      let c := f.coils.get i
      if s.domUp (35 + i.val / 2) && f.coilEn.testBit i.val then { c with dump := some (c.dump.getD s.now) } else c }

/-- A domain that a reset takes down: the domain of a pair that dumps is still falling (R155). -/
def Lf.domOff (f : Lf) (now d : Nat) : Dom :=
  if 35 ≤ d && decide (d < 39) && ((f.coil (2 * (d - 35))).dump.isSome || (f.coil (2 * (d - 35) + 1)).dump.isSome) then .falling now none
  else .down

/-- The LF field system: tune results are kept in retention latches (R150), its deferral count, and dumps in progress (R155). A coil one of
whose fault bits is cleared by it is stale, and every coil is where DIV changes (R150). -/
def Lf.again (f : Lf) (now : Nat) : Lf :=
  { Lf.reset with countFrom := now, reg0 := f.reg0, reg1 := f.reg1, spans := f.spans, vlf := f.vlf, vlfLow := f.vlfLow, overtemp := f.overtemp
                  deferCount := f.deferCount
                  coils := f.coils.map fun (c : Coil) =>
                    { c with fault := 0, clamped := false, stale := c.stale || c.fault != 0 || f.carrier != Lf.reset.carrier } }

/-- The LF field system as a reset that closes an epoch leaves it: of its coils only the dumps go on (R155), and those while power
lasts. -/
def Lf.closed (f : Lf) (lost : Bool) (now : Nat) : Lf :=
  { Lf.reset with countFrom := now, spans := f.spans, vlf := f.vlf, vlfLow := f.vlfLow, overtemp := f.overtemp
                  coils := f.coils.map fun (c : Coil) => { Coil.reset with dump := if lost then none else c.dump } }

/-- The UWB front-end: stored pre-distortion sets (R181, R490), forced runs, spans of the last hour. -/
def Uwb.again (u : Uwb) (now : Nat) : Uwb :=
  let u := u.store.cut now
  { Uwb.reset with dpd5 := u.dpd5, dpd9 := u.dpd9, forced := u.forced, reg0 := u.reg0, reg1 := u.reg1, reg2 := u.reg2
                   spans := u.spans, gnt := u.gnt, countFrom := now }

/-- The ranging baseband: ERA counts on at the next rise of D30 (R196). -/
def Rng.again (r : Rng) : Rng := { Rng.reset with era := r.era, tscBase := r.tscBase }

/-- The UHF link: emission spans, and the sniffer's registers, statistics and buffer (R482). -/
def Uhf.again (u : Uhf) (now : Nat) : Uhf :=
  { Uhf.reset with reg0 := u.reg0, reg1 := u.reg1, spans := cutSpans u.spans now, countFrom := now, sniffCfg := u.sniffCfg, sniffTime := u.sniffTime
                   sniffAt := u.sniffAt, lost := u.lost, hits := u.hits, filled := u.filled, bufs := u.bufs }

/-- The scheduler after a warm reset: DEFER_LOG is a ring of the epoch (R109), and what waits for its posting keeps its entry. -/
def Sched.warm (c : Sched) : Sched :=
  { Sched.reset with deferTotal := c.deferTotal, deferNext := c.deferNext, deferLog := c.deferLog, deferWait := c.deferWait }

/-- The scheduler after sleep: deferred starts are counted by epoch (R482). -/
def Sched.again (c : Sched) : Sched := { Sched.reset with deferTotal := c.deferTotal }

/-- The START sampler counts its discrepancy faults by epoch. -/
def Start.again (c : Start) : Start := { Start.reset with count := c.count, rawA := c.rawA, rawB := c.rawB }

/-- The release engine keeps freshness and its ledger (R331, R431). -/
def Release.again (r : Release) : Release :=
  { Release.reset with sent := r.sent, acked := r.acked, skipped := r.skipped, next := r.next, mark := r.mark, top := r.top
                       lastSent := r.lastSent, retired := r.retired, t0 := r.t0, sentEpoch := r.sentEpoch
                       canb := { Can.reset with busOffs := r.canb.busOffs }, cana := { Can.reset with busOffs := r.cana.busOffs } }

/-- The security core: root, store, counters and ledger 7 are kept; engines, DRBGs and pool are reset, and the pool's
blocks count as discarded (R483). A standing alarm stays (R362), and scan (R373). -/
def Security.again (c : Security) : Security :=
  { Security.reset with
    root := c.root, shareA := c.shareA, shareB := c.shareB, rootComplete := c.rootComplete, kek := c.kek, sk := c.sk
    dik := c.dik, dikPub := c.dikPub, zapRecord := c.zapRecord, erasing := c.erasing, eraseOld := c.eraseOld, erasedTo := c.erasedTo, store := c.store
    counters := c.counters, scan := c.scan, ent := if c.ent == .alarm then .alarm else .off, failed := c.failed, restarts := c.restarts
    conditioned := c.conditioned, drawnSeed := c.drawnSeed, drawnOther := c.drawnOther
    discarded := c.discarded + c.pool.length, sysSeeds := c.sysSeeds, tenSeeds := c.tenSeeds, cot := c.cot
    unavail := c.unavail, katFail := c.katFail, tamperCfg := c.tamperCfg, tamperLatch := c.tamperLatch
    tamperEvent := c.tamperEvent, tamperCount := c.tamperCount }

/-- NVM keeps its data; the open update rewinds to a sector, which is erased again (R398); an operation in progress is cut: an erase that
has begun leaves no valid stamp (R391), the write of a record copy no valid CRC-32. Records in the counters region stand. -/
def LifeCycle.cut (c : LifeCycle) : LifeCycle :=
  let writes := c.intent.any fun i => i.record.isSome && !i.proven
  let c := match c.jobs with
    | .erase _ n :: _ => if (c.sector (c.phys n)).intent.isSome then c.modSector (c.phys n) fun x => { x with stampOk := false } else c
    | .commit _ 1 _ :: _ => if writes then c.badCopy 0 else c
    | .commit _ 2 _ :: _ => if writes then c.badCopy 1 else c
    | _ => c
  { c.rewind with jobs := [], ospiCfg := 0x00010800, mchange := false, ospiFails := 0, ospiFetches := 0, ospiLastFail := 0 }

/-- Fuse bits that a power failure during stage programming has left blown join the words (R383). -/
def LifeCycle.blow (c : LifeCycle) (w m : Nat) : LifeCycle :=
  let orIn (t : Tbl Nat) := Tbl.put t w (Tbl.get t w 0 ||| m)
  { c with otp := orIn c.otp, otpLow := orIn c.otpLow, otpHigh := orIn c.otpHigh }

/-- The evidence part of a reset that closes an epoch frees every record (R309). Tenants: lockouts restart in full, the window
keeps its failures with their ages at 0, vehicle time is not valid (R314, R324). -/
def State.tenantsClosed (s : State) : Tenants :=
  let c := s.counting
  let w := s.windowFails
  { Tenants.reset with
    recs := s.ten.recs.map fun p => (p.1, { p.2 with lockEnd := p.2.lockEnd.map fun _ => c + s.lockS * secT })
    learnCtr := s.ten.learnCtr, window := w.map fun _ => c, learnEnd := s.ten.learnEnd.map fun _ => c + s.learnLockS * secT
    floor := s.ten.floor, lifeAt := c, lost := s.ten.lost, win0 := w.length }

/-- Values retired since manufacture (R431). -/
def Release.retiredCount (r : Release) : Nat := match r.retired with | q :: _ => q.total | [] => 0

/-- Freshness at the close of an epoch: the values from the mark up are retired under a record, and the next block begins at the
top (R331, R431, R433). -/
def Release.closed (r : Release) (epoch : Nat) : Release :=
  { Release.reset with
    next := r.top, mark := r.top, top := r.top, lastSent := r.top - 1, t0 := r.top
    retired := if r.mark = r.top then r.retired
      else ⟨epoch, r.mark, r.top - 1, (r.retiredCount + (r.top - r.mark)) % 2 ^ 32⟩ :: r.retired }

/-- Ticks spent in VESTIBULE up to now (R324). -/
def Power.vestTotal (p : Power) (now : Nat) : Nat :=
  p.vestTicks + (match p.vestSince with | some t => now - t | none => 0)

/-- Items of each SQ accepted and never completed (R45). -/
def HostLink.unfinished (h : HostLink) : List Nat := (List.range 4).map h.accepted

/-- A reset that closes the epoch ends every item: no write carries the completion of one any more (R45, R279). -/
def Tag.dropItems (t : Tag) : Tag :=
  { t with path := t.path.map fun w => { w with item := none }, wire := t.wire.map fun w => { w with item := none } }

/-- A reset cuts the erase of the vault store (R371): how many sectors it had erased is a free value, and the next one is half-erased
(R391, R392; log 222). -/
def State.cutErase (s : State) : State :=
  if !s.sec.erasing then s else
  let (s, n) := s.draw
  let k := s.sec.erasedTo
  let m := k + n % (17 - k)
  let c := s.life.eraseRun s.host.epoch.toNat (576 + k) (m - k)
  let c := if m < 16 then (c.openErase (576 + m)).modSector (c.phys (576 + m)) fun x => { x with stampOk := false } else c
  { s with life := c, sec := { s.sec with erasedTo := m } }

/-- What a reset cuts short in NVM. -/
def State.cutNvm (s : State) : State := s.cutJournal.cutErase

/-- A reset that closes the epoch, with its cause (R45); `lost` when power was lost, so that no count of unfinished items
and no event record that waited is retained. The boot follows (R411). -/
def State.epochReset (s : State) (cause : Nat) (lost : Bool) : State :=
  let s := s.cutNvm
  let epoch := (s.host.epoch.toNat + 1) % 65536
  let host := { HostLink.reset epoch with unfin := if lost then none else some s.host.unfinished, hsdo := [] }
  let f := s.faults
  let faults := { Faults.reset with evLog := f.evLog, evHead := f.evHead, evPending := if lost then [] else f.evPending
                                    coldAt := if lost then [] else f.coldAt, haltDue := f.haltDue && !lost }
  let c := s.sec
  let sec := { Security.reset with
    root := c.root, shareA := c.shareA, shareB := c.shareB, rootComplete := c.rootComplete, zapRecord := c.zapRecord
    erasing := c.erasing, eraseOld := if lost then c.erasing else c.eraseOld, erasedTo := c.erasedTo, scan := c.scan && !lost, store := c.store
    counters := c.counters, tamperLatch := c.tamperLatch, kek := c.kek, sk := c.sk
    dik := c.dik, dikPub := c.dikPub, ent := if c.ent == .alarm && !lost then .alarm else .off }
  let lf := s.lfOff.closed lost s.now
  let power := { Power.reset cause with vestTicks := s.power.vestTotal s.now
                                        slowSkew := s.power.skewTotal s.now
                                        slowTrim := if lost then 0 else s.power.slowTrim
                                        domains := Vector.ofFn fun i : Fin 50 => lf.domOff s.now i.val }
  { s with
    epochStart := s.now, host := host, dma := Dma.reset, landings := Vector.replicate 192 Landing.free
    sched := Sched.reset, air := Air.reset, halls := Halls.reset, faults := faults, power := power, sec := sec
    life := s.life.cut, timers := Vector.ofFn fun k : Fin 16 => bootTimer k.val s.now, bist := Bist.reset
    lf := lf
    uwb := { Uwb.reset with dpd5 := s.uwb.store.dpd5, dpd9 := s.uwb.store.dpd9, spans := cutSpans s.uwb.spans s.now
                            gnt := s.uwb.gnt, countFrom := s.now }
    rng := Rng.reset, uhf := { Uhf.reset with spans := cutSpans s.uhf.spans s.now, countFrom := s.now }, nfc := Reader.reset
    verdict := { Verdict.reset with half0 := s.verdict.half0, half1 := s.verdict.half1, published := s.verdict.published }
    evd := Recorder.reset, ten := s.tenantsClosed
    start := { Start.reset with rawA := s.start.rawA, rawB := s.start.rawB }, rel := s.rel.closed s.host.epoch.toNat
    gal := s.gal.closed, tag := s.tag.dropItems }

/-- A power-on reset or brown-out: the gallery address is sampled (R522), fuse bits that a stage programming in progress had
blown stay blown (R383), and the scan unlock goes (R381). After a brown-out the counts of unfinished items are retained, as in
the worked example of R47; after a power-on reset whether they are is a free value (log 29). -/
def State.powerReset (s : State) (cause caddr fuse : Nat) : State :=
  let life := match s.life.intent, s.life.jobs with
    | some i, .commit _ 3 _ :: _ => match stageShift i.dst with
      | some sh => s.life.blow 0 (fuse % 256 * 2 ^ sh)
      | none => s.life
    | _, _ => s.life
  let life := { life with scanUnlock := false }
  let left := s.host.unfinished
  let (s, n) := s.draw
  let s : State := { s with gal := { s.gal with addr := caddr % 8 }, life := life }
  let s := s.epochReset cause true
  { s with host := { s.host with unfin := if cause = 0x02 ∨ n % 2 = 1 then some left else none } }

/-! ### Cold reset, warm reset -/

/-- Cold reset by escalation, after ZAP, or for an update (R402, R425); after three with cause 0x03 within 10 s of counting
time the device stays in fault halt once it has booted. -/
def State.coldReset (s : State) (cause : Nat) : State :=
  if cause ≠ 0x03 then s.epochReset cause false else
  let c := s.counting
  let at1 := c :: (s.faults.coldAt.filter fun t => decide (c ≤ t + 10 * secT))
  let s : State := ({ s with faults := { s.faults with coldAt := at1 } } : State).epochReset cause false
  if at1.length < 3 then s else
  let s := s.recordFault .coldRepeat .device [] 2
  { s with faults := { s.faults with haltDue := true } }

/-- The warm reset of R423 steps 1 to 3; boot and safe hold follow with SAFE_HOLD. -/
def State.warmBody (s : State) : State :=
  let s := s.cutNvm
  let s := match s.rel.session with | some q => (s.relEnd q.land 3).relClamp | none => s.relClamp
  let s := (s.evdWarm).lfDue.lfReport 255
  let p := s.power
  let votes := Vector.ofFn fun v : Fin 64 =>
    if v.val < 32 then p.votes.get v else if v.val = 33 then awakeMask else 0
  let vault := s.sec.vault.filter fun e => e.2.st = 2
  let keep := fun (e : Nat × Nat) => decide (e.1 < 0x80)
  let lf := s.lfOff.again s.now
  { s with
    dma := { Dma.reset with stalled := s.dma.stalled, chans := s.dma.chans, waiting := s.dma.waiting }
    sched := s.sched.warm, air := Air.reset
    halls := { s.halls with held := [], published := s.halls.published.filter keep, sealed := false }
    faults := { s.faults with mode := .warm, depth := 0, causes := [], scopes := [], warms := (s.faults.warms + 1) % 256
                              warmAt := s.now :: (s.faults.warmAt.filter fun t => decide (s.now ≤ t + 1000 * msT)) }
    power := { p with domains := Vector.ofFn fun i : Fin 50 => lf.domOff s.now i.val
                      votes := votes, holdoffs := [], entering := none, restoring := false, rootLock := false, clockLost := false }
    sec := { s.sec.again with vault := vault }
    life := s.life.cut
    timers := Vector.ofFn fun k : Fin 16 => bootTimer k.val s.now
    lf := lf, uwb := s.uwb.again s.now, rng := s.rng.again, uhf := s.uhf.again s.now
    nfc := Reader.reset, start := s.start.again, rel := s.rel.again
    verdict := { s.verdict with queue := [], held := 0 } }

/-- Warm reset; a third within 1,000 ms is a cold reset (R413 WARM_REPEAT, R422). -/
def State.warmReset (s : State) : State :=
  let s := s.warmBody
  if s.faults.warmAt.length < 3 then s else (s.recordFault .warmRepeat .device [] 2).coldReset 0x03

/-! ### Sleep -/

/-- The switch-off (R480 to R483): what sleep keeps and what is lost. -/
def State.switchOff (s : State) (target : PwrMode) : State :=
  let p := s.power
  let f := s.faults
  { s with
    host := { s.host with pages := Mem.empty, pagePoison := [], hsdo := [], lastErr := .ok, activate := [] }
    dma := { Dma.reset with stalled := s.dma.stalled }, landings := s.landings.map fun x => if x.st == .unusable then x else Landing.free
    sched := s.sched.again, air := Air.reset, halls := Halls.reset
    faults := { Faults.reset with warms := f.warms, restarts := f.restarts, recoveries := f.recoveries, longest := f.longest
                                  lastTime := f.lastTime, overflow := f.overflow, evPending := f.evPending
                                  evLog := f.evLog, evHead := f.evHead, checks := f.checks, failed := f.failed
                                  warmAt := f.warmAt, coldAt := f.coldAt, bankErr := f.bankErr }
    power := { p with mode := target, entering := none, restoring := false, outcome := 1, sleptAt := s.now
                      vestSince := if target = .vestibule then some s.now else none
                      slowSince := if target = .lobby then some s.now else none
                      domains := Vector.replicate 50 .down, votes := Vector.replicate 64 0, holdoffs := []
                      xtalOk := false, rootLock := false, clockLost := false }
    sec := { s.sec.again with vault := s.sec.vault.filter fun e => e.2.st = 2 }
    life := { s.life.cut with held := s.life.held, erasedTo := s.life.erasedTo, mchange := s.life.mchange }
    timers := Vector.ofFn fun (k : Fin 16) => Timer.reset k.val
    bist := { Bist.reset with unus := s.bist.unus, poolOut := s.bist.poolOut, cirOut := s.bist.cirOut }
    lf := s.lfOff.again s.now, uwb := s.uwb.again s.now, rng := s.rng.again, uhf := s.uhf.again s.now, nfc := Reader.reset
    verdict := { Verdict.reset with half0 := s.verdict.half0, half1 := s.verdict.half1, published := s.verdict.published }
    evd := { Recorder.reset with seq := s.evd.seq, trigs := s.evd.trigs, capts := s.evd.capts, joins := s.evd.joins
                                 misses := s.evd.misses, drops := s.evd.drops, missAt := s.evd.missAt, why := s.evd.why }
    ten := { s.ten with time := if target = .vestibule then none else s.ten.time, lifeCfg := Tenants.reset.lifeCfg }
    start := s.start.again, rel := s.rel.again
    gal := { s.gal.closed with cals := s.gal.cals } }

/-- Begin a wake from LOBBY or VESTIBULE (R484, R486): its source sets its bit of PWR_WAKE; HIRQN goes low unless it is the
wake frame; V33 votes D30, D43 and D46, which rise. A second source only sets its bit. A telegram in reception is received to its end, and D33
stays up for it (R252). -/
def State.beginWake (s : State) (source : Nat) : State :=
  let p := { s.power with wakeCause := s.power.wakeCause ||| 2 ^ source }
  let goesOn := s.uhf.sniff.any fun n => !n.search.holds.isEmpty
  if p.mode = .awake then s
  else if p.waking then { s with power := p }
  else
    { s with
      host := { s.host with wakeIrq := source != 0 }
      uhf := if goesOn then s.uhf else { s.uhf with sniff := none, cal := none, mode := .down }
      power := { p with waking := true, xtalOk := true, wakes := (p.wakes + 1) % 65536, fromVest := p.mode == .vestibule
                        vestTicks := p.vestTotal s.now, vestSince := none
                        slowSkew := p.skewTotal s.now, slowSince := none
                        votes := vset (vset p.votes voterSched (if goesOn then 2 ^ 33 else 0)) voterAwake awakeMask } }

end Sys2Proof.Machine
end

