-- ==== Sys2Proof/Machine/FaultOps.lean ====
section
/-! DEFINITION. Raising a fault: recording, recovery, escalation and the ledgers (R412 to R432). -/

namespace Sys2Proof.Machine

open Sys2Proof

/-! ### Ending work (R418, R419) -/

/-- The device fault word of R419: 0xFF, the cause, the step address. -/
def faultEndWord (cause pc : Nat) : Nat := 0xFF * 2 ^ 24 + cause * 2 ^ 16 + pc

/-- A field step whose unit stops ends UNIT_UNUSABLE, and its flight continues (R419). -/
def State.stopField (s : State) (l : Nat) : State :=
  match s.fieldJob l with
  | none => s
  | some j =>
    let s : State := match j.kind with
      | .lftx | .lfrx => s.lfIdle
      | .uwbpoll | .uwbresp | .uwbfinal =>
        let s := s.uwbClosing
        s.setUwb { s.uwb.cut s.now with run := none, cal := none, mode := .ready }
      | .uhfrx | .uhftx => { s with uhf := { s.uhf with run := none, cal := none, mode := .ready, spans := cutSpans s.uhf.spans s.now } }
      | .nfcx | .nfctree => { s with nfc := { s.nfc with run := none, fieldOn := false } }
    s.fieldDone l j .unitUnusable j.srcs (noRest j.kind)

/-- A field step in progress uses one of the units: an LFTX its selected coils (R419). -/
def State.fieldUses (s : State) (l m : Nat) : Bool :=
  match s.fieldJob l with
  | none => false
  | some j =>
    s.unitsOf j.kind (match s.lf.run with | some r => r.sel | none => 0) &&& m != 0

/-- A crypto step on a stopped engine ends UNIT_UNUSABLE without a result (R419); so does a TLOAD whose keys WRAP is unwrapping, which
leaves its tenant bound without keys (log 218). -/
def State.stopCrypto (s : State) (l : Nat) (set : List Scope) : State :=
  match (s.land l).wait with
  | .crypto j => match j.engine with
    | some e =>
      if engineInside set e then
        let s : State := { s with sec := { s.sec with busy := Tbl.del s.sec.busy e } }
        s.cryptoEnds l { j with code := .unitUnusable, writes := [], handle := none, proof := false }
      else s
    | none => s
  | .tload d _ true => if engineInside set 10 then s.stepEnds l fun x => x.outcome d .unitUnusable 0 0 else s
  | _ => s

/-- Steps that run on the pipe and write an outcome (R60). -/
def Step.answers : Step → Bool
  | .airClaim | .airRelease | .lftx | .lfrx | .uwbpoll | .uwbresp | .uwbfinal | .uhfrx | .uhftx | .nfcx | .nfctree
  | .aesk | .aesx | .derive | .drbg | .macv | .tload | .tpass | .tfail | .relopen | .relhold | .relclose | .newel | .gsend | .gwait => true
  | _ => false

/-- The step that a stopped pipe half was executing ends UNIT_UNUSABLE where it writes an outcome; any other step, which has changed nothing
yet, is executed again by another pipe (R419; log 225). -/
def State.stopPipe (s : State) (l : Nat) (set : List Scope) : State :=
  let on := (List.range 8).any fun p => insideSet set (.pipeHalf (p / 4)) && (vget s.sched.pipes p Pipe.reset).serving == some l
  match s.fetch l with
  | some f =>
    if on && (s.land l).runnable && (match f.step with | some k => k.answers | none => false) && condPasses f.cond (s.land l).flags then
      s.advance l 1 fun x => x.outcome f.d .unitUnusable 0 0
    else s
  | none => s

/-- A flight whose landing context, code hall or landing bank lies in the set ends FAILED_FAULT (R419). -/
def State.faultFlight (s : State) (l : Nat) (c : Cause) : State :=
  let x := s.land l
  if x.st == .busy then (s.endFromOutside l .failedFault (some (faultEndWord c.num x.pc))).leavePipe l else s

/-- The cause ends flights on the landings of its set: an error of a context, a code hall or a bank; an entry to FUSE-FAULT
(R387, R419). `code` tells an SRAM error of a code hall. -/
def Cause.endsFlights (c : Cause) (codeHall : Bool) : Bool :=
  match c with
  | .contextUe | .bankRepeat | .domainRise | .fuseRunfault => true
  | .sramUe => codeHall
  | _ => false

/-- Landings inside a set. -/
def State.landsIn (s : State) (set : List Scope) (p : Landing → Bool) : List Nat :=
  (s.landsWhere p).filter fun l => insideSet set (.landing l)

/-- Landings of marked banks are unusable: at once without a flight, after its end with one; a start that waits for its
bank ends UNIT_UNUSABLE (R99, R420, R506). -/
def State.retireLandings (s : State) : State :=
  (List.range 192).foldl (fun s l =>
    if !s.marked (l / 8) then s else
    let x := s.land l
    match x.st with
    | .busy => s.setLand l { x with becomesUnusable := true }
    | .unusable => s
    | .free | .claimed | .hold | .scrub =>
      let s := match x.pending with | some r => s.startFails l r .unitUnusable | none => s
      s.setLand l { Landing.free with st := .unusable }) s

/-- Forget the operations that an item still has queued. -/
def State.dropJobs (s : State) (k : ItemKey) : State :=
  { s with life := { s.life with jobs := s.life.jobs.filter fun j => match j with | .erase q _ | .commit q _ _ => q != k } }

/-- A running item whose own work uses a unit in the set: the engines of its checks until its record is queued as durable, the
units that a BIST_RUN tests (R419). What a descriptor moves fails under R131 instead. -/
def State.itemUses (s : State) (set : List Scope) (r : ItemRec) : Bool :=
  r.phase == .running &&
  (if r.code == 0x54 then s.bist.running && (set.contains .device || scopeTests s.bist.scope &&& orAll (set.map scopeUnits) != 0)
   else if r.code == 0x31 && s.life.intent.isSome then false
   else r.needs.any fun c => match c with | .engine e => engineInside set e | _ => false)

/-- An item ended by a recovery completes FAILED_FAULT: its descriptor stops, what it had still to write is dropped, and what it has staged is
rewound or discarded (R419, R427). -/
def State.faultItem (s : State) (k : ItemKey) : State :=
  let bist := match s.item k with | some r => r.code == 0x54 | none => false
  let s := ((s.rewound k).failWhere (fun _ d => d.job == .item k) 1 .failedFault).dropJobs k
  let s : State := { s with dma := { s.dma with waiting := s.dma.waiting.filter fun d => !(d.job == .item k) } }
  let s : State := if bist then { s with bist := { s.bist with running := false } } else s
  if (s.item k).isSome then s.finish k .failedFault [] else s

/-- Physical NVM sectors that a descriptor reads or writes: those of its bank or atlas half, or of the image whose initialisation it
fetches (R407, R419, R564). -/
def State.descSectors (s : State) (d : Desc) : List Nat :=
  let from_ : Option Nat :=
    if d.dstKind = 3 then some d.dstOff
    else match d.job, d.srcKind with
      | .initFetch l, 3 => (s.imageOf l).map fun i => 4096 * bankSector s.life.runLib + (dirEntry s.libImage i.slot).2.1 + 32 + i.hdr.codeLen
      | _, _ => none
  match from_ with
  | some a => (List.range ((a + d.len - 1) / 4096 + 1 - a / 4096)).map fun i => s.life.phys (a / 4096 + i)
  | none => []

/-- A descriptor touches a set of scopes, NVM sectors among them (R419). -/
def State.descTouches (s : State) (d : Desc) (ch : Nat) (set : List Scope) : Bool :=
  d.touches ch set || (s.descSectors d).any fun p => insideSet set (.sector p)

/-- End the work of a set of scopes (R419); `sc` is the scope of the fault whose cause it is. -/
def State.endWork (s : State) (c : Cause) (codeHall : Bool) (sc : Scope) (set : List Scope) : State :=
  let units := if set.contains .device then 0 else orAll (set.map scopeUnits)
  let s := (s.landsWhere fun x => x.st == .busy).foldl (fun s l =>
    let s := if s.fieldUses l units then s.stopField l else s
    (s.stopCrypto l set).stopPipe l set) s
  let s := if c.endsFlights codeHall then (s.landsIn [sc] fun x => x.st == .busy).foldl (fun s l => s.faultFlight l c) s else s
  let s := match s.rel.session with
    | some q => if insideSet set (.domain 47) || insideSet set (.landing q.land) then s.relFinish 3 else s
    | none => match s.rel.ended with
      | some e => if insideSet set (.domain 47) || insideSet set (.landing e.land) then s.relAmend none 3 else s
      | none => s
  let s := (s.host.items.filter (s.itemUses set)).foldl (fun s r => s.faultItem r.key) s
  s.failWhere (fun ch d => s.descTouches d ch set) 1 .failedFault

/-! ### Repair (R418) -/

/-- Move the role of physical sector p to the lowest free spare; no spare: NO_SPARE (R393). -/
def State.remapSector (s : State) (p : Nat) : State :=
  if (s.life.roleOf p).isNone then s else
  match s.life.freeSpare with
  | some q => { s with life := s.life.remapTo p q }
  | none => s.recordFault .noSpare (.sector p) (s.sectorDetail p)

/-- Vault SRAM is reloaded from the records of the store that SK opens (R350, R355, R358); volatile keys in it stay. In FUSE-FAULT none is loaded
(R386), and without a root, as in scan, none opens (R373). -/
def State.vaultReload (s : State) : State :=
  let vol := s.sec.vault.filter fun e => e.2.volatileKey
  let v := (s.sec.store.filter fun e => !s.life.fuseFault && e.2.under == s.sec.sk).foldl (fun (t : Tbl VaultSlot) e =>
    if (Tbl.find t e.1).isSome then t else Tbl.put t e.1 e.2.slot) vol
  { s with sec := { s.sec with vault := v } }

/-- Where a memory error lies: region 0 data hall, 1 code hall, 2 CIR hall, 3 shared hall, 4 page, 5 elsewhere; the byte offset
in it. -/
structure FaultAt where
  region : Nat
  off : Nat
deriving DecidableEq, Repr

/-- An NVM sector is taken out of use; its remap is queued, and runs after the recovery (R418 step 3). A copy of the provisioning record that
cannot be read has no valid CRC-32 (R389). -/
def State.dropFromUse (s : State) (c : Cause) (p : Nat) : State :=
  let f := s.life.modSector p fun x => { x with retired := true }
  let f := match c, f.roleOf p with
    | .nvmRead, some n => if 816 ≤ n ∧ n < 824 then f.badCopy ((n - 816) / 4) else f
    | _, _ => f
  { s with life := f }

/-- Repair after a fault (R418 step 3). -/
def State.repair (s : State) (c : Cause) (sc : Scope) (w : FaultAt) : State :=
  if c.marks then
    let s := s.mark (scopeUnits sc)
    let s := if scopeUnits sc % 2 ^ 24 = 0 then s else s.retireLandings
    if c = .pipeStall then
      let stop (h : Nat) (q : Pipe) : Pipe :=
        if sc = Scope.pipeHalf h then { q with serving := none, last := q.serving.orElse fun _ => q.last } else q
      { s with sched := { s.sched with pipes := Vector.ofFn fun p : Fin 8 => stop (p.val / 4) (s.sched.pipes.get p) } }
    else s
  else match c, sc with
  | .sramUe, .landing l =>
    let g (h : Nat) := (s.hallBase l h + w.off) / 32
    match w.region with
    | 0 => s.setHallPoison l 1 (insN (g 1))
    | 1 => s.setHallPoison l 0 (insN (g 0))
    | 2 => s.setHallPoison l 2 (insN (g 2))
    | 3 => s.setHallPoison l 3 (insN (g 3))
    | _ => s
  | .sramUe, .page p => { s with host := { s.host with pagePoison := insN (64 * p + w.off / 32) s.host.pagePoison } }
  | .vaultUe, _ => s.vaultReload
  | .fuseRunfault, _ => { s with life := { s.life with fuseFault := true } }
  | .dmaStall, .dma ch => { s with dma := { s.dma with chans := vset s.dma.chans ch Chan.reset } }
  | .nvmRead, .sector p | .nvmProg, .sector p | .nvmErase, .sector p => s.dropFromUse c p
  | _, _ => s

/-! ### Raising -/

/-- Handling of a fault, with the cases that rise to a warm reset (R413): DOMAIN_RISE of D30, D46 and D49, and a second
DMA_STALL of a channel in the epoch. -/
def State.handlingOf (s : State) (c : Cause) (sc : Scope) : Handling :=
  match c, sc with
  | .domainRise, .domain d => if d = 30 ∨ d = 46 ∨ d = 49 then .warm else .recover
  | .dmaStall, .dma ch => if s.dma.stalled.contains ch then .warm else .recover
  | c, _ => c.handling

/-- A fault that would be SRAM_UE or CONTEXT_UE in a landing bank that has had one in this epoch is BANK_REPEAT (R413). -/
def State.bankRepeat (s : State) (c : Cause) (sc : Scope) : Cause × Scope :=
  match c, sc with
  | .sramUe, .landing l | .contextUe, .landing l => if s.faults.bankErr.contains (l / 8) then (.bankRepeat, .bank (l / 8)) else (c, sc)
  | _, _ => (c, sc)

/-- Note what later faults of the epoch are compared with. -/
def State.noteFault (s : State) (c : Cause) (sc : Scope) : State :=
  match c, sc with
  | .sramUe, .landing l | .contextUe, .landing l => { s with faults := { s.faults with bankErr := insN (l / 8) s.faults.bankErr } }
  | .dmaStall, .dma ch => { s with dma := { s.dma with stalled := insN ch s.dma.stalled } }
  | _, _ => s

/-- Marks made before a warm or cold reset begins, for the fault that escalates (R422). -/
def State.markFor (s : State) (c : Cause) (sc : Scope) : State := if c.marks then s.mark (scopeUnits sc) else s

/-- Run Contain, End and Repair for a set (R418 steps 1 to 3); Check and Resume come with RECOVERY_END. -/
def State.recover (s : State) (c : Cause) (sc : Scope) (w : FaultAt) : State :=
  let s := s.endWork c (w.region = 1) sc s.faults.scopes
  s.repair c sc w

/-- Handle a fault of class C (R417, R422). -/
def State.raiseC (s : State) (c : Cause) (sc : Scope) (detail : List Byte) (w : FaultAt) : State :=
  let f := s.faults
  if f.mode ≠ .recovery then
    let s := s.recordFault c sc detail
    let s : State := { s with faults := { s.faults with
      mode := .recovery, depth := 0, causes := [c], scopes := [sc], opened := s.now, restarted := s.now
      recoveries := (f.recoveries + 1) % 65536 } }
    s.recover c sc w
  else if (f.causes.any fun e => e.num / 16 = c.num / 16) && insideSet f.scopes sc then s.recordFault c sc detail
  else if f.depth = 0 then
    let s := s.recordFault c sc detail
    let s : State := { s with faults := { s.faults with
      depth := 1, causes := c :: f.causes, scopes := f.scopes ++ [sc], restarted := s.now
      restarts := (f.restarts + 1) % 256 } }
    s.recover c sc w
  else (((s.recordFault c sc detail 2).markFor c sc).recordFault .escalation .device [] 2).warmReset

/-- Raise a fault with its handling (R413, R414, R422). During a warm reset a fault of handling C or W ends in a cold reset; in
fault halt every fault is only recorded (R425); while the boot of a cold start runs, too (log 27). BANK_REPEAT carries no detail (R416). -/
def State.raiseAt (s : State) (c0 : Cause) (sc0 : Scope) (detail : List Byte) (w : FaultAt) : State :=
  let (c, sc) := s.bankRepeat c0 sc0
  let detail := if c = .bankRepeat then [] else detail
  let h := s.handlingOf c sc
  let s := s.noteFault c0 sc0
  if s.faults.mode = .halt ∨ s.power.booting.isSome ∨ h = .record then s.recordFault c sc detail
  else if s.faults.mode = .warm then
    (((s.recordFault c sc detail 2).markFor c sc).recordFault .holdFault .device [] 2).coldReset 0x03
  else match h with
    | .recover => s.raiseC c sc detail w
    | .warm => ((s.recordFault c sc detail 2).markFor c sc).warmReset
    | .cold => (s.recordFault c sc detail 2).coldReset 0x03
    | .record | .halt => s.recordFault c sc detail

/-- Raise a fault that has no place in a memory. -/
def State.raise (s : State) (c : Cause) (sc : Scope) (detail : List Byte := []) : State := s.raiseAt c sc detail ⟨5, 0⟩

/-! ### Ledgers (R430 to R432) -/

/-- Ledger 1: credits of each SQ (R30). -/
def HostLink.ledger (h : HostLink) : Bool :=
  (List.range 4).all fun q => vget h.credits q 0 + h.accepted q + h.unreleased q == 64

/-- Landings of the ledger: free, busy, draining, unusable. A claimed landing is free until
its start checks have passed (R99). -/
def Landing.shown (x : Landing) : Nat :=
  match x.st with | .free => 0 | .busy => 1 | .claimed => if x.hallsBound then 1 else 0 | .hold | .scrub => 2 | .unusable => 3

/-- Ledger 4: the learning window and the tenants. -/
def State.ledger4 (s : State) : Bool :=
  s.ten.added + s.ten.win0 == s.ten.window.length + s.ten.aged + s.ten.emptied
  && s.ten.recs.all fun p => decide (p.2.cf ≤ p.2.fails)

/-- Ledger 5: freshness. -/
def Release.ledger (r : Release) : Bool :=
  r.t0 + r.sentEpoch == r.lastSent + 1 && decide (r.lastSent < r.mark) && decide (r.mark ≤ r.top)

/-- Ledger 6: evidence. -/
def Recorder.ledger (r : Recorder) : Bool :=
  r.freeCount + r.filled.length + r.capturing.length == 256 && r.trigs == r.capts + r.joins + r.misses

/-- Ledger 7: entropy and reseeds. -/
def Security.ledger (c : Security) : Bool :=
  c.conditioned == c.drawnSeed + c.drawnOther + c.discarded + c.pool.length && c.drawnSeed == 3 * (c.sysSeeds + c.tenSeeds)

/-- Ledgers 1, 2 and 4 to 8 that fail, as FAILED of LEDGER_CHECK. Ledgers 2 and 8 hold by the way their terms are counted. -/
def State.ledgersBad (s : State) : Nat :=
  b2n (!s.host.ledger) + 8 * b2n (!s.ledger4) + 16 * b2n (!s.rel.ledger) + 32 * b2n (!s.evd.ledger) + 64 * b2n (!s.sec.ledger)

/-- Ledger 3: gallery credits, per peer (R431, R452). -/
def Gal.ledger (g : Gal) : Bool := g.nodes.toList.all fun x => x.avail + x.flight + x.held == 16

/-- Ledger 3 as FAILED of LEDGER_CHECK. -/
def State.galleryBad (s : State) : Nat := 4 * b2n (!s.gal.ledger)

/-- Lowest-numbered ledger of a mask, from 1. -/
def lowestLedger (m : Nat) : Nat := ((List.range 8).find? fun i => m.testBit i).elim 0 (· + 1)

/-- A check of ledgers with its result: LEDGER_CHECK takes it, and one LEDGER fault is raised when any fails (R432). -/
def State.ledgerCheck (s : State) (bad : Nat) : State :=
  let s : State := { s with faults := { s.faults with checks := (s.faults.checks + 1) % 65536, failed := bad } }
  if bad = 0 then s else s.raise .ledger .device (natLE 1 (lowestLedger bad))

/-- The check of a recovery and of a SURVEY: ledgers 1, 2 and 4 to 8 (R432). -/
def State.checkLedgers (s : State) : State := s.ledgerCheck s.ledgersBad

/-- The check of ledger 3 at a round end (R432, R452). -/
def State.checkGallery (s : State) : State := s.ledgerCheck s.galleryBad

/-- The check of safe hold: every ledger (R424, R432). -/
def State.checkAllLedgers (s : State) : State := s.ledgerCheck (s.ledgersBad + s.galleryBad)

end Sys2Proof.Machine
end

