-- ==== Sys2Proof/Machine/UwbOps.lean ====
section
/-! DEFINITION. The UWB front-end and the ranging baseband: UWBPOLL, UWBRESP, UWBFINAL and their events (R168 to R235). -/

namespace Sys2Proof.Machine

open Sys2Proof

/-- Replace the ranging state. -/
def State.setRng (s : State) (r : Rng) : State := { s with rng := r }

/-- Shortest payload of a role's frame (R229 to R232). -/
def uwbMin (role : Nat) : Nat := if role = 1 then 12 else 16

/-! ### Issue -/

/-- Block fields of the UWB steps. -/
def uwbCh (b : List Byte) : Nat := byteAt b 8
def uwbCode (b : List Byte) : Nat := byteAt b 9
def uwbKind (b : List Byte) : Nat := byteAt b 10
def uwbLen (b : List Byte) : Nat := fieldLE b 14 2
def uwbSession (b : List Byte) : Nat := fieldLE b 16 4

/-- A UWB block is out of range: channel, code or code mask, kind, byte 11, length (R76, R168, R202, R203). -/
def uwbBad (k : FieldKind) (b : List Byte) : Bool :=
  let role := uwbSends k
  let codeOk := if role = 2 then uwbCode b != 0 else (uwbLane (uwbCode b)).isSome
  let lo := if uwbKind b = 0 then 1 else uwbMin role
  !(uwbCh b == 5 || uwbCh b == 9) || !codeOk || !(uwbKind b == 0 || uwbKind b == role)
  || decide ((if role = 3 then 1 else 0) < byteAt b 11) || decide (uwbLen b < lo) || decide (125 < uwbLen b)

/-- What a UWB step asks of its block (R76, R224). -/
def uwbSpec (step : Step) (k : FieldKind) : FieldSpec :=
  { step := step, kind := k, blkLen := 20, bad := uwbBad k
    frame := fun b => (fieldLE b 12 2, uwbLen b)
    resLen := fun b => if k == .uwbfinal && (byteAt b 11).testBit 0 then 192 else 64 }

/-- Ports that could be eligible: enabled, not marked, without PORT_FAULT, and not waiting for the port check that follows its clearing (R186,
R190). -/
def State.uwbPorts (s : State) : Nat :=
  (List.range 4).foldl (fun m n =>
    if s.uwb.divCfg.testBit (4 + n) && !s.marked (unitChain n) && !s.uwb.fault.testBit n && !s.uwb.recheck.testBit n then m + 2 ^ n else m) 0

/-- Ports that a UWB step needs: UTX, and every enabled port whose chain is usable (R190). -/
def State.uwbNeeds (s : State) : Nat :=
  (List.range 4).foldl (fun m n => if s.uwb.divCfg.testBit (4 + n) && !s.marked (unitChain n) then m + 2 ^ n else m) 16

/-- Every enabled port's chain is marked (R190). -/
def State.uwbChainsOut (s : State) : Bool :=
  (List.range 4).all fun n => !s.uwb.divCfg.testBit (4 + n) || s.marked (unitChain n)

/-- Lanes of a mask that lie in usable correlator halves (R203). -/
def State.uwbLanes (s : State) (m : Nat) : Nat :=
  (if s.marked (unitCorr 0) then 0 else m &&& 0x0F) ||| (if s.marked (unitCorr 1) then 0 else m &&& 0xF0)

/-- Codes a step searches, as a mask. -/
def uwbMask (k : FieldKind) (b : List Byte) : Nat :=
  if k == .uwbresp then uwbCode b else (match uwbLane (uwbCode b) with | some n => 2 ^ n | none => 0)

/-- Chips of the own frame of a step; of a response, the longest that an answer to one of its codes can take (R193, R200; log 178). -/
def Rng.ownChips (r : Rng) (k : FieldKind) (b : List Byte) : Nat :=
  let n (code : Nat) := r.frameChips code (byteAt b 4 != 0xFF) (uwbLen b + 2)
  if k == .uwbresp then
    max (if uwbCode b % 16 = 0 then 0 else n 9) (if uwbCode b / 16 = 0 then 0 else n 25)
  else n (uwbCode b)

/-- Reservation of a running UWBRESP, in ticks (R193). -/
def State.uwbReserved (s : State) : Nat := match s.uwb.run with | some r => r.reserved * chipT | none => 0

/-- Transmit time in a window, with the reservation of a running UWBRESP (R193). -/
def State.uwbTxTime (s : State) (window : Nat) : Nat := spansIn s.uwb.spans s.now window + s.uwbReserved

/-- The regulatory lock refuses a frame of n chips on a channel (R180, R193). -/
def State.uwbBlocked (s : State) (ch n : Nat) : Bool :=
  let u := s.uwb
  let d := n * chipT
  let tx1h := bits u.reg2 31 16
  !u.reg0.testBit (if ch = 5 then 16 else 17) || u.fault.testBit 6 || decide (bits u.reg1 15 0 * usT < d)
  || decide (bits u.reg1 31 16 * msT < s.uwbTxTime secT + d)
  || (tx1h != 0 && decide (tx1h * secT < s.uwbTxTime (3600 * secT) + d))

/-- Target density of a channel (R178). -/
def Uwb.target (u : Uwb) (ch : Nat) : Int := u.limit - (if ch = 5 then bits u.txpwr 7 0 else bits u.txpwr 15 8 : Nat)

/-- Gain code of a channel without its trim (R178). -/
def Uwb.gain0 (u : Uwb) (ch : Nat) (temp : Int) (vdd : Nat) : Int :=
  Config.uwbG0 ch + (u.target ch + 200) + nearestDiv (Config.uwbKt ch * (temp - 25)) 16
  + nearestDiv (Config.uwbKv ch * ((vdd : Int) - 3300)) 1000

/-- Gain code before clamping (R178). -/
def Uwb.gain (u : Uwb) (ch : Nat) (temp : Int) (vdd : Nat) : Int := u.gain0 ch temp vdd + u.trim ch

/-- The own frame with its device-filled fields that are known at issue (R227, R229, R230). -/
def State.uwbFrame (s : State) (l : Nat) (k : FieldKind) (b frame : List Byte) : List Byte :=
  if uwbKind b = 0 then frame else
  let sess := uwbSession b
  let round := fieldLE frame 6 2
  let hdr := patch frame 0 ([BitVec.ofNat 8 (uwbFtype (uwbSends k)), 1] ++ natLE 4 sess)
  match k with
  | .uwbpoll =>
    let prev := match (s.rngRec l).poll with
      | some p => if p.session = sess ∧ (p.round + 1) % 65536 = round then tscSub p.arrival p.departure else 0
      | none => 0
    putLE hdr 8 4 prev
  | .uwbresp =>
    let (atx, arx) := s.rng.delays (uwbCh b)
    putLE hdr 8 4 (131072 + atx + arx)
  | _ => hdr

/-- A handle gives a UWB step its STS key: 128-bit AES with STS in the engine mask (R80, R208). -/
def Handle.stsKey (h : Handle) : Option (List Byte) :=
  if h.engines.testBit engSts && h.key.length == 16 && h.ktype == 0 then some h.key else none

/-- Longest slices of the background calibrations, in microseconds (R183). -/
def uwbSliceUs (k : Nat) : Nat := match k with | 0 => 4 | 1 => 2 | 4 => 2 | _ => 8

/-- Longest age of a calibration, in milliseconds (R183). -/
def uwbAgeMs (k : Nat) : Nat := match k with | 0 => 5 | 1 => 10 | 4 => 50 | 6 => 1000 | _ => 100

/-- Take the port check of the ports in a mask: those in `bad` latch their fault, the others may be eligible (R189, R190). -/
def State.uwbPortCheck (s : State) (ports bad : Nat) : State :=
  let s := s.setUwb { s.uwb with recheck := s.uwb.recheck &&& (31 ^^^ (ports &&& 31)) }
  (List.range 5).foldl (fun s n =>
    if ports.testBit n && bad.testBit n && !s.uwb.fault.testBit n then
      let s := s.setUwb { s.uwb with fault := s.uwb.fault ||| 2 ^ n }
      s.recordFault (if n = 4 then .uwbTxAnt else .uwbPort) (.uwbPort n) []
    else s) s

/-- The checks of a UWB step that ask for no port, in order; ok when the step may go on (R190, R203, R208, R216). -/
def State.uwbCheck1 (s : State) (l : Nat) (j : FieldJob) : Code :=
  let b := j.blk
  let handle := byteAt b 4
  let keyOk := handle == 0xFF || (vget (s.land l).handles handle Handle.empty).stsKey.isSome
  let round := fieldLE j.frame 6 2
  let recOk := match (s.rngRec l).poll with
    | some p => p.session == uwbSession b && p.round == round
    | none => false
  if !keyOk then .keyPolicy
  else if j.kind == .uwbfinal && uwbKind b == 3 && !recOk then .stateRefused
  else if s.marked unitSynth || s.marked unitUwbTx || s.uwbLanes (uwbMask j.kind b) == 0 then .unitUnusable
  else .ok

/-- The end that R190 gives a step for the state of its ports; ok when it may go on. -/
def State.uwbPortEnd (s : State) : Code :=
  if s.uwb.fault.testBit 4 then .antennaFault
  else if s.uwbPorts == 0 then (if s.uwbChainsOut then .unitUnusable else .antennaFault)
  else .ok

/-- The checks of a UWB step after its grant and block checks; ok when the step may go on. DESIGN CHOICE: where several fail, this order
decides (log 206). -/
def State.uwbCheck (s : State) (l : Nat) (j : FieldJob) : Code :=
  if s.uwbCheck1 l j != .ok then s.uwbCheck1 l j
  else if s.uwbPortEnd != .ok then s.uwbPortEnd
  else if s.uwbBlocked (uwbCh j.blk) (s.rng.ownChips j.kind j.blk) then .regulatoryBlocked
  else .ok

/-- Ports whose check a step runs first: those it needs whose fault the host has cleared, and all of them when calibration 6 is overdue
(R185, R190). -/
def State.uwbChecks (s : State) : Nat := (s.uwb.recheck &&& s.uwbNeeds) ||| (if s.uwb.overdue.testBit 6 then 31 else 0)

/-- A UWB step as its block and its flight give it, with no calibration or wait before it (R173, R176). -/
def State.uwbRunOf (s : State) (l : Nat) (j : FieldJob) (temp : Int) (vdd : Nat) : UwbRun :=
  let b := j.blk
  let handle := byteAt b 4
  let sp1 := handle != 0xFF
  let ch := uwbCh b
  { step := j.kind, land := l, ch := ch, code := if j.kind == .uwbresp then 0 else uwbCode b, kind := uwbKind b
    lanes := s.uwbLanes (uwbMask j.kind b), sp1 := sp1
    key := if sp1 then (vget (s.land l).handles handle Handle.empty).key else []
    out := s.uwbFrame l j.kind b j.frame, chips := s.rng.ownChips j.kind b, session := uwbSession b
    round := if uwbKind b = 0 then 0 else fieldLE j.frame 6 2, report := (byteAt b 11).testBit 0
    calWait := false, coexWait := false, coexSince := s.now, readyAt := s.now, window := none, searchFrom := 0, txMark := none
    meas := none, measured := false, antenna := false, pollMark := none, disturbed := false, markAt := 0, withdrawn := false
    lost := false, closed := false, offset := s.masterTime, reserved := 0, gain := s.uwb.gain0 ch temp vdd, target := s.uwb.target ch
    forcedUs := 0 }

/-- Microseconds of a port check (R183, R190). -/
def portCheckUs : Nat := 8

/-- A step that fails after its port check ends with a code when the check has taken its time (R190). -/
def State.uwbTurned (s : State) (l : Nat) (j : FieldJob) (c : Code) (r : UwbRun) : State :=
  let u := s.uwb
  let due := u.overdue.testBit 6
  (s.setUwb { u with
    run := some { r with closed := true, readyAt := s.now + portCheckUs * usT }, overdue := clearBits u.overdue 64
    forced := (u.forced + b2n due) % 256, calAt := if due then vset u.calAt 6 s.now else u.calAt }).setJob l
    { j with started := some s.now, fin := some (c, noRest j.kind) }

/-- Issue a UWB step (R169, R176, R184, R185, R190, R191, R193). -/
def uwbIssue (temp : Int) (vdd bad l : Nat) (j : FieldJob) (s : State) : State :=
  let s := { s with dieTemp := temp }
  let u := s.uwb
  let s := s.setUwb { u with aborted := (u.aborted + b2n u.slice.isSome) % 65536, slice := none }
  let check := if s.uwbCheck1 l j != .ok then 0 else s.uwbChecks
  let s := if check == 0 then s else s.uwbPortCheck check bad
  let c := s.uwbCheck l j
  let r := s.uwbRunOf l j temp vdd
  if c != .ok then
    if check == 0 then s.fieldDone l j c 0 (noRest j.kind) else s.uwbTurned l j c r
  else
    let u := s.uwb
    let cal := r.ch != u.lastch || decide (10 ≤ (temp - u.synthTemp).natAbs)
    let forced := min 40 ((List.range 7).foldl (fun a k => if u.overdue.testBit k then a + uwbSliceUs k else a) 0)
    let wait := forced + (if check = 0 || u.overdue.testBit 6 then 0 else portCheckUs)
    let ask := u.coex && !u.req
    let pri := u.coex && decide ((s.land l).prio ≤ bits u.coexCfg 25 24)
    let calNow := u.cal.isSome || cal
    let run : UwbRun := { r with
      calWait := calNow, coexWait := ask && !u.granted, readyAt := s.now + wait * usT, forcedUs := forced
      reserved := if j.kind == .uwbresp then r.chips else 0 }
    let u := { u with
      run := some run, req := u.req || ask, pri := if ask then pri else u.pri
      cal := if cal then some (r.ch, s.now) else u.cal, mode := if calNow then .cal else .ready
      forced := (u.forced + popCount 7 u.overdue) % 256, overdue := 0
      calAt := Vector.ofFn fun k : Fin 7 => if u.overdue.testBit k.val then s.now else u.calAt.get k }
    (s.setUwb u).setJob l { j with started := some s.now }

/-- UWBPOLL. -/
def execStUwbpoll (dt l : Nat) (temp : Int) (vdd bad : Nat) (s : State) : Host.Outcome State Fault Refusal :=
  fieldStep dt l (uwbSpec .uwbpoll .uwbpoll) s (uwbIssue temp vdd bad l)

/-- UWBRESP. -/
def execStUwbresp (dt l : Nat) (temp : Int) (vdd bad : Nat) (s : State) : Host.Outcome State Fault Refusal :=
  fieldStep dt l (uwbSpec .uwbresp .uwbresp) s (uwbIssue temp vdd bad l)

/-- UWBFINAL. -/
def execStUwbfinal (dt l : Nat) (temp : Int) (vdd bad : Nat) (s : State) : Host.Outcome State Fault Refusal :=
  fieldStep dt l (uwbSpec .uwbfinal .uwbfinal) s (uwbIssue temp vdd bad l)

/-! ### Ends of a step -/

/-- A timestamp as a result shows it: in master time while the offset is valid (R225). -/
def UwbRun.stamp (r : UwbRun) (t : Nat) : Nat := match r.offset with | some o => (t + o) % 2 ^ 40 | none => t % 2 ^ 40

/-- The result bytes 8-12 of a step that has sent its own frame first. -/
def State.uwbTxStamp (s : State) (r : UwbRun) : List Byte :=
  match r.txMark with
  | some t => natLE 5 (r.stamp (s.tsc t))
  | none => List.replicate 5 0

/-- Result bytes from byte 8 of a step that ends without a reply (R224). -/
def State.uwbNoReply (s : State) (j : FieldJob) (r : UwbRun) : List Byte :=
  let first := if j.kind == .uwbresp then List.replicate 5 0 else s.uwbTxStamp r
  padTo 12 first ++ natLE 4 0x80000000

/-- Result bytes from byte 8 of a step: those of the reply it has, or of none. -/
def State.uwbRest (s : State) (j : FieldJob) (r : UwbRun) : List Byte := (j.fin.map (·.2)).getD (s.uwbNoReply j r)

/-- A capture of the landing is still on its way. -/
def State.cirMoving (s : State) (l : Nat) : Bool :=
  s.dma.waiting.any (fun d => d.job == .cir l)
  || s.dma.chans.toList.any (fun c => c.active && (match c.desc with | some d => d.job == .cir l | none => false))

/-- The front-end is off the air, and shows what it does next. -/
def Uwb.rests (u : Uwb) : Uwb := { u with mode := if u.cal.isSome then .cal else .ready }

/-- The front-end returns to READY, and the step ends with its outcome; a disturbed exchange decides it (R78, R222). After a lost lock the
exchange ends with it (R170). -/
def State.uwbEnd (s : State) (j : FieldJob) (r : UwbRun) (c : Code) (rest : List Byte) : State :=
  let c := if r.disturbed && (c == .ok || c == .authFail || c == .fieldTimeout) then Code.fieldDisturbed else c
  let s := s.setUwb { s.uwb.rests with run := none }
  let s := s.fieldDone r.land j c (j.srcs ||| (if r.disturbed then 2 else 0)) rest
  if r.lost then s.boundary r.land 1 else s

/-- The step has its outcome: it ends, as soon as its capture has moved (R213). -/
def State.uwbOver (s : State) (j : FieldJob) (r : UwbRun) (c : Code) (rest : List Byte) : State :=
  if s.cirMoving r.land then
    (s.setUwb { s.uwb.rests with run := some { r with closed := true } }).setJob r.land { j with fin := some (c, rest) }
  else s.uwbEnd j r c rest

/-- The step in progress with its job. -/
def State.uwbRun (s : State) : Option (UwbRun × FieldJob) :=
  match s.uwb.run with
  | some r => (s.fieldJob r.land).map fun j => (r, j)
  | none => none

/-- COEX_DENIED by withdrawal (R192). -/
def State.uwbDenied (s : State) (j : FieldJob) (r : UwbRun) : State :=
  (s.setUwb { s.uwb with withdrawn := (s.uwb.withdrawn + 1) % 65536 }).uwbOver j { r with withdrawn := false } .coexDenied (s.uwbRest j r)

/-! ### Transmission and windows -/

/-- UWB_WINDOW_OPEN (R177): the reply window opens exactly 512 CHIP periods after the transmit end mark of the poll, or
of a final that expects a report; `tx` is what the loopback measured of that frame. -/
def execEvUwbWindowOpen (dt : Nat) (tx : TxMeas) (s : State) : Host.Outcome State Fault Refusal :=
  occurLive dt s fun s =>
    let s := s.uwbMoves
    match s.uwbRun with
    | none => s
    | some (r, j) =>
      match r.txMark with
      | some t =>
        let w := r.airEnd t + 512 * chipT
        if r.window.isSome || j.kind == .uwbresp || j.fin.isSome || r.closed || (j.kind == .uwbfinal && !r.report) || decide (s.now < w) then s
        else
          let s := if r.measured then s else s.uwbMeasure r (r.meas.getD tx)
          match s.uwb.run with
          | none => s
          | some r =>
            if r.antenna then s.uwbOver j r .antennaFault (s.uwbNoReply j r)
            else if r.withdrawn || (s.uwb.coex && !s.uwb.granted) then s.uwbDenied j r
            else s.setUwb (s.uwbOpens r w)
      | none => s

/-- UWB_FINAL_TX (R216, R231): the final has left at its mark, with RA and DA; `tx` is what the loopback will have measured of it. -/
def execEvUwbFinalTx (dt : Nat) (tx : TxMeas) (s : State) : Host.Outcome State Fault Refusal :=
  occurLive dt s fun s =>
    let s := s.uwbMoves
    match s.uwbRun with
    | none => s
    | some (r, j) =>
      if j.kind != .uwbfinal || r.txMark.isNone || r.meas.isSome || r.measured || r.closed then s
      else
        let s := s.setUwb { s.uwb with run := some { r with meas := some tx } }
        if r.report then s else s.setJob r.land { j with fin := some (.ok, s.uwbNoReply j r) }

/-- UWB_RESPONSE_TX (R175): the response has left exactly 1,024 CHIP periods after the poll's receive end mark; `tx` is what the loopback
will have measured of it. -/
def execEvUwbResponseTx (dt : Nat) (tx : TxMeas) (s : State) : Host.Outcome State Fault Refusal :=
  occurLive dt s fun s =>
    let s := s.uwbMoves
    match s.uwbRun with
    | none => s
    | some (r, j) =>
      if j.kind != .uwbresp || r.txMark.isNone || r.meas.isSome || r.measured || r.closed then s
      else s.setUwb { s.uwb with run := some { r with meas := some tx } }

/-! ### Reception -/

/-- Mask of the ports a frame makes eligible (R186). -/
def State.uwbEligible (s : State) (rx : UwbRx) : Nat :=
  (List.range 4).foldl (fun m n =>
    match rx.ports[n]? with
    | some p => if s.uwbPorts.testBit n && p.detected (bits s.rng.det 31 24) then m + 2 ^ n else m
    | none => m) 0

/-- CHIP period of the timebase that an instant falls in. -/
def State.chipOf (s : State) (t : Nat) : Nat := (t - s.rng.tscBase) / chipT

/-- The frame of code c whose SFD fell at an instant is not taken: another's SFD was detected before, or in the same CHIP period on a lower
code (R204). -/
def State.uwbBeaten (s : State) (r : UwbRun) (c sfd : Nat) (rivals : List (Nat × Nat)) : Bool :=
  rivals.any fun p =>
    let at1 := s.now - p.2
    (match uwbLane p.1 with | some n => r.lanes.testBit n | none => false) && decide (r.searchFrom ≤ at1)
    && (decide (s.chipOf at1 < s.chipOf sfd) || (s.chipOf at1 == s.chipOf sfd && decide (p.1 < c)))

/-- Data port of a frame and whether it fell back from FIXPORT (R187, R188). -/
def State.uwbDataPort (s : State) (rx : UwbRx) (elig : Nat) : Nat × Bool :=
  let best := (List.range 4).foldl (fun (m : Option (Nat × Int)) n =>
    if elig.testBit n then
      let e := (rx.ports[n]?.map (·.estimate)).getD 0
      match m with
      | some (k, x) => if x < e then some (n, e) else some (k, x)
      | none => some (n, e)
    else m) none
  let best := (best.map (·.1)).getD 0
  let fixed := s.uwb.divCfg.testBit 3
  let fp := bits s.uwb.divCfg 1 0
  if fixed && elig.testBit fp then (fp, false) else (best, fixed)

/-- Port n of the array on a channel, with its phase after PHOFF (R219). -/
def State.aoaPort (s : State) (ch : Nat) (rx : UwbRx) (n : Nat) : AoaPort :=
  let w0 := vget s.rng.aoa (2 * n) 0
  let w1 := vget s.rng.aoa (2 * n + 1) 0
  let off := if ch = 5 then bits w1 15 0 else bits w1 31 16
  let raw := (rx.ports[n]?.map (·.phase)).getD 0
  ⟨sgn 16 (bits w0 31 16), sgn 16 (bits w0 15 0), (raw + 65536 - off) % 65536⟩

/-- The capture of a frame for the CIR hall: tap 64 is the tap of the data port's preamble first path (R213). -/
def State.cirCapture (s : State) (r : UwbRun) (j : FieldJob) (rx : UwbRx) (elig dp : Nat) (passed : Bool) : List Byte :=
  let port (n : Nat) : Option PortRx := if elig.testBit n then rx.ports[n]? else none
  let four {α : Type} (f : Nat → List α) : List α := f 0 ++ f 1 ++ f 2 ++ f 3
  let k := (rx.port dp).tap
  let from0 (path : Int) : Nat := unsgn 32 (path - (64 * k : Nat) + 64 * 64)
  let hdr := natLE 2 1 ++ [BitVec.ofNat 8 (match j.kind with | .uwbpoll => 0x26 | .uwbresp => 0x27 | _ => 0x28),
      BitVec.ofNat 8 r.kind, BitVec.ofNat 8 rx.code, BitVec.ofNat 8 dp, BitVec.ofNat 8 elig,
      BitVec.ofNat 8 (b2n rx.sp1 + 2 * b2n passed)]
    ++ natLE 5 (r.stamp (s.tsc s.now)) ++ [0, 0, 0] ++ natLE 4 (from0 (rx.port dp).path)
    ++ natLE 4 (if rx.sp1 then from0 (firstPath rx.stsNoise rx.stsBack rx.stsCir) else 0)
    ++ four (fun n => [BitVec.ofNat 8 ((port n).elim 0 (·.scale))])
    ++ four (fun n => natLE 2 ((port n).elim 0 (·.cirNoise)))
  padTo 0x100 hdr ++ four (fun n => (port n).elim (List.replicate 4064 0) fun p => cirFrom k p.cir)
  ++ four (fun n => if n = dp && rx.sp1 then cirFrom k rx.stsCir else List.replicate 4064 0)

/-- Queue the capture as a move of the device's own, replacing one that has not started (R130, R213). -/
def State.queueCir (s : State) (l : Nat) (bs : List Byte) : State :=
  if (s.land l).cirBuf.isNone then s else
  let d : Desc := { job := .cir l, itemCode := 0xFE, srcKind := 8, dstKind := 5, src := .bytes (padTo 0x8000 bs)
                    dst := .hall l 2, srcOff := 0, dstOff := 0, len := 0x8000, done := 0, buf := [], lastGranule := s.now }
  { s with dma := { s.dma with waiting := s.dma.waiting.filter (fun e => e.job != .cir l) ++ [d] } }

/-- The session checks of R228. -/
def uwbSessionOk (r : UwbRun) (k : FieldKind) (pay : List Byte) : Bool :=
  let role := uwbTakes k
  byteAt pay 0 == uwbFtype role && byteAt pay 1 == 1 && fieldLE pay 2 4 == r.session && fieldLE pay 6 2 == r.round
  && decide (uwbMin role ≤ pay.length)

/-- Time of flight with its method (R215 to R218). -/
def State.uwbTof (s : State) (r : UwbRun) (j : FieldJob) (pay : List Byte) (arr : Nat) (eps : Int) (epsOk : Bool) :
    Option (Int × Nat) :=
  let (atx, _) := s.rng.delays r.ch
  let rec0 := s.rngRec r.land
  let e8 : Int := 100000000
  match j.kind, r.kind with
  | .uwbpoll, 1 =>
    if !epsOk then none else
    let dep := (s.tsc (r.txMark.getD 0) + atx) % 2 ^ 40
    let ra : Int := tscSub arr dep
    let db : Int := (fieldLE pay 8 4 + 128 * r.chips : Nat)
    some (nearestDiv (ra * e8 - db * (e8 - eps)) 200000000, 1)
  | .uwbfinal, 3 =>
    match rec0.poll with
    | some p =>
      let dep := (s.tsc (r.txMark.getD 0) + atx) % 2 ^ 40
      let ra := tscSub p.arrival p.departure
      let da := tscSub dep p.arrival
      let rb := fieldLE pay 8 4
      let db := fieldLE pay 12 4
      some (nearestDiv ((ra * rb : Nat) - (da * db : Nat) : Int) (ra + rb + da + db), 2)
    | none => none
  | .uwbresp, 2 =>
    let prev := fieldLE pay 8 4
    match rec0.resp with
    | some q =>
      if prev != 0 && epsOk && q.session == r.session && (q.round + 1) % 65536 == r.round then
        some (nearestDiv ((prev : Int) * (e8 - eps) - (q.db : Int) * e8) 200000000, 3)
      else none
    | none => none
  | _, _ => none

/-- Result bytes 20 to 63 of an accepted frame (R224). -/
def uwbRest20 (tof : Option (Int × Nat)) (flags : Nat) (rx : UwbRx) (angle : Option AoaOut) (elev : Int) (stsq : Nat) (fpDiff : Int)
    (elig dp : Nat) (phases : List Nat) : List Byte :=
  let s16 (v : Int) := natLE 2 (unsgn 16 (clampI (-32768) 32767 v))
  let port (n : Nat) : List Byte :=
    match rx.ports[n]? with
    | some p => if elig.testBit n then
        s16 (p.path - (rx.port dp).path) ++ [BitVec.ofNat 8 p.power] ++ natLE 2 (phases.getD n 0)
        ++ [BitVec.ofNat 8 (1 + (if n = dp then 2 else 0) + (if p.clipped then 4 else 0))]
      else List.replicate 6 0
    | none => List.replicate 6 0
  natLE 4 (match tof with | some (t, _) => unsgn 32 t | none => 0x80000000)
  ++ [BitVec.ofNat 8 (match tof with | some (_, m) => m | none => 0), BitVec.ofNat 8 flags]
  ++ s16 rx.eps ++ s16 (angle.elim 0 (·.azimuth)) ++ s16 elev ++ [BitVec.ofNat 8 (angle.elim 0 (·.quality))]
  ++ [BitVec.ofNat 8 rx.floor] ++ s16 fpDiff ++ [BitVec.ofNat 8 rx.power, BitVec.ofNat 8 stsq, 0, 0]
  ++ port 0 ++ port 1 ++ port 2 ++ port 3

/-- Take an undisturbed window into a channel's baseline (R223). -/
def Rng.average (r : Rng) (ch floor : Nat) : Rng :=
  let f := floor * 65536
  let upd (b : Option Nat) : Option Nat := some (match b with | none => f | some x => (15 * x + f) / 16)
  if ch = 5 then { r with base5 := upd r.base5 } else { r with base9 := upd r.base9 }

/-- The exchange record takes a passed poll reply or a passed poll (R214); a RAW reply carries no interval Db, which is then a free value
(log 207). -/
def State.rngStore (s : State) (r : UwbRun) (j : FieldJob) (pay : List Byte) (arr : Nat) (eps : Int) (rxChips : Nat) : State :=
  let (atx, arx) := s.rng.delays r.ch
  let rec0 := s.rngRec r.land
  let (s, raw) := if j.kind == .uwbpoll && r.kind == 0 then s.draw else (s, 0)
  let db := if r.kind = 0 then raw % 2 ^ 40 else fieldLE pay 8 4 + 128 * r.chips
  let rec1 : RngRec := match j.kind with
    | .uwbpoll => { rec0 with poll := some ⟨r.session, r.round, (s.tsc (r.txMark.getD 0) + atx) % 2 ^ 40, arr, db, eps⟩ }
    | .uwbresp => { rec0 with resp := some ⟨r.session, r.round, 131072 + atx + arx + 128 * rxChips⟩ }
    | _ => rec0
  s.setRng { s.rng with records := Tbl.put s.rng.records r.land rec1 }

/-- Start of the 4 µs sample before the response to a poll with a receive end mark (R221). -/
def respSample (p : Nat) : Nat := respMark p - 4 * usT

/-- UWB_FRAME_RX (R186, R187, R201, R204 to R206, R210 to R219, R224, R228, R233): a frame whose SFD was taken ends. -/
def execEvUwbFrameRx (dt : Nat) (rx : UwbRx) (s : State) : Host.Outcome State Fault Refusal :=
  occurLive dt s fun s =>
    let s := s.uwbMoves
    match s.uwbRun with
    | none => s
    | some (r, j) =>
      let rxChips := s.rng.frameChips rx.code rx.sp1 rx.psdu.length
      let first := s.now - rxChips * chipT
      let sfd := first + s.rng.sfdChips rx.code * chipT
      let elig := s.uwbEligible rx
      let laneOk := match uwbLane rx.code with | some n => r.lanes.testBit n | none => false
      let open_ := match r.window with
        | some w => decide (w ≤ first) && decide (sfd ≤ w + j.window * usT) && decide (r.searchFrom ≤ sfd)
        | none => false
      if !open_ || !laneOk || elig == 0 || j.fin.isSome || r.closed || r.withdrawn || s.uwbBeaten r rx.code sfd rx.rivals then s
      else
        let r := { r with searchFrom := s.now }
        let s := s.setUwb { s.uwb with run := some r }
        let discard (s : State) := s.setRng { s.rng with discarded := (s.rng.discarded + 1) % 65536 }
        if !rx.sfdOk then discard s
        else
          let (dp, fell) := s.uwbDataPort rx elig
          let of := if j.kind == .uwbresp then { r with code := rx.code } else r
          let s := s.setUwb { s.uwb with dataPort := dp, fixFallback := fell, expect := of.sts s.rng.stsUnits (uwbTakes j.kind) }
          let n := rx.psdu.length - 2
          let pay := rx.psdu.take n
          let whole := rx.phrOk && decide (3 ≤ rx.psdu.length) && decide (rx.psdu.length ≤ 127) && uwbFcs pay == rx.psdu.drop n && rx.sp1 == r.sp1
            && (r.kind == 0 || uwbSessionOk r j.kind pay)
          let fpDiff := if rx.sp1 then rx.fpDiff (rx.port dp) else 0
          let stsq := if rx.sp1 then rx.stsq (rx.port dp) else 0
          let agree := decide (fpDiff.natAbs ≤ bits s.rng.det 15 0)
          let stsPass := !rx.sp1 || (decide (bits s.rng.det 23 16 ≤ stsq) && agree)
          let s := s.queueCir r.land (s.cirCapture r j rx elig dp (whole && stsPass))
          if !whole then discard s
          else
            let (_, arx) := s.rng.delays r.ch
            let mark := s.tsc s.now
            let arr := tscSub mark (128 * rxChips + arx)
            let epsOk := decide (rx.eps.natAbs ≤ 10000)
            let tof := if stsPass then s.uwbTof r j pay arr rx.eps epsOk else none
            let others := (List.range 4).filter fun k => elig.testBit k && k != dp
            let angle := aoa r.ch (s.aoaPort r.ch rx dp) (others.map (s.aoaPort r.ch rx))
            let (s, fv) := match angle with
              | some a => if a.outside then s.draw else (s, 0)
              | none => (s, 0)
            let elev : Int := match angle with | some a => if a.outside then sgn 16 fv else a.elevation | none => 0
            let report := j.kind == .uwbfinal && r.report && stsPass
            let flags := b2n (rx.sp1 && stsPass) + 2 * b2n (rx.sp1 && agree) + 4 * b2n (!rx.sp1) + 8 * b2n angle.isSome
              + 16 * b2n epsOk + 32 * b2n report + 128 * b2n r.offset.isSome
            let phases := (List.range 4).map fun k => (s.aoaPort r.ch rx k).ph
            let tail := uwbRest20 tof flags rx angle elev stsq fpDiff elig dp phases
            let rxStamp := natLE 5 (r.stamp mark)
            let codeFound := BitVec.ofNat 8 rx.code
            let head := match j.kind with
              | .uwbpoll => s.uwbTxStamp r ++ rxStamp ++ [BitVec.ofNat 8 dp, BitVec.ofNat 8 stsq]
              | .uwbresp => rxStamp ++ natLE 5 (r.stamp (mark + 131072)) ++ [codeFound, BitVec.ofNat 8 dp]
              | _ => s.uwbTxStamp r ++ rxStamp ++ natLE 2 pay.length
            let rest := head ++ tail ++ (if report then pay else [])
            let s := if r.disturbed then s else s.setRng (s.rng.average r.ch rx.floor)
            let s := s.setUwb { s.uwb with mode := if j.kind == .uwbresp then .txarm else .ready }
            if !stsPass then
              (s.setRng { s.rng with stsfail := (s.rng.stsfail + 1) % 65536 }).uwbOver j r .authFail rest
            else
              let s := s.rngStore r j pay arr rx.eps rxChips
              let own := s.rng.frameChips rx.code r.sp1 (r.out.length + 2)
              if j.kind != .uwbresp then s.setJob r.land { j with fin := some (.ok, rest) }
              else if r.disturbed && decide (respSample s.now ≤ r.markAt) then s.uwbOver j r .fieldDisturbed rest
              else
                (s.setUwb { s.uwb with run := some { r with pollMark := some s.now, code := rx.code, chips := own } }).setJob r.land
                  { j with fin := some (.ok, rest) }

/-- FIELD_STEP_DONE for the UWB steps: the outcome is reached, the capture delivered, the own frame measured, nothing left to send. A latched
TX_ANT comes before a withdrawn COEX_GNT (log 208). -/
def State.uwbStepDone (s : State) (l : Nat) (j : FieldJob) : State :=
  let s := s.uwbNow
  match s.uwbRun, j.fin with
  | some (r, _), some (c, rest) =>
    let sent := r.closed || (match j.kind with | .uwbresp => r.measured | .uwbfinal => r.window.isSome || r.measured | _ => true)
    let checked := !r.closed || decide (r.readyAt ≤ s.now)
    if r.land = l ∧ sent = true ∧ checked = true ∧ s.cirMoving l = false then
      if r.withdrawn && !r.antenna then s.uwbDenied j r else s.uwbEnd j r (if r.antenna && c == .ok then .antennaFault else c) rest
    else if r.land = l ∧ r.withdrawn = true ∧ r.txMark = none then s.uwbDenied j r
    else s
  | some (r, _), none => if r.land = l ∧ r.withdrawn = true ∧ r.txMark = none then s.uwbDenied j r else s
  | none, _ => s

/-- FIELD_WINDOW_LAPSE for the UWB steps (R207, R223): `floor` is the noise floor over the window. -/
def State.uwbLapse (s : State) (l : Nat) (j : FieldJob) (floor : Nat) : State :=
  let s := s.uwbNow
  match s.uwbRun with
  | some (r, _) =>
    match r.window with
    | some w =>
      if r.land = l ∧ w + j.window * usT ≤ s.now ∧ j.fin = none ∧ r.withdrawn = false then
        let s := if r.disturbed then s else s.setRng (s.rng.average r.ch floor)
        s.uwbOver j r .fieldTimeout (s.uwbNoReply j r)
      else s
    | none => s
  | none => s

/-- The noise sample that runs now, by its start: the 4 µs before the first emission, or an open receive window (R221). -/
def State.uwbSample (s : State) (r : UwbRun) (j : FieldJob) : Option Nat :=
  if r.closed || r.withdrawn then none else
  match r.pollMark, r.window, r.txMark with
  | some p, _, none => if respSample p ≤ s.now ∧ s.now ≤ respMark p then some (respSample p) else none
  | some _, _, some _ => none
  | none, some w, _ => if j.fin.isNone ∧ s.now ≤ w + j.window * usT then some w else none
  | none, none, none =>
    let t := s.uwbStart r
    if j.kind ≠ .uwbresp ∧ r.ready s.now = true ∧ t - 4 * usT ≤ s.now ∧ s.now ≤ t then some (t - 4 * usT) else none
  | none, none, some _ => none

/-- A pre-emission sample ends at this instant, the frame not yet having left (R221). -/
def State.uwbAtEdge (s : State) : Bool :=
  match s.uwb.run with
  | some r => !r.closed && !r.withdrawn && r.txMark.isNone && (match r.pollMark with
    | some p => s.now == respMark p
    | none => r.step != .uwbresp && r.ready s.now && s.now == s.uwbStart r)
  | none => false

/-- UWB_DISTURBED (R221, R222): the noise floor stands NF_DELTA above the baseline for NF_MIN µs, or the converter of a chain in `clip`
clips for 1 µs, in a sample. A mark before the first emission leaves nothing to be emitted; later the step runs on. -/
def execEvUwbDisturbed (dt floor us clip : Nat) (s : State) : Host.Outcome State Fault Refusal :=
  occurLive dt s fun s =>
    let s := if s.uwbAtEdge then s else s.uwbMoves
    match s.uwbRun with
    | none => s
    | some (r, j) =>
      match s.uwbSample r j with
      | none => s
      | some from_ =>
        let base := if r.ch = 5 then s.rng.base5 else s.rng.base9
        let rise := match base with
          | some b => decide (bits s.rng.noiseCfg 15 8 * 65536 < 2 * (b - floor * 65536)) && decide (bits s.rng.noiseCfg 7 0 ≤ us)
          | none => false
        let clips := clip &&& s.uwbPorts != 0 && decide (1 ≤ us)
        if !(rise || clips) || r.disturbed || decide (s.now < from_ + us * usT) then s
        else
          let r' := { r with disturbed := true, markAt := s.now }
          let s := s.setRng { s.rng with disturbed := (s.rng.disturbed + 1) % 65536 }
          if r.txMark.isNone && (r.window.isNone || r.pollMark.isSome) then s.uwbOver j r' .fieldDisturbed (s.uwbRest j r')
          else s.setUwb { s.uwb with run := some r' }

/-! ### Synthesiser, calibration and coexistence -/

/-- SYNTH_LOCK_LOST (R170): a frame on air is cut, the step and its exchange end at once, also where a capture is still moving (log 204),
and a full calibration starts. -/
def execEvSynthLockLost (dt : Nat) (s : State) : Host.Outcome State Fault Refusal :=
  occurLive dt s fun s =>
    if !s.domUp 29 || s.uwb.cal.isSome then s
    else
      let s := s.uwbClosing
      let u := s.uwb.cut s.now
      let s := s.setUwb { u with fault := u.fault ||| 32, cal := some (u.lastch, s.now), mode := .cal, slice := none }
      match s.uwbRun with
      | some (r, j) => s.uwbEnd j { r with lost := true } .unitUnusable (s.uwbRest j r)
      | none =>
        match s.air.grants.find? fun g => g.mask.testBit 1 && g.exch.isSome with
        | some g => s.boundary g.landing 1
        | none => s

/-- SYNTH_CAL_DONE (R169, R170, R173, R179, R181, R183, R189): `ok` false when the calibration failed; two failures in a row are the unit
fault UWB_SYNTH, one starts the calibration again (log 19). Within a rise of D29 every background calibration runs too, port checks among
them. -/
def execEvSynthCalDone (dt : Nat) (ok : Bool) (c : CalEnd) (s : State) : Host.Outcome State Fault Refusal :=
  occurLive dt s (k := faultRank (!ok && s.uwb.calFails != 0)) fun s =>
    match s.uwb.cal with
    | none => s
    | some (ch, t0) =>
      if s.now < t0 + 80 * usT then s
      else if ok then
        let u := s.uwb.setTrim ch 0
        let rise := u.rising
        let u := { u with lastch := ch, synthTemp := c.temp, calFails := 0, cal := none, rising := false, mode := .ready
                          dpdUse := some (if ch = 5 then u.dpd5 else u.dpd9)
                          calAt := if rise then Vector.replicate 7 s.now else u.calAt, overdue := if rise then 0 else u.overdue
                          run := u.run.map fun r => { r with calWait := false, readyAt := max r.readyAt s.now } }
        let s := ({ s with dieTemp := c.temp }).setUwb u
        if rise then s.uwbPortCheck 31 c.bad else s
      else if s.uwb.calFails = 0 then s.setUwb { s.uwb with calFails := 1, cal := some (ch, s.now) }
      else (s.setUwb { s.uwb with calFails := 0, cal := none, rising := false, mode := .ready }).raise .uwbSynth (.domain 29)

/-- BG_CAL_SLICE (R183, R184, R189): a slice of calibration k begins (`ending` false) while the front-end is READY and no
step runs, or the slice in progress ends; `bad` are the ports that fail their check in a slice of calibration 6. -/
def execEvBgCalSlice (dt k : Nat) (ending : Bool) (bad : Nat) (s : State) : Host.Outcome State Fault Refusal :=
  occurLive dt s fun s =>
    if s.uwb.mode != .ready || s.uwb.run.isSome || decide (6 < k) then s
    else if ending then
      match s.uwb.slice with
      | some (q, t) =>
        if q = k ∧ t + uwbSliceUs k * usT ≤ s.now then
          let u := s.uwb
          let s := s.setUwb { u with slice := none, calAt := vset u.calAt k s.now, overdue := u.overdue &&& (127 ^^^ 2 ^ k) }
          if k = 6 then s.uwbPortCheck 31 bad else s
        else s
      | none => s
    else if s.uwb.slice.isNone then s.setUwb { s.uwb with slice := some (k, s.now) } else s

/-- A step has been issued, and has neither emitted nor opened its window. -/
def UwbRun.waits (r : UwbRun) : Bool := !r.closed && !r.withdrawn && r.txMark.isNone && r.window.isNone

/-- Calibration k runs whole before the step that waits emits or opens its window (R185). What a port check finds then no command tells: a
free value; the step ends as R190 says. -/
def State.uwbForce (s : State) (r : UwbRun) (j : FieldJob) (k : Nat) : State :=
  let us := min 40 (r.forcedUs + uwbSliceUs k)
  let r := { r with readyAt := max r.readyAt s.now + (us - r.forcedUs) * usT, forcedUs := us }
  let s := s.setUwb { s.uwb with run := some r, forced := (s.uwb.forced + 1) % 256, calAt := vset s.uwb.calAt k s.now }
  if k = 6 then
    let (s, v) := s.draw
    let s := s.uwbPortCheck 31 (v % 32)
    if s.uwbPortEnd == .ok then s
    else (s.setUwb { s.uwb with run := some { r with closed := true } }).setJob r.land { j with fin := some (s.uwbPortEnd, noRest j.kind) }
  else s

/-- BG_CAL_OVERDUE (R185): the bit stands until the calibration has run, which a step that waits does at once. -/
def execEvBgCalOverdue (dt k : Nat) (s : State) : Host.Outcome State Fault Refusal :=
  occurLive dt s fun s =>
    if k < 7 ∧ s.domUp 29 = true ∧ vget s.uwb.calAt k 0 + 2 * uwbAgeMs k * msT ≤ s.now then
      let t := s.uwbMoves
      match t.uwbRun with
      | some (r, j) => if r.waits then t.uwbForce r j k else t.setUwb { t.uwb with overdue := t.uwb.overdue ||| 2 ^ k }
      | none => s.setUwb { s.uwb with overdue := s.uwb.overdue ||| 2 ^ k }
    else s

/-- COEX_GNT_CHANGE (R191, R192): a grant ends the wait for it; a withdrawal lets a frame on air complete, closes an open window and bars what
would follow. Before the first frame or window the check at its start decides. -/
def execEvCoexGntChange (dt : Nat) (level : Bool) (s : State) : Host.Outcome State Fault Refusal :=
  occurLive dt s fun s =>
    let s := s.uwbMoves
    let s := s.setUwb { s.uwb with gnt := level }
    if !s.uwb.coex then s else
    match s.uwbRun with
    | none => s
    | some (r, j) =>
      if r.closed || r.withdrawn then s
      else if s.uwb.granted then
        if r.coexWait then s.setUwb { s.uwb with run := some { r with coexWait := false, readyAt := max r.readyAt s.now } } else s
      else if r.coexWait then s
      else if r.onAir s.now then s.setUwb { s.uwb with run := some { r with withdrawn := true } }
      else
        match r.window, r.txMark, r.pollMark with
        | none, none, _ => s
        | none, some _, _ => if j.fin.isSome then s else s.setUwb { s.uwb with run := some { r with withdrawn := true } }
        | some _, none, some _ => s.uwbDenied j r
        | some _, some _, some _ => s
        | some _, _, none => if j.fin.isSome then s else s.uwbDenied j r

/-- COEX_WAIT_LAPSE (R191): no grant within WAIT µs. -/
def execEvCoexWaitLapse (dt : Nat) (s : State) : Host.Outcome State Fault Refusal :=
  occurLive dt s fun s =>
    match s.uwbRun with
    | none => s
    | some (r, j) =>
      if r.coexWait && decide (r.coexSince + bits s.uwb.coexCfg 13 0 * usT ≤ s.now) then
        let s := s.setUwb { s.uwb with denied := (s.uwb.denied + 1) % 65536, req := false, pri := false }
        s.uwbOver j r .coexDenied (s.uwbNoReply j r)
      else s

/-- TSC_WRAP (R196): the counter is the time since D30 rose, modulo 2 ^ 40, so it wraps as time passes. -/
def execEvTscWrap (dt : Nat) (s : State) : Host.Outcome State Fault Refusal := occurLive dt s id

/-- Effect of a read of RNG_TSC_LO: TSC [39:32] and the era are latched (R235). -/
def State.tscLatch (s : State) : State :=
  s.setRng { s.rng with latch := s.rng.era % 65536 * 65536 + s.tsc s.now / 2 ^ 32 }

end Sys2Proof.Machine
end

