-- ==== Sys2Proof/Machine/VerdictOps.lean ====
section
/-! DEFINITION. The verdict engine (R84 to R86, R282 to R298), EVTRIG and the events of the evidence recorder (R94, R304). -/

namespace Sys2Proof.Machine

open Sys2Proof

/-! ### The atlas -/

/-- Signed little-endian field of a byte string. -/
def fieldS (bs : List Byte) (o n : Nat) : Int := sgn (8 * n) (fieldLE bs o n)

/-- Byte offset of a block, 0 when absent (chapter 09, Layout). -/
def atlasBlockAt (m : Mem) (k : Nat) : Nat := if k < m.le 6 2 then 64 * m.le (64 + 4 * k) 2 else 0

/-- Bytes of a block. -/
def atlasBlock (m : Mem) (k : Nat) : List Byte := m.readN (atlasBlockAt m k) 1088

/-- CRC-32 of bytes with those from 60 to 63 taken as 0. -/
def crcAt60 (bs : List Byte) : Nat := crc32 (patch bs 60 (List.replicate 4 0))

/-- Numbers of the present blocks. -/
def atlasPresent (m : Mem) : List Nat := (List.range (m.le 6 2)).filter fun k => atlasBlockAt m k != 0

/-- Zone record z of a block. -/
def zoneOf (b : List Byte) (z : Nat) : List Byte := sliceP b (64 + 64 * z) 64

/-- The header fields lie in their ranges. -/
def atlasHeaderOk (m : Mem) (held : Nat) : Bool :=
  let h := m.readN 0 64
  fieldLE h 8 4 == held && decide (64 ≤ held) && h.take 4 == [0x4D, 0x4B, 0x41, 0x31] && fieldLE h 4 2 == 0x40
  && decide (1 ≤ fieldLE h 6 2) && decide (fieldLE h 6 2 ≤ 256) && decide (held ≤ 131072) && decide (byteAt h 28 < 16)
  && zerosAt h 30 30

/-- Directory: every present entry points inside LENGTH, reserved bytes 0, no two blocks overlap. -/
def atlasDirOk (m : Mem) (held : Nat) : Bool :=
  let ps := (atlasPresent m).map (atlasBlockAt m)
  decide (64 + 4 * m.le 6 2 ≤ held)
  && ((List.range (m.le 6 2)).all fun k => m.le (66 + 4 * k) 2 == 0)
  && (ps.all fun o => decide (o + 1088 ≤ held))
  && (ps.zipIdx.all fun a => ps.zipIdx.all fun b => a.2 == b.2 || decide (a.1 + 1088 ≤ b.1) || decide (b.1 + 1088 ≤ a.1))

/-- Check 4 of R283 on one block. -/
def atlasBlockOk (b : List Byte) : Bool :=
  let inR (o n lo hi : Nat) := decide (lo ≤ fieldLE b o n) && decide (fieldLE b o n ≤ hi)
  decide (byteAt b 0 < 64) && (byteAt b 3 &&& byteAt b 2 == byteAt b 3)
  && ((List.range 6).all fun i => inR (4 + i) 1 0 15) && ((List.range 6).any fun i => byteAt b (4 + i) != 0)
  && inR 10 2 1 4096 && inR 12 2 1 18000 && inR 14 1 1 255 && inR 15 1 1 255 && inR 16 1 0 254 && inR 18 1 1 255
  && decide (byteAt b 19 ≤ byteAt b 18) && zerosAt b 35 1 && zerosAt b 40 20
  && zerosAt (zoneOf b 0) 0 64
  && ((List.range 16).all fun z => decide (byteAt (zoneOf b z) 0 < 8) && zerosAt (zoneOf b z) 1 1 && zerosAt (zoneOf b z) 62 2)
  && ((List.range 16).any fun z => (byteAt (zoneOf b z) 0).testBit 0)

/-- The checks of R283 on the staged atlas, in order. -/
def atlasCheck (m : Mem) (held : Nat) : Code :=
  if !atlasHeaderOk m held then .badField
  else if !atlasDirOk m held then .badField
  else if crcAt60 (m.readN 0 held) != m.le 60 4 then .badCrc
  else if !(atlasPresent m).all fun k => crcAt60 (atlasBlock m k) == fieldLE (atlasBlock m k) 60 4 then .badCrc
  else if !(atlasPresent m).all fun k => atlasBlockOk (atlasBlock m k) then .badField
  else .ok

/-- The published atlas. -/
def State.atlas (s : State) : Option Mem := s.verdict.published.map s.verdict.half

/-- The atlas is stale (R285). -/
def State.atlasStale (s : State) : Bool :=
  match s.atlas with
  | none => false
  | some m => m.le 16 4 != s.lf.carrier || m.le 20 4 != s.rng.antdly5 || m.le 24 4 != s.rng.antdly9
    || m.le 28 1 % 16 != bits s.uwb.divCfg 7 4 || m.le 29 1 != s.lf.coilEn

/-! ### What the engine takes from each input (R287, R297, R298) -/

/-- How a held input is classed. -/
inductive InClass where
  | ok | disturbed | silent | absent
deriving DecidableEq, Repr

/-- A reply payload in a UHFRX result: TYPE 0xE2 and a length that agrees with n (R250). -/
def tokenReply (r : List Byte) : Bool :=
  let n := byteAt r 29 % 16
  byteAt r 16 == 0xE2 && decide (n ≤ 8) && byteAt r 12 == 24 + 3 * n

/-- The payload of a kind 1 or kind 4 input is a token reply. -/
def payloadOk (k : Nat) (r : List Byte) : Bool :=
  if k = 1 then tokenReply r
  else if k = 4 then
    (if byteAt r 12 ≠ 0 then tokenReply r else byteAt r 16 == 0xE2 && decide (4 ≤ fieldLE r 8 2))
  else true

/-- Class of an input of kinds 0 to 4 by its outcome byte; an unfit payload counts as absent (R250, R287). -/
def inClass (k : Nat) (r : List Byte) : InClass :=
  if byteAt r 0 = 0x51 then .disturbed
  else if byteAt r 0 = 0x50 then .silent
  else if byteAt r 0 = 0 && payloadOk k r then .ok
  else .absent

/-- Nodes of a block other than this node (R297). -/
def blockNodes (b : List Byte) (self : Nat) : List Nat :=
  (List.range 8).filter fun n => (byteAt b 2).testBit n && n != self

/-- Class of a kind 5 input. -/
def nodeClass (b : List Byte) (self : Nat) (r : List Byte) : InClass :=
  let ns := blockNodes b self
  if !ns.isEmpty && ns.all (fun n => byteAt r (8 + 64 * n) == 0x50) then .silent
  else if byteAt r 0 = 0 ∨ byteAt r 0 = 1 ∨ byteAt r 0 = 0x62 then .ok
  else .absent

/-- ToF of node n in a kind 5 input, none when the node is missing (R298). -/
def nodeTof (b r : List Byte) (n : Nat) : Option Int :=
  let ret := sliceP r (16 + 64 * n) 48
  if byteAt r (8 + 64 * n) = 0 && byteAt ret 0 = 0 && fieldLE ret 20 4 ≠ 0x80000000
    && (!(byteAt b 0).testBit 5 || (byteAt ret 25).testBit 7)
  then some (fieldS ret 20 4) else none

/-- LF level of a vector: nearest(8 log2 m) + 8 E, bounded (table of inputs). -/
def lfLevel (x y z : Int) (e : Nat) : Nat :=
  let n := (x * x + y * y + z * z).toNat
  if x = -128 ∨ n = 0 then 0 else min 255 ((2 * n ^ 8).log2 / 2 + 8 * e)

/-- Measurements of a verdict. -/
structure Meas where
  tof : Option Int
  az : Option Int
  el : Option Int
  rssi : Option Int
  lf : Option (List Nat)
  nodes : List (Nat × Int)
  /-- Sum of the squares of the foreign field's components. -/
  ff2 : Option Nat
  mage : Option Nat
  motion : Bool
deriving DecidableEq, Repr

/-- Derive the measurements from the held inputs that are neither disturbed, silent nor absent. LF of a reply without tail slots
is taken as absent (log 159). -/
def deriveMeas (b : List Byte) (self : Nat) (fuse : Tbl (List Byte)) : Meas :=
  let get (k : Nat) : Option (List Byte) := (Tbl.find fuse k).bind fun r =>
    if (if k = 5 then nodeClass b self r else inClass k r) = .ok then some r else none
  let ang (o : Nat) : Option Int := (get 0).bind fun r =>
    if (byteAt r 25).testBit 3 && decide (byteAt b 29 ≤ byteAt r 32) then some (fieldS r o 2) else none
  let lf := (get 1).bind fun r =>
    let n := byteAt r 29 % 16
    if n ≠ 0 ∧ n = popCount 8 (byteAt b 1) then
      some ((List.range n).map fun k => lfLevel (fieldS r (40 + 3 * k) 1) (fieldS r (41 + 3 * k) 1)
        (fieldS r (42 + 3 * k) 1) (byteAt r 29 / 16))
    else none
  let ff := (get 2).bind fun r =>
    if (byteAt r 1).testBit 5 then
      some ((fieldS r 8 2) ^ 2 + (fieldS r 10 2) ^ 2 + (fieldS r 12 2) ^ 2).toNat else none
  { tof := (get 0).bind fun r => if fieldLE r 20 4 = 0x80000000 then none else some (fieldS r 20 4)
    az := ang 28, el := ang 30, rssi := (get 3).map fun r => fieldS r 10 2, lf := lf
    nodes := match get 5 with
      | some r => (blockNodes b self).filterMap fun n => (nodeTof b r n).map fun t => (n, t)
      | none => []
    ff2 := ff, mage := (get 4).map fun r => fieldLE r 18 2
    motion := match get 4 with | some r => (byteAt r 17).testBit 0 | none => false }

/-! ### Zone and confidence (R289, R290) -/

/-- Penalty of a value against a range (R289). -/
def pen (x lo hi : Int) (s : Nat) : Nat :=
  let e : Int := if x < lo then lo - x else 0
  let e : Int := if hi < x then x - hi else e
  min 255 ((16 * e.toNat + s - 1) / s)

/-- ToF penalty of node n in a zone. -/
def penTof (b z : List Byte) (n : Nat) (t : Int) : Nat :=
  pen t (fieldS z (2 + 4 * n) 2) (fieldS z (4 + 4 * n) 2) (fieldLE b 10 2)

/-- LF penalty: the largest over the slots. -/
def penLf (b z : List Byte) (ls : List Nat) : Nat :=
  ls.zipIdx.foldl (fun m l => max m (pen l.1 (byteAt z (46 + l.2)) (byteAt z (54 + l.2)) (byteAt b 15))) 0

/-- The measurements that take part, with weight and penalty in a zone. -/
def taking (b : List Byte) (self : Nat) (m : Meas) (z : List Byte) : List (Nat × Nat) :=
  let w (i : Nat) := byteAt b (4 + i)
  let put (i : Nat) (p : Option Nat) : List (Nat × Nat) := match p with
    | some p => if w i = 0 then [] else [(w i, p)]
    | none => []
  put 0 (m.tof.map (penTof b z self))
  ++ put 1 (m.az.map fun a => pen a (fieldS z 34 2) (fieldS z 36 2) (fieldLE b 12 2))
  ++ put 2 (m.el.map fun a => pen a (fieldS z 38 2) (fieldS z 40 2) (fieldLE b 12 2))
  ++ put 3 (m.rssi.map fun a => pen a (fieldS z 42 2) (fieldS z 44 2) (byteAt b 14))
  ++ put 4 (m.lf.map (penLf b z))
  ++ put 5 (if m.nodes.isEmpty then none else some (m.nodes.foldl (fun a n => max a (penTof b z n.1 n.2)) 0))

/-- Present zones of a block. -/
def presentZones (b : List Byte) : List Nat :=
  (List.range 16).filter fun z => z != 0 && (byteAt (zoneOf b z) 0).testBit 0

/-- Cost of a zone. -/
def zoneCost (b : List Byte) (self : Nat) (m : Meas) (z : Nat) : Nat :=
  let t := taking b self m (zoneOf b z)
  (t.foldl (fun a p => a + p.1 * p.2) 0) / (t.foldl (fun a p => a + p.1) 0)

/-- What a verdict decides. -/
structure VerdictOut where
  cls : Nat
  zone : Nat
  conf : Nat
  relay : Nat
  reason : Nat
  absent : Bool
  relok : Bool
  crit : Nat
  pts : List Nat
  costs : List Nat
  c1 : Nat
  c2 : Nat
  margin : Nat
  cover : Nat
  meas : Meas
deriving DecidableEq, Repr

/-- No measurement. -/
def Meas.none : Meas :=
  { tof := Option.none, az := Option.none, el := Option.none, rssi := Option.none, lf := Option.none, nodes := [],
    ff2 := Option.none, mage := Option.none, motion := false }

/-- A verdict without computation (cases 1 to 6 of R288); w fills the costs, which the spec does not state there. -/
def VerdictOut.bare (cls conf reason : Nat) (absent : Bool) (w : Nat) : VerdictOut :=
  { cls := cls, zone := 0, conf := conf, relay := 0, reason := reason, absent := absent, relok := false, crit := 0,
    pts := List.replicate 8 0, costs := (List.range 15).map fun z => (w / 256 ^ (4 + z)) % 256, c1 := w % 256,
    c2 := (w / 256) % 256, margin := (w / 65536) % 256, cover := (w / 16777216) % 256, meas := Meas.none }

/-- Largest of integers, or a default for none. -/
def maxOr (d : Int) (l : List Int) : Int := match l with | [] => d | a :: t => t.foldl max a

/-- The relay criteria that fire, in order (R291). -/
def criteria (b : List Byte) (self : Nat) (m : Meas) (zone : Nat) (rng : Option (List Byte)) (mlimit : Nat) : List Bool :=
  let zs := presentZones b
  let flag (i : Nat) := match rng with | some r => (byteAt r 25).testBit i | none => false
  let rb (f : List Byte → Bool) := match rng with | some r => f r | none => false
  let dtof : Int := fieldLE b 32 2
  let tofMax (n z : Nat) : Int := fieldS (zoneOf b z) (4 + 4 * n) 2
  let c4 := match m.tof, m.lf with
    | some t, some ls =>
      let a := zs.filter fun z => penLf b (zoneOf b z) ls == 0
      !a.isEmpty && decide (maxOr 0 (a.map (tofMax self)) + dtof < t)
    | _, _ => false
  let c5 := match m.tof, m.rssi with
    | some t, some r =>
      let bz := zs.filter fun z => decide (fieldS (zoneOf b z) (2 + 4 * self) 2 ≤ t) && decide (t ≤ tofMax self z)
      decide (maxOr (fieldS b 38 2) (bz.map fun z => fieldS (zoneOf b z) 44 2) + byteAt b 34 < r)
    | _, _ => false
  let c6 := match m.mage with | some g => mlimit != 0 && m.motion && decide (mlimit < g) | none => false
  let c7 := match m.ff2 with | some q => decide ((fieldLE b 36 2) ^ 2 ≤ q) | none => false
  let c8 := zone != 0 && m.nodes.any fun n => decide (tofMax n.1 zone + dtof < n.2)
  [flag 2, flag 0 && rb (fun r => decide (byteAt r 37 < byteAt b 28)),
   flag 0 && rb (fun r => decide ((fieldLE b 30 2 : Int) < ((fieldS r 34 2).natAbs : Int))), c4, c5, c6, c7, c8]

/-- Case 7 of R288: zone, confidence, relay score and class (R289 to R293). -/
def judgeBlock (b : List Byte) (self : Nat) (fuse : Tbl (List Byte)) (ten : Option Tenant) (w : Nat) : VerdictOut :=
  let m := deriveMeas b self fuse
  let zs := presentZones b
  let wsum := (taking b self m (zoneOf b 0)).foldl (fun a p => a + p.1) 0
  let wall := (List.range 5).foldl (fun a i => a + byteAt b (4 + i)) 0
    + (if (blockNodes b self).isEmpty then 0 else byteAt b 9)
  let cmax := byteAt b 16
  let cost (z : Nat) := zoneCost b self m z
  let z1 := zs.foldl (fun a z => if a = 0 ∨ cost z < cost a then z else a) 0
  let c1 := cost z1
  let c2 := (zs.filter (· != z1)).foldl (fun a z => min a (cost z)) 255
  let zone := if wsum = 0 ∨ cmax < c1 then 0 else z1
  let margin := if cmax < c1 then c1 - cmax else min c2 (cmax + 1) - c1
  let conf := if wsum = 0 then 0 else 255 * wsum * min margin 16 / (wall * 16)
  let rng := (Tbl.find fuse 0).bind fun r => if inClass 0 r = .ok then some r else none
  let cr := criteria b self m zone rng (match ten with | some t => t.mlimit | none => 0)
  let pts := cr.zipIdx.map fun c => if c.1 then byteAt b (20 + c.2) else 0
  let relay := sat 255 (pts.foldl (· + ·) 0)
  let kinds := List.range 6
  let asked := List.range 5
  let cls (k : Nat) : InClass := match Tbl.find fuse k with
    | some r => if k = 5 then nodeClass b self r else inClass k r
    | none => .absent
  let missing := (blockNodes b self).filter fun n => !m.nodes.any fun e => e.1 == n
  let reason :=
    if kinds.any (fun k => cls k = .disturbed) then 5
    else if asked.any (fun k => (byteAt b 0).testBit k && cls k != .ok) then 6
    else if missing.any (fun n => !(byteAt b 3).testBit n) then 7
    else if wsum = 0 then 8 else 0
  let c := if reason ≠ 0 then 1 else if byteAt b 18 ≤ relay then 3 else if !missing.isEmpty then 2 else 0
  let relok := (c == 0 || c == 2) && zone != 0 && (byteAt (zoneOf b zone) 0).testBit 2
    && (match ten with | some t => t.startZones.testBit zone | none => false)
    && decide (byteAt b 17 ≤ conf) && decide (relay < byteAt b 19)
    && (match Tbl.find fuse 0 with | some r => (byteAt r 25).testBit 0 && byteAt r 24 != 0 | none => false)
  let e := VerdictOut.bare 0 0 0 false w
  { cls := c, zone := zone, conf := conf, relay := relay, reason := reason, absent := false, relok := relok
    crit := cr.zipIdx.foldl (fun a c => if c.1 then a + 2 ^ c.2 else a) 0, pts := pts
    costs := if wsum = 0 then e.costs else
      (List.range 15).map fun i => if zs.contains (i + 1) then cost (i + 1) else 255
    c1 := if wsum = 0 then e.c1 else c1, c2 := if wsum = 0 then e.c2 else c2
    margin := if wsum = 0 then e.margin else margin
    cover := if wsum = 0 then 0 else 255 * wsum / wall, meas := m }

/-- The verdict of landing l on an atlas block, by the cases of R288; the flag tells that BCRC failed. A disturbed input of any kind
bars case 6 (R292, R295). -/
def State.judge (s : State) (l blk : Nat) (stale : Bool) (w : Nat) : VerdictOut × Bool :=
  let bare (reason : Nat) := VerdictOut.bare 1 0 reason false w
  match s.atlas with
  | none => (bare 1, false)
  | some m =>
    if atlasBlockAt m blk = 0 then (bare 2, false) else
    let b := atlasBlock m blk
    if crcAt60 b ≠ fieldLE b 60 4 then (bare 3, true)
    else if stale then (bare 4, false)
    else
      let x := s.land l
      let cls := ([0, 1, 3, 4, 5] : List Nat).filterMap fun k =>
        (Tbl.find x.fuse k).map fun r => if k = 5 then nodeClass b s.gal.addr r else inClass k r
      if cls.isEmpty then (bare 9, false)
      else if cls.all (fun c => c = .silent) && (match Tbl.find x.fuse 2 with | some r => byteAt r 0 != 0x51 | none => true) then
        (VerdictOut.bare 0 255 0 true w, false)
      else (judgeBlock b s.gal.addr x.fuse ((x.tenant.bind s.tenant).filter (·.st == 1)) w, false)

/-- The verdict word (R85). -/
def VerdictOut.word (v : VerdictOut) : Nat :=
  v.relay * 2 ^ 24 + v.conf * 2 ^ 16 + v.cls * 2 ^ 8 + b2n v.relok * 2 ^ 7 + v.zone

/-- Body of a JUDGE record (chapter 09, Record layout). Of a foreign field whose magnitude is no whole number, w decides
the rounding, which the spec leaves open. -/
def VerdictOut.body (v : VerdictOut) (blk cmax w : Nat) (fuse : Tbl (List Byte)) : List Byte :=
  let i16 (o : Option Int) : List Byte := natLE 2 (match o with | some i => unsgn 16 i | none => 0x8000)
  let held := (List.range 6).foldl (fun a k => if (Tbl.find fuse k).isSome then a + 2 ^ k else a) 0
  let ff := match v.meas.ff2 with
    | some q => isqrt q + (if isqrt q * isqrt q = q then 0 else w % 2)
    | none => 0xFFFF
  natLE 4 v.word ++ natLE 1 v.crit ++ natLE 1 blk ++ natLE 1 (v.reason + 16 * b2n v.absent) ++ natLE 1 held
  ++ v.pts.flatMap (natLE 1) ++ natLE 1 cmax ++ v.costs.flatMap (natLE 1)
  ++ natLE 4 (match v.meas.tof with | some t => unsgn 32 t | none => 0x80000000)
  ++ i16 v.meas.az ++ i16 v.meas.el ++ i16 v.meas.rssi
  ++ padTo 8 ((v.meas.lf.getD []).flatMap (natLE 1)) ++ natLE 2 ff
  ++ natLE 2 (match v.meas.mage with | some g => g | none => w / 2) ++ natLE 1 v.cover ++ natLE 1 (sat 255 v.margin)
  ++ List.replicate 8 0 ++ (List.range 5).flatMap (fun k => padTo 64 (Tbl.get fuse k []))
  ++ (List.range 8).flatMap (fun n =>
      let r := Tbl.get fuse 5 []
      sliceP r (8 + 64 * n) 2 ++ sliceP r (24 + 64 * n) 30)

/-! ### Steps and events -/

/-- Bytes a FUSE captures of the area at address a (R84). -/
def State.fuseLen (s : State) (l k a : Nat) : Nat :=
  match k with
  | 2 => 16
  | 4 => if byteAt (s.hallRead l 1 a 20) 12 ≠ 0 then 64 else 20
  | 5 => 520
  | _ => 64

/-- FUSE (R84). -/
def execStFuse (dt l : Nat) (s : State) : Host.Outcome State Fault Refusal :=
  runStep dt l .fuse s fun f s =>
    let x := s.land l
    let a := (srcReg f x + 4 * bits f.imm 9 0) % 2 ^ 32
    let k := bits f.imm 13 10
    match firstFault [s.rangeFault l 1 a (if k = 4 then 20 else s.fuseLen l k a) permRd,
        s.rangeFault l 1 a (s.fuseLen l k a) permRd] with
    | some e => s.stepFault l e f.op
    | none =>
      let copy := s.hallRead l 1 a (s.fuseLen l k a)
      s.advance l 1 fun x => { x with fuse := Tbl.put x.fuse k copy }

/-- JUDGE (R85, R285, R294): the step waits for the verdict engine. -/
def execStJudge (dt l : Nat) (s : State) : Host.Outcome State Fault Refusal :=
  runStep dt l .judge s fun f s =>
    let stale := s.atlasStale
    let s := { s with verdict := { s.verdict with stale := stale, queue := s.verdict.queue ++ [(l, stale)] } }
    s.enterWait l (.judge f.d (bits f.imm 7 0))

/-- The verdict of a waiting JUDGE: registers, RELOK, inputs cleared, record and triggers (R86, R293, R300, R307). -/
def State.verdictEnds (s : State) (l d blk : Nat) (stale : Bool) : State :=
  let (s, w) := s.draw
  let (v, bad) := s.judge l blk stale w
  let fuse := (s.land l).fuse
  let cmax := match s.atlas with
    | some m => if atlasBlockAt m blk = 0 then 0 else byteAt (atlasBlock m blk) 16
    | none => 0
  let q := { s.verdict with
    queue := s.verdict.queue.drop 1
    blkFail := s.verdict.blkFail || bad, failBlk := if bad then blk else s.verdict.failBlk
    last := v.word
    info := v.crit * 2 ^ 24 + blk * 2 ^ 16 + v.reason * 2 ^ 12 + b2n v.absent * 2 ^ 11 + l
    cost := v.c1 * 2 ^ 24 + v.c2 * 2 ^ 16 + sat 255 v.margin * 2 ^ 8 + v.cover }
  let s := { s with verdict := q }
  let s := s.modLand l fun x => { x with relok := v.relok, relokAt := s.now, relokZone := v.zone, fuse := [] }
  let s := if s.evd.src 0 then s.evdRecord 1 (some l) (v.body blk cmax w fuse) else s
  let s := if v.cls = 3 then s.evdAuto 0 l else if v.cls = 1 ∧ v.reason = 5 then s.evdAuto 3 l else s
  s.stepEnds l fun x =>
    let y := x.setReg d (BitVec.ofNat 32 v.word)
    { y with flags := { y.flags with z := v.cls == 0 } }

/-- VERDICT_DONE (R294): the engine completes the JUDGE that issued first. -/
def execEvVerdictDone (dt l : Nat) (s : State) : Host.Outcome State Fault Refusal :=
  occurLive dt s fun s =>
    match s.verdict.queue, (s.land l).wait with
    | (k, stale) :: _, .judge d blk => if k = l then s.verdictEnds l d blk stale else s
    | _, _ => s

/-- EVTRIG (R94). -/
def execStEvtrig (dt l : Nat) (s : State) : Host.Outcome State Fault Refusal :=
  runStep dt l .evtrig s fun f s =>
    let (s, n) := s.evdTrigger 1 (bits f.imm 7 0) l
    s.advance l 1 fun x =>
      let y := x.setReg f.d (BitVec.ofNat 32 (n.getD 0xFFFF))
      { y with flags := { y.flags with z := n.isSome } }

/-- EVD_POST_MS_LAPSE (R304): POST_MS has passed since the trigger. -/
def execEvEvdPostMsLapse (dt : Nat) (s : State) : Host.Outcome State Fault Refusal :=
  occurLive dt s fun s =>
    match s.evd.cap with
    | some c => if c.since + bits s.evd.cfg1 15 0 * msT ≤ s.now then s.closeCap 2 else s
    | none => s

/-- EVD_REARM_LAPSE (R304): 2 ms after the publication the recorder returns to ARMED. -/
def execEvEvdRearmLapse (dt : Nat) (s : State) : Host.Outcome State Fault Refusal :=
  occurLive dt s fun s =>
    if s.evd.mode = .rearm ∧ s.evd.pubAt + 2 * msT ≤ s.now then { s with evd := s.evd.arm } else s

end Sys2Proof.Machine
end

