-- ==== Sys2Proof/Machine/GalOps.lean ====
section
/-! DEFINITION. The gallery bus: GSEND and GWAIT (R95 to R97), rounds, frames, units, credits, parts, joining, mode change,
silence and loss (R436 to R468). -/

namespace Sys2Proof.Machine

open Sys2Proof

/-! ### Common -/

/-- Replace the gallery unit. -/
def State.setGal (s : State) (g : Gal) : State := { s with gal := g }

/-- Slot length: 25 microseconds. -/
def slotT : Nat := 25 * usT

/-- The node is master of a beacon session. -/
def Gal.isMaster (g : Gal) : Bool := g.role == .master || g.role == .alone

/-- The node is a slave in a cascade role. -/
def Gal.isSlave (g : Gal) : Bool := g.addr != 0 && g.role != .standalone

/-- Mask of the addresses whose roster state meets a test. -/
def Gal.maskOf (g : Gal) (p : Nat → Bool) : Nat :=
  (List.range 8).foldl (fun m n => if p (g.node n).st then m + 2 ^ n else m) 0

/-- Slaves that own data slots under the masks of the last beacon, ascending (R446). -/
def Gal.owners (g : Gal) : List Nat := (List.range 7).map (· + 1) |>.filter fun n => (g.present ||| g.joiningM).testBit n

/-- Owner of data slot k (R446). -/
def Gal.owner (g : Gal) (k : Nat) : Option Nat :=
  let m := g.owners
  if 1 ≤ k ∧ k ≤ 38 ∧ m ≠ [] then m[(k - 1) % m.length]? else none

/-- A frame: header, units and CRC (R449). -/
def galFrame (src calib cret cack mode : Nat) (units : List (List Byte)) : List Byte :=
  let b := natLE 1 src ++ natLE 1 units.length ++ natLE 1 calib ++ natLE 1 cret ++ natLE 4 cack ++ natLE 4 mode
    ++ natLE 4 0 ++ units.flatten
  b ++ natLE 4 (crc32 b)

/-- Bits of bytes on a gallery pair, most significant bit first (R440). -/
def galBits (b : List Byte) : List Bool := b.flatMap fun x => (List.range 8).map fun i => x.toNat.testBit (7 - i)

/-- The last frame as it stands on GAL: 16 bit times of lead-in at 1, preamble, delimiter and the frame's bytes (R449). -/
def Gal.line (g : Gal) : List Bool := List.replicate 16 true ++ galBits (List.replicate 4 0x55 ++ [0xD5] ++ g.frame)

/-- The sync word on GSYNC, whose first mid-bit transition is the beacon edge (R443). -/
def galSync : List Bool := galBits [0xB3, 0x8F]

/-- REFOUT, which the master alone drives (R440): the 38.4 MHz clock (true) while its beacon session runs, low while it listens before one,
high-impedance (none) on a standalone node (R437, R442; log 228). -/
def Gal.refOut (g : Gal) : Option Bool :=
  if g.addr != 0 then none
  else if g.role = .standalone then (if g.listen.isSome then some false else none) else some g.isMaster

/-- GHUSH as this node drives it: high-impedance, or low (true) on a master that holds traffic or has detected babbling (R437, R463). -/
def Gal.ghushOut (g : Gal) : Bool := (g.role == .master || g.role == .alone) && (g.stopped || g.babbleTill.isSome)

/-- DEVID of this node, 16 bytes. -/
def State.devidBytes (s : State) : List Byte := natLE 16 s.life.devid

/-- Bits of a mask, ascending. -/
def maskList (m : Nat) : List Nat := (List.range 8).filter fun n => m.testBit n

/-! ### Credits (R452, R453) -/

/-- Move n credits from available to in flight. -/
def GalNode.send (x : GalNode) : GalNode := { x with avail := x.avail - 1, flight := x.flight + 1 }

/-- One unit is acknowledged. -/
def GalNode.ack (x : GalNode) : GalNode := { x with flight := x.flight - 1, held := x.held + 1 }

/-- n credits are returned; those beyond what the peer holds are ignored. -/
def GalNode.ret (x : GalNode) (n : Nat) : GalNode :=
  let k := min n x.held
  { x with held := x.held - k, avail := x.avail + k }

/-- A fresh account. -/
def GalNode.fresh (x : GalNode) : GalNode := { x with avail := 16, flight := 0, held := 0, cret := 0 }

/-- Record a fault of class 9, with its node and the round (R416). -/
def State.galFaultAt (s : State) (c : Cause) (n : Nat) : State := s.recordFault c (.node n) (natLE 1 n ++ natLE 2 s.gal.round)

/-- Credits a peer returns, with the excess recorded (R453). -/
def State.galReturn (s : State) (n k : Nat) : State :=
  let bad := decide ((s.gal.node n).held < k)
  let s := s.setGal (s.gal.modNode n fun x => x.ret k)
  if bad then s.galFaultAt .creditImbalance n else s

/-- A unit of the master has been acknowledged by node n (R452, R455). -/
def GalOut.acked (u : GalOut) (n : Nat) : GalOut := { u with acks := u.acks ||| 2 ^ n }

/-- Every addressee has acknowledged. -/
def GalOut.complete (u : GalOut) : Bool := u.dest &&& u.acks == u.dest

/-- A node has acknowledged its GRANT: it is granted, and joined at once while no mode has been set (R459). -/
def Gal.grantAcked (g : Gal) (n : Nat) : Gal :=
  g.modNode n fun x => { x with granted := true, st := if g.mode = 0 ∧ x.st = 1 then 2 else x.st }

/-- CACK of node n: every unit addressed to it up to c is acknowledged. -/
def Gal.cack (g : Gal) (n c : Nat) : Gal :=
  let hit (u : GalOut) : Bool := u.dest.testBit n && !u.acks.testBit n && u.sent.isSome && decide (u.seq ≤ c)
  let us := g.out.filter hit
  let g := us.foldl (fun g u =>
    let g := g.modNode n GalNode.ack
    if byteAt u.unit 0 = 6 then g.grantAcked n else g) g
  { g with out := (g.out.map fun u => if hit u then u.acked n else u).filter fun u => !u.complete }

/-- A CACK of node n acknowledges more than is in flight to it: a number not given yet, or a command that has not been sent (R453). -/
def Gal.cackExcess (g : Gal) (n c : Nat) : Bool :=
  decide (g.cseq ≤ c) || g.out.any fun u => u.dest.testBit n && !u.gone && u.sent.isNone && decide (u.seq ≤ c)

/-- Lowest CSEQ that not all its addressees have acknowledged; a withdrawn or dropped unit counts as acknowledged (R454,
R455, R465). -/
def Gal.lowest (g : Gal) : Nat :=
  (g.out.filter fun u => !u.gone).foldl (fun m u => min m u.seq) g.cseq

/-- Queue a command of the master: the next CSEQ, and a credit of each addressee (R452, R454). -/
def Gal.command (g : Gal) (dest : Nat) (land : Option Nat) (unit : Nat → List Byte) : Gal :=
  let o : GalOut := { seq := g.cseq, dest := dest, unit := unit g.cseq, sent := none, resend := false, acks := 0
                      land := land, gone := false }
  let g := (maskList dest).foldl (fun g n => g.modNode n GalNode.send) g
  { g with cseq := (g.cseq + 1) % 2 ^ 32, out := g.out ++ [o] }

/-- A node's outstanding work is dropped: its credits return, its commands and parts go (R459, R466). -/
def Gal.dropNode (g : Gal) (n : Nat) : Gal :=
  let g := g.modNode n fun x => { x.fresh with mack := 0, granted := false, silent := 0, heard := false, modeAck := false }
  let out := (g.out.map fun u => if u.dest.testBit n then { u with dest := u.dest - 2 ^ n } else u).filter
    fun u => u.dest != 0 && !u.complete
  let change := g.change.map fun c => if c.dest.testBit n then { c with dest := c.dest - 2 ^ n } else c
  { g with out := out, change := change, parts := g.parts.filter fun p => p.node != n || p.result.isSome }

/-- The catch-up of a node that is no longer joining ends (R459). -/
def Gal.dropCatchUp (g : Gal) : Gal :=
  match g.change with
  | some c => if c.item.isNone && c.dest = 0 then { g with change := none } else g
  | none => g

/-! ### GSEND and GWAIT -/

/-- The flight of a landing is a gallery part (R457). -/
def State.isPart (s : State) (l : Nat) : Bool := (s.land l).partId.isSome

/-- The image of a landing may use GSEND and GWAIT (R95). -/
def State.galPrivilege (s : State) (l : Nat) : Bool :=
  match s.imageOf l with | some i => i.hdr.cascade | none => false

/-- Faults of a GSEND or GWAIT block, in the order of a field step (R72, R76, R95). -/
def State.galFault (s : State) (l base : Nat) : Option StepFault :=
  let blk := s.hallRead l 1 base 32
  firstFault [
    if s.galPrivilege l then none else some .privilege,
    if base % 4 = 0 then none else some .align,
    s.rangeFault l 1 base 32 permRd,
    if fieldLE blk 0 2 % 4 = 0 then none else some .operand,
    s.rangeFault l 1 (fieldLE blk 0 2) 520 permW,
    if byteAt blk 4 == 0xFF && zerosAt blk 5 3 && byteAt blk 9 == 0 && byteAt blk 15 == 0 && zerosAt blk 30 2
        && decide (0x80 ≤ fieldLE blk 12 2) && decide (fieldLE blk 12 2 ≤ 0xFF) && decide (byteAt blk 14 ≤ 3)
        && !(byteAt blk 8).testBit s.gal.addr then none
    else some .operand]

/-- PART unit of a block for node n (chapter 14, Units). -/
def partUnit (blk : List Byte) (n run tenant cseq : Nat) : List Byte :=
  natLE 1 1 ++ natLE 1 n ++ natLE 1 (byteAt blk 14) ++ natLE 1 (byteAt blk 12) ++ natLE 4 cseq ++ natLE 4 run
  ++ sliceP blk 10 2 ++ natLE 2 tenant ++ sliceP blk 16 12 ++ sliceP blk 28 2 ++ List.replicate 34 0

/-- RUN of the flight on a landing; a flight that began before the session takes one now (R456; log 23). -/
def Gal.runOf (g : Gal) (l : Nat) : Gal × Nat :=
  match Tbl.find g.runs l with
  | some r => (g, r)
  | none => ({ g with runs := Tbl.put g.runs l g.run, run := (g.run + 1) % 2 ^ 32 }, g.run)

/-- Queue the part of a block to node n (R456). -/
def State.sendPart (s : State) (l : Nat) (blk : List Byte) (n : Nat) : State :=
  let (g, run) := s.gal.runOf l
  let parts := g.parts ++ [⟨l, run, fieldLE blk 10 2, n, none⟩]
  let g := g.command (2 ^ n) (some l) (partUnit blk n run ((s.land l).tenant.getD 0xFFFF))
  s.setGal { g with parts := parts }

/-- Send to the nodes of a mask that have a credit; answers those that have none yet. -/
def State.sendParts (s : State) (l : Nat) (blk : List Byte) (m : Nat) : State × Nat :=
  (maskList m).foldl (fun (s, w) n =>
    if (s.gal.node n).st ≠ 2 then (s, w)
    else if (s.gal.node n).avail = 0 then (s, w + 2 ^ n)
    else (s.sendPart l blk n, w)) (s, 0)

/-- What earlier sendings of a part to the nodes of a mask have left goes: the new GSEND decides what GWAIT enters. A result that no
GWAIT has read is discarded, and its credit returns (R452, R456). -/
def State.dropParts (s : State) (l part m : Nat) : State :=
  let mine (p : GalPart) : Bool := p.land == l && p.part == part && m.testBit p.node
  let g := (s.gal.parts.filter fun p => mine p && p.result.isSome).foldl (fun g p =>
    g.modNode p.node fun x => { x with cret := x.cret + 1 }) s.gal
  s.setGal { g with parts := g.parts.filter fun p => !mine p }

/-- Outcome of GSEND (R95, R437, R457). -/
def State.gsendCode (s : State) (l : Nat) : Code :=
  if s.gal.addr ≠ 0 ∨ s.isPart l then .stateRefused
  else if s.gal.role ≠ .master then .cascadeAlone
  else if s.gal.lagging ≠ 0 then .cascadeSplit
  else .ok

/-- GSEND (R95, R456). A result of an earlier sending that no GWAIT has read is discarded. -/
def execStGsend (dt l : Nat) (s : State) : Host.Outcome State Fault Refusal :=
  runStep dt l .gsend s fun f s =>
    let base := hallAddr f (s.land l)
    match s.galFault l base with
    | some e => s.stepFault l e f.op
    | none =>
      let blk := s.hallRead l 1 base 32
      match s.gsendCode l with
      | .ok =>
        let (s, w) := (s.dropParts l (fieldLE blk 10 2) (byteAt blk 8)).sendParts l blk (byteAt blk 8)
        if w = 0 then s.advance l 1 fun x => x.outcome f.d .ok 0 0
        else
          let s := s.setGal { s.gal with sends := Tbl.put s.gal.sends l (w, s.now + 2 * msT) }
          s.enterWait l (.gsend f.d blk)
      | c => s.advance l 1 fun x => x.outcome f.d c 0 0

/-- GSEND_CREDIT (R456): a credit has come for a waiting GSEND, or two rounds have passed without one. -/
def execEvGsendCredit (dt l : Nat) (s : State) : Host.Outcome State Fault Refusal :=
  occurLive dt s fun s =>
    match (s.land l).wait, Tbl.find s.gal.sends l with
    | .gsend d blk, some (w, till) =>
      let (s, w) := s.sendParts l blk w
      if w = 0 ∨ till ≤ s.now then
        (s.setGal { s.gal with sends := Tbl.del s.gal.sends l }).stepEnds l fun x => x.outcome d .ok 0 0
      else s.setGal { s.gal with sends := Tbl.put s.gal.sends l (w, till) }
    | .gsend d _, none => s.stepEnds l fun x => x.outcome d .ok 0 0
    | _, _ => s

/-- Parts of a landing that a block names and whose RESULT has not come. -/
def State.partsOut (s : State) (l : Nat) (blk : List Byte) : Bool :=
  s.gal.parts.any fun p => p.land == l && p.part == fieldLE blk 10 2 && (byteAt blk 8).testBit p.node && p.result.isNone

/-- One entry of GWAIT, 56 bytes (R95, R97). -/
def gwaitEntry (r : Option (List Byte)) : List Byte :=
  match r with
  | some u =>
    natLE 1 (byteAt u 1) ++ natLE 1 (byteAt u 2) ++ natLE 2 (if byteAt u 3 = 0xFF then 0xFFFF else byteAt u 3)
    ++ sliceP u 12 4 ++ sliceP u 16 48
  | none => natLE 1 Code.cascadeNodeFailed.num ++ natLE 1 0 ++ natLE 2 0xFFFF ++ List.replicate 52 0

/-- GWAIT ends: its entries, their credits, its outcome (R97, R452, R456). -/
def State.gwaitEnds (s : State) (l d : Nat) (blk : List Byte) (since : Nat) : State :=
  let mask := byteAt blk 8
  let part := fieldLE blk 10 2
  let mine (p : GalPart) : Bool := p.land == l && p.part == part && mask.testBit p.node
  let res (n : Nat) : Option (List Byte) := (s.gal.parts.find? fun p => mine p && p.node == n).bind (·.result)
  let ok := (maskList mask).foldl (fun m n => match res n with
    | some u => if byteAt u 1 = 0 then m + 2 ^ n else m | none => m) 0
  let c : Code := if ok = mask then .ok else if ok ≠ 0 then .okPartial else .cascadeNodeFailed
  let ro := fieldLE blk 0 2
  let s := s.hallWrite l 1 ro (fieldResult c 0 ((s.now - since) / usT) s.us [])
  let s := (maskList mask).foldl (fun s n => s.hallWrite l 1 (ro + 8 + 64 * n) (gwaitEntry (res n))) s
  let g := (maskList mask).foldl (fun g n =>
    if (res n).isSome then g.modNode n fun x => { x with cret := x.cret + 1 } else g) s.gal
  let s := s.setGal { g with parts := g.parts.filter fun p => !mine p }
  s.stepEnds l fun x => x.outcome d c ok 0

/-- GWAIT (R97): it ends at once when every named node has reported. -/
def execStGwait (dt l : Nat) (s : State) : Host.Outcome State Fault Refusal :=
  runStep dt l .gwait s fun f s =>
    let base := hallAddr f (s.land l)
    match s.galFault l base with
    | some e => s.stepFault l e f.op
    | none =>
      let blk := s.hallRead l 1 base 32
      let w := if fieldLE blk 2 2 = 0 then 5000 else fieldLE blk 2 2
      let t := s.enterWait l (.gwait f.d blk (s.now + w * usT))
      if s.partsOut l blk then t else t.gwaitEnds l f.d blk s.now

/-- GWAIT_END (R97). -/
def execEvGwaitEnd (dt l : Nat) (s : State) : Host.Outcome State Fault Refusal :=
  occurLive dt s fun s =>
    match (s.land l).wait with
    | .gwait d blk till =>
      let w := if fieldLE blk 2 2 = 0 then 5000 else fieldLE blk 2 2
      if !s.partsOut l blk || decide (till ≤ s.now) then s.gwaitEnds l d blk (till - w * usT) else s
    | _ => s

/-! ### Units on the bus -/

/-- A unit waits to be sent again or for the first time. -/
def GalOut.waits (u : GalOut) : Bool := !u.gone && (u.resend || u.sent.isNone)

/-- Units that wait and meet a test, those sent before first (R455). -/
def Gal.waiting (g : Gal) (p : GalOut → Bool) : List GalOut :=
  (g.out.filter fun u => u.waits && u.resend && p u) ++ (g.out.filter fun u => u.waits && !u.resend && p u)

/-- Units go out in a frame of the present round. -/
def Gal.markSent (g : Gal) (us : List GalOut) : Gal :=
  { g with out := g.out.map fun u =>
      if us.any (fun v => v.seq == u.seq) then { u with sent := some g.round, resend := false } else u }

/-- GAL_RESEND (R455): no acknowledgement of a unit by the end of the round after its sending. -/
def execEvGalResend (dt seq : Nat) (s : State) : Host.Outcome State Fault Refusal :=
  occurLive dt s fun s =>
    let g := s.gal
    let due (r : Nat) : Bool := decide (r + 2 ≤ g.round) || (r + 1 == g.round && decide (g.edgeAt + msT ≤ s.now))
    s.setGal { g with out := g.out.map fun u =>
      if u.seq = seq ∧ !u.gone then match u.sent with
        | some r => if due r then { u with resend := true } else u
        | none => u
      else u }

/-! ### The master's round -/

/-- Rounds in a row without a valid frame of node n, the present one included once it is over (R466). -/
def State.silentRounds (s : State) (n : Nat) : Nat :=
  let x := s.gal.node n
  if x.heard || s.gal.ghush then (if x.heard then 0 else x.silent)
  else x.silent + (if s.gal.edgeAt + msT ≤ s.now then 1 else 0)

/-- The end of a round on the master: silence of each slave, and of all of them (R463, R466). -/
def Gal.endRound (g : Gal) : Gal :=
  if g.ghush then { g with nodes := g.nodes.map fun (x : GalNode) => { x with heard := false } } else
  let any := (List.range 8).any fun n => (g.node n).heard
  { g with
    nodes := g.nodes.map fun (x : GalNode) => { x with silent := if x.heard then 0 else x.silent + 1, heard := false }
    quiet := if any then 0 else g.quiet + 1 }

/-- After 16 rounds without any slave frame the master is alone; every present slave is lost (R466). -/
def Gal.checkAlone (g : Gal) : Gal :=
  if g.role = .master ∧ 16 ≤ g.quiet then
    let ns := maskList (g.maskOf fun st => 1 ≤ st && st ≤ 3) |>.filter (· != 0)
    let g := ns.foldl (fun g n => (g.dropNode n).modNode n fun x => { x with st := 4 }) g
    { g with role := .alone }.dropCatchUp
  else g

/-- The master applies a committed mode at TARGET (R460, R461): the nodes that acknowledged agree, members that are not in
the new MEMBERS leave. For a node that catches up, it becomes joined. -/
def Gal.commit (g : Gal) (c : ModeChange) : Gal :=
  let joined (g : Gal) : Gal := (maskList (c.acks &&& c.dest)).foldl (fun g n => g.modNode n fun x =>
    { x with modeAck := true, st := if x.st = 1 ∨ x.st = 3 then 2 else x.st }) g
  match c.item with
  | none => joined g
  | some _ =>
    let members := byteAt c.record 4
    let g := joined { g with mode := c.pmode, members := members, align := (byteAt c.record 5).testBit 0
                             atlasId := fieldLE c.record 8 4, libVer := fieldLE c.record 12 2 }
    let gone := (maskList (g.maskOf fun st => 1 ≤ st && st ≤ 3)).filter fun n => n != 0 && !members.testBit n
    gone.foldl (fun g n => (g.dropNode n).modNode n fun x => { x with st := 0 }) g

/-- An open change reaches its TARGET in round r: commit, or abort after a NAK. A node that refuses to catch up becomes
refused (R459, R460). An unacknowledged PREPARE is dropped (R455). Answers MSTATE and ACKMASK of the beacon. -/
def Gal.atTarget (g : Gal) (r : Nat) : Gal × Nat :=
  match g.change with
  | none => (g, 0)
  | some c =>
    match c.target with
    | none => (g, 0)
    | some t =>
      if t != r then (g, 0) else
      let g := { g with out := g.out.map fun (u : GalOut) => if byteAt u.unit 0 = 3 then { u with gone := true } else u
                        ackLast := if c.item.isSome then 1 ||| c.acks else g.ackLast }
      if c.nak then
        let g := if c.item.isNone ∧ c.dest ≠ 0 then
            (maskList c.dest).foldl (fun g n => g.modNode n fun x => { x with st := if x.st = 1 then 5 else x.st }) g
          else g
        ({ g with change := some { c with done := some false } }, 3)
      else (({ g with change := some { c with done := some true } } : Gal).commit c, 2)

/-- A node that has its GRANT and no mode yet, while no change is open, gets a PREPARE of the mode in force (R459). -/
def Gal.catchUp (g : Gal) : Gal :=
  if g.change.isSome || g.mode = 0 || g.stopped then g else
  match (List.range 8).find? (fun n => (g.node n).st = 1 && (g.node n).granted) with
  | none => g
  | some n =>
    let rec1 := natLE 4 g.mode ++ natLE 1 g.members ++ natLE 1 (b2n g.align) ++ natLE 2 4 ++ natLE 4 g.atlasId
      ++ natLE 2 g.libVer ++ natLE 2 0
    { g with change := some { item := none, record := rec1, pmode := g.mode, lead := 4, dest := 2 ^ n, target := none
                              acks := 0, nak := false, done := none, hushed := false } }

/-- PREPARE of a change (chapter 14, Units). -/
def prepareUnit (c : ModeChange) (target cseq : Nat) : List Byte :=
  natLE 1 3 ++ natLE 1 c.dest ++ natLE 1 c.lead ++ natLE 1 (byteAt c.record 5) ++ natLE 4 cseq ++ natLE 4 c.pmode
  ++ natLE 4 target ++ natLE 1 (byteAt c.record 4) ++ natLE 1 0 ++ sliceP c.record 12 2 ++ sliceP c.record 8 4
  ++ List.replicate 40 0

/-- Unit 1 of the control slot: a GRANT or PREPARE that waits, or a new PREPARE once its addressees have credits; its first
sending fixes TARGET (R451, R460). -/
def Gal.unit1 (g : Gal) : Gal × Option GalOut :=
  match (g.waiting fun u => byteAt u.unit 0 = 3 || byteAt u.unit 0 = 6).head? with
  | some u => (g, some u)
  | none =>
    match g.change with
    | some c =>
      if c.target.isNone && (maskList c.dest).all (fun n => (g.node n).avail != 0) then
        let t := (g.round + c.lead) % 2 ^ 32
        let g := { g with change := some { c with target := some t } }
        if c.dest = 0 then (g, none) else
        let g := g.command c.dest none (prepareUnit c t)
        (g, g.out.getLast?)
      else (g, none)
    | none => (g, none)

/-- BEACON of the present round (chapter 14, Units). -/
def Gal.beacon (g : Gal) (mstate : Nat) : List Byte :=
  let (pm, tg, am) := match g.change with
    | some c => if mstate = 0 then (0, 0, 0) else (c.pmode, c.target.getD 0, 1 ||| c.acks)
    | none => (0, 0, 0)
  natLE 1 0x10 ++ natLE 1 mstate ++ natLE 2 g.bsess ++ natLE 4 g.round ++ natLE 5 g.btsc ++ natLE 1 g.present
  ++ natLE 1 g.joiningM ++ natLE 1 g.laggingM ++ natLE 4 g.mode ++ natLE 4 pm ++ natLE 4 tg ++ natLE 1 am
  ++ natLE 1 (b2n g.stopped) ++ natLE 4 g.lowest
  ++ ((List.range 7).flatMap fun i => natLE 2 (g.node (i + 1)).mack ++ natLE 1 (g.node (i + 1)).cret)
  ++ natLE 1 (g.calNode.getD 0xFF) ++ natLE 5 (if g.calNode.isSome then g.m2 else 0) ++ natLE 3 0

/-- The item of a mode change completes at the end of round TARGET + 1 (R462): present nodes that sent no frame count as
lagging. A change without an item ends with its beacon. -/
def State.changeEnds (s : State) : State :=
  match s.gal.change with
  | none => s
  | some c =>
    match c.done with
    | none => s
    | some ok =>
      let s := s.setGal { s.gal with change := none }
      match c.item with
      | none => s
      | some k =>
        if !ok then s.galItem (some k) (if c.hushed then .failedHush else .cascadeNodeFailed) else
        let g := s.gal
        let mute := (maskList (g.maskOf fun st => st == 2)).filter fun n => n != 0 && !(g.node n).heard
        let g := mute.foldl (fun g n => g.modNode n fun x => { x with st := 3 }) g
        let s := s.setGal g
        s.galItem (some k) (if g.lagging = 0 then .ok else .cascadeSplit)

/-- The change is due to end: round TARGET + 1 is over, or TARGET is past for a change without an item. -/
def State.changeDue (s : State) : Bool :=
  match s.gal.change with
  | some c => match c.target with
    | some t => c.done.isSome &&
        (c.item.isNone || decide (t + 1 < s.gal.round) || (t + 1 == s.gal.round && decide (s.gal.edgeAt + msT ≤ s.now)))
    | none => false
  | none => false

/-- MODE_CHANGE_END (R462). -/
def execEvModeChangeEnd (dt : Nat) (s : State) : Host.Outcome State Fault Refusal :=
  occurLive dt s fun s => if s.gal.isMaster && s.changeDue then s.galDo State.changeEnds else s

/-- Masks of the beacon from the roster (R439). -/
def Gal.remask (g : Gal) : Gal :=
  { g with present := g.maskOf fun st => st == 2 || st == 3
           joiningM := g.maskOf fun st => st == 1
           laggingM := g.maskOf fun st => st == 3 }

/-- The control slot of a new round: BEACON, a GRANT or PREPARE, and up to three PARTs (R445, R451, R464). -/
def State.controlSlot (s : State) : State :=
  let g := s.gal
  let g := { g with round := if g.synced then (g.round + 1) % 2 ^ 32 else 0, synced := true, edgeAt := s.now, btsc := s.tsc s.now
                    babblePrev := g.babble, babble := false }
  let (g, mstate) := g.atTarget g.round
  let g := g.catchUp
  let (g, u1) := if g.stopped then (g, none) else g.unit1
  let mstate := if mstate = 0 then (match g.change with
    | some c => if c.target.isSome && c.done.isNone then 1 else 0 | none => 0) else mstate
  let parts := if g.stopped then [] else (g.waiting fun u => byteAt u.unit 0 = 1).take 3
  let g := g.remask
  let b := g.beacon mstate
  let us := (match u1 with | some u => [u.unit] | none => if parts.isEmpty then [] else [List.replicate 64 0])
    ++ parts.map (·.unit)
  let g := g.markSent (u1.toList ++ parts)
  let g := { g with frame := galFrame 0 0 0 0 g.mode (b :: us), calNode := none
                    nodes := g.nodes.map fun (x : GalNode) => { x with cret := 0 } }
  let k := g.joinItem
  (s.setGal { g with joinItem := none }).galItem k .ok

/-- GAL_ROUND_START (R445): one millisecond after the last edge the round ends with the check of the accounts (R432, R452), and the master
sends the next beacon. -/
def execEvGalRoundStart (dt : Nat) (s : State) : Host.Outcome State Fault Refusal :=
  occurLive dt s fun s =>
    let g := s.gal
    if !(g.isMaster && s.domUp 48 && decide (g.edgeAt + msT ≤ s.now)) then s else
    let s := if g.synced then s.checkGallery else s
    if !s.live then s
    else if g.leaving then s.galAlone
    else s.galDo fun s =>
      let s := if s.changeDue then s.changeEnds else s
      let s := if g.synced then s.setGal s.gal.endRound.checkAlone else s
      let s := if s.changeDue then s.changeEnds else s
      s.controlSlot

/-- NODE_LOSS_EXPIRE (R466): no valid frame of a slave for NODE_LOSS rounds. -/
def execEvNodeLossExpire (dt n : Nat) (s : State) : Host.Outcome State Fault Refusal :=
  occurLive dt s fun s =>
    let x := s.gal.node n
    if s.gal.isMaster && decide (1 ≤ n) && decide (n < 8) && decide (1 ≤ x.st) && decide (x.st ≤ 3) && !s.gal.ghush &&
        decide (bits s.gal.cfg 15 8 ≤ s.silentRounds n) then
      s.galDo fun s =>
        let g := ((s.gal.dropNode n).modNode n fun x => { x with st := 4, lastCode := Code.cascadeNodeFailed.num }).dropCatchUp
        (s.setGal g).galFaultAt .nodeLost n
    else s

/-! ### Frames the master hears -/

/-- A frame and its CRC hold (R449). -/
def galFrameOk (f : List Byte) : Bool :=
  let n := f.length - 4
  decide (byteAt f 1 ≤ 5) && f.length == 20 + 64 * byteAt f 1 && crc32 (f.take n) == fieldLE f n 4

/-- GAL_FRAME_RX (R449, R450, R463): `bits` its length from the lead-in, `guard` transitions in the guard in 0.1
microseconds. Its units are told by commands of their own. Any valid frame of a slave, a JOIN among them, ends its silence (R466). Slot 0 stands for transitions during the control slot. -/
def execEvGalFrameRx (dt slot bits guard : Nat) (frame : List Byte) (s : State) : Host.Outcome State Fault Refusal :=
  occurLive dt s fun s =>
    if s.gal.role == .standalone || !s.domUp 48 then s else
    s.galDo fun s =>
      let ok := galFrameOk frame
      let src := byteAt frame 0 % 8
      let owner := s.gal.owner slot
      let named := if ok then src else owner.getD src
      let s := if ok then s else s.setGal { s.gal with crcFail := (s.gal.crcFail + 1) % 256 }
      let babble := s.gal.isMaster &&
        ((ok && decide (1 ≤ slot) && decide (slot ≤ 38) && owner != some src) || decide (2776 < bits)
          || decide (20 < guard) || slot == 0)
      let s := if guard ≠ 0 ∨ babble then
          (s.setGal { s.gal with edges := (s.gal.edges + 1) % 256 }).galFaultAt .edgeCollision named
        else s
      let s := if !babble then s else
        if s.gal.babblePrev then
          s.setGal { s.gal with babble := true, ghush := true, babbleTill := some (s.now + 4 * msT) }
        else s.setGal { s.gal with babble := true }
      let x := s.gal.node src
      if !(ok && s.gal.isMaster && decide (1 ≤ src) && decide (1 ≤ slot)) then s
      else if !(decide (1 ≤ x.st) && decide (x.st ≤ 3)) then
        s.setGal { s.gal.modNode src fun x => { x with heard := true, silent := 0 } with quiet := 0 }
      else
        let g := s.gal.modNode src fun x =>
          { x with heard := true, silent := 0, lastRound := s.gal.round % 65536, modeId := fieldLE frame 8 4 }
        let s := s.setGal { g with quiet := 0 }
        let ca := fieldLE frame 4 4
        let bad := s.gal.cackExcess src ca
        let s := s.setGal (s.gal.cack src ca)
        let s := if bad then s.galFaultAt .creditImbalance src else s
        let s := s.galReturn src (byteAt frame 3)
        let s := if (byteAt frame 2).testBit 0 then s.setGal { s.gal with calNode := some src, m2 := s.tsc s.now } else s
        if (s.gal.node src).st = 2 ∧ fieldLE frame 8 4 ≠ s.gal.mode then
          (s.setGal (s.gal.modNode src fun x => { x with st := 3 })).galFaultAt .modeLag src
        else s

/-- The next message of a node in order: it is new and follows the last; a duplicate is acknowledged again (R455). -/
def Gal.nextMessage (g : Gal) (n mseq : Nat) : Bool := mseq == ((g.node n).mack + 1) % 65536

/-- GAL_RESULT_RX (R456): the result of a part; one whose flight or GWAIT has ended is discarded and its credit returns. -/
def execEvGalResultRx (dt src : Nat) (unit : List Byte) (s : State) : Host.Outcome State Fault Refusal :=
  occurLive dt s fun s =>
    let g := s.gal
    let x := g.node src
    if !(g.isMaster && decide (1 ≤ src) && byteAt unit 0 == 2 && decide (1 ≤ x.st) && decide (x.st ≤ 3)
        && g.nextMessage src (fieldLE unit 4 2)) then s
    else
      let g := g.modNode src fun x => { x with mack := fieldLE unit 4 2, lastCode := byteAt unit 1 }
      let mine (p : GalPart) : Bool :=
        p.run == fieldLE unit 8 4 && p.part == fieldLE unit 6 2 && p.node == src && p.result.isNone
      if g.parts.any mine then
        s.setGal { g with parts := g.parts.map fun p => if mine p then { p with result := some (padTo 64 unit) } else p }
      else s.setGal (g.modNode src fun x => { x with cret := x.cret + 1 })

/-- GAL_MODE_REPLY_RX (R460): an acknowledgement or NAK of the open change. -/
def execEvGalModeReplyRx (dt src : Nat) (unit : List Byte) (s : State) : Host.Outcome State Fault Refusal :=
  occurLive dt s fun s =>
    let g := s.gal
    let x := g.node src
    if !(g.isMaster && decide (1 ≤ src) && byteAt unit 0 == 4 && decide (1 ≤ x.st) && decide (x.st ≤ 3)
        && g.nextMessage src (fieldLE unit 4 2)) then s
    else
      let g := g.modNode src fun x => { x with mack := fieldLE unit 4 2, cret := x.cret + 1 }
      match g.change with
      | some c =>
        if c.pmode = fieldLE unit 8 4 ∧ c.dest.testBit src ∧ c.target.isSome ∧ c.done.isNone then
          let c := if byteAt unit 1 = 0 then { c with acks := c.acks ||| 2 ^ src } else { c with nak := true }
          s.setGal { g with change := some c }
        else s.setGal g
      | none => s.setGal g

/-- GAL_JOIN_RX (R459): the master's answer to a JOIN. While traffic is held the GRANT waits (R464). -/
def execEvGalJoinRx (dt src : Nat) (unit : List Byte) (s : State) : Host.Outcome State Fault Refusal :=
  occurLive dt s fun s =>
    let g := s.gal
    if !(g.isMaster && byteAt unit 0 == 5 && decide (1 ≤ src) && decide (src < 8)) then s else
    let dev := sliceP unit 16 16
    let x := g.node src
    let out := g.mode != 0 && !g.members.testBit src
    let other := decide (1 ≤ x.st) && decide (x.st ≤ 3) && x.devid != dev
    if out || other then s.attn attnCascade
    else
      let g := (g.dropNode src).modNode src fun x => { x with st := 1, devid := dev, modeId := fieldLE unit 4 4, heard := true }
      let g := g.dropCatchUp
      let g := g.command (2 ^ src) none fun c =>
        natLE 1 6 ++ natLE 1 src ++ natLE 2 0 ++ natLE 4 c ++ natLE 8 0 ++ dev ++ List.replicate 32 0
      (s.galDo fun s => s.setGal { g with role := .master, quiet := 0 }).attn attnCascade

/-! ### The slave: what it hears -/

/-- Rounds whose control slot did not arrive are counted once each (R447). -/
def Gal.countMissed (g : Gal) (n : Nat) : Gal :=
  { g with ctrlMiss := (g.ctrlMiss + (n - g.missed)) % 256, missed := max g.missed n }

/-- Signed difference modulo 2^40 (R444). -/
def diff40 (a b : Nat) : Int := sgn 40 (tscSub a b)

/-- A calibration completes when the beacon returns M2 (R444). -/
def State.calibrate (s : State) (c : GalCal) (m2 : Nat) : State :=
  let g := s.gal
  let trim := sgn 16 (bits g.cfg 31 16)
  let off := nearestDiv (diff40 c.m1 c.s1 + diff40 m2 c.s2 + trim) 2
  let dly := sgn 40 (unsgn 40 ((m2 : Int) - c.s2 - off))
  let jump := g.calibrated && decide (8 < (diff40 (unsgn 40 off) s.rng.alignOff).natAbs)
  let s := s.setGal { g with dly := dly, cals := (g.cals + 1) % 65536, calibrated := true, calNeeded := jump
                             calRound := g.round, calPend := none }
  { s with rng := { s.rng with alignOff := unsgn 40 off, alignValid := s.power.refSrc && !jump } }

/-- The item of a join ends (R437). -/
def State.joinEnds (s : State) (c : Code) : State :=
  let k := s.gal.joinItem
  (s.setGal { s.gal with joinItem := none }).galItem k c

/-- The slave is joined. -/
def State.nowJoined (s : State) : State := (s.setGal { s.gal with role := .joined, joinAt := none }).joinEnds .ok

/-- ATLAS_ID of the published atlas; none without one. -/
def State.atlasIdOf (s : State) : Option Nat := s.atlas.map fun m => m.le 12 4

/-- VERSION of the running library (R395); none while no library bank runs. -/
def State.libVersion (s : State) : Option Nat :=
  if s.life.runLib < 2 then some (fieldLE (vget s.life.banks (2 + s.life.runLib) Bank.blank).manifest 8 2)
  else none

/-- VERDICT of a PREPARE: 0 ack, 1 atlas, 2 library, 3 alignment (R460). -/
def State.prepareVerdict (s : State) (u : List Byte) : Nat :=
  if fieldLE u 20 4 ≠ 0 ∧ s.atlasIdOf ≠ some (fieldLE u 20 4) then 1
  else if fieldLE u 18 2 ≠ 0xFFFF ∧ s.libVersion ≠ some (fieldLE u 18 2) then 2
  else if (byteAt u 3).testBit 0 ∧ !s.rng.alignValid then 3
  else 0

/-- PREPARE applied (R459, R460): a MODE_REPLY; a joining node that sends a NAK becomes refused. -/
def State.applyPrepare (s : State) (u : List Byte) : State :=
  let v := s.prepareVerdict u
  let pm := fieldLE u 8 4
  let g := s.gal.modNode 0 fun x => { x with cret := x.cret + 1 }
  let g := g.say fun q => natLE 1 4 ++ natLE 1 v ++ natLE 2 0 ++ natLE 2 q ++ natLE 2 0 ++ natLE 4 pm ++ List.replicate 52 0
  if v = 0 then s.setGal { g with pending := some ⟨pm, fieldLE u 12 4, byteAt u 16⟩ }
  else if g.role = .joining then (s.setGal { g with role := .refused }).joinEnds .cascadeSplit
  else s.setGal g

/-- GRANT applied (R459): accounts, messages and sequences begin anew; the node calibrates. -/
def State.applyGrant (s : State) (c : Nat) : State :=
  let g := s.gal.modNode 0 fun x => { x.fresh with cret := 1 }
  s.setGal { g with role := .joining, grantSeq := c, nextSeq := c + 1, out := [], mseq := 1, joinAt := none
                    calNeeded := true, calPend := none, calibrated := false, pending := none }

/-- The start of a part, as FLIGHT_START would make it (R42, R43, R101). -/
def State.startPart (s : State) (u : List Byte) (g : Gal) (k : GalKept) : State :=
  let id := g.keptId
  let k := { k with unit := u, id := id, running := true }
  let rest := g.kept.filter fun e => !(e.bsess == k.bsess && e.run == k.run && e.part == k.part)
  let s := s.setGal { g with kept := rest ++ [k], keptId := (id + 1) % 2 ^ 32 }
  let tn := fieldLE u 14 2
  let r : StartReq := { key := partKey id, slot := byteAt u 3, prio := byteAt u 2 % 4
                        tenant := if tn = 0xFFFF then none else some tn
                        g1 := BitVec.ofNat 32 (fieldLE u 16 4), g2 := BitVec.ofNat 32 (fieldLE u 20 4)
                        g3 := BitVec.ofNat 32 (fieldLE u 24 4), since := s.now, deferred := false }
  if !s.lifeAllows 0x11 then s.partRefused id .lifecycleRefused
  else if tn ≠ 0xFFFF ∧ 0x3FF < tn then s.partRefused id .badRef
  else
    let (s, c) := s.tryStart 0xFFFF r
    if c = .ok then s else s.partRefused id c

/-- The part of a key that runs, or whose result is still kept (R458). -/
def State.keptPart (s : State) (run part : Nat) : Option GalKept :=
  s.gal.kept.find? fun k => k.bsess == s.gal.bsess && k.run == run && k.part == part
    && (k.running || decide (s.now < k.endedAt + bits s.gal.cfg1 15 0 * msT))

/-- A PART starts its flight, or sends a kept result again (R457, R458). -/
def State.applyPart (s : State) (u : List Byte) : State :=
  let g := s.gal
  let run := fieldLE u 8 4
  let part := fieldLE u 12 2
  let consumed (g : Gal) : Gal := g.modNode 0 fun x => { x with cret := x.cret + 1 }
  match s.keptPart run part with
  | some k =>
    if k.running then s.setGal (consumed g)
    else if byteAt k.result 1 = 0 then
      s.setGal ((consumed g).say fun q => patch k.result 4 (natLE 2 q))
    else s.startPart u g k
  | none =>
    s.startPart u g { bsess := g.bsess, run := run, part := part, unit := u, attempts := 0, id := g.keptId
                      running := true, result := [], endedAt := 0 }
/-- One command of the master, in its order. -/
def State.applyCommand (s : State) (c : Nat) (u : List Byte) : State :=
  match byteAt u 0 with
  | 3 => s.applyPrepare u
  | 6 => s.applyGrant c
  | _ => s.applyPart u

/-- Apply held commands in CSEQ order; a gap below CMIN is skipped, another one holds what follows (R454). During a recovery, as while
traffic is held, they wait (R430, R464). The fuel bounds
the commands held. -/
def State.drainHeld : Nat → State → State
  | 0, s => s
  | n + 1, s =>
    let g := s.gal
    if g.stopped || s.faults.mode == .recovery then s else
    match g.held with
    | [] => s.setGal { g with nextSeq := max g.nextSeq g.cmin }
    | (c, u) :: rest =>
      if c = g.nextSeq ∨ c ≤ g.cmin then
        let s := s.setGal { g with held := rest, nextSeq := c + 1 }
        State.drainHeld n (s.applyCommand c u)
      else s.setGal { g with nextSeq := max g.nextSeq g.cmin }

/-- Drain every held command. -/
def State.drain (s : State) : State := State.drainHeld (s.gal.held.length + 1) s

/-- CACK: the highest c such that every command addressed to the node with CSEQ at most c is held (R454). -/
def Gal.cackNow (g : Gal) : Nat :=
  (g.held.foldl (fun c h => if h.1 = c + 1 ∨ h.1 ≤ g.cmin then max c h.1 else c) (max (g.nextSeq - 1) (g.cmin - 1)))

/-- MACK of the beacon: the slave's messages up to it, modulo 65,536, are acknowledged (R452, R455). -/
def Gal.mackIn (g : Gal) (m : Nat) : Gal :=
  let hit (u : GalOut) : Bool := u.sent.isSome && decide ((m + 65536 - u.seq) % 65536 < 32768)
  let us := g.out.filter hit
  let g := us.foldl (fun g _ => g.modNode 0 GalNode.ack) g
  { g with out := g.out.filter fun u => !hit u }

/-- MACK names a message that this slave has not sent: more is acknowledged than is in flight (R453). -/
def Gal.mackExcess (g : Gal) (m : Nat) : Bool :=
  let next := (g.out.filter fun u => u.sent.isNone).foldl (fun n u =>
    if (n + 65536 - u.seq) % 65536 < 32768 then u.seq else n) g.mseq
  decide ((m + 65536 - next) % 65536 < 32768)

/-- The slave's roster as the beacon shows it (R439). -/
def Gal.rosterFrom (g : Gal) : Gal :=
  { g with nodes := Vector.ofFn fun i : Fin 8 =>
      let x := g.nodes.get i
      let n := i.val
      { x with st := if g.joiningM.testBit n then 1 else if g.laggingM.testBit n then 3
                     else if g.present.testBit n then 2 else 0 } }

/-- The mode part of a beacon on a slave (R461): apply at TARGET; leave when a mode change has taken the node out of the masks of `old`, the
beacon before; or lag. A node that was lost before stays as it is (log 230). -/
def State.beaconMode (s : State) (old : Gal) (b : List Byte) : State :=
  let g := s.gal
  let me := g.addr
  let mstate := byteAt b 1
  let here := (byteAt b 13 ||| byteAt b 14).testBit me
  let was := (old.present ||| old.joiningM).testBit me
  let s := match g.pending with
    | some p =>
      if p.target = fieldLE b 4 4 ∧ mstate = 2 ∧ (byteAt b 28).testBit me then
        (s.setGal { g with pending := none, mode := p.pmode, members := p.members }).nowJoined
      else if p.target ≤ fieldLE b 4 4 then s.setGal { g with pending := none }
      else s
    | none => s
  let g := s.gal
  if (mstate = 2 ∨ old.bmode ≠ fieldLE b 16 4) ∧ was ∧ !here ∧ (g.role = .joined ∨ g.role = .lagging) then s.galAlone
  else if g.role = .joined ∧ g.mode ≠ fieldLE b 16 4 then
    (s.setGal { g with role := .lagging }).galFaultAt .modeLag me
  else if g.role = .joining ∧ fieldLE b 16 4 = 0 ∧ g.grantSeq ≠ 0 ∧ (byteAt b 13).testBit me then s.nowJoined
  else s

/-- GAL_BEACON_RX (R443, R437, R461, R467): a beacon edge arrives at the GSYNC ball at this instant, and its control slot carries these 64 bytes
of a BEACON. With it the round before is over: the accounts are checked (R432, R452), and a node that leaves is standalone. -/
def execEvGalBeaconRx (dt : Nat) (beacon : List Byte) (s : State) : Host.Outcome State Fault Refusal :=
  occurLive dt s fun s =>
    let g := s.gal
    let b := padTo 64 beacon
    if byteAt b 0 ≠ 0x10 ∨ !s.domUp 48 then s
    else if g.addr = 0 then
      if g.listen.isSome then (s.setGal { g with listen := none }).joinEnds .stateRefused else s
    else if g.role = .standalone then s
    else
    let s := if g.synced then s.checkGallery else s
    if !s.live then s
    else if g.leaving then s.galAlone
    else s.galDo fun s =>
      let old := s.gal
      let g := s.gal.countMissed ((s.now - g.edgeAt + msT / 2) / msT - 1)
      let bs := fieldLE b 2 2
      let new := bs ≠ g.bsess
      let g := if new then
          { g with bsess := bs, kept := g.kept.filter (·.running), held := [], out := [], nextSeq := 1, cmin := 1
                   grantSeq := 0, pending := none, role := if g.role = .refused then .refused else .joining
                   nodes := g.nodes.map GalNode.fresh }
        else g
      let g := if g.role = .noBeacon then { g with role := .joining, grantSeq := 0 } else g
      let g := { g with round := fieldLE b 4 4, synced := true, edgeAt := s.now, s1 := s.tsc s.now, btsc := fieldLE b 8 5, missed := 0
                        present := byteAt b 13, joiningM := byteAt b 14, laggingM := byteAt b 15, bmode := fieldLE b 16 4
                        cmin := fieldLE b 30 4 }
      let ofs := 34 + 3 * (g.addr - 1)
      let excess := g.grantSeq != 0 && g.mackExcess (fieldLE b ofs 2)
      let g := if g.grantSeq = 0 then g else g.mackIn (fieldLE b ofs 2)
      let g := if g.calibrated ∧ g.calRound + 256 ≤ g.round then { g with calNeeded := true } else g
      let s := s.setGal g.rosterFrom
      let s := if excess then s.galFaultAt .creditImbalance 0 else s
      let s := if s.gal.grantSeq = 0 then s else s.galReturn 0 (byteAt b (ofs + 2))
      let s := match s.gal.calPend with
        | some c => if byteAt b 55 = s.gal.addr then s.calibrate c (fieldLE b 56 5) else s
        | none => s
      (s.beaconMode old b).drain

/-- A command of the master reaches this slave in a control slot: it is held under its CSEQ, unless it is a duplicate or
precedes the latest GRANT (R454, R455). -/
def State.holdCommand (s : State) (u : List Byte) : State :=
  let g := s.gal
  let c := fieldLE u 4 4
  if c < g.nextSeq then s
  else (s.setGal { g with held := Tbl.put g.held c (padTo 64 u) }).drain

/-- The slave has the control slot of the present round and takes commands. -/
def State.hearsCommands (s : State) : Bool :=
  s.gal.isSlave && s.domUp 48 && decide (s.now < s.gal.edgeAt + msT)

/-- GAL_PREPARE_RX (R460). -/
def execEvGalPrepareRx (dt : Nat) (unit : List Byte) (s : State) : Host.Outcome State Fault Refusal :=
  occurLive dt s fun s =>
    if s.hearsCommands && byteAt unit 0 == 3 && (byteAt unit 1).testBit s.gal.addr && s.gal.grantSeq != 0 then
      s.galDo fun s => s.holdCommand unit
    else s

/-- GAL_GRANT_RX (R459, R454): the slave's own GRANT, which discards what came before it. -/
def execEvGalGrantRx (dt : Nat) (unit : List Byte) (s : State) : Host.Outcome State Fault Refusal :=
  occurLive dt s fun s =>
    let c := fieldLE unit 4 4
    if s.hearsCommands && byteAt unit 0 == 6 && byteAt unit 1 == s.gal.addr && sliceP unit 16 16 == s.devidBytes
        && decide (s.gal.grantSeq < c) then
      s.galDo fun s =>
        (s.setGal { s.gal with held := s.gal.held.filter fun h => decide (c < h.1), nextSeq := c }).holdCommand unit
    else s

/-- GAL_PART_RX (R457). -/
def execEvGalPartRx (dt : Nat) (unit : List Byte) (s : State) : Host.Outcome State Fault Refusal :=
  occurLive dt s fun s =>
    if s.hearsCommands && byteAt unit 0 == 1 && byteAt unit 1 == s.gal.addr && s.gal.grantSeq != 0 then
      s.galDo fun s => s.holdCommand unit
    else s

/-! ### The slave: what it sends -/

/-- Predicted error of the start of slot k in picoseconds, at 1 or 80 ps for each microsecond from the last beacon edge to the
predicted start (R447). -/
def State.slotErr (s : State) (k : Nat) : Nat :=
  let unc := if s.gal.calibrated then 20000 else 100000
  let drift := if s.power.refSrc then 1 else 80
  unc + drift * (1000 * ((s.now + usT - s.gal.edgeAt) / msT) + 25 * k)

/-- The instant is the one at which the slave places its frame in slot k of a round after the last edge, 25 k microseconds after it less
2 DLY; DLY counts U of 5 ticks (R445, R447). -/
def State.inSlot (s : State) (k : Nat) : Bool :=
  let t : Int := (s.now : Int) - s.gal.edgeAt - k * slotT + 10 * s.gal.dly
  decide (0 ≤ t) && t % msT == 0

/-- Units of a slave frame: at most five, each new one with a credit (R449, R452). -/
def Gal.slaveUnits (g : Gal) : List GalOut :=
  let old := (g.waiting fun u => u.resend).take 5
  let new := (g.waiting fun u => u.sent.isNone && !u.resend).take (min (5 - old.length) (g.node 0).avail)
  old ++ new

/-- GAL_SLOT_TX (R447, R448): the slave sends or withholds its frame in data slot k; none starts in the pause of
a HUSH frame (R20). -/
def execEvGalSlotTx (dt k : Nat) (s : State) : Host.Outcome State Fault Refusal :=
  occurLive dt s fun s =>
    let g := s.gal
    if !(g.isSlave && s.domUp 48 && s.unhushed && s.inSlot k && g.owner k == some g.addr && g.role != .noBeacon) then s
    else
      let n := (s.now + usT - g.edgeAt) / msT
      if 400000 < s.slotErr k then
        let g := (g.countMissed n).modNode g.addr fun x => { x with lastCode := Code.slotWithheld.num }
        s.setGal { g with withheld := (g.withheld + 1) % 256 }
      else if n ≠ 0 then s.setGal (g.countMissed n)
      else if g.stopped || g.ghush then s
      else
        let first := (List.range 39).find? (fun i => g.owner i == some g.addr) == some k
        let us := g.slaveUnits
        if !first && us.isEmpty then s else
        let cal := first && g.calNeeded
        let cred := (g.node 0).cret
        let new := (us.filter fun u => u.sent.isNone).length
        let g := (g.markSent us).modNode 0 fun x =>
          { x with cret := 0, avail := x.avail - new, flight := x.flight + new }
        let fr := galFrame g.addr (b2n cal) cred g.cackNow g.mode (us.map (·.unit))
        s.setGal { g with frame := fr, calPend := if cal then some ⟨g.btsc, g.s1, s.tsc s.now⟩ else g.calPend }

/-- GAL_JOIN_TX (R448, R459): JOIN in slot 39 of a round whose number modulo 8 is the address. -/
def execEvGalJoinTx (dt : Nat) (s : State) : Host.Outcome State Fault Refusal :=
  occurLive dt s fun s =>
    let g := s.gal
    if g.isSlave && s.domUp 48 && g.role == .joining && g.grantSeq == 0 && !g.stopped && !g.ghush && g.synced
        && decide (s.now + usT < g.edgeAt + msT + slotT) && s.inSlot 39 && g.round % 8 == g.addr
        && decide (s.slotErr 39 ≤ 400000) then
      let u := natLE 1 5 ++ natLE 3 0 ++ natLE 4 g.mode ++ natLE 8 0 ++ s.devidBytes ++ List.replicate 32 0
      s.setGal { g with frame := galFrame g.addr 0 0 0 g.mode [u] }
    else s

/-! ### Time limits, GHUSH, items -/

/-- PART_KEEP_EXPIRE (R458). -/
def execEvPartKeepExpire (dt : Nat) (s : State) : Host.Outcome State Fault Refusal :=
  occurLive dt s fun s =>
    let live := s.gal.kept.filter fun k => k.running || decide (s.now < k.endedAt + bits s.gal.cfg1 15 0 * msT)
    s.setGal { s.gal with kept := live }

/-- BEACON_LOSS_EXPIRE (R467): no control slot for BEACON_LOSS rounds. -/
def execEvBeaconLossExpire (dt : Nat) (s : State) : Host.Outcome State Fault Refusal :=
  occurLive dt s fun s =>
    let g := s.gal
    let n := bits g.cfg 7 0
    if g.isSlave && g.role != .noBeacon && decide (g.edgeAt + (n + 1) * msT ≤ s.now) then
      s.galDo fun s =>
        let g := g.countMissed n
        (s.setGal { g with role := .noBeacon, held := [], pending := none, grantSeq := 0 }).galFaultAt .beaconLost g.addr
    else s

/-- GHUSH_FALL (R463): the slave's driver is disabled. -/
def execEvGhushFall (dt : Nat) (s : State) : Host.Outcome State Fault Refusal :=
  occurAt rankUnit dt s fun s => s.setGal { s.gal with ghush := true }

/-- GHUSH_RISE (R463): the line is released; it stays low while this node drives it. -/
def execEvGhushRise (dt : Nat) (s : State) : Host.Outcome State Fault Refusal :=
  occurAt rankUnit dt s fun s =>
    let g := s.gal
    s.setGal { g with ghush := g.isMaster && (g.stopped || g.babbleTill.isSome) }

/-- GHUSH_HOLD_END (R463): four rounds after a babble detection. -/
def execEvGhushHoldEnd (dt : Nat) (s : State) : Host.Outcome State Fault Refusal :=
  occurLive dt s fun s =>
    let g := s.gal
    match g.babbleTill with
    | some t => if t ≤ s.now then s.setGal { g with babbleTill := none, ghush := g.isMaster && g.stopped } else s
    | none => s

/-- Withdraw the messages of the flights that are ending already: their completions do not wait on held traffic (R465). -/
def State.withdrawEnding (s : State) : State :=
  (s.landsWhere fun x => x.st == .busy && (x.endReq.isSome || match x.wait with | .ending _ => true | _ => false)).foldl State.galEnding s

/-- A HUSH of scope 0x0200 or 0xFFFF reaches the gallery unit (R462, R464, R465): its traffic is held, the master drives GHUSH
low, an open mode change whose TARGET has not come aborts, and its item ends FAILED_HUSH with the round after TARGET, or at once where no
PREPARE has gone out (log 193). -/
def State.galHush (s : State) : State :=
  let g := s.gal
  let s := (s.setGal { g with stopped := true, ghush := g.ghush || g.isMaster }).withdrawEnding
  match g.change with
  | none => s
  | some c =>
    if c.done.isSome then s
    else if c.target.isNone then (s.setGal { s.gal with change := none }).galItem c.item .failedHush
    else s.setGal { s.gal with change := some { c with nak := true, hushed := true, dest := 0 } }

/-- RESUME of GAL_CTRL (R464). -/
def State.galResume (s : State) : State :=
  let g := s.gal
  if !g.stopped then s else
  let s := s.setGal { g with stopped := false, ghush := if g.isMaster then g.babbleTill.isSome else g.ghush }
  if s.gal.isSlave then s.galDo State.drain else s

/-- CASCADE_MODE 0 (R437): completes OK; the node leaves at the end of its round. -/
def State.cascadeLeave (s : State) (k : ItemKey) : State :=
  let g := s.gal
  let s := if g.role = .standalone then
      (if g.listen.isSome then s.galAlone else s) else s.setGal { g with leaving := true }
  (s.galItem (some k) .ok).galLeave

/-- CASCADE_MODE 1 (R437): the master listens for a beacon, and its own counts (log 22); a slave sends JOIN, a lagging one too (R462), and one
that is joined already completes at once, and stays (log 227). -/
def State.cascadeJoin (s : State) (k : ItemKey) : State :=
  let g := s.gal
  if g.addr = 0 then
    if g.role ≠ .standalone ∨ g.joinItem.isSome then s.galItem (some k) .stateRefused
    else s.setGal { g with listen := some s.now, joinItem := some k }
  else if g.role = .joined then (s.setGal { g with leaving := false }).galItem (some k) .ok
  else if g.joinItem.isSome then s.galItem (some k) .stateRefused
  else
    let g := if g.role = .standalone ∨ g.role = .refused then
        { g with role := .joining, grantSeq := 0, edgeAt := s.now, missed := 0, synced := false }
      else if g.role = .lagging then { g with role := .joining, grantSeq := 0, calNeeded := false, calPend := none }
      else g
    s.galDo fun s =>
      s.setGal { g with joinItem := some k, joinAt := if g.grantSeq = 0 then some s.now else none, leaving := false }

/-- CASCADE_LISTEN_END (R437): 4 ms without a beacon; the session opens with a new BSESS and ROUND 0. -/
def execEvCascadeListenEnd (dt : Nat) (s : State) : Host.Outcome State Fault Refusal :=
  occurLive dt s fun s =>
    let g := s.gal
    match g.listen with
    | some t =>
      if t + 4 * msT ≤ s.now ∧ s.domUp 48 then
        let (s, w) := s.draw
        s.galDo fun s =>
          let self : GalNode := { GalNode.blank with st := 2 }
          let bs := (g.bsess + 1 + w % 65535) % 65536
          let nodes := vset (Vector.replicate 8 GalNode.blank) 0 self
          let g : Gal := { g with role := .master, listen := none, bsess := bs, synced := false, ghush := g.ghush || g.stopped,
                                  edgeAt := s.now - msT, nodes := nodes, quiet := 0, run := 1, cseq := 1, runs := [],
                                  out := [], parts := [], sends := [], ackLast := 0, mode := 0, change := none,
                                  babble := false, babblePrev := false }
          let s := { s with rng := { s.rng with alignOff := 0, alignValid := true } }
          s.setGal g
      else s
    | none => s

/-- CASCADE_JOIN_TIMEOUT (R437): no GRANT within 64 rounds. -/
def execEvCascadeJoinTimeout (dt : Nat) (s : State) : Host.Outcome State Fault Refusal :=
  occurLive dt s fun s =>
    match s.gal.joinAt with
    | some t =>
      if t + 64 * msT ≤ s.now ∧ s.gal.isSlave then s.galAlone
      else s
    | none => s

/-- Fields of a mode record lie in their ranges (chapter 14, Mode change). -/
def modeRecordOk (r : List Byte) : Bool :=
  fieldLE r 0 4 != 0 && (byteAt r 4).testBit 0 && decide (byteAt r 5 ≤ 1) && decide (4 ≤ byteAt r 6) && decide (byteAt r 6 ≤ 64)
  && byteAt r 7 == 0 && zerosAt r 14 2

/-- CASCADE_MODE 2 (R460) with its 16-byte record, on the master. -/
def State.cascadeMode (s : State) (k : ItemKey) (r : List Byte) : State :=
  let g := s.gal
  if !modeRecordOk r then s.galItem (some k) .badField
  else if g.role ≠ .master then s.galItem (some k) .cascadeAlone
  else if g.change.isSome || g.stopped then s.galItem (some k) .stateRefused
  else
    let dest := g.maskOf (fun st => 1 ≤ st && st ≤ 3) &&& byteAt r 4 &&& 0xFE
    let g := { g with nodes := g.nodes.map fun (x : GalNode) => { x with modeAck := false } }
    s.setGal { g with change := some { item := some k, record := r, pmode := fieldLE r 0 4, lead := byteAt r 6, dest := dest
                                       target := none, acks := 0, nak := false, done := none, hushed := false } }

/-- The gallery unit after a warm reset: no item waits for it, no mode change is open, and no flight's parts are left; a part that
ran here keeps FAILED_FAULT as its result (R424, R458). -/
def Gal.afterWarm (g : Gal) (now : Nat) : Gal :=
  let g := (g.parts.filter fun p => p.result.isSome).foldl (fun g p => g.modNode p.node fun x => { x with cret := x.cret + 1 }) g
  { g with edgeAt := now, listen := none, joinItem := none, joinAt := none, change := none, parts := [], runs := [], sends := []
           out := g.out.map fun u => { u with land := none, gone := u.gone || byteAt u.unit 0 == 3 }
           synced := g.synced && g.addr == 0
           kept := trimKept <| (g.kept.filter fun k => !k.running) ++ (g.kept.filter (·.running)).map fun k =>
             { k with running := false, endedAt := now, result := resultUnit Code.failedFault.num k.attempts 0xFF 0 k.part k.run 0 [] } }

/-- A rejoin after safe hold (R438): a slave sends JOIN again, the master goes on with its session (log 194). -/
def State.galAfterWarm (s : State) : State :=
  let g := s.gal.afterWarm s.now
  if g.isSlave then
    s.galDo fun s => s.setGal { g with role := .joining, grantSeq := 0, held := [], out := [], pending := none, missed := 0
                                       calNeeded := false, calPend := none }
  else s.setGal g

end Sys2Proof.Machine
end

