-- ==== Sys2Proof/Machine/LfOps.lean ====
section
/-! DEFINITION. The low-frequency field system: coils, tuning, dumps, LFTX and LFRX (R139 to R167). -/

namespace Sys2Proof.Machine

open Sys2Proof

/-- DUTY_MS: whole milliseconds, a part of one counting as one (log 15), the step in progress included. -/
def State.lfDutyMs (s : State) : Nat := (spansIn (s.lf.allSpans s.now) s.now secT + (msT - 1)) / msT

/-- A coil is selected (R163). -/
def State.lfSelects (s : State) (rate n : Nat) : Bool :=
  let c := s.lf.coil n
  s.lf.coilEn.testBit n && !s.marked (unitCoil n) && c.fault == 0 && decide (c.q4 ≤ lfMaxQ4 rate s.lf.pdOff)
  && !s.lf.vlfLow && !s.lf.overtemp

/-- Mask of the selected coils among those named. -/
def State.lfSelection (s : State) (b : List Byte) : Nat :=
  (List.range 8).foldl (fun m n => if (lfMask b).testBit n && s.lfSelects (lfRate b) n then m + 2 ^ n else m) 0

/-- A coil is stale at a die temperature (R150). -/
def Coil.staleAt (c : Coil) (temp : Int) : Bool := c.stale || decide (20 ≤ (temp - c.tuneTemp).natAbs)

/-- Selected coils that the step tunes, at the die temperature last read. -/
def State.lfTuned (s : State) (sel : Nat) : Nat := sel &&& s.lf.maskOf fun c => c.staleAt s.dieTemp

/-- Until its pre-window ends, a step tunes also the selected coils that have become stale since its issue (R150, R162 order 8). -/
def State.lfLateStale (s : State) : State :=
  match s.lf.run with
  | some r =>
    if r.tx && (match r.start with | none => true | some t0 => decide (s.now < s.lf.preEnd t0)) then
      s.setLf { s.lf with run := some { r with tuned := r.tuned ||| s.lfTuned r.sel } }
    else s
  | none => s

/-- Planned emission in ticks (R167). -/
def State.lfPlanned (s : State) (b : List Byte) : Nat :=
  let f := s.lf
  f.cycles ((if s.lfTuned (s.lfSelection b) != 0 then tuneCycles else 0) + f.frameCycles b
    + (if lfTails (lfKind b) then popCount 8 (lfMask b) * f.slotCycles else 0))

/-- The regulatory lock refuses an LFTX (R167). -/
def State.lfBlocked (s : State) (b : List Byte) : Bool :=
  let f := s.lf
  let k := 124800000 * 65536
  let p := s.lfPlanned b
  decide (k < bits f.reg0 31 16 * 10 * f.carrier) || decide (bits f.reg0 15 0 * 10 * f.carrier < k)
  || decide (bits f.reg1 31 24 < lfSetpoint b) || decide (bits f.reg1 11 0 * msT < p)
  || decide (bits f.reg1 23 12 * msT < s.lfDutyMs * msT + p)

/-- Record a deferral in LF_DEFER (R156). -/
def State.lfDefer (s : State) (ticks coils : Nat) : State :=
  s.setLf { s.lf with deferDelay := sat 0xFFFF (ticks / usT), deferCount := (s.lf.deferCount + 1) % 256, deferCoils := coils }

/-! ### LFTX and LFRX -/

/-- Ask of an LFTX block (R76, R157, R162). -/
def lftxSpec : FieldSpec :=
  { step := .lftx, kind := .lftx, blkLen := 16
    bad := fun b => lfMask b == 0 || decide (2 < lfRate b) || lfSetpoint b == 0 || decide (250 < lfSetpoint b)
      || decide (3 < lfKind b) || lfLen b == 0 || decide (64 < lfLen b)
    frame := fun b => (fieldLE b 12 2, lfLen b)
    resLen := fun _ => 16 }

/-- Ask of an LFRX block (R76, R166). -/
def lfrxSpec : FieldSpec :=
  { step := .lfrx, kind := .lfrx, blkLen := 16
    bad := fun b => byteAt b 8 == 0 || decide (3 < byteAt b 8) || !zerosAt b 9 7
    frame := fun _ => (0, 0)
    resLen := fun _ => 16 }

/-- LFTX at issue, orders 3 to 6 of R162. -/
def execStLftx (dt l : Nat) (m : LfIssue) (s : State) : Host.Outcome State Fault Refusal :=
  fieldStep dt l lftxSpec s fun j s =>
    let s := { s with dieTemp := m.temp }
    let b := j.blk
    if s.marked unitLfRx then s.fieldDone l j .unitUnusable 0 []
    else if s.lfBlocked b then s.fieldDone l j .regulatoryBlocked 0 []
    else
      let sel := s.lfSelection b
      if sel = 0 then
        let all := (List.range 8).all fun n => !(lfMask b).testBit n || s.marked (unitCoil n)
        s.fieldDone l j (if all then Code.unitUnusable else Code.antennaFault) 0 []
      else
        let waits := lfMask b &&& s.lf.maskOf fun c => c.dump.isSome
        let run : LfRun :=
          { tx := true, land := l, blk := b, content := j.frame, waits := waits, start := if waits = 0 then some s.now else none
            sel := sel, tuned := s.lfTuned sel, tunes := m.tunes, tuneTemp := m.tuneTemp, tuneTrip := false, taken := false
            unreported := 0, stops := [] }
        let s := s.setLf { s.lf with run := some run }
        if waits = 0 then s.setJob l { j with started := some s.now } else s

/-- LFRX at issue (R166). -/
def execStLfrx (dt l : Nat) (s : State) : Host.Outcome State Fault Refusal :=
  fieldStep dt l lfrxSpec s fun j s =>
    if s.marked unitLfRx then s.fieldDone l j .unitUnusable 0 []
    else
      let run : LfRun :=
        { tx := false, land := l, blk := j.blk, content := [], waits := 0, start := some s.now, sel := 0, tuned := 0, tunes := []
          tuneTemp := 0, tuneTrip := false, taken := false, unreported := 0, stops := [] }
      (s.setLf { s.lf with run := some run }).setJob l { j with started := some s.now }

/-- End of an LFTX (R162 order 11, R164): the bursts of the coils that drove the frame, and its outcome. -/
def State.lftxDone (s : State) (l : Nat) (j : FieldJob) (r : LfRun) (t0 : Nat) (phases : List Int) : State :=
  let s := s.lfReport 255
  let at1 := s.lf.frameAt r t0
  let till := s.lf.lastBrake r at1
  let burst := s.lf.drivers r at1
  let finished := s.lf.finished r at1
  let f := (List.range 8).foldl (fun f n =>
    if burst.testBit n then f.modCoil n (Coil.burst f.mismatchLim f.retuneLim (phases.getD n 0)) else f) s.lf
  let s := s.setLf f
  let mis := burst &&& s.lf.maskOf (·.mismatch)
  let c := if finished = 0 then Code.antennaFault else if j.srcs.testBit 0 then Code.fieldDisturbed else Code.ok
  (s.fieldDone l j c j.srcs [BitVec.ofNat 8 finished, BitVec.ofNat 8 mis] (some till)).lfIdle

/-- A component of the field on an axis with its gain, in 1/512 mA/m (chapter 04, LF_RXCAL). -/
def lfGain (g : Nat) (v : Int) : Int := v * g

/-- The field on an axis, as its projection on the phase of the strongest, in mA/m, rounded to nearest (R166, log 175): i and q are its
components, si and sq those of the strongest axis, all in 1/512 mA/m. -/
def lfProject (i q si sq : Int) : Int :=
  let d := 512 * isqrt ((si * si + sq * sq).toNat * 65536)
  if d = 0 then 0 else
  let n := i * si + q * sq
  let m := (2 * n.natAbs * 256 + d) / (2 * d)
  if n < 0 then -(m : Int) else m

/-- The three axes as LFRX reports them: the strongest reads positive (R166). -/
def Lf.axes (f : Lf) (x y z : Int × Int) : List Int :=
  let g := [bits f.rxcal 29 20, bits f.rxcal 19 10, bits f.rxcal 9 0]
  let v := ([x, y, z].zip g).map fun p => (lfGain p.2 p.1.1, lfGain p.2 p.1.2)
  let big := v.foldl (fun (m : Int × Int) p => if m.1 * m.1 + m.2 * m.2 < p.1 * p.1 + p.2 * p.2 then p else m) (0, 0)
  v.map fun p => lfProject p.1 p.2 big.1 big.2

/-- End of an LFRX (R166). -/
def State.lfrxDone (s : State) (l : Nat) (j : FieldJob) (x y z : Int × Int) (noise : Nat) : State :=
  let mode := byteAt j.blk 8
  let ax (v : Int) := natLE 2 (unsgn 16 (clampI (-32767) 32767 v))
  let field := if mode.testBit 1 then (s.lf.axes x y z).flatMap ax else List.replicate 6 0
  let nz := if mode.testBit 0 then natLE 2 (sat 0xFFFF noise) else [0, 0]
  let c := if j.srcs.testBit 0 then Code.fieldDisturbed else Code.ok
  (s.fieldDone l j c (j.srcs + (if mode.testBit 1 then 32 else 0)) (field ++ nz)).lfIdle

/-- FIELD_STEP_DONE for the LF steps: the step's whole time has passed, with the brake and clamp of order 10 (R164; log 176). -/
def State.lfStepDone (s : State) (l : Nat) (j : FieldJob) (m : FieldMeas) : State :=
  let s := s.lfDue
  match s.lf.run, m with
  | some r, .lftx phases =>
    match r.start with
    | some t0 =>
      if r.tx && r.land == l && decide (s.lf.lastBrake r (s.lf.frameAt r t0) ≤ s.now) then s.lftxDone l j r t0 phases else s
    | none => s
  | some r, .lfrx x y z noise =>
    match r.start with
    | some t0 => if !r.tx && r.land == l && decide (t0 + j.window * usT ≤ s.now) then s.lfrxDone l j x y z noise else s
    | none => s
  | _, _ => s

/-! ### Events -/

/-- The noise monitor runs until an instant: in an LFTX until its last carrier ends, in an LFRX until its window lapses (R165; log 201). -/
def Lf.monitorEnd (f : Lf) (r : LfRun) (j : FieldJob) (t0 : Nat) : Nat :=
  if r.tx then f.frameAt r t0 + f.cycles (f.airCycles r.blk) else t0 + j.window * usT

/-- LF_NOISE_TRIP (R152, R162, R164, R165): in-band noise above NOISE_THR for NOISE_MIN µs; in a pre-window also a
coherent field above FF_THR; a monitor that does not run does not trip. -/
def execEvLfNoiseTrip (dt noise us coherent : Nat) (s : State) : Host.Outcome State Fault Refusal :=
  occurLive dt s fun s =>
    let s := s.lfDue
    match s.lf.run with
    | none => s
    | some r =>
      match s.fieldJob r.land, r.start with
      | some j, some t0 =>
        let noisy := decide (s.lf.noiseThr < noise) && decide (s.lf.noiseMin ≤ us)
        if s.lf.monitorEnd r j t0 < s.now then s
        else if !r.tx then
          if noisy then s.setJob r.land { j with srcs := j.srcs ||| 1 } else s
        else if s.now < s.lf.preEnd t0 then
          let srcs := j.srcs ||| b2n noisy ||| (if s.lf.ffThr < coherent then 16 else 0)
          if srcs = 0 then s else (s.fieldDone r.land j .fieldDisturbed srcs []).lfIdle
        else if noisy then
          let s := s.setJob r.land { j with srcs := j.srcs ||| 1 }
          if s.now < s.lf.frameAt r t0 then s.setLf { s.lf with run := some { r with tuneTrip := true } } else s
        else s
      | _, _ => s

/-- LF_COIL_SHORT (R139, R153, R155): the bridge of a driving coil stops. -/
def execEvLfCoilShort (dt n : Nat) (s : State) : Host.Outcome State Fault Refusal :=
  occurFault dt s fun s =>
    let s := s.lfDue
    if n < 8 ∧ s.lf.coilEn.testBit n then s.lfFault n 1 .lfShort else s

/-- OPEN of coil n (R141, R153), told by FAULT_DETECTED: it drives, and 8 carrier cycles have passed since the end of its first BOOST. -/
def State.lfOpen (s : State) (n : Nat) : State :=
  let s := s.lfDue
  match s.lf.run with
  | some r =>
    match r.start with
    | some t0 =>
      if s.lf.drives n s.now
          && decide (s.lf.frameAt r t0 + s.lf.halfCycles (s.lf.coil n).boost + s.lf.cycles 8 ≤ s.now) then s.lfFault n 0 .lfOpen
      else s
    | none => s
  | none => s

/-- TUNE_RANGE of coil n (R149), told by FAULT_DETECTED at the end of its tune. -/
def State.lfRange (s : State) (n : Nat) : State := s.lfDue.lfReport (2 ^ n)

/-- The conditions of R154 stop every bridge and dump every coil. -/
def State.lfStop (s : State) (bit : Nat) (c : Cause) : State :=
  let s := s.lfDue
  let s := s.setLf { s.lf with faultSys := s.lf.faultSys ||| 2 ^ bit }
  (s.recordFault c .device []).lfDump s.lf.coilEn

/-- LF_VLF_LOW (R154): VLF stands at mv millivolts, below 5.5 V; told again while it is low, it only says how low (R140). -/
def execEvLfVlfLow (dt mv : Nat) (s : State) : Host.Outcome State Fault Refusal :=
  occurLive dt s fun s =>
    if 5500 ≤ mv then s else
    let low := s.lf.vlfLow
    let s := s.setLf { s.lf with vlf := mv, vlfLow := true }
    if low then s else s.lfStop 0 .lfVlfLow

/-- LF_VLF_RESTORED (R154). -/
def execEvLfVlfRestored (dt mv : Nat) (s : State) : Host.Outcome State Fault Refusal :=
  occurLive dt s fun s => if 5800 < mv then s.setLf { s.lf with vlf := mv, vlfLow := false } else s

/-- LF_OVERTEMP (R154). -/
def execEvLfOvertemp (dt : Nat) (temp : Int) (s : State) : Host.Outcome State Fault Refusal :=
  occurLive dt s fun s =>
    if 155 < temp ∧ s.lf.overtemp = false then (s.setLf { s.lf with overtemp := true }).lfStop 1 .lfOvertemp else s

/-- LF_OVERTEMP_CLEAR (R154): `temp` is the hottest bridge sensor. -/
def execEvLfOvertempClear (dt : Nat) (temp : Int) (s : State) : Host.Outcome State Fault Refusal :=
  occurLive dt s fun s => if temp < 140 then s.setLf { s.lf with overtemp := false } else s

/-- An LFTX that waited for dumps starts once none of its named coils dumps (R156). -/
def State.lfUnblock (s : State) : State :=
  match s.lf.run with
  | some r =>
    match s.fieldJob r.land with
    | some j =>
      if j.started.isNone && (lfMask j.blk &&& s.lf.maskOf fun c => c.dump.isSome) == 0 then
        let s := s.lfDefer (s.now - j.issued) r.waits
        (s.setLf { s.lf with run := some { r with start := some s.now, tuned := r.tuned ||| s.lfTuned r.sel } }).setJob r.land { j with started := some s.now }
      else s
    | none => s
  | none => s

/-- COIL_DUMP_DONE (R155): a dump goes on through a warm reset. -/
def execEvCoilDumpDone (dt n : Nat) (s : State) : Host.Outcome State Fault Refusal :=
  occurAt rankUnit dt s fun s =>
    let s := s.lfDue
    if (s.lf.coil n).dump.isSome then (s.setLf (s.lf.modCoil n fun c => { c with dump := none })).lfUnblock else s

/-- COIL_DUMP_TIMEOUT (R155): DUMP_TIMEOUT latches 400 µs into the dump and the clamp stays on. -/
def execEvCoilDumpTimeout (dt n : Nat) (s : State) : Host.Outcome State Fault Refusal :=
  occurAt rankUnit dt s fun s =>
    let s := s.lfDue
    match (s.lf.coil n).dump with
    | some t =>
      if t + 400 * usT ≤ s.now then
        let s := s.setLf (s.lf.modCoil n fun c => { c with dump := none, clamped := true })
        (s.lfFault n 3 .lfDumpTimeout).lfUnblock
      else s
    | none => s

/-! ### Registers whose write acts at once -/

/-- Effect of a write to LF_CARRIER (R144). -/
def State.lfSetCarrier (s : State) (v : Nat) : State :=
  if v = s.lf.carrier then s else s.setLf ({ s.lf with carrier := v }.modMask 255 fun c => { c with stale := true })

/-- Effect of a write to LF_RETUNE (R150): a step in its pre-window tunes the coil too. -/
def State.lfRetune (s : State) (m : Nat) : State := (s.setLf (s.lf.modMask m fun c => { c with stale := true })).lfLateStale

/-- Effect of a W1C of LF_FAULT: the bits clear at once, and a coil with a cleared bit is stale (R150, R156). -/
def State.lfFaultClear (s : State) (w : Nat) : State :=
  s.setLf { s.lf with coils := Vector.ofFn fun i : Fin 8 =>
    let c := s.lf.coils.get i
    let m := bit w i.val + 2 * bit w (8 + i.val) + 4 * bit w (16 + i.val) + 8 * bit w (24 + i.val)
    if c.fault &&& m = 0 then c
    else { c with fault := c.fault &&& (15 ^^^ m), stale := true, clamped := c.clamped && !m.testBit 3 } }

/-- LF_FAULT, read from the coils. -/
def Lf.faultWord (f : Lf) : Nat :=
  f.maskOf (·.fault.testBit 0) + 0x100 * f.maskOf (·.fault.testBit 1) + 0x10000 * f.maskOf (·.fault.testBit 2)
  + 0x1000000 * f.maskOf (·.fault.testBit 3)

end Sys2Proof.Machine
end

