-- ==== Sys2Proof/Machine/TenantOps.lean ====
section
/-! DEFINITION. Tenant steps TLOAD, TPASS, TFAIL, NEWEL (R87 to R93), lockout and learning windows (R322 to R324), vehicle time
(R314, R315) and life records (R326). -/

namespace Sys2Proof.Machine

open Sys2Proof

/-- The code of a TLOAD that fails, or ok (R87, R371); the keys of a tenant that holds any need WRAP (R363). -/
def State.tloadCode (s : State) (l t : Nat) : Code :=
  if s.zapped then .tampered
  else match s.tenantCheck l t with
    | .ok => if (match s.tenant t with | some r => r.keys != 0 | none => false) && !s.engineUsable 10 then .unitUnusable else .ok
    | c => c

/-- The keys of the tenant just bound begin to be unwrapped (R356). -/
def State.unwrapping (s : State) (l : Nat) : State := { s with sec := { s.sec with unwraps := Tbl.put s.sec.unwraps l s.now } }

/-- TLOAD (R87, R356): its checks, then the binding; the step ends once the keys are unwrapped. While a suspension or revocation of the
tenant is on its way, or another landing came before, the step waits unbound, and makes its checks when its turn comes. -/
def execStTload (dt l : Nat) (s : State) : Host.Outcome State Fault Refusal :=
  runStep dt l .tload s fun f s =>
    let t := srcReg f (s.land l) % 65536
    if !s.tenantTurn l t then (s.joinTurn l t).enterWait l (.tload f.d t false)
    else if s.tloadCode l t = .ok then ((s.bindTo l t).unwrapping l).enterWait l (.tload f.d t true)
    else s.advance l 1 fun x => x.outcome f.d (s.tloadCode l t) 0 0

/-- TENANT_UNWRAP_DONE (R87, R356, R357): the tenant's keys stand in the landing's cache and TLOAD ends OK. A TLOAD that
waited for its turn makes its checks first. -/
def execEvTenantUnwrapDone (dt l : Nat) (s : State) : Host.Outcome State Fault Refusal :=
  occurLive dt s fun s =>
    match (s.land l).wait with
    | .tload d t false =>
      if !s.tenantTurn l t then s else
      let s := s.leaveTurn l
      if s.tloadCode l t = .ok then ((s.bindTo l t).unwrapping l).modLand l fun x => { x with wait := .tload d t true }
      else s.stepEnds l fun x => x.outcome d (s.tloadCode l t) 0 0
    | .tload d t true =>
      if s.domUp 43 then (s.unwrapKeys l t).stepEnds l fun x => x.outcome d .ok 0 0 else s
    | _ => s

/-- TPASS (R88, R325). -/
def execStTpass (dt l : Nat) (s : State) : Host.Outcome State Fault Refusal :=
  runStep dt l .tpass s fun f s =>
    let x := s.land l
    let v := srcReg f x
    match x.tenant with
    | none => s.stepFault l .noTenant f.op
    | some t =>
      if !x.proof then s.stepFault l .noProof f.op
      else match s.tenant t with
        | none => s.advance l 1 fun x => x.outcome f.d .counterStale 0 0
        | some r =>
          if v ≤ r.counter then s.advance l 1 fun x => x.outcome f.d .counterStale 0 0
          else
            let g : Staged := { tenant := t, counter := v, passedAt := s.vehicle, battery := x.battery, status := x.status }
            s.advance l 1 fun x => { x.outcome f.d .ok 0 0 with staged := some g }

/-- Tenant record of the evidence recorder: step OP, outcome, counters and failures before and after (R300). -/
def State.evdTenant (s : State) (l op : Nat) (c : Code) (before : Tenant) (t : Nat) : State :=
  if s.evd.src 2 then
    match s.tenant t with
    | none => s
    | some r =>
      s.evdRecord 3 (some l) (natLE 1 op ++ natLE 1 c.num ++ natLE 2 0 ++ natLE 4 before.counter ++ natLE 4 r.counter
        ++ natLE 1 before.cf ++ natLE 1 r.cf ++ natLE 2 (s.leftS r.lockEnd))
  else s

/-- The record of a TFAIL at its end (R300); `before` is the tenant as it stood. -/
def State.evdTfail (s : State) (l t : Nat) (c : Code) (before : Option Tenant) : State :=
  match before with | some r => s.evdTenant l 0x3B c r t | none => s

/-- TFAIL (R89): with D set nothing is counted; otherwise the step waits for its durable count. -/
def execStTfail (dt l : Nat) (s : State) : Host.Outcome State Fault Refusal :=
  runStep dt l .tfail s fun f s =>
    let x := s.land l
    match x.tenant with
    | none => s.stepFault l .noTenant f.op
    | some t =>
      if x.flags.d then (s.evdTfail l t .fieldDisturbed (s.tenant t)).advance l 1 fun x => x.outcome f.d .fieldDisturbed 0 0
      else s.enterWait l (.tfail f.d)

/-- TFAIL_DURABLE (R89, R322): the count is durable, or no durable write could be made because sector `bad` found no
spare. -/
def execEvTfailDurable (dt l : Nat) (bad : Option Nat) (s : State) : Host.Outcome State Fault Refusal :=
  occurLive dt s (k := faultRank bad.isSome) fun s =>
    match (s.land l).wait, (s.land l).tenant with
    | .tfail d, some t =>
      match bad with
      | some n =>
        let s := s.raise .noSpare (.sector n)
        (s.modLand l fun x => x.setReg 1 (BitVec.ofNat 32 (faultEndWord Cause.noSpare.num x.pc))).endFlight l .failedFault
      | none =>
        let before := (s.tenant t)
        let (s, c) := s.countFailure t
        let s := s.evdTfail l t c before
        let s := if c = .lockedOut then s.evdAuto 1 l else s
        s.stepEnds l fun x => x.outcome d c 0 0
    | _, _ => s

/-- NEWEL (R93, R137). -/
def execStNewel (dt l : Nat) (s : State) : Host.Outcome State Fault Refusal :=
  runStep dt l .newel s fun f s =>
    if (s.land l).staged.isNone then s.advance l 1 fun x => x.outcome f.d .ok 0 0
    else ({ s with ten := { s.ten with newels := s.ten.newels ++ [l] } }).enterWait l (.newel f.d)

/-- NEWEL_DURABLE (R93, R137): the journal entry of the NEWEL that issued first is durable, or finds no spare sector. -/
def execEvNewelDurable (dt l : Nat) (bad : Option Nat) (s : State) : Host.Outcome State Fault Refusal :=
  occurLive dt s (k := faultRank bad.isSome) fun s =>
    match (s.land l).wait, (s.land l).staged with
    | .newel d, some g =>
      if s.ten.newels.head? != some l then s else
      let s := { s with ten := { s.ten with newels := s.ten.newels.drop 1 } }
      match bad with
      | some n => (s.raise .noSpare (.sector n)).stepEnds l fun x => x.outcome d .nvmWriteFail 0 0
      | none =>
        let before := s.tenant g.tenant
        let s := s.newelEntry g
        let s := s.modLand l fun x => { x with staged := none }
        let s := match before with | some r => s.evdTenant l 0x3D .ok r g.tenant | none => s
        s.stepEnds l fun x => x.outcome d .ok 0 0
    | _, _ => s

/-- TENANT_LOCKOUT_END (R322): the lockout's counting time has run out; CF stays. -/
def execEvTenantLockoutEnd (dt t : Nat) (s : State) : Host.Outcome State Fault Refusal :=
  occurLive dt s fun s =>
    s.modTenant t fun r => match r.lockEnd with
      | some e => if e ≤ s.counting then { r with lockEnd := none } else r
      | none => r

/-- LEARN_LOCKOUT_END (R323). -/
def execEvLearnLockoutEnd (dt : Nat) (s : State) : Host.Outcome State Fault Refusal :=
  occurLive dt s fun s =>
    match s.ten.learnEnd with
    | some e => if e ≤ s.counting then { s with ten := { s.ten with learnEnd := none } } else s
    | none => s

/-- LEARN_WINDOW_AGE (R323): failures older than WIN_S leave the window. -/
def execEvLearnWindowAge (dt : Nat) (s : State) : Host.Outcome State Fault Refusal :=
  occurLive dt s State.ageWindow

/-- LIFE_RECOMPUTE (R326): every 60 s of counting time while vehicle time is valid. -/
def execEvLifeRecompute (dt : Nat) (s : State) : Host.Outcome State Fault Refusal :=
  occurLive dt s fun s =>
    if s.ten.time.isSome ∧ s.ten.lifeAt + 60 * secT ≤ s.counting then
      ({ s with ten := { s.ten with lifeAt := s.counting } }).lifeAll
    else s

/-- A write of TEN_TIME is refused: outside SERVICE, below the floor minus 300 s (R315). -/
def State.timeRefused (s : State) (v : Nat) : Bool := s.life.st != .service && decide (v + 300 < s.ten.floor)

/-- A write of TEN_TIME (R314, R315, R326). -/
def State.setTime (s : State) (v : Nat) : State :=
  let floor := if s.life.st = .service then v else if s.ten.floor + 3600 ≤ v then v else s.ten.floor
  ({ s with ten := { s.ten with time := some (v, s.counting), floor := floor
                                lifeAt := if s.ten.time.isSome then s.ten.lifeAt else s.counting } }).lifeAll

/-- A write of TEN_LIFE_CFG (R326). -/
def State.setLifeCfg (s : State) (v : Nat) : State := ({ s with ten := { s.ten with lifeCfg := v } }).lifeAll

end Sys2Proof.Machine
end

