-- ==== Sys2Proof/Machine/ReleaseOps.lean ====
section
/-! DEFINITION. The START sampler (R327 to R330), release steps and the release session (R90, R91, R331 to R339), CANB (R335). -/

namespace Sys2Proof.Machine

open Sys2Proof

/-- Change the session. -/
def State.modSession (s : State) (f : Session → Session) : State :=
  s.setRel fun r => { r with session := r.session.map f }

/-! ### Frames and freshness -/

/-- The next freshness value may be placed on CANB: the durable issue mark covers it (R331). -/
def Release.covered (r : Release) : Bool := decide (r.next < r.mark)

/-- Identifier field with bit 31 for a 29-bit identifier (R333). -/
def Release.ident (r : Release) : Nat := bits r.cfg.toNat 28 0 + (if r.cfg.toNat.testBit 31 then 2 ^ 31 else 0)

/-- The release frame with the next freshness value, `left` being what remains of the window in ticks (R333). -/
def State.relFrame (s : State) (q : Session) (left : Nat) : RelFrame :=
  let fresh := s.rel.next
  let hd := natLE 1 0xB1 ++ natLE 1 s.gal.addr ++ natLE 8 fresh
  let pl := natLE 1 0x5A ++ natLE 1 (q.zone + 16 * q.ttype) ++ natLE 2 q.tenant ++ natLE 2 (left / (100 * msT))
  let ident := s.rel.ident
  let c := gcmEncrypt q.key (natLE 4 (s.life.devid % 2 ^ 32) ++ natLE 8 fresh) (natLE 4 ident ++ hd) pl
  { fresh := fresh, ident := ident, fdf := true, brs := s.rel.cfg.toNat.testBit 30, dlc := 0xD, data := hd ++ c.1 ++ c.2 }

/-- TM0's compare is set for the session's next repeat instant, where one is left (R334, R501). -/
def State.relArm (s : State) : State :=
  match s.rel.session with
  | some q => match q.openAt with
    | some t => if q.k * q.period < q.window then s.relCompare (t + q.k * q.period) else s
    | none => s
  | none => s

/-- A frame's first attempt begins: its value counts as sent (R332, R334). -/
def State.relBegin (s : State) (f : RelFrame) : State :=
  let s := s.setRel fun r =>
    { r with cur := some f, curGone := false, orphan := false, queued := none, next := f.fresh + 1, lastSent := f.fresh, canbOut := some f
             sent := (r.sent + 1) % 65536, sentEpoch := (r.sentEpoch + 1) % 2 ^ 32 }
  s.modSession fun q => { q with sent := (q.sent + 1) % 65536, first := if q.sent = 0 then f.fresh else q.first,
                                 last := f.fresh }

/-- Receive error count of CAN controller n: 0 where it was last set to 0, and then what the bus makes of it (R335; log 116). -/
def Can.recErr (c : Can) (n now : Nat) : Nat := if now ≤ c.recZeroAt then 0 else (Config.canReceived n c.recZeroAt now).toNat

/-- The controller is error passive: a count above 127 (R335). -/
def Can.passive (c : Can) (n now : Nat) : Bool := decide (128 ≤ c.tec) || decide (128 ≤ c.recErr n now)

/-- The controller may transmit: it is not off the bus, and its error count does not take it off (R335). -/
def Can.transmits (c : Can) : Bool := !c.busOff && decide (c.tec < 256)

/-- CANB is free: the queued frame of an open session starts. -/
def State.relNext (s : State) : State :=
  match s.rel.session, s.rel.queued with
  | some _, some f => if !s.rel.canb.transmits || s.rel.cur.isSome then s else s.relBegin f
  | _, _ => s

/-! ### Steps -/

/-- The flight runs from a library slot whose image has RELEASE set; a gallery part's never does (R457). -/
def State.relPrivilege (s : State) (l : Nat) : Bool :=
  let x := s.land l
  decide (0x80 ≤ x.slot) && (match s.imageOf l with | some i => i.hdr.release | none => false) && x.partId.isNone

/-- RELOPEN block fields out of range. -/
def relBad (b : List Byte) : Bool :=
  let p := fieldLE b 2 2
  let w := fieldLE b 4 2
  !(p == 0 || (decide (10 ≤ p) && decide (p ≤ 500))) || !(w == 0 || (decide (100 ≤ w) && decide (w ≤ 30000)))
  || decide (1 < byteAt b 7) || !zerosAt b 8 8

/-- Detail bits of the run-time conditions of R90 that are not met. -/
def State.relDetail (s : State) (l : Nat) : Nat :=
  b2n (!(s.land l).relok) + 2 * b2n (!s.startRequest) + 4 * b2n s.start.fault
  + 8 * b2n (match s.rel.session with | some q => q.land != l | none => false)

/-- RELOPEN (R90, R334): the session opens, and the step ends once its first frame is on CANB. -/
def execStRelopen (dt l : Nat) (s : State) : Host.Outcome State Fault Refusal :=
  runStep dt l .relopen s fun f s =>
    if !s.relPrivilege l then s.stepFault l .privilege f.op else
    let x := s.land l
    let base := hallAddr f x
    match s.blockFault l base 16 relBad (fun b => [(fieldLE b 0 2, 24, permW)]) with
    | some e => s.stepFault l e f.op
    | none =>
      let b := s.hallRead l 1 base 16
      let fin (c : Code) (d : Nat) := s.advance l 1 fun x => x.outcome f.d c d 0
      let v := s.vaultSlot (byteAt b 6)
      if s.zapped then fin .tampered 0
      else if s.life.st ≠ .bound ∧ s.life.st ≠ .service then fin .lifecycleRefused 0
      else if s.marked unitCan || s.sec.katFail.testBit 6 then fin .unitUnusable 0
      else if s.relDetail l ≠ 0 then fin .stateRefused (s.relDetail l)
      else if v.st ≠ 1 ∨ !v.engines.testBit engCansec ∨ !v.usage.testBit useEnc then fin .keyPolicy 0
      else if s.rel.session.isSome then fin .stateRefused 0
      else
        let ms (v d : Nat) := (if v = 0 then d else v) * msT
        let ty := match x.tenant.bind s.tenant with | some t => t.ttype | none => 0
        let q : Session :=
          { land := l, resOff := fieldLE b 0 2, period := ms (fieldLE b 2 2) 40, window := ms (fieldLE b 4 2) 30000
            slot := byteAt b 6, key := v.key, drive := (byteAt b 7).testBit 0, zone := x.relokZone, ttype := ty
            tenant := x.tenant.getD 0xFFFF, openAt := none, k := 1, sent := 0, acked := 0, first := 0, last := 0 }
        (s.setRel fun r => { r with session := some q, relLand := l, sent := 0, acked := 0 }).enterWait l (.relOpen f.d base)

/-- RELOPEN_FIRST_FRAME (R334): frame 0 is on CANB. The session is open from this instant. -/
def execEvRelopenFirstFrame (dt l : Nat) (s : State) : Host.Outcome State Fault Refusal :=
  occurLive dt s fun s =>
    match s.rel.session, (s.land l).wait with
    | some q, .relOpen d _ =>
      if q.land = l ∧ s.rel.covered = true ∧ s.rel.cur.isNone = true ∧ s.rel.canb.transmits = true then
        let s := s.relBegin (s.relFrame q q.window)
        let s := (s.modSession fun q => { q with openAt := some s.now }).relArm
        let s := s.setRel fun r => if q.drive then
          { r with pattern := true, stopping := false, relA := true, relB := false, halfAt := s.now } else r
        let s := s.modLand l fun x => { x with relSession := true }
        let s := s.canaStatus q none
        let s := if s.evd.src 3 then
          s.evdRecord 4 (some l) (natLE 1 0x3C ++ natLE 1 0 ++ natLE 1 0) else s
        (s.evdAuto 2 l).stepEnds l fun x => x.outcome d .ok 0 0
      else s
    | _, _ => s

/-- RELHOLD (R91). -/
def execStRelhold (dt l : Nat) (s : State) : Host.Outcome State Fault Refusal :=
  runStep dt l .relhold s fun f s =>
    if !s.relPrivilege l then s.stepFault l .privilege f.op else
    match s.rel.session with
    | some q => if q.land = l then s.enterWait l (.relHold f.d) else s.advance l 1 fun x => x.outcome f.d .stateRefused 0 0
    | none => s.advance l 1 fun x => x.outcome f.d .stateRefused 0 0

/-- RELCLOSE (R91, R336): the session ends; the step waits until the repeats have stopped and the pins are low. -/
def execStRelclose (dt l : Nat) (s : State) : Host.Outcome State Fault Refusal :=
  runStep dt l .relclose s fun f s =>
    if !s.relPrivilege l then s.stepFault l .privilege f.op else
    match s.rel.session with
    | some q => if q.land = l then (s.relEnd l 2).enterWait l (.relClose f.d)
                else s.advance l 1 fun x => x.outcome f.d .ok 0 0
    | none => s.advance l 1 fun x => x.outcome f.d .ok 0 0

/-- RELCLOSE_DONE (R336). -/
def execEvRelcloseDone (dt l : Nat) (s : State) : Host.Outcome State Fault Refusal :=
  occurLive dt s fun s =>
    match (s.land l).wait with
    | .relClose d => if !s.rel.pattern && s.rel.cur.isNone then s.stepEnds l fun x => x.outcome d .ok 0 0 else s
    | _ => s

/-! ### Events of the session -/

/-- RELEASE_REPEAT (R332, R334): at open + k * period the pending frame is withdrawn and the next is queued, or skipped
when no value is available. -/
def execEvReleaseRepeat (dt : Nat) (s : State) : Host.Outcome State Fault Refusal :=
  occurLive dt s fun s =>
    match s.rel.session with
    | some q => match q.openAt with
      | some t =>
        if t + q.k * q.period ≤ s.now ∧ q.k * q.period < q.window then
          let s := (s.modSession fun q => { q with k := q.k + 1 }).relArm
          let s := s.setRel fun r => if r.canb.busOff then { r with cur := none, queued := none }
                                     else { r with curGone := true, queued := none }
          if s.rel.covered then
            (s.setRel fun r => { r with queued := some (s.relFrame q (q.window - q.k * q.period)) }).relNext
          else s.setRel fun r => { r with skipped := (r.skipped + 1) % 65536 }
        else s
      | none => s
    | none => s

/-- CAN_FRAME_ACK (R334): the frame on CANB completes with an acknowledgement. A frame of a session that has ended counts for no session
that has opened since. -/
def execEvCanFrameAck (dt : Nat) (s : State) : Host.Outcome State Fault Refusal :=
  occurLive dt s fun s =>
    if s.rel.cur.isSome && s.rel.canb.transmits && s.domUp 47 then
      let n := if s.rel.orphan && s.rel.session.isSome then 0 else 1
      let s := s.setRel fun r => { r with cur := none, orphan := false, acked := (r.acked + n) % 65536
                                          canb := { r.canb with tec := r.canb.tec - 1 } }
      (s.modSession fun q => { q with acked := (q.acked + n) % 65536 }).relNext
    else s

/-- CAN_ATTEMPT_FAIL (R334, R335): an attempt ends without completing; `ackError` when only the acknowledgement was
missing. A withdrawn frame leaves; any other is tried again. -/
def execEvCanAttemptFail (dt : Nat) (ackError : Bool) (s : State) : Host.Outcome State Fault Refusal :=
  occurLive dt s fun s =>
    if s.rel.cur.isSome && s.rel.canb.transmits && s.domUp 47 then
      let up (c : Can) : Can := if ackError && c.passive 0 s.now then c else { c with tec := c.tec + 8 }
      (s.setRel fun r => { r with canb := up r.canb, cur := if r.curGone then none else r.cur }).relNext
    else s

/-- RELEASE_WINDOW_LAPSE (R336). -/
def execEvReleaseWindowLapse (dt : Nat) (s : State) : Host.Outcome State Fault Refusal :=
  occurLive dt s fun s =>
    match s.rel.session with
    | some q => match q.openAt with
      | some t => if t + q.window ≤ s.now then s.relFinish 0 else s
      | none => s
    | none => s

/-- FRESH_RESERVE_DONE (R331, R332): the durable write of the reservation top (top) or of the issue mark ends; `ok`
when it is durable. -/
def execEvFreshReserveDone (dt : Nat) (top ok : Bool) (s : State) : Host.Outcome State Fault Refusal :=
  occurLive dt s (k := faultRank !ok) fun s =>
    let r := s.rel
    let due := if top then decide (r.top - r.mark < 64) else r.session.isSome && !r.covered && decide (r.next < r.top)
    if !due then s
    else if !ok then s.raise .freshWrite (.domain 47)
    else if top then s.setRel fun r => { r with top := r.top + 256 }
    else s.setRel fun r => { r with mark := (r.next / 16 + 1) * 16 }

/-- A read-back level differs from the level driven (R338). -/
def Release.mismatch (r : Release) (readA readB : Bool) : Bool := readA != r.relA || readB != r.relB

/-- REL_HALF_PERIOD (R337, R338): the levels read back in the middle of a half-period, and its end. A mismatch acts from the middle on, as
a fault. -/
def execEvRelHalfPeriod (dt : Nat) (readA readB : Bool) (s : State) : Host.Outcome State Fault Refusal :=
  occurLive dt s (k := faultRank (s.rel.mismatch readA readB)) fun s =>
    if s.rel.pattern ∧ s.rel.mismatch readA readB = true ∧ s.rel.halfAt + 250 * usT ≤ s.now then
      (s.relClamp.setRel fun r => { r with relPin := true }).raise .relPin (.domain 47)
    else if s.rel.pattern ∧ s.rel.mismatch readA readB = false ∧ s.rel.halfAt + 500 * usT ≤ s.now then
      if s.rel.stopping then s.relClamp
      else s.setRel fun r => { r with relA := !r.relA, relB := !r.relB, halfAt := r.halfAt + 500 * usT }
    else s

/-- CANB_BUSOFF (R335): a transmit error count of 256 takes the controller off the bus; the session goes on. -/
def execEvCanbBusoff (dt : Nat) (s : State) : Host.Outcome State Fault Refusal :=
  occurFault dt s fun s =>
    if s.rel.canb.transmits || s.rel.canb.busOff || !s.domUp 47 then s else
      (s.setRel fun r => { r with canb := { r.canb with busOff := true, offAt := s.now, tec := 255, busOffs := (r.canb.busOffs + 1) % 256 }
                                  cur := if r.curGone then none else r.cur }).raise .canbBusoff (.domain 47)

/-- Nominal bit time of a CAN setting, and data bit time, in periods of 80 MHz (R340). -/
def nominalQuanta (v : Nat) : Nat := (bits v 31 24 + 1) * (bits v 23 16 + bits v 15 8 + 3)
def dataQuanta (v : Nat) : Nat := (bits v 30 24 + 1) * (bits v 23 16 + bits v 15 8 + 3)

/-- Ticks of n nominal bits on a bus; a period of 80 MHz is 19,968 / 5 ticks (R340). -/
def Can.bitTicks (c : Can) (n : Nat) : Nat := n * nominalQuanta c.nbt.toNat * 19968 / 5

/-- CANB_BUSOFF_RECOVER (R335): after 128 times 11 recessive bits error active again, both counters 0 (ISO 11898-1). -/
def execEvCanbBusoffRecover (dt : Nat) (s : State) : Host.Outcome State Fault Refusal :=
  occurLive dt s fun s =>
    if s.rel.canb.busOff && decide (s.rel.canb.offAt + s.rel.canb.bitTicks (128 * 11) ≤ s.now) then
      (s.setRel fun r => { r with canb := { r.canb with busOff := false, tec := 0, recZeroAt := s.now } }).relNext
    else s

/-! ### The START sampler -/

/-- Change the sampler. -/
def State.setStart (s : State) (f : Start → Start) : State := { s with start := f s.start }

/-- Number of the last sample: one every 62.5 µs since D47 rose, none while it is not up (R327, R329). -/
def State.startSample (s : State) : Nat := (s.start.fellAt.getD s.now - s.start.base) / 19968000

/-- DEB (R327). -/
def Start.deb (c : Start) : Nat := bits c.cfg 19 16

/-- A filtered level of a channel may change at sample n: DEB consecutive raw samples stand at the new level since the channel's last edge,
or since D47 rose, whose instant is sample 0 (log 172). -/
def Start.mayChange (c : Start) (ch n : Nat) : Bool :=
  match (if ch = 0 then c.edgeA else c.edgeB) with
  | some e => decide (e + c.deb ≤ n)
  | none => decide (c.deb ≤ n + 1)

/-- DISC_SAMPLES. -/
def Start.limit (c : Start) : Nat := bits c.cfg 12 0

/-- A request that has ended ends the session (R336). -/
def State.startWithdrawn (s : State) (before : Bool) : State :=
  if before && !s.startRequest then s.relFinish 1 else s

/-- The START discrepancy fault latches at sample e1 + DISC_SAMPLES + 1 (R328). -/
def State.startFault (s : State) (d : Disc) : State :=
  let n := d.e1 + s.start.limit + 1
  let c := s.start
  let s := s.setStart fun c => { c with disc := none, fault := true, firstB := d.firstB, count := (c.count + 1) % 65536 }
  s.raise .startDisc (.domain 47)
    (natLE 4 d.e1 ++ natLE 4 n ++ natLE 1 (b2n c.rawA + 2 * b2n c.rawB) ++ natLE 1 (b2n d.firstB) ++ natLE 2 0)

/-- START_EDGE (R327 to R329): the filtered level of channel A (0) or B (1) changes at this sample; raw levels of the
pins. Requested is high on START_A and low on START_B. DEB samples have stood at the new level; an edge that withdraws the request comes
before the lapse of the window in one PERI cycle (R336). -/
def execEvStartEdge (dt ch : Nat) (rawA rawB : Bool) (s : State) : Host.Outcome State Fault Refusal :=
  occurLive dt s fun s =>
    let c := s.start
    let new := if ch = 0 then rawA else !rawB
    let old := if ch = 0 then c.filtA else c.filtB
    let n := s.startSample
    if !s.domUp 47 || decide (1 < ch) || new == old || !c.mayChange ch n || s.relJustEnded none [0] then s else
    let before := s.startRequest
    let s := s.setStart fun c => { c with rawA := rawA, rawB := rawB, filtA := if ch = 0 then new else c.filtA
                                          filtB := if ch = 0 then c.filtB else new
                                          edgeA := if ch = 0 then some n else c.edgeA, edgeB := if ch = 0 then c.edgeB else some n }
    let s := match c.disc with
      | none =>
        if c.filtA = c.filtB then s.setStart fun c => { c with disc := some ⟨n, ch == 1⟩ } else s
      | some d =>
        if d.e1 + c.limit < n then s.startFault d
        else if d.firstB = (ch == 1) then s.setStart fun c => { c with disc := none }
        else s.setStart fun c => { c with disc := none, sep := min 8191 (n - d.e1) }
    let s := if !s.start.filtA && !s.start.filtB then s.setStart fun c => { c with idleSince := n } else s
    s.startWithdrawn before

/-- START_DISC_LIMIT (R328): a discrepancy outlasts DISC_SAMPLES. -/
def execEvStartDiscLimit (dt : Nat) (rawA rawB : Bool) (s : State) : Host.Outcome State Fault Refusal :=
  occurFault dt s fun s =>
    match s.start.disc with
    | some d =>
      if s.domUp 47 ∧ d.e1 + s.start.limit + 1 ≤ s.startSample ∧ s.relJustEnded none [0] = false then
        let before := s.startRequest
        ((s.setStart fun c => { c with rawA := rawA, rawB := rawB }).startFault d).startWithdrawn before
      else s
    | none => s

/-- W1C of START_FAULT: clears only when both filtered levels have stood at not requested for 16 samples (R329). -/
def State.startClear (s : State) (v : Word) : State :=
  let c := s.start
  if v.toNat.testBit 0 && c.fault && !c.filtA && !c.filtB && decide (c.idleSince + 16 ≤ s.startSample) then
    s.setStart fun c => { c with fault := false, firstB := false }
  else s

/-- D47 has risen: both filtered levels start at not requested (R327). -/
def State.startRise (s : State) : State :=
  s.setStart fun c =>
    { c with
      filtA := false, filtB := false, disc := none, base := s.now, fellAt := none
      edgeA := none, edgeB := none, idleSince := 0 }

end Sys2Proof.Machine
end

