-- ==== Sys2Proof/Machine/PowerEvents.lean ====
section
/-! DEFINITION. Domains, votes, clocks and sleep: what the power unit does by itself (R473 to R492). -/

namespace Sys2Proof.Machine

open Sys2Proof

/-- Change the power unit. -/
def State.setPower (s : State) (f : Power → Power) : State := { s with power := f s.power }

/-! ### VOTE_SET in wait (R491) -/

/-- Complete the waiting VOTE_SETs whose added domains are all up. -/
def State.votesDone (s : State) : State :=
  s.power.voteWaits.foldl (fun s w =>
    if w.added.all s.domUp then
      let s := s.setPower fun p => { p with voteWaits := p.voteWaits.filter fun v => v.key != w.key }
      s.finish w.key (if w.deferred.isEmpty then .ok else .okDeferred) (natLE 1 w.deferred.length)
    else s) s

/-- Waiting VOTE_SETs with an added domain that failed to rise complete UNIT_UNUSABLE; their votes stand (R491). -/
def State.votesFailed (s : State) (ds : List Nat) : State :=
  s.power.voteWaits.foldl (fun s w =>
    if w.added.any ds.contains then
      let s := s.setPower fun p => { p with voteWaits := p.voteWaits.filter fun v => v.key != w.key }
      s.finish w.key .unitUnusable (natLE 1 w.deferred.length)
    else s) s

/-- VOTE_HOLDOFF_LAPSE (R107, R114, R143, R171, R236, R255, R479): a delayed withdrawal of V32 takes effect. -/
def execEvVoteHoldoffLapse (dt d : Nat) (s : State) : Host.Outcome State Fault Refusal :=
  occurLive dt s fun s =>
    match Tbl.find s.power.holdoffs d with
    | some t =>
      if t ≤ s.now then
        let m := s.vote voterSched
        let m := if m.testBit d then m - 2 ^ d else m
        s.setPower fun p => { p with holdoffs := Tbl.del p.holdoffs d, votes := vset p.votes voterSched m }
      else s
    | none => s

/-! ### Rises and falls -/

/-- What a domain's units do once it is up: calibrations start, and their ages go on (R171, R183, R223, R237), the TSC restarts (R196), the vault is
reloaded and the entropy source starts (R350, R358, R361), the START sampler begins (R327). -/
def State.risen (s : State) (d : Nat) : State :=
  if d = 29 then
    { s with uwb := { s.uwb with cal := some (s.uwb.lastch, s.now), rising := true, mode := .cal
                                 calAt := s.uwb.calAt.map fun t => s.now - (s.uwb.fell - t) }
             rng := { s.rng with base5 := none, base9 := none } }
  else if d = 30 then
    let s := s.setPower fun p => { p with rootLock := true, xtalOk := true }
    { s with rng := { s.rng with tscBase := s.now, era := (s.rng.era + 1) % 65536, alignValid := false } }
  else if d = 33 then
    let band := s.uhf.sniff.elim s.uhf.lastBand (·.search.band)
    { s with uhf := { s.uhf with cal := some (band, s.now), mode := .cal } }
  else if d = 43 then
    let ent := if s.sec.ent = .alarm ∨ s.marked unitEntropy then s.sec.ent else .startUp
    let sec := { s.sec with ent := ent, startPos := 0, blockAt := s.now, cells := Vector.replicate 4 CellTest.reset, scrambleKey := [], maskKey := [], sysDrbg := [] }
    ({ s with sec := sec } : State).vaultReload
  else if d = 47 then s.startRise
  else s

/-- DOMAIN_RISE_DONE (R489): a domain finishes rising, at most twice its rise time after its start. -/
def execEvDomainRiseDone (dt d : Nat) (s : State) : Host.Outcome State Fault Refusal :=
  occurAt rankUnit dt s fun s =>
    let sniffs := d == 33 && s.uhf.sniff.isSome
    if s.power.mode == .awake || s.power.waking || sniffs then
      match s.dom d with
      | .rising t =>
        if s.now ≤ t + 2 * riseUs d * usT ∧ (d = 30 ∨ s.domUp 30 ∨ sniffs = true) then
          let s := ((s.setDom d .up).risen d).votesDone.serveEngines
          if s.power.restoring && s.domUp 30 && s.domUp 43 && s.domUp 46 then s.setPower fun p => { p with restoring := false }
          else s
        else s
      | _ => s
    else s

/-- The work that the fall of a domain waits for has ended: coil dumps (R155), an NVM operation (R490). -/
def State.mayFall (s : State) (d : Nat) : Bool :=
  if 35 ≤ d ∧ d < 39 then
    (s.lf.coil (2 * (d - 35))).dump.isNone && (s.lf.coil (2 * (d - 35) + 1)).dump.isNone
  else if d = 46 then s.life.jobs.isEmpty
  else true

/-- A deferred rise begins (R490): PWR_DEFER, and LF_DEFER for an LF pair (R156). -/
def State.deferredRise (s : State) (d since : Nat) : State :=
  let us := sat 0xFFFF ((s.now - since) / usT)
  let s := s.setPower fun p => { p with deferDelay := us, deferCount := (p.deferCount + 1) % 256, deferDomain := d }
  let s : State := if 35 ≤ d ∧ d < 39 then
      { s with lf := { s.lf with deferDelay := us, deferCount := (s.lf.deferCount + 1) % 256
                                 deferCoils := s.lf.coilEn &&& (3 * 4 ^ (d - 35)) } }
    else s
  s.setDom d (.rising s.now)

/-- DOMAIN_FALL_DONE (R490): the domain is off, and rises at once when a deferred vote stands. -/
def execEvDomainFallDone (dt d : Nat) (s : State) : Host.Outcome State Fault Refusal :=
  occurAt rankUnit dt s fun s =>
    if s.mayFall d then
      match s.dom d with
      | .falling _ none => s.setDom d .down
      | .falling _ (some u) => s.deferredRise d u
      | _ => s
    else s

/-- DOMAIN_RISE_TIMEOUT (R413, R489): a domain is not up within twice its rise time. -/
def execEvDomainRiseTimeout (dt d : Nat) (s : State) : Host.Outcome State Fault Refusal :=
  occurAt rankFault dt s fun s =>
    if s.power.mode == .awake || s.power.waking then
      match s.dom d with
      | .rising t => if t + 2 * riseUs d * usT < s.now then (s.setDom d .down).raise .domainRise (.domain d) else s
      | _ => s
    else s

/-! ### Clocks -/

/-- REFIN_QUALIFY_CHANGE (R473): on a slave in a cascade role the reference follows REFIN while it qualifies; its loss
clears VALID (R444). -/
def execEvRefinQualifyChange (dt : Nat) (qualifies : Bool) (s : State) : Host.Outcome State Fault Refusal :=
  occurLive dt s fun s =>
    if s.gal.isSlave && s.power.refQual != qualifies then
      let s := s.setPower fun p => { p with refQual := qualifies, refSrc := qualifies, switches := (p.switches + 1) % 65536 }
      if qualifies then s else { s with rng := { s.rng with alignValid := false } }
    else s

/-- ROOT_LOCK_LOST (R474): lost for 1 us while D30 is up. Where a clock loss of the same event has qualified as tamper, it is recorded beside
it; it is told once that is decided (log 229). -/
def execEvRootLockLost (dt : Nat) (s : State) : Host.Outcome State Fault Refusal :=
  occurAt rankFault dt s fun s =>
    if s.domUp 30 then
      let t := s.setPower fun p => { p with rootLock := false, clockLost := false }
      if s.power.clockLost then t.recordFault .rootLock .device [] else t.raise .rootLock .device
    else s

/-- One calibration of SLOW: the error found is kept and trimmed away (R475). -/
def Power.slowCalibrated (p : Power) (err : Int) (now : Nat) : Power :=
  { p with slowErr := err, slowTrim := p.slowTrim - err, slowCals := (p.slowCals + 1) % 65536, slowAt := now }

/-- SLOW_CALIBRATE (R475): every 1,000 ms while D30 is up; `err` is what was found, in 0.01 %. -/
def execEvSlowCalibrate (dt : Nat) (err : Int) (s : State) : Host.Outcome State Fault Refusal :=
  occurLive dt s (k := faultRank (decide (200 < err.natAbs))) fun s =>
    if s.domUp 30 && decide (s.power.slowAt + 1000 * msT ≤ s.now) then
      let s := s.setPower fun p => p.slowCalibrated err s.now
      if 200 < err.natAbs then s.raise .slowCal .device else s
    else s

/-! ### Going to sleep (R478 to R483) -/

/-- Lowest voter that holds a refusing vote on a domain: neither V33's nor a hold-off of V32 (R479). -/
def State.refusingVoter (s : State) (d : Nat) : Option Nat :=
  (List.range 64).find? fun v => v != voterAwake && (s.revoteNvm.vote v).testBit d
    && !(v == voterSched && (Tbl.find s.power.holdoffs d).isSome)

/-- Domains that hold a refusing vote. -/
def State.refusingDomains (s : State) : List Nat := (List.range 50).filter fun d => (s.refusingVoter d).isSome

/-- Failed conditions of R478, as REASON [7:0]. -/
def State.sleepReason (s : State) : Nat :=
  let lands := s.landings.toList
  let c0 := lands.any fun x => x.busy || x.draining || x.pending.isSome
  let c1 := s.host.credits.toList.any (· != 64) || !s.host.cq.isEmpty || !s.host.items.isEmpty
  let c2 := s.rel.session.isSome
  let c3 := s.dma.chans.toList.any (·.active)
  let c4 := s.evd.mode != .armed || !s.evd.filled.isEmpty
  let c5 := s.faults.mode != .normal
  let c6 := s.gal.role != .standalone
  let c7 := !s.refusingDomains.isEmpty
  b2n c0 + 2 * b2n c1 + 4 * b2n c2 + 8 * b2n c3 + 16 * b2n c4 + 32 * b2n c5 + 64 * b2n c6 + 128 * b2n c7

/-- The effect of a write to PWR_REQ on PWR_RESULT and the power unit (R478 to R480). -/
def State.powerReq (s : State) (target : PwrMode) : State :=
  let why := s.sleepReason
  if why ≠ 0 then
    let s' := s.refusingDomains.foldl (fun t d => t.setPower fun p => p.refuse d ((s.refusingVoter d).getD 0xFF)) s
    let voter := s.refusingDomains.foldl (fun m d => min m ((s.refusingVoter d).getD 0xFF)) 0xFF
    s'.setPower fun p => { p with outcome := 2, reason := why, voter := voter }
  else
    s.setPower fun p => { p with outcome := 1, reason := 0, voter := 0xFF, entering := some target, holdoffs := []
                                 votes := Vector.replicate 64 0 }

/-- PWR_ENTRY_DONE (R480): every domain is down, and the switch-off enters the target state. Entering LOBBY calibrates SLOW once
more; the error it finds is a free value, and SLOW_CAL is raised for it as R475 says. -/
def execEvPwrEntryDone (dt : Nat) (s : State) : Host.Outcome State Fault Refusal :=
  occurAt rankUnit dt s fun s =>
    match s.power.entering with
    | some m =>
      if (List.range 50).all fun d => s.dom d == .down then
        let s : State := if m = .lobby then
            let (s, e) := s.draw
            let s := s.setPower fun p => p.slowCalibrated (sgn 16 e) s.now
            if 200 < (sgn 16 e).natAbs then s.raise .slowCal .device else s
          else s
        s.switchOff m
      else s
    | none => s

/-! ### Waking (R484, R485) -/

/-- WAKE_TIMER_LAPSE: the wake timer lapses in LOBBY. -/
def execEvWakeTimerLapse (dt : Nat) (s : State) : Host.Outcome State Fault Refusal :=
  occurAt rankUnit dt s fun s =>
    let p := s.power
    if p.mode == .lobby && p.wakeCfg.testBit 9 && p.wtimer != 0 && p.slowSince.any fun t => decide (p.wtimer * msT ≤ slowCounts t s.now)
    then s.beginWake 2 else s

end Sys2Proof.Machine
end

