-- ==== Sys2Proof/Machine/FaultEvents.lean ====
section
/-! DEFINITION. Detection of faults that have no other event, the end of a recovery, and the event log (R413 to R422). -/

namespace Sys2Proof.Machine

open Sys2Proof

/-- Detail of a class 1 fault (R416). -/
def sramDetail (addr : Nat) (l : Option Nat) (pc : Nat) : List Byte := natLE 4 addr ++ natLE 2 (l.getD 0xFFFF) ++ natLE 2 pc

/-- Both journal copies of a tenant fail: it is revoked with REVOKED_BY 3 (R321). -/
def State.loseTenant (s : State) (t why : Nat) : State :=
  match s.tenant t with
  | none => s
  | some r => if r.st = 3 then s else
    let s := s.modTenant t fun r => { r with st := 3, revokedBy := why, keys := 0, wrapped := [], lockEnd := none }
    { s with ten := { s.ten with lost := s.ten.lost + 1 } }

/-- FAULT_DETECTED (R413, R414): `kind` is the cause code of a fault that no other command stands for; `index` its landing,
page, sector, tenant or coil; `addr` the SRAM byte address; `extra` the region of a memory error (FaultAt) plus 8 times the byte
offset in it. -/
def execEvFaultDetected (dt kind index addr extra : Nat) (s : State) : Host.Outcome State Fault Refusal :=
  occurAt rankFault dt s fun s =>
    if !(s.power.mode == .awake) || s.sec.scan then s else
    let w : FaultAt := ⟨extra % 8, extra / 8⟩
    let pc := (s.land index).pc
    match kind with
    | 0x11 =>
      if w.region = 4 then (if index < 8 then s.raiseAt .sramUe (.page index) (sramDetail addr none 0) w else s)
      else if index < 192 then s.raiseAt .sramUe (.landing index) (sramDetail addr (some index) pc) w
      else s
    | 0x12 => if index < 192 then s.raiseAt .contextUe (.landing index) (sramDetail addr (some index) pc) w else s
    | 0x13 => s.raise .queueUe .device (sramDetail addr none 0)
    | 0x14 => s.raise .vaultUe (.engine 5) (sramDetail addr none 0)
    | 0x15 => s.raise .ceRate .device (sramDetail addr none 0)
    | 0x21 => if index < 1024 then s.raise .nvmRead (.sector index) (s.sectorDetail index) else s
    | 0x22 => if index < 1024 then s.raise .nvmProg (.sector index) (s.sectorDetail index) else s
    | 0x23 => if index < 1024 then s.raise .nvmErase (.sector index) (s.sectorDetail index) else s
    | 0x25 => if index < 1024 then s.raise .copyBad (.tenant index) (natLE 2 index) else s
    | 0x26 => if index < 1024 then (s.loseTenant index 3).raise .tenantLost (.tenant index) (natLE 2 index) else s
    | 0x41 => if s.live && decide (index < 8) then s.lfOpen index else s
    | 0x43 => if s.live && decide (index < 8) then s.lfRange index else s
    | 0x63 => (s.abortEntry 10 0xFD 30).raise .vddWarn .device
    | 0x64 => s.raise .buckOc .device
    | _ => s

/-- The operation of an engine has run beyond twice its stated maximum (R413): of a crypto step; of a TLOAD on WRAP, 20 us; of an item whose
message is all but delivered, 2.6 ms for a verification (R347, R352). -/
def State.overlong (s : State) (e : Nat) : Bool :=
  (match Tbl.find s.sec.busy e with
   | some l => match (s.land l).wait with
     | .crypto j => j.engine == some e && decide (j.since + 2 * j.most < s.now)
     | _ => false
   | none => false)
  || (e == 10 && s.sec.unwraps.any fun p =>
        (match (s.land p.1).wait with | .tload _ _ true => true | _ => false) && decide (p.2 + 40 * usT < s.now))
  || s.dma.chans.toList.any fun c => c.active && (match c.desc with
      | some d => s.lastOfItem d e && decide (d.lastGranule + 5200 * usT < s.now)
      | none => false)

/-- ENGINE_STALL (R413): an operation of the engine in use runs beyond twice its stated maximum. -/
def execEvEngineStall (dt engine : Nat) (s : State) : Host.Outcome State Fault Refusal :=
  occurFault dt s fun s => if s.overlong engine then s.raise .engineStall (.engine engine) else s

/-- PIPE_STALL (R413): a pipe of the half that serves a landing has reached no step boundary for 256 CORE cycles and more. -/
def execEvPipeStall (dt half : Nat) (s : State) : Host.Outcome State Fault Refusal :=
  occurFault dt s fun s =>
    if (List.range 4).any fun i =>
        let q := vget s.sched.pipes (4 * half + i) Pipe.reset
        q.serving.isSome && decide (q.stepAt + 256 * coreT < s.now) then
      s.raise .pipeStall (.pipeHalf half)
    else s

/-- DMA_STALL (R413): a running descriptor has delivered no granule for 100 us, and waits for no engine. -/
def execEvDmaStall (dt ch : Nat) (s : State) : Host.Outcome State Fault Refusal :=
  occurFault dt s fun s =>
    match (s.dma.chan ch).active, (s.dma.chan ch).desc with
    | true, some d => if d.lastGranule + 100 * usT ≤ s.now ∧ s.stageHeld d = false then s.raise .dmaStall (.dma ch) else s
    | _, _ => s

/-- Work that the recovery ends has ended: no flight inside the set is still on its way to its end (R418 step 2). -/
def State.workEnded (s : State) : Bool :=
  !(s.landsIn s.faults.scopes fun x => x.busy).any fun l =>
    let x := s.land l
    x.endReq.isSome || (match x.wait with | .ending _ => true | _ => false)

/-- Crypto steps that waited out a recovery for an engine that is now marked end UNIT_UNUSABLE (R420). -/
def State.dropQueued (s : State) : State :=
  s.sec.queue.foldl (fun s l =>
    match (s.land l).wait with
    | .crypto j =>
      if (List.range 11).any fun e => j.needs.testBit e && s.engineUsable e then s
      else
        let s : State := { s with sec := { s.sec with queue := s.sec.queue.filter (· != l) } }
        s.cryptoEnds l { j with code := .unitUnusable, writes := [], handle := none, proof := false }
    | _ => s) s

/-- Sectors of a set. -/
def sectorsOf (set : List Scope) : List Nat := set.filterMap fun c => match c with | .sector n => some n | _ => none

/-- Domains of a set. -/
def domainsOf (set : List Scope) : List Nat := set.filterMap fun c => match c with | .domain n => some n | _ => none

/-- RECOVERY_END (R418 steps 4 and 5): the ledgers are checked, the set is released, FLT_TIME is written; sectors taken out of
use are remapped; commands of the cascade that waited are applied (R430). -/
def execEvRecoveryEnd (dt : Nat) (s : State) : Host.Outcome State Fault Refusal :=
  occurAt rankUnit dt s fun s =>
    let f := s.faults
    if f.mode == .recovery && s.workEnded && decide (s.now ≤ f.restarted + 2000 * usT) then
      let s := s.checkLedgers
      if s.faults.mode != .recovery then s else
      let us := sat 0xFFFF ((s.now - f.opened) / usT)
      let s : State := { s with faults := { s.faults with
        mode := .normal, depth := 0, causes := [], scopes := [], lastTime := us, longest := max s.faults.longest us } }
      let s := (sectorsOf f.scopes).foldl State.remapSector s
      let s := (s.votesFailed (domainsOf f.scopes)).dropQueued.serveEngines
      if s.gal.isSlave then s.galDo State.drain else s
    else s

/-- RECOVERY_OVERRUN (R418): a recovery exceeds 2 ms from its start or its last restart. -/
def execEvRecoveryOverrun (dt : Nat) (s : State) : Host.Outcome State Fault Refusal :=
  occurAt rankFault dt s fun s =>
    if s.faults.mode == .recovery && decide (s.faults.restarted + 2000 * usT < s.now) then s.raise .overrun .device else s

/-- The 32 bytes of an event record (R416). -/
def eventBytes (seq : Nat) (e : EvPending) : List Byte :=
  let b := natLE 4 seq ++ natLE 2 e.epoch ++ natLE 1 e.cause ++ natLE 1 e.flags ++ natLE 2 e.scope ++ natLE 6 e.us ++ padTo 12 e.detail
  b ++ natLE 4 (crc32 b)

/-- Sector of the event log ring that takes the record after the first n: 128 records a sector, 192 sectors (R389, R416). -/
def logSector (n : Nat) : Nat := 624 + n / 128 % 192

/-- That record opens a sector which holds an older lap of the ring, and which is erased first (R393). -/
def logErases (n : Nat) : Bool := n % 128 == 0 && decide (24576 ≤ n)

/-- EVENT_RECORD_WRITE (R416): the oldest waiting record is written to the ring, which keeps the 24,448 newest. -/
def execEvEventRecordWrite (dt : Nat) (s : State) : Host.Outcome State Fault Refusal :=
  occurAt rankUnit dt s fun s =>
    match s.faults.evPending with
    | e :: rest =>
      if s.domUp 46 && !s.sec.scan then
        let f := s.faults
        let seq := f.evHead + 1
        { s with life := if logErases f.evHead then s.life.eraseRing s.host.epoch.toNat (logSector f.evHead) else s.life
                 faults := { f with evPending := rest, evHead := seq
                                    evLog := ((seq, eventBytes seq e) :: f.evLog).take 24448 } }
      else s
    | [] => s

end Sys2Proof.Machine
end

