-- ==== Sys2Proof/Machine/TagOps.lean ====
section
/-! DEFINITION. The tag port, the field store and FIELD_WAKE (R263 to R281). The TAG domain acts in every power state. -/

namespace Sys2Proof.Machine

open Sys2Proof

/-- Replace the tag state. -/
def State.setTag (s : State) (t : Tag) : State := { s with tag := t }

/-! ### The store -/

/-- CRC of a slot: over its data and SEQ (R268). -/
def slotCrc (data : List Byte) (seq : Nat) : Nat := lfCrc (data ++ natLE 2 seq)

/-- An erased slot. -/
def StoreSlot.erased : StoreSlot := ⟨[], 0, 0, 0xFF⟩

/-- A slot is valid (R268). -/
def StoreSlot.valid (x : StoreSlot) : Bool := x.flag == 0xA5 && x.crc == slotCrc x.data x.seq

/-- A SEQ is newer than another, modulo 65,536 (R268). -/
def newer16 (a b : Nat) : Bool := let d := (a + 65536 - b) % 65536; decide (1 ≤ d) && decide (d ≤ 32767)

/-- Slot i of block b. -/
def Tag.slot (t : Tag) (b i : Nat) : StoreSlot := Tbl.get t.slots (2 * b + i) StoreSlot.erased

/-- The selected slot of a block: 0 or 1, or none when neither is valid (R268). -/
def Tag.selected (t : Tag) (b : Nat) : Option Nat :=
  match (t.slot b 0).valid, (t.slot b 1).valid with
  | true, true => if newer16 (t.slot b 1).seq (t.slot b 0).seq then some 1 else some 0
  | true, false => some 0
  | false, true => some 1
  | false, false => none

/-- Contents of a block (R268). -/
def Tag.block (t : Tag) (b : Nat) : List Byte :=
  match t.selected b with
  | some i => padTo 32 (t.slot b i).data
  | none => List.replicate 32 0

/-- SEQ of a block's selected slot. -/
def Tag.blockSeq (t : Tag) (b : Nat) : Nat :=
  match t.selected b with | some i => (t.slot b i).seq | none => 0

/-- Fields of block 0 and block 1 (R269). -/
def Tag.cfg (t : Tag) (o : Nat) : Nat := byteAt (t.block 0) o
def Tag.enabled (t : Tag) : Bool := (t.cfg 8).testBit 0
def Tag.fdWake (t : Tag) : Bool := (t.cfg 8).testBit 1
def Tag.cnt (t : Tag) : Nat := fieldLE (t.block 1) 0 4
def Tag.fails (t : Tag) : Nat := byteAt (t.block 1) 4
def Tag.jhead (t : Tag) : Nat := byteAt (t.block 1) 5
def Tag.jseq (t : Tag) : Nat := fieldLE (t.block 1) 8 4
def Tag.jack (t : Tag) : Nat := fieldLE (t.block 1) 12 4
def Tag.failLimit (t : Tag) : Nat := t.cfg 10
def Tag.keyPresent (t : Tag) (k : Nat) : Bool := (byteAt (t.block (2 + k)) 28).testBit 0
def Tag.uid (t : Tag) : List Byte := (t.block 0).take 4

/-- Block 1 with new counters. -/
def Tag.counters (t : Tag) (cnt fails jhead jseq jack : Nat) : List Byte :=
  natLE 4 cnt ++ [BitVec.ofNat 8 fails, BitVec.ofNat 8 jhead] ++ (sliceP (t.block 1) 6 2) ++ natLE 4 jseq ++ natLE 4 jack
  ++ sliceP (t.block 1) 16 16

/-- The bytes a write programs, as its block stands when it starts. -/
def Tag.putBytes (t : Tag) (p : StorePut) : List Byte :=
  match p with
  | .bytes bs => padTo 32 bs
  | .clearFails => t.counters t.cnt 0 t.jhead t.jseq t.jack
  | .jack v => t.counters t.cnt t.fails t.jhead t.jseq v
  | .challenge => t.counters ((t.cnt + 1) % 2 ^ 32) t.fails t.jhead t.jseq t.jack
  | .verdict pass =>
    t.counters t.cnt (if pass then 0 else (t.fails + 1) % 256) ((t.jhead + 1) % 28) ((t.jseq + 1) % 2 ^ 32) t.jack

/-- A block write may start: VDD present, or VTAG at its write level (R267). -/
def Tag.canWrite (t : Tag) : Bool := t.vdd || (t.vtagOk && t.vtagWrite)

/-- Start the write at the head of the path, when it has not started: the shadow slot is erased and programmed; its
FLAG comes last (R267). -/
def Tag.startHead (now : Nat) (t : Tag) : Tag :=
  match t.path with
  | w :: rest =>
    match w.started with
    | some _ => t
    | none =>
      let i := match t.selected w.block with | some 0 => 1 | _ => 0
      let bs := t.putBytes w.put
      let slots := Tbl.put t.slots (2 * w.block + i) ⟨bs, (t.blockSeq w.block + 1) % 65536, 0, 0xFF⟩
      { t with path := { w with started := some now, slot := i, bytes := bs } :: rest, slots := slots }
  | [] => t

/-- A wire-side write is queued or in progress (R281). -/
def Tag.wbusy (t : Tag) : Bool := !t.wire.isEmpty || t.path.any (·.wire)

/-- Issue a field-side write to the path: before a wire-side write issued at the same instant (R270). -/
def Tag.issue (now b : Nat) (p : StorePut) (t : Tag) : Tag :=
  let w : StoreWrite := ⟨b, p, false, now, none, none, 0, []⟩
  match t.path with
  | [v] =>
    if v.wire && v.started == some now then
      ({ t with path := [w], wire := { v with started := none, bytes := [] } :: t.wire }).startHead now
    else { t with path := [v, w] }
  | _ => ({ t with path := t.path ++ [w] }).startHead now

/-- Issue the next waiting wire-side write once no field command and no other wire-side write is in progress (R270,
R271); one that the supply cannot carry is not started, and fails. -/
def Tag.issueWire (now : Nat) (t : Tag) : Tag :=
  match t.wire with
  | w :: rest =>
    if t.cmd.isNone && !t.path.any (·.wire) then
      let t := { t with wire := rest, waitUs := sat 0xFFFF ((now - w.since) / usT) }
      if t.canWrite then ({ t with path := t.path ++ [w] }).startHead now else { t with wfailed := true }
    else t
  | [] => t

/-- Queue a wire-side write: the host's (R281), or the device's own of a key cell (R279). -/
def Tag.queueWire (now b : Nat) (p : StorePut) (item : Option (ItemKey × List Byte)) (t : Tag) : Tag :=
  ({ t with wire := t.wire ++ [StoreWrite.mk b p true now item none 0 []], wblock := b, wdone := false, wfailed := false }).issueWire now

/-- Queue a wire-side write of the host (R281). -/
def Tag.hostWrite (now b : Nat) (p : StorePut) (t : Tag) : Tag := t.queueWire now b p none

/-- Queue a write of a key cell by the device (R279). -/
def Tag.mirror (now k : Nat) (bs : List Byte) (item : Option (ItemKey × List Byte)) (t : Tag) : Tag :=
  t.queueWire now (2 + k) (.bytes bs) item

/-- A key cell (R269, R279). -/
def keyCell (key : List Byte) (devid : Nat) : List Byte := padTo 16 key ++ natLE 12 devid ++ [1, 0, 0, 0]

/-- Zero the four key cells while VDD remains (R279). -/
def State.zeroCells (s : State) : State :=
  if s.tag.vdd then s.setTag ((List.range 4).foldl (fun t k => t.mirror s.now k (List.replicate 32 0) none) s.tag) else s

/-- Both supplies are lost (R263, R268, R272): the TAG domain is reset, and a write in progress leaves its shadow slot
uncommitted. -/
def Tag.dark (t : Tag) : Tag := { Tag.reset with mode := .powerOff, vdd := false, vio := t.vio, fieldLost := t.fieldLost, slots := t.slots }

/-! ### Field, states and FIELD_WAKE -/

/-- Raise FIELD_WAKE for WAKE_MS (R277). -/
def Tag.pulse (now : Nat) (t : Tag) : Tag := { t with wakeEnd := some (now + t.cfg 9 * msT) }

/-- Level of FIELD_WAKE: low while neither VTAG nor VIO is present (R277). -/
def Tag.fieldWake (t : Tag) : Bool := t.wakeEnd.isSome && (t.vtagOk || t.vio)

/-- Leave ACTIVE: the challenge is discarded and the authenticated state ends (R266, R273). -/
def Tag.enter (m : TagMode) (t : Tag) : Tag := { t with mode := m, authed := false, chal := none }

/-- A frame that is not for the present state takes a port that is selected, or being selected, back to IDLE (R264, R265; log 21). -/
def Tag.stray (t : Tag) : Tag :=
  match t.mode with
  | .ready | .active => { t.enter .idle with resp := [] }
  | _ => { t with resp := [] }

/-- Send a response, or none, and end the command in progress; waiting wire-side writes may be issued (R271, R272). -/
def Tag.respond (now : Nat) (bs : List Byte) (t : Tag) : Tag :=
  ({ t with resp := if t.field && !t.mute then bs else [], cmd := none, mute := false }).issueWire now

/-- The field is first detected: FIELD_WAKE pulses where FD_WAKE asks for it, but not for the reader's own field (R277, R278). -/
def Tag.detect (now : Nat) (own : Bool) (t : Tag) : Tag :=
  let u := { t with field := true }
  if !t.field && t.fdWake && !own then u.pulse now else u

/-- WAKE_FIELD_DETECT: the field detector sees an NFC field, VDD being present: with FIELD_EN set it wakes the device, or aborts
an entry (R278, R481, R484). -/
def execEvWakeFieldDetect (dt : Nat) (s : State) : Host.Outcome State Fault Refusal :=
  occurAt rankUnit dt s fun s =>
    let own := s.nfc.fieldOn
    let s := if s.tag.vdd then s.setTag (s.tag.detect s.now own) else s
    if s.tag.vdd && s.power.wakeCfg.testBit 8 && !own then (if s.power.mode == .awake then s.abortEntry 10 0xFD 30 else s.beginWake 1)
    else s

/-- TAG_FIELD_ARRIVE (R264, R277): VTAG reaches VTAG_OK; `writeLevel` tells whether it reaches the write level. -/
def execEvTagFieldArrive (dt : Nat) (writeLevel : Bool) (s : State) : Host.Outcome State Fault Refusal :=
  occurAt rankUnit dt s fun s =>
    s.setTag { s.tag.detect s.now s.nfc.fieldOn with
      vtagOk := true, vtagWrite := writeLevel, mode := if s.tag.mode == .powerOff then .idle else s.tag.mode }

/-- TAG_FIELD_LOSS (R264, R272): VTAG falls; `weak` tells that a field is still detected. With VDD absent the port enters
POWER-OFF and a write in progress is torn; with VDD present the state is kept, and a command in progress gets no response when
the field is lost. -/
def execEvTagFieldLoss (weak : Told Bool) (s : State) : Host.Outcome State Fault Refusal :=
  occurAt rankUnit weak.dt s fun s =>
    let t := { s.tag with field := weak.what, vtagOk := false, vtagWrite := false, fieldLost := s.now
                          mute := s.tag.cmd.isSome && (s.tag.mute || !weak.what) }
    s.setTag (if t.vdd then t else t.dark)

/-- TAG_FIELD_ABSENT_TIMEOUT (R264). -/
def execEvTagFieldAbsentTimeout (dt : Nat) (s : State) : Host.Outcome State Fault Refusal :=
  occurAt rankUnit dt s fun s =>
    let t := s.tag
    if t.vdd && !t.field && decide (t.fieldLost + msT ≤ s.now) then s.setTag (t.enter .idle) else s

/-- TAG_VDD_RISE (R272): the domain moves to VDD without interruption; `vio` tells whether VIO stands. -/
def execEvTagVddRise (vio : Told Bool) (s : State) : Host.Outcome State Fault Refusal :=
  occurAt rankUnit vio.dt s fun s =>
    s.setTag { s.tag with vdd := true, vio := vio.what, mode := if s.tag.mode == .powerOff then .idle else s.tag.mode }

/-- TAG_VDD_FALL (R272): with a field the domain runs on VTAG; without, it is off and a write is torn. `vio` tells whether VIO
stands. -/
def execEvTagVddFall (vio : Told Bool) (s : State) : Host.Outcome State Fault Refusal :=
  occurAt rankUnit vio.dt s fun s =>
    let t := { s.tag with vdd := false, vio := vio.what }
    s.setTag (if t.vtagOk then t else t.dark)

/-- FIELD_WAKE_END (R277). -/
def execEvFieldWakeEnd (dt : Nat) (s : State) : Host.Outcome State Fault Refusal :=
  occurAt rankUnit dt s fun s =>
    match s.tag.wakeEnd with
    | some t => if t ≤ s.now then s.setTag { s.tag with wakeEnd := none } else s
    | none => s

/-- The port takes frames: field present, enabled (R264). -/
def Tag.listens (t : Tag) : Bool := t.field && t.vtagOk && t.enabled && t.mode != .powerOff

/-- The port takes frames, and no command is in progress. -/
def Tag.hears (t : Tag) : Bool := t.listens && t.cmd.isNone

/-- A frame comes while a command of the same session is in progress: the port returns to IDLE, and the command gets no response (log 21). -/
def Tag.breaks (t : Tag) : Bool := t.cmd.isSome && !t.mute && (t.mode == .ready || t.mode == .active)
def Tag.broken (t : Tag) : Tag := { t.stray with mute := true }

/-- A frame reaches the port. -/
def tagFrame (dt : Nat) (s : State) (f : Nat → Tag → Tag) : Host.Outcome State Fault Refusal :=
  occurAt rankUnit dt s fun s =>
    if s.tag.listens then s.setTag (if s.tag.breaks then s.tag.broken else f s.now s.tag) else s

/-- ATQA 0x0004, low byte first (R264). -/
def tagAtqa : List Byte := [0x04, 0x00]

/-- TAG_REQA (R264): answered in IDLE (log 21). -/
def execEvTagReqa (dt : Nat) (s : State) : Host.Outcome State Fault Refusal :=
  tagFrame dt s fun _ t => if t.mode == .idle then { t with mode := .ready, resp := tagAtqa } else t.stray

/-- TAG_WUPA (R264): answered in IDLE and in HALT. -/
def execEvTagWupa (dt : Nat) (s : State) : Host.Outcome State Fault Refusal :=
  tagFrame dt s fun _ t => if t.mode == .idle || t.mode == .halt then { t with mode := .ready, resp := tagAtqa } else t.stray

/-- TAG_HLTA (R264, R266). -/
def execEvTagHlta (dt : Nat) (s : State) : Host.Outcome State Fault Refusal :=
  tagFrame dt s fun _ t => if t.mode == .active then { t.enter .halt with resp := [] } else t.stray

/-- UID bytes with their BCC. -/
def Tag.uidBcc (t : Tag) : List Byte := t.uid ++ [t.uid.foldl (fun a b => a ^^^ b) 0]

/-- TAG_ANTICOLLISION (R264): in READY, with the first `nbits` UID bits equal to `known`, the port answers with its UID
and BCC from the byte that holds the next bit. -/
def execEvTagAnticollision (dt nbits known : Nat) (s : State) : Host.Outcome State Fault Refusal :=
  tagFrame dt s fun _ t =>
    if t.mode == .ready && decide (nbits ≤ 32) && leNat t.uidBcc % 2 ^ nbits == known % 2 ^ nbits then
      { t with resp := t.uidBcc.drop (nbits / 8) }
    else t.stray

/-- TAG_SELECT (R264): SAK 0x00 with CRC_A. -/
def execEvTagSelect (dt : Nat) (uid : List Byte) (s : State) : Host.Outcome State Fault Refusal :=
  tagFrame dt s fun _ t =>
    if t.mode == .ready && uid == t.uidBcc then { t with mode := .active, resp := [0x00] } else t.stray

/-! ### Tag commands -/

/-- A tag command reaches the port: served in ACTIVE (R265). -/
def tagCommand (dt : Nat) (s : State) (f : State → State) : Host.Outcome State Fault Refusal :=
  occurAt rankUnit dt s fun s =>
    if !s.tag.listens then s else if s.tag.breaks then s.setTag s.tag.broken
    else if s.tag.mode == .active then f s else s.setTag s.tag.stray

/-- A tag command that writes: while a command of an earlier session still writes, the port does not serve it (log 21). -/
def tagWriting (dt : Nat) (s : State) (f : State → State) : Host.Outcome State Fault Refusal :=
  tagCommand dt s fun s => if s.tag.cmd.isSome then s.setTag s.tag.stray else f s

/-- Respond at once, beside the write of an earlier session's command that may still be in progress. -/
def State.tagNow (s : State) (st : Nat) (bs : List Byte) : State :=
  s.setTag (if s.tag.cmd.isSome then { s.tag with resp := BitVec.ofNat 8 st :: bs } else s.tag.respond s.now (BitVec.ofNat 8 st :: bs))

/-- Respond with a status and bytes. -/
def State.tagSay (s : State) (st : Nat) (bs : List Byte) : State := s.setTag (s.tag.respond s.now (BitVec.ofNat 8 st :: bs))

/-- TAG_GET_INFO (R265). -/
def execEvTagGetInfo (dt : Nat) (body : List Byte) (s : State) : Host.Outcome State Fault Refusal :=
  tagCommand dt s fun s =>
    let t := s.tag
    if !body.isEmpty then s.tagNow 7 []
    else
      let keys := (List.range 4).foldl (fun m k => if t.keyPresent k then m + 2 ^ k else m) 0
      s.tagNow 0 ([0x01, BitVec.ofNat 8 keys] ++ sliceP (t.block 0) 4 4 ++ sliceP (t.block 0) 12 8)

/-- The field side may reach a block (R266): the masks at block-0 bytes `en` and `au`. -/
def Tag.allows (t : Tag) (b en au : Nat) : Bool :=
  decide (38 ≤ b) && decide (b ≤ 101) && (t.cfg en).testBit ((b - 38) / 8)
  && (!(t.cfg au).testBit ((b - 38) / 8) || t.authed)

/-- TAG_READ (R265, R266). -/
def execEvTagRead (dt : Nat) (body : List Byte) (s : State) : Host.Outcome State Fault Refusal :=
  tagCommand dt s fun s =>
    let b := byteAt body 0
    if body.length ≠ 1 then s.tagNow 7 []
    else if 101 < b then s.tagNow 1 []
    else if !s.tag.allows b 4 6 then s.tagNow 2 []
    else s.tagNow 0 (s.tag.block b)

/-- A field command issues a block write: one that the path would start at once and that the supply cannot carry is not made
(R267). -/
def State.fieldWrite (s : State) (c : TagCmd) (b : Nat) (p : StorePut) : State :=
  if s.tag.path.isEmpty && !s.tag.canWrite then s.tagSay 6 [] else s.setTag (({ s.tag with cmd := some c }).issue s.now b p)

/-- TAG_WRITE (R265, R266): responds once its block is committed. -/
def execEvTagWrite (dt : Nat) (body : List Byte) (s : State) : Host.Outcome State Fault Refusal :=
  tagWriting dt s fun s =>
    let b := byteAt body 0
    if body.length ≠ 33 then s.tagSay 7 []
    else if 101 < b then s.tagSay 1 []
    else if !s.tag.allows b 5 7 then s.tagSay 2 []
    else s.fieldWrite .write b (.bytes (body.drop 1))

/-- TAG_GET_CHALLENGE (R273). -/
def execEvTagGetChallenge (dt : Nat) (body : List Byte) (s : State) : Host.Outcome State Fault Refusal :=
  tagWriting dt s fun s =>
    let k := byteAt body 0
    if body.length ≠ 1 then s.tagSay 7 []
    else
      let s := s.setTag { s.tag with authed := false }
      let t := s.tag
      if 3 < k then s.tagSay 1 []
      else if !t.keyPresent k then s.tagSay 3 []
      else if t.failLimit ≤ t.fails then s.tagSay 4 []
      else (s.setTag { t with chal := none }).fieldWrite (.challenge k) 1 .challenge

/-- A TOKID stands on the deny list (R269). -/
def Tag.denied (t : Tag) (tokid : Nat) : Bool :=
  tokid != 0 && (List.range 32).any fun i => fieldLE (t.block (6 + i / 8)) (4 * (i % 8)) 4 == tokid

/-- TAG_AUTH (R274): the journal entry is issued; block 1 and the response follow its commit. -/
def execEvTagAuth (dt : Nat) (body : List Byte) (s : State) : Host.Outcome State Fault Refusal :=
  tagWriting dt s fun s =>
    if body.length ≠ 20 then s.tagSay 7 []
    else match s.tag.chal with
      | none => s.tagSay 5 []
      | some (tchal, k, cnt) =>
        let t := { s.tag with chal := none }
        let tok := body.take 4
        let prand := sliceP body 4 8
        let tk := (t.block (2 + k)).take 16
        let pk := kdf tk [0x4D, 0x4B, 0x54, 0x47] tok 128
        let pass := (aesCmac pk ([0xD4] ++ tchal ++ prand ++ tok)).take 8 == sliceP body 12 8
        let tmac := (aesCmac pk ([0xD5] ++ prand ++ tchal)).take 8
        let entry := natLE 4 (t.jseq + 1) ++ natLE 4 cnt ++ tok ++ [BitVec.ofNat 8 k, if pass then 0x00 else 0x08,
          BitVec.ofNat 8 (b2n t.vdd), 0] ++ prand ++ List.replicate 8 0
        if t.denied (leNat tok) then (s.setTag t).tagSay 2 []
        else (s.setTag t).fieldWrite (.authJournal pass tmac) (10 + t.jhead) (.bytes entry)

/-- TAG_UNKNOWN_CMD (R265): no response, back to IDLE. -/
def execEvTagUnknownCmd (dt : Nat) (s : State) : Host.Outcome State Fault Refusal :=
  tagFrame dt s fun _ t => t.stray

/-- What follows the commit of a field command's write: a challenge is held while the port is ACTIVE (R273). -/
def State.tagGoes (s : State) (c : TagCmd) : State :=
  let t := s.tag
  match c with
  | .write => s.tagSay 0 []
  | .challenge k =>
    let kc := t.block (2 + k)
    let tchal := (aesEcb false (kc.take 16) (natLE 4 t.cnt ++ sliceP kc 16 12)).take 8
    (s.setTag { t with chal := if t.mode == .active then some (tchal, k, t.cnt) else none }).tagSay 0 (natLE 4 t.cnt ++ tchal)
  | .authJournal pass tmac => s.fieldWrite (.authCount pass tmac) 1 (.verdict pass)
  | .authCount pass tmac =>
    if pass then (s.setTag (({ t with authed := t.mode == TagMode.active } : Tag).pulse s.now)).tagSay 0 tmac else s.tagSay 8 []

/-- The write now first in the path starts, or is not made where the supply cannot carry it (R267, R274). -/
def State.storeNext (s : State) : State :=
  match s.tag.path with
  | [] => s
  | w :: _ =>
    if s.tag.canWrite then s.setTag (s.tag.startHead s.now)
    else if w.wire then s.setTag { s.tag with path := [], wfailed := true }
    else (s.setTag { s.tag with path := [] }).tagSay 6 []

/-- The completion of a KEY_UPDATE follows its key cell (R279). -/
def State.cellDone (s : State) (item : Option (ItemKey × List Byte)) : State :=
  match item with
  | some (k, res) => s.finish k .ok res
  | none => s

/-- STORE_BLOCK_WRITE_DONE (R267, R270): the write in progress programs its FLAG; the next write starts; what waited on
it goes on. -/
def execEvStoreBlockWriteDone (dt : Nat) (s : State) : Host.Outcome State Fault Refusal :=
  occurAt rankUnit dt s fun s =>
    match s.tag.path with
    | [] => s
    | w :: rest =>
      let t := s.tag
      let i := 2 * w.block + w.slot
      let sl := Tbl.get t.slots i StoreSlot.erased
      let t := { t with path := rest, slots := Tbl.put t.slots i { sl with crc := slotCrc sl.data sl.seq, flag := 0xA5 } }
      let t := if w.wire && !t.wbusy then { t with wdone := true } else t
      if w.wire then
        let s := (s.setTag t).storeNext
        (s.setTag (s.tag.issueWire s.now)).cellDone w.item
      else match t.cmd with
        | some c => (s.setTag t).tagGoes c
        | none => s.setTag t

/-! ### Wire-side registers -/

/-- Block 0 contents are inside the ranges of R269. -/
def block0Ok (bs : List Byte) : Bool :=
  decide (byteAt bs 8 < 4) && byteAt bs 9 != 0 && decide (3 ≤ byteAt bs 10) && decide (byteAt bs 10 ≤ 15) && byteAt bs 11 == 0
  && zerosAt bs 20 12

/-- Contents of NFC_TAG_WBUF. -/
def Tag.staged (t : Tag) : List Byte := t.wbuf.toList.flatMap fun w => natLE 4 w.toNat

/-- A write to NFC_TAG_WCMD is legal (R281). -/
def Tag.wcmdOk (t : Tag) (b : Nat) : Bool :=
  (b == 0 && block0Ok t.staged) || (decide (6 ≤ b) && decide (b ≤ 9)) || (decide (38 ≤ b) && decide (b ≤ 101))

/-- A journal SEQ is newer than another, modulo 2 ^ 32 (R276). -/
def newer32 (a b : Nat) : Bool := let d := (a + 2 ^ 32 - b) % 2 ^ 32; decide (1 ≤ d) && decide (d < 2 ^ 31)

/-- Journal entries newer than JACK (NFC_TAG_STATUS JNEW). -/
def Tag.jnew (t : Tag) : Nat :=
  ((List.range 28).filter fun i =>
    let q := fieldLE (t.block (10 + i)) 0 4
    q != 0 && newer32 q t.jack).length

/-- A wire-side write waits behind the field side (NFC_TAG_STATUS WIRE_WAIT). -/
def Tag.wireWaits (t : Tag) : Bool :=
  (!t.wire.isEmpty && t.cmd.isSome) || (match t.path with | w :: rest => !w.wire && rest.any (·.wire) | [] => false)

/-- The TAG domain runs on VDD at an instant (R263): where VTAG stands too, the higher of the two supplies it, which no command tells
(log 215). -/
def Tag.onVdd (t : Tag) (now : Nat) : Bool := t.vdd && !(t.vtagOk && Config.vtagHigher now)

/-- NFC_TAG_STATUS at an instant. -/
def Tag.statusWord (t : Tag) (now : Nat) : Nat :=
  let keys := (List.range 4).foldl (fun m k => if t.keyPresent k then m + 2 ^ k else m) 0
  t.jnew * 2 ^ 24 + t.fails * 2 ^ 16 + keys * 2 ^ 12 + b2n (decide (t.failLimit ≤ t.fails)) * 128
  + b2n t.wireWaits * 64 + b2n t.cmd.isSome * 32 + b2n (!t.path.isEmpty) * 16 + b2n t.authed * 8 + b2n t.field * 4
  + b2n (t.onVdd now) * 2 + b2n t.vtagOk

/-- NFC_TAG_WSTAT. -/
def Tag.wstatWord (t : Tag) : Nat :=
  t.waitUs * 65536 + t.wblock * 256 + b2n t.wfailed * 4 + b2n t.wdone * 2 + b2n t.wbusy

/-- A block as the wire side reads it: key cells read as zeros (R269). -/
def Tag.wireBlock (t : Tag) (b : Nat) : List Byte :=
  if 2 ≤ b ∧ b ≤ 5 then List.replicate 32 0 else t.block b

end Sys2Proof.Machine
end

