-- ==== Sys2Proof/Machine/EntropyOps.lean ====
section
/-! DEFINITION. The entropy source (R360 to R363), the root and the keys derived from it (R341, R342), masks and shares
(R358, R359). -/

namespace Sys2Proof.Machine

open Sys2Proof

/-- Change the security core. -/
def State.setSec (s : State) (f : Security → Security) : State := { s with sec := f s.sec }

/-! ### The root -/

/-- KEK, SK and DIK of a root under the identity in force (R342). -/
def Security.derive (c : Security) (devid : Nat) (root : List Byte) : Security :=
  let ctx := natLE 16 devid
  let d := beNat (kdf root [0x4D, 0x4B, 0x44, 0x49] ctx 320) % (p256N - 1) + 1
  { c with root := some root, kek := kdf root [0x4D, 0x4B, 0x4B, 0x45] ctx 256, sk := kdf root [0x4D, 0x4B, 0x53, 0x4B] ctx 256
           dik := d, dikPub := p256Pub d }

/-- No key is held (R370, R373, R386). -/
def Security.keyless (c : Security) : Security := { c with root := none, kek := [], sk := [], dik := 0, dikPub := [] }

/-- A root share as its sector holds it: 32 bytes and their CRC-32 (R341). -/
def shareBytes (a : List Byte) : List Byte := a ++ natLE 4 (crc32 a)

/-- The share that a sector holds, when its CRC-32 is right. -/
def shareOf (b : List Byte) : Option (List Byte) := if b.length = 36 ∧ shareBytes (b.take 32) = b then some (b.take 32) else none

/-- A root and its shares from four pool blocks (R341): two for the root, two for share A. -/
def State.genRoot (s : State) : State :=
  let root := ((s.sec.pool.take 2).flatten)
  let a := ((s.sec.pool.drop 2).take 2).flatten
  s.setSec fun c =>
    ({ c with pool := c.pool.drop 4, drawnOther := c.drawnOther + 4, shareA := some (shareBytes a), shareB := some (shareBytes (xorB root a))
              rootComplete := true } : Security).derive s.life.devid root

/-- The entropy source can supply fresh blocks (R363). -/
def State.entropyOut (s : State) : Bool := s.sec.ent == .alarm || s.marked unitEntropy

/-- A root is missing and may be generated: no ZAP record, no FUSE-FAULT, a working source (R341, R371, R386). -/
def State.wantsRoot (s : State) : Bool :=
  s.sec.root.isNone && !s.sec.zapRecord && !s.life.fuseFault && !s.entropyOut && !s.sec.scan

/-- Generate the missing root as soon as the pool holds its four blocks (R341; log 30). -/
def State.tryRoot (s : State) : State := if s.wantsRoot && decide (4 ≤ s.sec.pool.length) then s.genRoot else s

/-! ### The source -/

/-- One sample through both health tests of a cell (R360); true when one fires. The first sample of a window counts
once (SP 800-90B). -/
def CellTest.feed (c : CellTest) (b : Nat) : CellTest × Bool :=
  let run := if b = c.lastBit then c.run + 1 else 1
  let first := if c.winPos = 0 then b else c.winFirst
  let count := if c.winPos = 0 then 1 else if b = first then c.winCount + 1 else c.winCount
  ({ lastBit := b, run := run, winFirst := first, winCount := count, winPos := (c.winPos + 1) % 1024 },
   decide (41 ≤ run) || decide (800 ≤ count))

/-- Samples of one cell in time order: its 32 bytes of the raw block, least significant bit first (log 31). -/
def cellBits (raw : List Byte) (k : Nat) : List Nat :=
  ((raw.drop (32 * k)).take 32).flatMap fun b => (List.range 8).map fun i => bit b.toNat i

/-- Feed a raw block to the four cells; true when a test fires in any of them. -/
def feedCells (cs : Vector CellTest 4) (raw : List Byte) : Vector CellTest 4 × Bool :=
  let one (k : Fin 4) : CellTest × Bool :=
    (cellBits raw k.val).foldl (fun p b => let q := p.1.feed b; (q.1, p.2 || q.2)) (cs.get k, false)
  (Vector.ofFn fun k => (one k).1, (List.finRange 4).any fun k => (one k).2)

/-- A block, or the start-up test, fails: the source restarts, or stops in alarm at the eighth in a row (R361, R362). -/
def State.entropyFails (s : State) : State :=
  let c := s.sec
  let consec := c.consec + 1
  if consec < 8 then
    s.setSec fun c => { c with failed := (c.failed + 1) % 65536, restarts := (c.restarts + 1) % 65536, consec := consec
                               ent := .restarting, startPos := 0, cells := Vector.replicate 4 CellTest.reset }
  else
    let s := s.setSec fun c => { c with failed := (c.failed + 1) % 65536, consec := 8, ent := .alarm, startPos := 0
                                        cells := Vector.replicate 4 CellTest.reset
                                        discarded := c.discarded + c.pool.length, pool := [] }
    s.raise .entropyAlarm (.engine 5)

/-- A conditioned block goes to the scramble key, then to the mask key, after a rise of D43; then to the pool, or is
discarded when the pool is full (R358, R359, R361). -/
def Security.take (c : Security) (now : Nat) (b : List Byte) : Security :=
  let c := { c with conditioned := c.conditioned + 1, consec := 0, ent := .running }
  if c.scrambleKey.isEmpty then { c with scrambleKey := b, drawnOther := c.drawnOther + 1 }
  else if c.maskKey.isEmpty then { c with maskKey := b, maskAt := now, drawnOther := c.drawnOther + 1 }
  else if c.pool.length < 16 then { c with pool := c.pool ++ [b] }
  else { c with discarded := c.discarded + 1 }

/-- One raw block (R360 to R362, R365). The first four blocks after a start are the start-up test, and are not used. -/
def State.entropyBlock (s : State) (raw : List Byte) (unbal : Nat) : State :=
  let r := feedCells s.sec.cells raw
  let s := s.setSec fun c => { c with cells := r.1, unbal := unbal % 16, blockAt := s.now }
  if r.2 || unbal % 16 != 0 then s.entropyFails
  else if s.sec.ent == .running then
    let s := s.setSec fun c => c.take s.now (aesCbcMac Config.conditionerKey raw)
    s.tryRoot.serveDrbg s.sec.drbgQueue.length
  else
    s.setSec fun c => { c with ent := if c.startPos = 3 then .running else .startUp, startPos := (c.startPos + 1) % 4 }

/-- The source collects samples: D43 is up and it is neither stopped nor in alarm. -/
def State.collecting (s : State) : Bool :=
  s.domUp 43 && !s.sec.scan && !s.marked unitEntropy
  && (s.sec.ent == .startUp || s.sec.ent == .running || s.sec.ent == .restarting)

/-- The block fails as the eighth in a row: a fault (R362). -/
def State.entropyAlarms (s : State) (raw : List Byte) (unbal : Nat) : Bool :=
  decide (7 ≤ s.sec.consec) && (unbal % 16 != 0 || (feedCells s.sec.cells raw).2)

/-- ENTROPY_BLOCK (R361): 1,024 raw bits, 256 of each cell, which take 32 us; `unbal` names the cells whose trim is at an end of its
range. -/
def execEvEntropyBlock (dt : Nat) (raw : List Byte) (unbal : Nat) (s : State) : Host.Outcome State Fault Refusal :=
  occurAt (faultRank (s.entropyAlarms raw unbal)) dt s fun s => if s.collecting && raw.length == 128 && decide (s.sec.blockAt + 32 * usT ≤ s.now) then s.entropyBlock raw unbal else s

/-- MASK_REKEY (R359): every 10 ms while conditioned blocks are available; not while the alarm stands. -/
def execEvMaskRekey (dt : Nat) (s : State) : Host.Outcome State Fault Refusal :=
  occurAt rankUnit dt s fun s =>
    match s.sec.pool with
    | b :: rest =>
      if s.domUp 43 && !s.entropyOut && decide (s.sec.maskAt + 10 * msT ≤ s.now) then
        s.setSec fun c => { c with pool := rest, maskKey := b, maskAt := s.now, drawnOther := c.drawnOther + 1 }
      else s
    | [] => s

/-- SHARE_REFRESH (R358): the shares of every held key are re-randomised; the keys themselves do not change. -/
def execEvShareRefresh (dt : Nat) (s : State) : Host.Outcome State Fault Refusal :=
  occurAt rankUnit dt s fun s => if s.domUp 43 then s.setSec fun c => { c with sharesAt := s.now } else s

/-! ### How keys stand in the part (R358, R359): other views of what State holds, which no rule shows outside (log 126) -/

/-- Bytes under a stream of random bytes. -/
def underStream (f : Nat → Byte) (bs : List Byte) : List Byte := bs.mapIdx fun i b => b ^^^ f i

/-- The two boolean shares of a key in a holder: 0 to 255 for the vault slots, from 256 on the four handles of each landing. -/
def State.shares (s : State) (holder : Nat) (key : List Byte) : List Byte × List Byte :=
  let f := Config.shareByte holder s.sec.sharesAt s.now
  ((List.range key.length).map f, underStream f key)

/-- The shares of the key in a vault slot. -/
def State.vaultShares (s : State) (n : Nat) : List Byte × List Byte := s.shares n (s.vaultSlot n).key

/-- The shares of the key in a handle. -/
def State.handleShares (s : State) (l i : Nat) : List Byte × List Byte := s.shares (256 + 4 * l + i) ((s.land l).handle i).key

/-- Vault SRAM: the place of a slot and the bytes there, the shares scrambled in address and data under the scramble key. -/
def State.vaultSram (s : State) (n : Nat) : Nat × List Byte :=
  let q := s.vaultShares n
  (Config.scramblePlace s.sec.scrambleKey n, underStream (Config.scrambleByte s.sec.scrambleKey n) (q.1 ++ q.2))

/-- Block n of the mask generator: AES-128 in counter mode under its present key. -/
def Security.maskBlock (c : Security) (n : Nat) : List Byte := (aesKey c.maskKey).enc (natBE 16 n)

/-! ### Tamper, ZAP and scan (R368 to R373) -/

/-- A field step in progress that uses a key ends with a code and is off the air. -/
def State.cutField (s : State) (l : Nat) (c : Code) : State :=
  match s.fieldJob l with
  | some j => match j.kind with
    | .uwbpoll | .uwbresp | .uwbfinal =>
      let s := s.uwbClosing
      (s.setUwb { s.uwb.cut s.now with run := none, mode := .ready }).fieldDone l j c j.srcs (noRest j.kind)
    | _ => s
  | none => s

/-- Every register that the ZAP line zeroes (R370): root, KEK, SK and DIK, vault SRAM, handles and tenant-key caches, engine keys,
DRBG states, the mask key. -/
def State.zeroKeys (s : State) : State :=
  let s := s.setSec fun c => { c.keyless with
    vault := [], sysDrbg := [], tenDrbg := [], maskKey := List.replicate 16 0, busy := [], queue := [], drbgQueue := [] }
  { s with landings := s.landings.map fun (x : Landing) =>
      { x with handles := Vector.replicate 4 Handle.empty, tenantKeys := x.tenantKeys.map fun _ => none } }

/-- Steps in progress that need a key or randomness end TAMPERED (R370). -/
def State.endKeyed (s : State) : State :=
  (s.landsWhere fun x => x.st == .busy).foldl (fun s l =>
    match (s.land l).wait with
    | .crypto j => s.cryptoEnds l { j with code := .tampered, writes := [], handle := none, proof := false }
    | .tload d _ _ => (s.leaveTurn l).stepEnds l fun x => x.outcome d .tampered 0 0
    | .field _ => match s.uwb.run with
      | some r => if r.land = l ∧ r.sp1 = true then s.cutField l .tampered else s
      | none => s
    | _ => s) s

/-- The ZAP line (R370) and the ZAP record (R371 step 1). -/
def State.zap (s : State) : State :=
  let s := s.zeroKeys
  let s := { s with life := { s.life with st := .tampered, scanUnlock := false } }
  let s := s.setSec fun c => { c with tamperLatch := true, zapRecord := true, erasing := true, eraseOld := false, erasedTo := 0 }
  ((s.relFinish 4).relClamp.endKeyed).zeroCells

/-- TAMPER_CFG field of a source: 3 TAMPERN, 2 VDD glitch, 1 clock loss, 0 temperature. -/
def State.tamperAction (s : State) (src : Nat) : Nat := bits s.sec.tamperCfg (2 * src + 1) (2 * src)

/-- Fault cause of a source (R413). -/
def tamperCause (src : Nat) : Cause :=
  match src with | 3 => .tamperN | 2 => .vddGlitch | 1 => .clockLoss | _ => .temperature

/-- Where a source is watched (R368). -/
def State.watched (s : State) (src : Nat) : Bool :=
  match src with
  | 2 | 3 => true
  | 1 => s.power.mode == .awake && s.domUp 30
  | 0 => s.power.mode == .awake
  | _ => false

/-- A clock loss has qualified: whether the reference or ROOT has stopped is not told, so that XTAL_OK is a free value (R474; log 229). -/
def State.clockLoss (s : State) : State :=
  let (s, w) := s.draw
  s.setPower fun p => { p with clockLost := true, xtalOk := p.xtalOk && w.testBit 0 }

/-- TAMPER_QUALIFIED (R368 to R371): recorded, and acted on for ZAP unless the device is already TAMPERED. A sleeping device
wakes; an entry in preparation is aborted; both release pins go low (R338). It comes before every other end of a release session in the same PERI cycle (R336). -/
def execEvTamperQualified (dt src : Nat) (s : State) : Host.Outcome State Fault Refusal :=
  occurAt rankFault dt s fun s =>
    let act := s.tamperAction src
    if s.sec.scan || !s.watched src || act == 0 || s.relJustEnded none [0, 1, 2, 3] then s else
    let s := if s.power.mode == .awake then s.abortEntry 10 0xFD 30 else s.beginWake 4
    let zaps := act == 2 && s.life.st != .tampered && !s.sec.erasing
    let s := s.setSec fun c => { c with tamperEvent := c.tamperEvent ||| 2 ^ src, tamperCount := (c.tamperCount + 1) % 65536 }
    let s := s.recordFault (tamperCause src) .device [] (if zaps then 4 else 0)
    let s := if src = 1 then s.clockLoss else s
    if zaps then s.zap else s.relClamp

/-- The vault store is erased, both root shares included: the sectors that an erase cut short has not done (R371 step 2). -/
def State.eraseStore (s : State) : State :=
  let k := s.sec.erasedTo
  let s := { s with life := s.life.eraseRun s.host.epoch.toNat (576 + k) (16 - k) }
  s.setSec fun c => { c with store := [], shareA := none, shareB := none, rootComplete := false, erasing := false, eraseOld := false
                             erasedTo := 0 }

/-- ZAP_ERASE_DONE (R371): the erase is complete and a cold reset with cause 0x04 follows, except in fault halt (R425). -/
def execEvZapEraseDone (dt : Nat) (s : State) : Host.Outcome State Fault Refusal :=
  occurAt rankUnit dt s fun s =>
    if s.sec.erasing && s.domUp 46 && !s.sec.scan then
      let s := s.eraseStore
      if s.faults.mode == .halt then s else s.coldReset 0x04
    else s

/-- SCAN_ENABLE (R373): with TEST high in FACTORY, or an unlock in SERVICE, keys are zeroed; scan is enabled when every cleared
store reads back as zero, and ends only by a power-on reset. -/
def execEvScanEnable (dt : Nat) (test zero : Bool) (s : State) : Host.Outcome State Fault Refusal :=
  occurAt rankUnit dt s fun s =>
    if s.power.mode == .awake && ((test && s.life.st == .factory) || (s.life.scanUnlock && s.life.st == .service)) then
      let s := s.zeroKeys
      if zero then ({ s.relClamp with life := { s.life with jobs := [] } } : State).setSec fun c => { c with scan := true } else s
    else s

end Sys2Proof.Machine
end

