-- ==== Sys2Proof/Machine/OtpOps.lean ====
section
/-! DEFINITION. OTP resolution (R385, R386), its programming (R382, R383, R388, R403), lifecycle resolution and effects (R376,
R381), and what a re-read finds (R387). -/

namespace Sys2Proof.Machine

open Sys2Proof

/-! ### Resolution (R385) -/

/-- A word in which any of the three reads is 1, and one in which all three are. -/
def LifeCycle.orWord (c : LifeCycle) (w : Nat) : Nat := Tbl.get c.otp w 0 ||| Tbl.get c.otpLow w 0 ||| Tbl.get c.otpHigh w 0
def LifeCycle.andWord (c : LifeCycle) (w : Nat) : Nat := Tbl.get c.otp w 0 &&& Tbl.get c.otpLow w 0 &&& Tbl.get c.otpHigh w 0

/-- Every bit of n words from lo agrees. -/
def LifeCycle.agrees (c : LifeCycle) (lo n : Nat) : Bool :=
  (List.range n).all fun i => c.orWord (lo + i) == c.andWord (lo + i)

/-- CRC-32 of n words from lo, by their normal reads. -/
def LifeCycle.crcWords (c : LifeCycle) (lo n : Nat) : Nat :=
  crc32 ((List.range n).flatMap fun i => natLE 4 (Tbl.get c.otp (lo + i) 0))

/-- Bits of the stage at a bit position of word 0 that read 1 in any read, and in all. -/
def LifeCycle.stageOr (c : LifeCycle) (sh : Nat) : Nat := bits (c.orWord 0) (sh + 7) sh
def LifeCycle.stageAnd (c : LifeCycle) (sh : Nat) : Nat := bits (c.andWord 0) (sh + 7) sh

/-- A stage resolves blown. -/
def LifeCycle.blown (c : LifeCycle) (sh : Nat) : Bool := c.stageOr sh != 0

/-- A rollback thermometer of 16 words as one number. -/
def thermometer (f : Nat → Nat) (lo : Nat) : Nat := (List.range 16).foldl (fun v i => v + f (lo + i) * 2 ^ (32 * i)) 0

/-- Number of the highest bit that is 1, plus 1, or 0. -/
def topBit (v : Nat) : Nat := if v = 0 then 0 else v.log2 + 1

/-- Region word: 0, or a code with its complement (R385). -/
def regionOk (v : Nat) : Bool := v == 0 || (v / 65536 == 0 && bits v 15 8 == 255 - bits v 7 0)

/-- Identity and trims by their normal reads, with their fault flags. -/
def LifeCycle.readIdentity (c : LifeCycle) : LifeCycle :=
  let w (i : Nat) := Tbl.get c.otp i 0
  { c with devid := w 4 + w 5 * 2 ^ 32 + w 6 * 2 ^ 64 + w 7 * 2 ^ 96, region := bits (w 9) 7 0
           idFault := !c.agrees 4 6 || c.crcWords 4 4 != w 8 || !regionOk (w 9)
           trimFault := !c.agrees 16 48 || c.crcWords 16 47 != w 63 }

/-- Lifecycle margin and rollback floors. -/
def LifeCycle.readFloors (c : LifeCycle) : LifeCycle :=
  let fw := topBit (thermometer c.orWord 64)
  let lib := topBit (thermometer c.orWord 80)
  let weak (lo n : Nat) : Bool := thermometer c.andWord lo % 2 ^ n != 2 ^ n - 1
  { c with fwFloor := fw, libFloor := lib, rbMarg := weak 64 fw || weak 80 lib
           marginal := [0, 8, 16].any fun sh => c.blown sh && c.stageAnd sh != 0xFF }

/-- The OTP reads of a boot (R385, R386). -/
def LifeCycle.readOtp (c : LifeCycle) (temp : Int) : LifeCycle :=
  let c := c.readIdentity.readFloors
  { c with readTemp := temp, fuseFault := c.idFault || c.trimFault }

/-! ### Programming -/

/-- The conditions under which fuse bits are programmed (R388): VDD in mV, die temperature in degrees Celsius. -/
def fuseConditions (vdd : Nat) (temp : Int) : Bool := decide (3000 ≤ vdd) && decide (-20 ≤ temp) && decide (temp ≤ 85)

/-- Bits of a word read 1 at every reference. -/
def LifeCycle.program (c : LifeCycle) (w m : Nat) : LifeCycle := c.blow w m

/-- The region code is programmed with stage P (R384). -/
def LifeCycle.programRegion (c : LifeCycle) (code : Nat) : LifeCycle :=
  if c.region = 0 ∧ code ≠ 0 then { c.program 9 (code + (255 - code) * 256) with region := code } else c

/-- Raise the rollback thermometer of a target to a floor (R403). -/
def LifeCycle.raiseFloor (c : LifeCycle) (target v : Nat) : LifeCycle :=
  let lo := if target = 0 then 64 else 80
  let m := 2 ^ v - 1
  let c := (List.range 16).foldl (fun c i =>
    let x := m / 2 ^ (32 * i) % 2 ^ 32
    if x = 0 then c else c.program (lo + i) x) c
  if target = 0 then { c with fwFloor := max c.fwFloor v } else { c with libFloor := max c.libFloor v }

/-! ### Lifecycle (R376, R381) -/

/-- The lifecycle state that fuses, ZAP record and journal prove (R376). -/
def State.resolveLife (s : State) : Life :=
  let c := s.life
  if c.blown 16 then .retired
  else if s.sec.zapRecord || c.journal == some .tampered then .tampered
  else if c.blown 8 && c.journal == some .service then .service
  else if c.blown 8 then .bound
  else if c.blown 0 then .provisioned
  else .factory

/-- The state that TAMPERED returns to: rules 3 to 6 of R376 with SERVICE read as BOUND (R377). -/
def LifeCycle.underTamper (c : LifeCycle) : Life :=
  if c.blown 8 then .bound else if c.blown 0 then .provisioned else .factory

/-- A change is proven by a fuse stage, not by the journal (R377). -/
def fuseProven (src dst : Life) : Option Nat :=
  match src, dst with
  | .factory, .provisioned => some 0
  | .provisioned, .bound => some 8
  | .factory, .retired | .provisioned, .retired | .bound, .retired | .service, .retired | .tampered, .retired => some 16
  | _, _ => none

/-- Step 3 of R381 has ended: the new state takes effect, the record that the change carries governs, an open release session ends, and an
unlock does not outlive SERVICE. -/
def State.lifeTakes (s : State) (i : LifeIntent) : State :=
  let c := s.life
  ({ s with life := { c with st := i.dst, scanUnlock := false, copy0 := c.copy0.prove, copy1 := c.copy1.prove
                             intent := some { i with proven := true } } } : State).relFinish 2

/-- Step 4 of R381, but for the erases of a change to RETIRED: the effects of the new state, then the done record. -/
def State.lifeEffects (s : State) (i : LifeIntent) : State :=
  let s :=
    if i.dst = .retired then
      (({ s with ten := { s.ten with recs := [] } } : State).setSec fun c => { c with store := [], shareA := none, shareB := none }).zeroCells
    else if i.src = .tampered then
      s.setSec fun c => { c with zapRecord := false, tamperLatch := false, vault := [], store := [] }
    else s
  let s : State := { s with life := { s.life with intent := none, scanUnlock := i.dst == .service && i.scan } }
  s.attn attnLife

/-- Sectors that a change to RETIRED erases: the vault store and both tenant journal copies (R381). -/
def retiredSectors : List Nat := (List.range 16).map (576 + ·) ++ (List.range 128).map (384 + ·)

/-- The region code of the record of a change to PROVISIONED is programmed with its stage (R384). -/
def LifeCycle.programChange (c : LifeCycle) (i : LifeIntent) (sh m : Nat) : LifeCycle :=
  let c := c.program 0 (m * 2 ^ sh)
  match i.record with | some r => if sh = 0 then c.programRegion r.region else c | none => c

/-- Step 4 at a boot. A re-provisioning leaves no root: step 8 of the boot path generates it (R341, R372). -/
def State.lifeCompletes (s : State) (i : LifeIntent) : State :=
  let s := s.lifeTakes i
  let s : State := if i.dst = .retired then
      { s with life := retiredSectors.foldl (fun c n => c.eraseSector s.host.epoch.toNat n) s.life } else s
  let s := if i.src = .tampered ∧ i.dst ≠ .retired then
      s.setSec fun c => { c with root := none, shareA := none, shareB := none, rootComplete := false } else s
  s.lifeEffects i

/-- Reconcile an open intent of a lifecycle change at a boot (R383). Bits of a proven stage are programmed only under R388; where its
conditions do not hold the intent stays open for the next boot (log 223). -/
def State.reconcileLife (s : State) (fuseOk : Bool) : State :=
  match s.life.intent with
  | none => s
  | some i =>
    let abandoned : State := { s with life := { s.life with intent := none } }
    match fuseProven i.src i.dst with
    | some sh =>
      let c := s.life.programChange i sh 0xFF
      if !s.life.blown sh then abandoned
      else if c.otp = s.life.otp ∧ c.otpHigh = s.life.otpHigh ∧ c.otpLow = s.life.otpLow then s.lifeCompletes i
      else if fuseOk then ({ s with life := c } : State).lifeCompletes i
      else s
    | none => if i.proven then s.lifeCompletes i else abandoned

/-- An open confirm intent resumes at step 3 of R403, under the conditions of R388; an activation intent is closed (R400). -/
def State.reconcileUpdate (s : State) (fuseOk : Bool) : State :=
  match s.life.updIntent with
  | some (.confirm t) =>
    let v := match s.life.bankIn t .active with | some b => (s.life.bank b).version | none => 0
    if v ≤ s.life.floor t then { s with life := { s.life with updIntent := none } }
    else if fuseOk then { s with life := { s.life.raiseFloor t v with updIntent := none } }
    else s
  | _ => { s with life := { s.life with updIntent := none } }

/-! ### The re-read (R387) -/

/-- A word as R385 resolves it. -/
def LifeCycle.resolved (c : LifeCycle) (w : Nat) : Nat :=
  if w = 0 ∨ 64 ≤ w ∧ w < 96 then c.orWord w else Tbl.get c.otp w 0

/-- Words that R384 gives content. -/
def readWords : List Nat := [0] ++ (List.range 6).map (· + 4) ++ (List.range 80).map (· + 16)

/-- OTP_REREAD (R387): `reads` holds the words whose three reads now differ from those of the last read. A word that resolves
differently is latched in MCHANGE with an event record naming the words; an identity or trim fault enters FUSE-FAULT. -/
def execEvOtpReread (dt : Nat) (temp : Int) (reads : List (Nat × Nat × Nat × Nat)) (s : State) :
    Host.Outcome State Fault Refusal :=
  occurLive dt s (k := faultRank !reads.isEmpty) fun s =>
    if (temp - s.life.readTemp).natAbs < 40 then { s with dieTemp := temp } else
    let old := s.life
    let c := reads.foldl (fun (c : LifeCycle) r =>
      if r.1 < 128 then { c with otp := Tbl.put c.otp r.1 (r.2.1 % 2 ^ 32), otpLow := Tbl.put c.otpLow r.1 (r.2.2.1 % 2 ^ 32)
                                 otpHigh := Tbl.put c.otpHigh r.1 (r.2.2.2 % 2 ^ 32) }
      else c) old
    let diff := readWords.filter fun w => c.resolved w != old.resolved w
    let c := { c.readIdentity with readTemp := temp, mchange := c.mchange || !diff.isEmpty }
    let s : State := { s with life := c, dieTemp := temp }
    let s := if diff.isEmpty then s else s.raise .mchange .device (diff.map (BitVec.ofNat 8))
    if (c.idFault || c.trimFault) && !old.fuseFault then s.raise .fuseRunfault .device else s

end Sys2Proof.Machine
end

