-- ==== Sys2Proof/Machine/BootOps.lean ====
section
/-! DEFINITION. The boot path (R411): NVM recovery, bank checks and reversion (R392, R401 to R404), the protection record and SEAL
(R126, R379), root and vault, library placement (R404 to R409), and the commands that end a boot or a wake. -/

namespace Sys2Proof.Machine

open Sys2Proof

/-! ### NVM recovery (R392) -/

/-- The contents of a half-erased sector count as absent. -/
def State.dropSector (s : State) (n : Nat) : State :=
  if n < 384 then
    let b := if n < 256 then n / 128 else 2 + (n - 256) / 64
    let lo := 4096 * (if n < 256 then n % 128 else (n - 256) % 64)
    let k := vget s.life.banks b Bank.blank
    { s with life := { s.life with banks := vset s.life.banks b { k with image := k.image.clear lo (lo + 4096) } } }
  else if 512 ≤ n ∧ n < 576 then
    let h := (n - 512) / 32
    let lo := 4096 * ((n - 512) % 32)
    { s with verdict := s.verdict.setHalf h ((s.verdict.half h).clear lo (lo + 4096)) }
  else if n = copySector 0 ∨ n = copySector 1 then { s with life := s.life.badCopy ((n - 816) / 4) }
  else s

/-- Step 3 of the boot path (R392, R393): half-erased sectors are erased again, the interrupted erase counting too; an intent that its stamp
already carries is closed; remaps that a recovery has queued are made. -/
def State.recoverSectors (s : State) : State :=
  let s := (s.life.sectors.filter fun e => !e.2.retired && (e.2.intent.isSome || !e.2.stampOk)).foldl (fun (s : State) e =>
    match s.life.roleOf e.1 with
    | some n =>
      if e.2.halfErased then ({ s with life := s.life.eraseSector s.host.epoch.toNat n } : State).dropSector n
      else { s with life := s.life.modSector e.1 fun x => { x with intent := none } }
    | none => s) s
  (s.life.sectors.filter fun e => e.2.retired).foldl (fun (s : State) e => if s.life.freeSpare.isSome then s.remapSector e.1 else s) s

/-! ### Signatures and banks -/

/-- The owner authority key is loaded (R349). -/
def State.ownerLoaded (s : State) : Bool := (s.vaultSlot 0).st == 1

/-- A signature of the vendor (0) or the owner (1) over a message (R352, R378, R395). -/
def State.signed (s : State) (signer : Nat) (msg sig : List Byte) : Bool :=
  if signer = 0 then ed25519Verify Config.vendorKey msg sig
  else s.ownerLoaded && p256Verify (s.vaultSlot 0).key (sha256 msg) sig

/-- The boot check of a bank (R404). -/
def State.bankPasses (s : State) (b : Nat) : Bool :=
  let k := s.life.bank b
  (k.factory || (s.signed k.signer (k.manifest.take 192) (k.manifest.drop 192) && sha384 (k.image.readN 0 k.ilen) == k.digest))
  && decide (s.life.floor (b / 2) ≤ k.version)

/-- A reversion is recorded (R402). -/
def State.noteRevert (s : State) (why : Nat) : State :=
  (({ s with life := { s.life with revert := why } } : State).raise .bankRevert .device).attn attnLife

/-- Revert a target (R402): PREVIOUS becomes ACTIVE, the trial bank EMPTY. False when no PREVIOUS bank passes: then ROM mode
follows, or no library. -/
def State.revert (s : State) (target why : Nat) : State × Bool :=
  let c := match s.life.bankIn target .trial with | some b => s.life.modBank b fun _ => Bank.blank | none => s.life
  match c.bankIn target .previous with
  | some b =>
    if s.bankPasses b then
      (({ s with life := c.modBank b fun k => { k with st := .active } } : State).noteRevert why, true)
    else (({ s with life := c } : State).noteRevert why, false)
  | none => (({ s with life := c } : State).noteRevert why, false)

/-- The check of an ACTIVE bank: one that fails is replaced by a PREVIOUS bank that passes, without a reset (R404). Answers the
bank to run. -/
def State.pickBank (s : State) (target : Nat) : State × Option Nat :=
  match s.life.selected target with
  | none => (s, none)
  | some b =>
    if s.bankPasses b then (s, some b) else
    match s.life.bankIn target .previous with
    | some p =>
      if s.bankPasses p then
        let c := (s.life.modBank b fun _ => Bank.blank).modBank p fun k => { k with st := .active }
        (({ s with life := c } : State).noteRevert 3, some p)
      else (s, none)
    | none => (s, none)

/-- A target has a trial bank that this boot would run: at a boot that keeps the epoch, only one that runs already (R400). -/
def State.trialHere (s : State) (cold : Bool) (target : Nat) : Bool :=
  match s.life.bankIn target .trial with
  | some b => cold || b == (if target = 0 then s.life.runFw else s.life.runLib)
  | none => false

/-- The bank that a boot checks: at a boot that keeps the epoch the running bank stays (R400). -/
def State.checkTarget (s : State) (cold : Bool) (target : Nat) : State × Option Nat :=
  let run := if target = 0 then s.life.runFw else s.life.runLib
  if cold then s.pickBank target
  else if (s.life.bank run).st != .empty && s.bankPasses run then (s, some run) else s.pickBank target

/-- Trial count at a boot with a trial bank (R401 steps 1 and 2): true when it was 0, so that the trial is exhausted. -/
def State.trialCount (s : State) (cold : Bool) : State × Bool :=
  if !([0, 1].any (s.trialHere cold)) then (s, false)
  else if s.life.trialLeft = 0 then (s, true)
  else ({ s with life := { s.life with trialLeft := s.life.trialLeft - 1 } }, false)

/-- Check the bank of a target, reverting a trial bank that is exhausted or fails (R401, R404). Answers the state, the bank to run, and
whether a reversion resets the device. -/
def State.bootBank (s : State) (cold exhausted : Bool) (target : Nat) : State × Option Nat × Bool :=
  let trial := if s.trialHere cold target then s.life.bankIn target .trial else none
  match trial with
  | some b =>
    if exhausted then let r := s.revert target 1; (r.1, none, r.2)
    else if s.bankPasses b then (s, some b, false)
    else let r := s.revert target 2; (r.1, none, r.2)
  | none => let r := s.checkTarget cold target; (r.1, r.2, false)

/-! ### The protection record (R126, R127, R379) -/

/-- A protection part meets R127: fixed bits of the code and CIR words, templates on 64-byte boundaries inside the area. -/
def protectionOk (p : List Byte) : Bool :=
  (byteAt p 0 &&& 0xF6 == 0) && decide (byteAt p 1 < 32) && (byteAt p 2 &&& 0xF6 == 0)
  && ((List.range 4).all fun i => bits (byteAt p 3) (2 * i + 1) (2 * i) != 3)
  && (List.range 16).all fun i =>
      let b := fieldLE p (4 + 8 * i) 2
      let l := fieldLE p (6 + 8 * i) 4
      b % 64 == 0 && l % 64 == 0 && decide (b + l ≤ 0x10000) && decide (byteAt p (10 + 8 * i) < 32) && byteAt p (11 + 8 * i) == 0

/-- Step 7 of the boot path: the record in force, the regulatory registers, templates, TAMPER_CFG, SEAL. -/
def State.loadRecord (s : State) : State :=
  let r := s.life.prov
  let reg (i : Nat) : Nat := match r.bind (·.regulatory) with | some l => l.getD i 0 | none => 0
  let prot := (r.bind (·.protection)).filter protectionOk
  let h := { s.halls with sealed := true, fromRecord := prot.isSome }
  let h := match prot with
    | none => { h with permCode := 0x09, permData := 0x1F, permCir := 0x09, templates := Vector.replicate 16 SharedTpl.reset }
    | some p => { h with permCode := byteAt p 0, permData := byteAt p 1, permCir := byteAt p 2
                         templates := Vector.ofFn fun i : Fin 16 =>
                           ⟨fieldLE p (4 + 8 * i.val) 2, fieldLE p (6 + 8 * i.val) 4, byteAt p (10 + 8 * i.val)⟩ }
  let cfg := match prot with | some p => byteAt p 3 | none => 0xA9
  ({ s with halls := h, life := { s.life with inForce := r }
            lf := { s.lf with reg0 := reg 0, reg1 := reg 1 }
            uwb := { s.uwb with reg0 := reg 2, reg1 := reg 3, reg2 := reg 4 }
            uhf := { s.uhf with reg0 := reg 5, reg1 := reg 6 } } : State).setSec fun c => { c with tamperCfg := cfg }

/-- In FUSE-FAULT the regulatory registers read 0, templates and TAMPER_CFG stand at their reset values, unsealed, and no record, key
or library is loaded (R126, R386, R411). -/
def State.fuseFaultBoot (s : State) : State :=
  let h := { s.halls with sealed := false, fromRecord := false, permCode := Halls.reset.permCode, permData := Halls.reset.permData
                          permCir := Halls.reset.permCir, templates := Halls.reset.templates }
  ({ s with halls := h, life := { s.life with inForce := none }, lf := { s.lf with reg0 := 0, reg1 := 0 }
            uwb := { s.uwb with reg0 := 0, reg1 := 0, reg2 := 0 }, uhf := { s.uhf with reg0 := 0, reg1 := 0 } } : State).setSec fun c =>
    { c.keyless with vault := [], tamperCfg := Security.reset.tamperCfg }

/-! ### Keys -/

/-- Step 8: the root from its shares, or a new one from the blocks that come in (R341, R342), then the vault. In scan
none is loaded (R373). -/
def State.bootKeys (s : State) (blocks : List (List Byte)) : State :=
  let s := s.setSec fun c =>
    match c.zapRecord || c.scan, c.rootComplete, c.shareA.bind shareOf, c.shareB.bind shareOf with
    | false, true, some a, some b => c.derive s.life.devid (xorB a b)
    | _, _, _, _ => c.keyless
  let s := blocks.foldl (fun s raw => if s.collecting && raw.length == 128 then s.entropyBlock raw 0 else s) s
  s.vaultReload

/-! ### The library (R405 to R409) -/

/-- The fetch key of a library, when it meets R406. -/
def State.fetchKey (s : State) (slot : Nat) : Option (List Byte) :=
  let v := s.vaultSlot slot
  if slot ≠ 0xFF ∧ v.st = 1 ∧ (v.ktype = 0 ∨ v.ktype = 1) ∧ v.engines.testBit engUpdver = true ∧ v.usage.testBit useVer = true
  then some v.key else none

/-- The check of an external block (R408), with OSPI_CFG EN and a fetch key that meets R406 (R409). -/
def State.blockPasses (s : State) (img : List Byte) (b : Nat) (data tag : List Byte) : Bool :=
  s.life.ospiCfg.toNat.testBit 31 &&
  (match s.fetchKey (dirSlot img) with
   | some k => aesCmac k (natLE 4 (dirGen img) ++ natLE 4 b ++ padTo 1024 data) == padTo 16 tag
   | none => false)

/-- Count a fetch, and its failure (OSPI_STATUS, OSPI_LASTFAIL). -/
def LifeCycle.fetched (c : LifeCycle) (b : Nat) (ok : Bool) : LifeCycle :=
  let c := { c with ospiFetches := (c.ospiFetches + 1) % 65536 }
  if ok then c else { c with ospiFails := (c.ospiFails + 1) % 65536, ospiLastFail := b }

/-- Fetch external blocks lo to hi of a library by one descriptor, which stops at the first failing block (R131, R409); true when every one
passed. `ext` holds the external image as flash delivers it. -/
def State.fetchBlocks (s : State) (job : DmaJob) (code : Nat) (img ext : List Byte) (lo hi : Nat) : State × Bool :=
  let n := hi + 1 - lo
  let r := (List.range n).foldl (fun (p : State × Nat × Bool) i =>
    if !p.2.2 then p else
    let b := lo + i
    let ok := p.1.blockPasses img b (sliceP ext (1024 * b) 1024) (sliceP ext (1024 * dirBlocks img + 16 * b) 16)
    ({ p.1 with life := p.1.life.fetched b ok }, if ok then p.2.1 + 1 else p.2.1, ok)) (s, 0, true)
  (r.1.showMove job code 4 6 (1024 * lo) (1024 * n) (1024 * r.2.1), r.2.2)

/-- The image of a slot as R406 asks: header and code from `src`, whole length `len`. -/
def libEntry (external : Bool) (slot len : Nat) (src : List Byte) : Option Image :=
  match parseHdr src with
  | none => none
  | some h =>
    let code := (src.drop 32).take h.codeLen
    if len = 32 + h.codeLen + h.initLen ∧ code.length = h.codeLen ∧ codeLegal h code = true then
      some ⟨slot, h, code, if external then [] else (src.drop (32 + h.codeLen)).take h.initLen, external, []⟩
    else none

/-- The image of a non-empty directory entry; blocks of an external one are fetched (R407, R409). -/
def State.readEntry (s : State) (img ext : List Byte) (slot : Nat) : State × Option Image :=
  let e := dirEntry img slot
  if e.1 then
    let src := sliceP ext e.2.1 e.2.2
    let n := match parseHdr src with | some h => min (32 + h.codeLen) e.2.2 | none => min 32 e.2.2
    let r := s.fetchBlocks .place 0xFE img ext (e.2.1 / 1024) ((e.2.1 + n - 1) / 1024)
    (r.1, if r.2 then libEntry true slot e.2.2 src else none)
  else (s, libEntry false slot e.2.2 ((img.drop e.2.1).take e.2.2))

/-- Publish an image in a slot. -/
def Halls.publish (h : Halls) (slot : Nat) (i : Image) : Halls :=
  { h with images := Tbl.put h.images h.nextImage i, nextImage := h.nextImage + 1, published := Tbl.put h.published slot h.nextImage }

/-- Bytes of code that the placed library images hold. -/
def Halls.libCode (h : Halls) : Nat :=
  (h.published.filter fun e => decide (0x80 ≤ e.1)).foldl (fun n e =>
    match Tbl.find h.images e.2 with | some i => n + i.hdr.codeLen | none => n) 0

/-- Place one entry; an image that fails is left out, and an event record names its slot (R407; log 33). -/
def State.placeEntry (s : State) (img ext : List Byte) (slot : Nat) : State :=
  if (dirEntry img slot).2.2 = 0 then s else
  let r := s.readEntry img ext slot
  match r.2 with
  | some i =>
    if r.1.halls.libCode + i.hdr.codeLen ≤ 131072 then
      let t : State := { r.1 with halls := r.1.halls.publish slot i }
      if i.external then t.showMove .place 0xFE 6 6 32 i.hdr.codeLen i.hdr.codeLen else t
    else r.1.raise .libOmit .device (natLE 2 slot)
  | none => r.1.raise .libOmit .device (natLE 2 slot)

/-- Step 9: the library bank is checked and its images are placed in slot order. True when a reversion resets the device. -/
def State.bootLibrary (s : State) (cold exhausted : Bool) (ext : List Byte) : State × Bool :=
  let r := s.bootBank cold exhausted 1
  let h := r.1.halls
  let h := { h with published := h.published.filter fun e => decide (e.1 < 0x80)
                    images := h.images.filter fun e => decide (e.2.slot < 0x80) }
  let s : State := { r.1 with halls := h }
  match r.2 with
  | (_, true) => (s, true)
  | (none, _) => ({ s with life := { s.life with runLib := 4 } }, false)
  | (some b, _) =>
    let s : State := { s with life := { s.life with runLib := b } }
    let img := s.libImage
    ((List.range 128).foldl (fun s i => s.placeEntry img ext (0x80 + i)) s, false)

/-! ### The whole path -/

/-- Steps 1 to 5; a boot runs with VDD and VIO above their thresholds (R522). Fuse bits are programmed only under R388. -/
def State.bootFront (s : State) (b : BootIn) : State :=
  let s : State := { s with dieTemp := b.temp, tag := { s.tag with vio := true }, life := s.life.readOtp b.temp }
  let s := if s.sec.erasing then s.eraseStore else s
  let ok := fuseConditions b.vdd b.temp
  let s := (s.recoverSectors.reconcileLife ok).reconcileUpdate ok
  { s with life := { s.life with st := s.resolveLife } }

/-- The boot path (R411). The boolean tells that it ended in a reset: a reversion (R402), or the cold reset that follows a ZAP erase,
but for one that a loss of power has cut (R371; log 219). -/
def State.boot (s : State) (b : BootIn) (cold : Bool) : State × Bool :=
  let zap := s.sec.erasing && !(cold && s.sec.eraseOld)
  let s := s.bootFront b
  if zap then (s.coldReset 0x04, true) else
  let r := s.trialCount cold
  let f := r.1.bootBank cold r.2 0
  if f.2.2 then (f.1.coldReset 0x05, true) else
  let s : State := { f.1 with life := { f.1.life with rom := f.2.1.isNone, runFw := f.2.1.getD 4 } }
  if s.life.fuseFault then (s.fuseFaultBoot, false) else
  let s := s.loadRecord.bootKeys b.blocks
  let l := s.bootLibrary cold r.2 b.ext
  if l.2 then (l.1.coldReset 0x05, true) else (l.1, false)

/-- The domains a boot needs are up. -/
def State.coreUp (s : State) : Bool := s.domUp 30 && s.domUp 43 && s.domUp 46

/-! ### Cold start (R507 to R510) -/

/-- Engines whose known-answer test failed, by KATFAIL bits and marks (R367): AES0-AES3 by their marks, PKA, KDF for the entropy
tests and its own, WRAP, CANSEC. -/
def katEngines (kat marks : Nat) : List Nat :=
  (if kat.testBit 2 then (List.range 4).filter fun e => marks.testBit (unitAes e) else [])
  ++ (if kat.testBit 3 then [4] else []) ++ (if kat.testBit 0 || kat.testBit 1 || kat.testBit 4 then [5] else [])
  ++ (if kat.testBit 5 then [10] else []) ++ (if kat.testBit 6 then [6] else [])

/-- Units that failing known-answer tests mark (R367); where AES fails and no engine is named, all four (log 220). -/
def katMarks (kat marks : Nat) : Nat :=
  orAll [if kat &&& 0x33 = 0 then 0 else 2 ^ unitEntropy, if kat.testBit 2 && bits marks 39 36 == 0 then 0xF * 2 ^ 36 else 0,
    if kat.testBit 3 then 2 ^ unitPka else 0, if kat.testBit 6 then 2 ^ unitCan else 0]

/-- Scopes of failing known-answer tests (R367). -/
def katScopes (kat : Nat) : Nat :=
  (if kat &&& 3 = 0 then 0 else 16) + (if kat &&& 0x74 = 0 then 0 else 4) + (if kat.testBit 3 then 8 else 0)

/-- Scopes whose tests failed, as the marks and the failing banks show (R507 to R509): a mark fails the scope of the test that can make it,
the entropy source scope 4 where no known-answer test marks it, a bank scope 0 and the NVM controller scope 7. -/
def markScopes (marks kat : Nat) (sram : List Nat) (controller : Bool) : Nat :=
  orAll (([1, 2, 3, 5, 6].map fun b => if clearBits marks (2 ^ unitEntropy) &&& scopeTests (2 ^ b) = 0 then 0 else 2 ^ b) ++
    [if marks.testBit unitEntropy && kat &&& 0x33 == 0 then 0x10 else 0, b2n (!sram.isEmpty), 0x80 * b2n controller])

/-- A failing bank lies in a region that stops a cold start: queues, general SRAM, flight halls, recorder or vault (R508). -/
def sramStops (sram : List Nat) : Bool := sram.any fun e => decide (208 ≤ e)

/-- Record failing known-answer tests. -/
def State.katFaults (s : State) (kat marks : Nat) : State :=
  (katEngines kat marks).foldl (fun s e => s.recordFault .katFail (.engine e) []) s

/-- The source is marked unusable: the effects of the alarm (R362). -/
def State.entropyDead (s : State) : State :=
  (s.setSec fun c => { c with ent := .alarm, discarded := c.discarded + c.pool.length, pool := [] }).attn attnEntropy

/-- A source that stood in alarm or was marked runs again after the tests of BIST, with its cells reset (R361, R362, R507). -/
def State.entropyRestart (s : State) : State :=
  s.setSec fun c => { c with ent := .running, consec := 0, blockAt := s.now, cells := Vector.replicate 4 CellTest.reset }

/-- Failing 4 KiB SRAM banks of a test (R508): 0 to 79 lie in the data-hall pool, 80 to 207 in the CIR buffers, others elsewhere
(log 32). -/
def Bist.sram (b : Bist) (sram : List Nat) : Bist :=
  { b with sramFail := !sram.isEmpty, sramCount := sram.length
           sramBank := match sram with | e :: _ => Config.sramBank e % 1024 | [] => 0
           poolOut := sram.filter fun e => decide (e < 80)
           cirOut := (sram.filter fun e => decide (80 ≤ e) && decide (e < 208)).map fun e => (e - 80) / 8 }

/-- Wrapped keys that fail their check revoke their tenant at a cold start (R321, R357). -/
def State.checkWrapped (s : State) : State :=
  if s.sec.kek.isEmpty then s else
  s.ten.recs.foldl (fun s e =>
    match (List.range 4).find? fun i => e.2.keys.testBit i && (s.unwrapKey e.2 i).isNone with
    | some i =>
      if e.2.st = 3 then s
      else (s.loseTenant e.1 2).recordFault .wrapFail (.tenant e.1) (natLE 2 e.1 ++ natLE 1 i)
    | none => s) s

/-- The epoch-close record (R45). -/
def closeRecord (old new cause : Nat) (unfin : Option (List Nat)) : CqEntry :=
  let u := unfin.getD [0, 0, 0, 0]
  ⟨0, none, [0xEC, 0x80, 0x84, 0] ++ natLE 2 old ++ natLE 2 new ++ natLE 1 cause ++ natLE 1 (b2n unfin.isSome)
    ++ u.flatMap (natLE 1) ++ [0, 0]⟩

/-- Every unit mark of the map. -/
def unitsMask : Nat := 2 ^ 52 - 1

/-- Results of the cold-start BIST: marks from none (R506), withdrawals, known-answer tests, the wrapped keys, and whether the NVM
controller failed (R509). -/
def State.coldBist (s : State) (marks failed kat : Nat) (sram : List Nat) (controller : Bool) : State :=
  let m := (marks ||| katMarks kat marks) &&& unitsMask
  let b := ({ s.bist with unus := 0, running := false, cold := true, scope := 0xFF
                          failed := (failed ||| katScopes kat ||| markScopes m kat sram controller) % 256
                          lastTime := sat 65535 ((s.now - s.epochStart) / (10 * usT)) } : Bist).sram sram
  let s := (({ s with bist := b } : State).mark m).setSec fun c => { c with katFail := kat % 128 }
  let s := (s.katFaults (kat % 128) m).checkWrapped
  let s := if s.marked unitEntropy then s.entropyDead
    else if s.sec.ent = .alarm then s.entropyRestart else s
  s.retireLandings

/-- COLD_START_BIST_DONE (R411, R507 to R510): the boot and its tests end, the epoch-close record is posted and units act. `halt` tells
that the NVM controller failed, which stops the device in fault halt (R509); so does a failing bank outside the pool and the CIR buffers
(R508) and the third cold reset within 10 s (R425). It cannot occur before the root that R341 asks for has been
generated. -/
def execEvColdStartBistDone (dt : Nat) (b : BootIn) (marks failed kat : Nat) (sram : List Nat) (halt : Bool) (s : State) :
    Host.Outcome State Fault Refusal :=
  occurAt rankUnit dt s fun s =>
    match s.power.booting with
    | none => s
    | some cause =>
      if !s.coreUp || s.power.mode != .awake || s.sec.scan then s else
      let r := s.boot b true
      if r.2 then r.1
      else if r.1.wantsRoot then s
      else
        let t := r.1.coldBist marks failed kat sram halt
        let epoch := t.host.epoch.toNat
        let h := { t.host with cq := closeRecord ((epoch + 65535) % 65536) epoch cause t.host.unfin :: t.host.cq, unfin := none }
        let f := if halt || sramStops sram || t.faults.haltDue then { t.faults with mode := .halt, haltDue := false } else t.faults
        { t with host := h, faults := f, power := { t.power with booting := none, xtalOk := true } }

/-! ### Safe hold (R423, R424) -/

/-- Result bytes of an item that a warm reset ends (R424, R427): a FLIGHT_START shows g1 as 0; items of R131 show what they have
delivered. -/
def State.warmResult (s : State) (r : ItemRec) : List Byte :=
  let moved : Nat := match (s.dma.chans.toList.filterMap (·.desc)).find? fun d => d.job == .item r.key with
    | some d => d.done
    | none => 0
  match r.code with
  | 0x01 | 0x13 | 0x14 | 0x15 | 0x23 | 0x53 => natLE 2 moved
  | 0x11 => (match (s.landsWhere fun x => x.item == some r.key || x.pending.any (·.key == r.key)).head? with
    | some l => natLE 2 l ++ [0, 0, 0, 0]
    | none => [])
  | _ => []

/-- Deferred starts that a warm reset ends before their first step are entered in DEFER_LOG (R106, R109). -/
def State.deferEntries (s : State) : State :=
  (s.landsWhere fun x => x.pending.any (·.deferred) || (x.busy && x.deferred && x.startedAt.isNone)).foldl (fun s l =>
    let x := s.land l
    match x.pending, x.item with
    | some r, _ => s.deferEntry l r.key r.since
    | none, some k => s.deferEntry l k x.itemSince
    | none, none => s) s

/-- Every accepted item ends FAILED_FAULT, SQ0 first and in SEQ order within each SQ; a FLIGHT_START shows g1 as 0, but one
that a fault has ended before keeps its fault word (R421, R424, worked example of R425). -/
def State.failItems (s : State) : State :=
  let order := (List.range 4).flatMap fun q => s.host.items.filter fun r => r.key.sq == q
  let done (r : ItemRec) : ItemRec :=
    let res := match r.phase with
      | .ended .failedFault b => b
      | .ended _ b => if r.code = 0x11 then b.take 2 ++ [0, 0, 0, 0] else b
      | _ => s.warmResult r
    { r with phase := .ended .failedFault res, awaits := none }
  ({ s with host := { s.host with items := order.map done } } : State).flush

/-- Every descriptor stops with cause 6: its destination is poisoned from where it stopped (R131, R424). -/
def State.haltDescs (s : State) : State :=
  (List.range 8).foldl (fun s ch =>
    let c := s.dma.chan ch
    match c.active, c.desc with
    | true, some d =>
      let s := s.dmaPoison d
      let c := { c with active := false, doneFlag := false, failed := true, cause := 6 }
      { s with dma := { s.dma with chans := vset s.dma.chans ch c } }
    | _, _ => s) { s with dma := { s.dma with waiting := [] } }

/-- SAFE_HOLD (R423 step 4, R424): boot path, every flight, start and descriptor ends, every item is completed, the ledgers are
checked, and the device goes on. -/
def execEvSafeHold (dt : Nat) (b : BootIn) (s : State) : Host.Outcome State Fault Refusal :=
  occurAt rankUnit dt s fun s =>
    if s.faults.mode != .warm || !s.coreUp then s else
    let d := s.dma
    let r := { s with dma := Dma.reset }.boot b false
    if r.2 then r.1 else
    let s := { r.1 with dma := d }.haltDescs.deferEntries.failItems
    let s := if r.1.dma.chan 0 = Chan.reset then s else { s with dma := { s.dma with chans := vset s.dma.chans 0 (r.1.dma.chan 0) } }
    let s : State := { s with landings := s.landings.map fun x => if x.st == .unusable then x else Landing.free
                              ten := { s.ten with newels := [], turns := [] }, power := { s.power with voteWaits := [] }
                              bist := { s.bist with running := false } }
    let s := s.retireLandings.galAfterWarm
    let s := s.checkAllLedgers
    if s.faults.mode = .warm then { s with faults := { s.faults with mode := .normal } } else s

/-- WAKE_COMPLETE (R486): boot path steps 1 to 9 without BIST, then the host link is served; TM0 and TM1 run again (R501). -/
def execEvWakeComplete (dt : Nat) (b : BootIn) (s : State) : Host.Outcome State Fault Refusal :=
  occurAt rankUnit dt s fun s =>
    if !s.power.waking || !s.coreUp then s else
    let r := s.boot b false
    if r.2 then r.1 else
    let s := r.1.resetTimers
    s.setPower fun p => { p with mode := .awake, waking := false, xtalOk := true }

/-! ### Reset commands -/

/-- POWER_ON_RESET (R522). -/
def execEvPowerOnReset (dt caddr fuse : Nat) (s : State) : Host.Outcome State Fault Refusal :=
  occurAt rankReset dt s fun s => s.powerReset 0x01 caddr fuse

/-- BROWN_OUT (R522, R535); VIO may be the supply that was lost. -/
def execEvBrownOut (dt caddr : Nat) (loss : PowerLoss) (s : State) : Host.Outcome State Fault Refusal :=
  occurAt rankReset dt s fun s =>
    let s := s.powerReset 0x02 caddr loss.fuse
    { s with tag := { s.tag with vio := loss.vio } }

/-- RSTN_RESET (R519): `us` is how long RSTN was low. A pulse between 1 us and 10 us may or may not reset (a free value, log 4). -/
def execEvRstnReset (dt us caddr fuse : Nat) (s : State) : Host.Outcome State Fault Refusal :=
  occurAt rankReset dt s fun s =>
    if us < 1 then s
    else if 10 ≤ us then s.powerReset 0x01 caddr fuse
    else
      let (s, n) := s.draw
      if n % 2 = 1 then s.powerReset 0x01 caddr fuse else s

/-- ACTIVATE_COLD_RESET (R400): 10 ms after an UPDATE_ACTIVATE completion with byte 12 = 1 was released. -/
def execEvActivateColdReset (dt : Nat) (s : State) : Host.Outcome State Fault Refusal :=
  occurAt rankReset dt s fun s =>
    if s.power.mode == .awake && !s.sec.scan && s.host.activate.any (fun a => a.due.any fun t => decide (t ≤ s.now))
      && s.faults.mode != .halt then s.coldReset 0x05
    else s

end Sys2Proof.Machine
end

