-- ==== Sys2Proof/Machine/ItemBase.lean ====
section
/-! DEFINITION. Starting an item (R32, R33, R42, R404, R420, R512), the checks many items share (R5, R37, R43, R563), the descriptor
of an item (R135, R564) and its durable operations (R389 to R391). -/

namespace Sys2Proof.Machine

open Sys2Proof

/-! ### Checks -/

/-- The first check that fails decides the code. -/
def firstCode : List (Bool × Code) → Code
  | [] => .ok
  | (bad, c) :: t => if bad then c else firstCode t

/-- FLAGS, byte 3 and the PARAM bytes that an item does not use are not 0 (R5, R35, R38); `used` lists its PARAM bytes as offset and
length. -/
def ItemRec.reservedBad (r : ItemRec) (used : List (Nat × Nat)) : Bool :=
  r.p8 1 != 0 || r.p8 3 != 0 || (List.range 20).any fun i =>
    r.p8 (12 + i) != 0 && !(used.any fun u => decide (u.1 ≤ 12 + i) && decide (12 + i < u.1 + u.2))

/-- Another accepted, uncompleted item names the item's PAGE (R37). -/
def State.pageTaken (s : State) (r : ItemRec) : Bool :=
  match r.page with | some p => decide (p < 8) && s.host.pageNamed (some r.key) p | none => false

/-- The item's PAGE is not 0 to 7. -/
def ItemRec.pageBad (r : ItemRec) : Bool := match r.page with | some p => decide (7 < p) | none => false

/-- Items that are served in ROM mode (R404): the update items for firmware, so none whose open update or running trial is a library's. -/
def State.romAllows (s : State) (r : ItemRec) : Bool :=
  r.code == 0x00 || r.code == 0x01 || r.code == 0x50 || (r.code == 0x40 && r.p8 12 == 0)
  || (decide (0x41 ≤ r.code) && decide (r.code ≤ 0x43) && s.life.openTarget != some 1)
  || (r.code == 0x44 && s.life.trialTarget != some 1)

/-- The item needs an engine that is marked unusable (R43, R363). -/
def State.needsDead (s : State) (r : ItemRec) : Bool :=
  r.needs.any fun c => match c with | .engine e => !s.engineUsable e | _ => false

/-- Units of the map that an item needs: those that a BIST_RUN tests, those of the domains that a VOTE_SET newly votes (R420). -/
def State.itemUnits (s : State) (r : ItemRec) : Nat :=
  match r.code with
  | 0x50 =>
    let old := s.vote (r.p8 12)
    orAll (((List.range 50).filter fun d => (fieldLE r.raw 16 8).testBit d && !old.testBit d).map domUnits)
  | 0x54 => scopeTests (r.p16 12)
  | _ => 0

/-- A scope that an item's own work needs lies in the set of the recovery that runs. -/
def State.needHeld (s : State) (c : Scope) : Bool := match c with | .engine e => s.engineHeld e | c => s.inSet c

/-- The item waits: for the end of a recovery that holds what it needs (R420), of a BIST_RUN, of what came before it at its tenant
(R87), of an enrolment in progress (log 173), and a BIST_RUN for every item in progress
(R512). -/
def State.itemWaits (s : State) (r : ItemRec) : Bool :=
  s.bist.running || (r.code == 0x54 && s.host.items.any fun q => q.phase == .running) || r.needs.any s.needHeld
  || s.setUnits &&& s.itemUnits r != 0 || (match r.page with | some p => s.inSet (.page p) | none => false)
  || (r.code == 0x20 && s.host.items.any fun q => q.phase == .running && q.code == 0x20)
  || (r.code == 0x11 && r.p16 14 == 0xFFFF && (match s.anyFree with | some l => s.inSet (.landing l) | none => false))
  || ((r.code == 0x21 || r.code == 0x22) && !s.changeTurn r)

/-- Code that stops an item before its own checks: lifecycle (R42), ROM mode (R404), an unusable unit (R43). -/
def State.itemGate (s : State) (r : ItemRec) : Code :=
  firstCode [(!s.lifeAllows r.code, .lifecycleRefused), (s.life.rom && !s.romAllows r, .stateRefused),
    (r.code != 0x54 && s.needsDead r, .unitUnusable)]

/-- The oldest item of an SQ that need not wait. A BIST_RUN that waits stays at the head of its SQ (R512); an item that waits
for a recovery lets the others by (R420). -/
def State.firstReady (s : State) : List ItemRec → Option ItemRec
  | [] => none
  | r :: t => if !s.itemWaits r then some r else if r.code == 0x54 then none else s.firstReady t

/-- The next item to start: the oldest of the highest-priority SQ that has one which need not wait (R33, R420, R512). -/
def State.nextItem (s : State) : Option ItemRec :=
  (s.firstReady (s.host.waitingOf 0)).orElse fun _ => (s.firstReady (s.host.waitingOf 1)).orElse fun _ =>
    (s.firstReady (s.host.waitingOf 2)).orElse fun _ => s.firstReady (s.host.waitingOf 3)

/-- The next item to start meets a test: it starts. `f` runs its own checks and effect. -/
def itemStart (dt : Nat) (s : State) (p : ItemRec → Bool) (f : ItemRec → State → State) : Host.Outcome State Fault Refusal :=
  occurWhen (·.inTurn rankItem) dt s fun s =>
    match s.nextItem with
    | some r =>
      if !p r then s else
      let s := s.startItem r.key
      match s.itemGate r with
      | .ok => f r s
      | c => s.finish r.key c []
    | none => s

/-- The item code is k. -/
def isCode (k : Nat) (r : ItemRec) : Bool := r.code == k

/-- End the item with the first code that fails, or go on. -/
def State.orElseDo (s : State) (r : ItemRec) (checks : List (Bool × Code)) (f : State → State) : State :=
  match firstCode checks with
  | .ok => f s
  | c => s.finish r.key c []

/-! ### Descriptors and durable operations -/

/-- Queue the descriptor of an item (R135). -/
def State.moveItem (s : State) (r : ItemRec) (srcKind dstKind : Nat) (src : DmaSrc) (dst : DmaDst) (srcOff dstOff len : Nat) : State :=
  let d : Desc := { job := .item r.key, itemCode := r.code, srcKind := srcKind, dstKind := dstKind, src := src, dst := dst
                    srcOff := srcOff, dstOff := dstOff, len := len, done := 0, buf := [], lastGranule := s.now }
  { s with dma := { s.dma with waiting := s.dma.waiting ++ [d] } }

/-- Copy bytes that the device assembles to the item's page. -/
def State.toPage (s : State) (r : ItemRec) (kind : Nat) (bs : List Byte) : State :=
  s.moveItem r kind 0 (.bytes bs) (.page (r.page.getD 0)) 0 0 bs.length

/-- Stage the first n bytes of the item's page. -/
def State.fromPage (s : State) (r : ItemRec) (dstKind n : Nat) : State :=
  s.moveItem r 0 dstKind (.page (r.page.getD 0)) .stage 0 0 n

/-- Queue durable operations. -/
def State.queueJobs (s : State) (js : List NvmJob) : State := { s with life := { s.life with jobs := s.life.jobs ++ js } }

/-- Queue the commit of an item. -/
def State.commitItem (s : State) (r : ItemRec) (data : List Byte) : State := s.queueJobs [.commit r.key 0 data]

/-! ### NOP and unknown items -/

/-- NOP (R33): it ends at once, and is posted after every earlier item of its banister group. -/
def execItNop (dt : Nat) (s : State) : Host.Outcome State Fault Refusal :=
  itemStart dt s (isCode 0x00) fun r s => s.finish r.key (if r.reservedBad [] then .badField else .ok) []

/-- Item codes of R38. -/
def itemCodes : List Nat :=
  [0x00, 0x01, 0x10, 0x11, 0x12, 0x13, 0x14, 0x15, 0x20, 0x21, 0x22, 0x23, 0x30, 0x31, 0x40, 0x41, 0x42, 0x43, 0x44, 0x50, 0x51,
   0x52, 0x53, 0x54, 0x55]

/-- UNKNOWN_ITEM (R38): a code that is not listed completes BAD_OPCODE. -/
def execItUnknownItem (dt : Nat) (s : State) : Host.Outcome State Fault Refusal :=
  occurWhen (·.inTurn rankItem) dt s fun s =>
    match s.nextItem with
    | some r => if itemCodes.contains r.code then s else (s.startItem r.key).finish r.key .badOpcode []
    | none => s

end Sys2Proof.Machine
end

