-- ==== Sys2Proof/Machine/AtlasItem.lean ====
section
/-! DEFINITION. ATLAS_LOAD (R282, R283). -/

namespace Sys2Proof.Machine

open Sys2Proof

/-- First NVM sector of an atlas half. -/
def atlasSector (h : Nat) : Nat := 512 + 32 * h

/-- Queue the descriptor of an ATLAS_LOAD into the unpublished half. -/
def State.atlasMove (s : State) (r : ItemRec) : State :=
  s.moveItem r 0 3 (.page (r.p8 12)) .stage 0 (4096 * atlasSector s.verdict.stageHalf + r.p32 16) (r.p16 14)

/-- ATLAS_LOAD: checks, then the erase of the unpublished half for offset 0. -/
def execItAtlasLoad (dt : Nat) (s : State) : Host.Outcome State Fault Refusal :=
  itemStart dt s (isCode 0x52) fun r s =>
    let len := r.p16 14
    let off := r.p32 16
    s.orElseDo r [(r.reservedBad [(12, 1), (14, 7)] || r.pageBad || decide (1 < r.p8 20), .badField),
        (decide (len < 1) || decide (2048 < len), .badLength), (s.pageTaken r, .stateRefused),
        (s.landings.toList.any Landing.busy, .stateRefused), (off != 0 && off != s.verdict.held, .badRef),
        (decide (131072 < off + len), .noSpace)] fun s =>
      if off = 0 then
        let s : State := { s with verdict := { s.verdict with held := 0 } }
        s.queueJobs ((List.range 32).map fun i => .erase r.key (atlasSector s.verdict.stageHalf + i))
      else s.atlasMove r

/-- Staged bytes are programmed; with LAST the atlas is checked, and published by the pointer write of phase 1. -/
def State.atlasCommitted (s : State) (r : ItemRec) (phase : Nat) (bs : List Byte) : State :=
  let v := s.verdict
  let h := v.stageHalf
  if phase = 0 then
    let m := (v.half h).writeN (r.p32 16) bs
    let n := r.p32 16 + bs.length
    let s : State := { s with verdict := { v.setHalf h m with held := n } }
    if r.p8 20 = 0 then s.finish r.key .ok (natLE 4 n) else
    match atlasCheck m n with
    | .ok => s.queueJobs [.commit r.key 1 []]
    | c => ({ s with verdict := { s.verdict with held := 0 } } : State).finish r.key c []
  else ({ s with verdict := { v with published := some h, held := 0 } } : State).finish r.key .ok (natLE 4 v.held)

end Sys2Proof.Machine
end

