-- ==== Sys2Proof/Machine/MiscItems.lean ====
section
/-! DEFINITION. VOTE_SET (R491), TIMER_SET (R494 to R505), BIST_RUN and its end (R511 to R514), CASCADE_MODE (R436, R437, R460). -/

namespace Sys2Proof.Machine

open Sys2Proof

/-! ### VOTE_SET -/

/-- Waiting VOTE_SETs of a voter stop waiting for domains that it withdraws (R491). -/
def State.votesWithdrawn (s : State) (voter gone : Nat) : State :=
  (s.setPower fun p => { p with voteWaits := p.voteWaits.map fun (w : VoteWait) =>
    if w.voter = voter then { w with added := w.added.filter fun d => !gone.testBit d
                                     deferred := w.deferred.filter fun d => !gone.testBit d }
    else w }).votesDone

/-- VOTE_SET. -/
def execItVoteSet (dt : Nat) (s : State) : Host.Outcome State Fault Refusal :=
  itemStart dt s (isCode 0x50) fun r s =>
    let voter := r.p8 12
    let mask := fieldLE r.raw 16 8
    let old := s.vote voter
    let added := (List.range 50).filter fun d => mask.testBit d && !old.testBit d
    s.orElseDo r [(r.reservedBad [(12, 1), (16, 8)] || decide (0x1F < voter) || decide (2 ^ 50 ≤ mask), .badField),
        (added.any (heldDown s.bist.unus), .unitUnusable)] fun s =>
      let s := s.setPower fun p => { p with votes := vset p.votes voter mask }
      let s := s.votesWithdrawn voter (maskWhere50 fun d => old.testBit d && !mask.testBit d)
      if added.all s.domUp then s.finish r.key .ok (natLE 1 0)
      else s.setPower fun p => { p with voteWaits := p.voteWaits ++ [⟨r.key, voter, added, added.filter s.domFalling⟩] }
where
  /-- Mask of the domains that meet a test. -/
  maskWhere50 (p : Nat → Bool) : Nat := (List.range 50).foldl (fun m d => if p d then m + 2 ^ d else m) 0

/-! ### TIMER_SET -/

/-- The fields of a configure are in range (R495, R497, R498, R503). -/
def timerFieldsOk (k : Nat) (r : ItemRec) : Bool :=
  let mode := r.p8 29
  let trig := r.p8 28
  decide (r.p8 14 < 8) && decide (mode < 4)
  && (if mode = 0 then trig == 0xFF else decide (trig < 16) && trig != k)
  && (if mode = 3 then r.p8 14 == 0 && r.p32 16 == 0 else decide (timerMinPre (r.p8 14) ≤ r.p32 16))
  && (if k < 8 then r.p32 24 == 0 else decide (2 ≤ r.p32 24) && decide (r.p32 20 < r.p32 24))

/-- The timer that an item of TIMER_SET names may be set: TM0 and TM1 belong to the device (R500, R501). -/
def timerNameChecks (r : ItemRec) : List (Bool × Code) := [(decide (15 < r.p8 12), .badField), (decide (r.p8 12 < 2), .badRef)]

/-- The count at application, as RESULT (R500). -/
def State.timerResult (s : State) (r : ItemRec) : State := s.finish r.key .ok (natLE 4 (s.timerCount (r.p8 12)))

/-- TIMER_CONFIGURE (R497 to R500): byte 13 = 0; a byte 13 above 2 completes BAD_FIELD. -/
def execItTimerConfigure (dt : Nat) (s : State) : Host.Outcome State Fault Refusal :=
  itemStart dt s (fun r => isCode 0x51 r && r.p8 13 != 1 && r.p8 13 != 2) fun r s =>
    let k := r.p8 12
    let t := s.timer k
    let same := t.source == r.p8 14 && t.prescale == r.p32 16 && t.trigSrc == r.p8 28 && t.trigMode == r.p8 29
    s.orElseDo r ([(decide (2 < r.p8 13), Code.badField)] ++ timerNameChecks r ++ [
        (r.reservedBad [(12, 3), (16, 14)] || !timerFieldsOk k r, Code.badField), (t.running && !same, Code.stateRefused)]) fun s =>
      let s := s.rebaseGated k
      let s := if t.running then s.rebase k else s
      let s := s.modTimer k fun t =>
        if !t.running then
          { t with configured := true, source := r.p8 14, prescale := r.p32 16, trigSrc := r.p8 28, trigMode := r.p8 29, count := 0
                   compare := r.p32 20, period := r.p32 24, preloaded := false, cmpPending := !t.cadence, events := 0
                   trigDue := none, base := s.now * 65536 }
        else if t.cadence then
          { t with cmpPre := r.p32 20, perPre := r.p32 24, preloaded := true, cmpPending := true, events := 0, setAt := s.now }
        else { t with compare := r.p32 20, cmpPending := true, events := 0 }
      s.timerResult r

/-- TIMER_START (R500). The prescaler begins at its accumulator of 0 (log 37). -/
def execItTimerStart (dt : Nat) (s : State) : Host.Outcome State Fault Refusal :=
  itemStart dt s (fun r => isCode 0x51 r && r.p8 13 == 1) fun r s =>
    let k := r.p8 12
    s.orElseDo r (timerNameChecks r ++ [(r.reservedBad [(12, 2)], Code.badField), (!(s.timer k).configured, Code.stateRefused)]) fun s =>
      let s := if (s.timer k).running then s else
        (s.rebaseGated k).modTimer k fun t => { t with running := true, base := s.now * 65536 }
      s.timerResult r

/-- TIMER_STOP (R500). -/
def execItTimerStop (dt : Nat) (s : State) : Host.Outcome State Fault Refusal :=
  itemStart dt s (fun r => isCode 0x51 r && r.p8 13 == 2) fun r s =>
    let k := r.p8 12
    s.orElseDo r (timerNameChecks r ++ [(r.reservedBad [(12, 2)], Code.badField)]) fun s =>
      let s := if (s.timer k).running then
          ((s.rebaseGated k).rebase k).modTimer k fun t => { t with running := false }
        else s
      s.timerResult r

/-! ### BIST_RUN -/

/-- BIST_RUN (R511, R512): it starts the tests of its scopes. -/
def execItBistRun (dt : Nat) (s : State) : Host.Outcome State Fault Refusal :=
  itemStart dt s (isCode 0x54) fun r s =>
    let scope := r.p16 12
    s.orElseDo r [(r.reservedBad [(12, 2)] || scope == 0 || decide (255 < scope), .badField),
        (s.landings.toList.any Landing.busy, .stateRefused)] fun s =>
      { s with bist := { s.bist with running := true, cold := false, scope := scope, startedAt := s.now } }

/-- KATFAIL bits that a scope mask tests (R367). -/
def scopeKats (scope : Nat) : Nat :=
  (if scope.testBit 4 then 3 else 0) + (if scope.testBit 2 then 0x74 else 0) + (if scope.testBit 3 then 8 else 0)

/-- The regulatory record forbids the LF tune of a self-test (R167, R507): its carrier, TUNE_I, or its emission. -/
def State.lfTuneBlocked (s : State) : Bool :=
  let f := s.lf
  let k := 124800000 * 65536
  let p := f.cycles tuneCycles
  decide (k < bits f.reg0 31 16 * 10 * f.carrier) || decide (bits f.reg0 15 0 * 10 * f.carrier < k)
  || decide (bits f.reg1 31 24 < bits f.tuneCfg 23 16) || decide (bits f.reg1 11 0 * msT < p)
  || decide (bits f.reg1 23 12 * msT < s.lfDutyMs * msT + p)

/-- What the LF tests find: open and short coils, and tunes of the enabled ones (R142, R149, R507 test 8). -/
def State.bistLf (s : State) (tunes : List LfTune) (coils : Nat) : State :=
  let s := (List.range 8).foldl (fun (s : State) n =>
    if !s.lf.coilEn.testBit n then s
    else if coils.testBit n then s.lfFault n 0 .lfOpen
    else if coils.testBit (8 + n) then s.lfFault n 1 .lfShort
    else s) s
  tunes.foldl (fun (s : State) (t : LfTune) =>
    if s.lf.coilEn.testBit t.coil && !s.lfTuneBlocked then
      let n := s.lf.cycles tuneCycles
      let at0 := s.lf.spans.foldl (fun m p => max m p.2) (s.now - 8 * n)
      let f := s.lf.modCoil t.coil (Coil.tuned t s.dieTemp)
      let s := s.setLf { f with spans := f.spans ++ [(at0, at0 + n)] }
      if s.lf.outOfRange t then s.lfFault t.coil 2 .lfTuneRange else s
    else s) s

/-- BIST_RUN_DONE (R508, R511 to R514, R362): `marks` names the units that failed, `failed` the scopes, `kat` the known-answer tests,
`sram` the failing SRAM banks (log 32). An alarm that eight failures raised ends with a passing entropy scope, the effects of a mark with
the mark; `coils` the open coils in [7:0] and the short ones in [15:8]. -/
def execEvBistRunDone (dt marks failed kat : Nat) (sram : List Nat) (tunes : List LfTune) (coils : Nat) (s : State) :
    Host.Outcome State Fault Refusal :=
  occurLive dt s fun s =>
    match s.bist.running, s.host.items.find? fun r => r.code == 0x54 && r.phase == .running with
    | true, some r =>
      let scope := s.bist.scope
      let tested := scopeTests scope
      let kats := scopeKats scope
      let kat := clearBits s.sec.katFail kats + (kat &&& kats)
      let bad := (marks ||| katMarks kat marks) &&& tested
      let found := markScopes bad kat (if scope.testBit 0 then sram else []) false
      let failed := (failed ||| katScopes (kat &&& kats) ||| found) &&& scope &&& 0xFF
      let b : Bist := { s.bist with unus := clearBits s.bist.unus (clearBits tested bad), running := false, failed := failed
                                    lastTime := sat 65535 ((s.now - s.bist.startedAt) / (10 * usT)) }
      let b := if scope.testBit 0 then b.sram sram else b
      let s := (({ s with bist := b } : State).mark bad).setSec fun c => { c with katFail := kat }
      let s := s.katFaults (kat &&& kats) bad
      let s := if s.marked unitEntropy then (if bad.testBit unitEntropy then s.entropyDead else s)
        else if s.sec.ent == .alarm && (decide (s.sec.consec < 8) || (scope.testBit 4 && !failed.testBit 4)) then s.entropyRestart
        else s
      let s : State := { s with landings := Vector.ofFn fun l : Fin 192 =>
        let x := s.landings.get l
        if x.st == .unusable && !s.marked (l.val / 8) then Landing.free else x }
      let s := if scope.testBit 6 then s.bistLf tunes coils else s
      s.retireLandings.finish r.key .ok (natLE 2 failed)
    | _, _ => s

/-! ### CASCADE_MODE -/

/-- CASCADE_STANDALONE: CASCADE_MODE 0. -/
def execItCascadeStandalone (dt : Nat) (s : State) : Host.Outcome State Fault Refusal :=
  itemStart dt s (fun r => isCode 0x55 r && r.p8 12 == 0) fun r s =>
    s.orElseDo r [(r.reservedBad [(12, 1)], .badField)] fun s => s.cascadeLeave r.key

/-- CASCADE_JOIN: CASCADE_MODE 1. -/
def execItCascadeJoin (dt : Nat) (s : State) : Host.Outcome State Fault Refusal :=
  itemStart dt s (fun r => isCode 0x55 r && r.p8 12 == 1) fun r s =>
    s.orElseDo r [(r.reservedBad [(12, 1)], .badField)] fun s => s.cascadeJoin r.key

/-- CASCADE_MODE_CHANGE: CASCADE_MODE 2, whose record moves first; a byte 12 above 2 completes BAD_FIELD. -/
def execItCascadeModeChange (dt : Nat) (s : State) : Host.Outcome State Fault Refusal :=
  itemStart dt s (fun r => isCode 0x55 r && decide (1 < r.p8 12)) fun r s =>
    s.orElseDo r [(r.reservedBad [(12, 4)] || decide (2 < r.p8 12) || r.pageBad, .badField), (r.p16 14 != 16, .badLength),
        (s.gal.addr != 0, .stateRefused), (s.pageTaken r, .stateRefused)] fun s => s.fromPage r 6 16

end Sys2Proof.Machine
end

