-- ==== Sys2Proof/Machine/HallItems.lean ====
section
/-! DEFINITION. Items that load images, read contexts, halls, evidence and tenant records (R54 to R56, R110, R124, R128, R308, R312,
R561, R565), and the items that start and stop flights (R39, R57, R100 to R104). -/

namespace Sys2Proof.Machine

open Sys2Proof

/-! ### FLIGHT_LOAD -/

/-- Bytes that an image takes in the loaded-image area: header, code and initialisation. -/
def Image.size (i : Image) : Nat := 32 + i.code.length + i.init.length

/-- A landing runs an image: busy or draining, with its halls bound. -/
def State.runsImage (s : State) (id : Nat) : Bool := s.landings.toList.any fun x => x.hallsBound && x.image == id

/-- Bytes in use of the loaded-image area (R124): published images, replaced ones still run, and bytes held. -/
def State.loadedArea (s : State) : Nat :=
  (s.halls.images.filter fun e =>
      decide (e.2.slot < 0x80) && (s.halls.published.any (fun p => p.2 == e.1) || s.runsImage e.1)).foldl (fun n e => n + e.2.size) 0
  + s.halls.held.foldl (fun n e => n + e.2.length) 0

/-- A busy landing runs the flight slot (R43). -/
def State.slotBusy (s : State) (slot : Nat) : Bool := s.landings.toList.any fun x => x.busy && x.slot == slot

/-- Bytes on their way to the loaded-image area: those of the FLIGHT_LOADs in progress, other than item k (R124). -/
def State.loadsMoving (s : State) (k : ItemKey) : Nat :=
  (s.host.items.filter fun q => q.code == 0x10 && q.phase == .running && q.key != k).foldl (fun n q => n + q.p16 20) 0

/-- FLIGHT_LOAD (R55, R561): the checks before its bytes move. The space is what is free once offset 0 has discarded the slot's bytes;
where it does not suffice, they stay held. -/
def execItFlightLoad (dt : Nat) (s : State) : Host.Outcome State Fault Refusal :=
  itemStart dt s (isCode 0x10) fun r s =>
    let slot := r.p16 12
    let off := r.p32 16
    let len := r.p16 20
    s.orElseDo r [
        (r.reservedBad [(12, 2), (14, 1), (16, 4), (20, 2), (22, 1)] || r.pageBad || decide (1 < r.p8 22), .badField),
        (decide (0x7F < slot), .badRef), (off % 4 != 0 || len % 4 != 0, .badAlign),
        (decide (len < 4) || decide (2048 < len), .badLength), (s.pageTaken r, .stateRefused), (s.slotBusy slot, .stateRefused),
        (off != 0 && off != (s.heldBytes slot).length, .badRef)] fun s =>
      let new : State := if off = 0 then { s with halls := { s.halls with held := Tbl.del s.halls.held slot } } else s
      if 65536 < new.loadedArea + new.loadsMoving r.key + len then s.finish r.key .noSpace []
      else new.fromPage r 6 len

/-- The bytes of a FLIGHT_LOAD are delivered (R55, R56). -/
def State.flightLoaded (s : State) (r : ItemRec) (bs : List Byte) : State :=
  let slot := r.p16 12
  let s := s.loadBytes slot (r.p32 16) bs
  let img := s.heldBytes slot
  if r.p8 22 % 2 = 0 then s.finish r.key .ok (natLE 4 img.length) else
  let s : State := { s with halls := { s.halls with held := Tbl.del s.halls.held slot } }
  match parseImage false slot img with
  | none => s.finish r.key .badField []
  | some i =>
    let old := Tbl.find s.halls.published slot
    let h := s.halls.publish slot i
    let h := match old with
      | some id => if s.runsImage id then h else { h with images := Tbl.del h.images id }
      | none => h
    ({ s with halls := h } : State).finish r.key .ok (natLE 4 img.length)

/-! ### FLIGHT_START and FLIGHT_STOP -/

/-- FLIGHT_START (R39, R100 to R102). -/
def execItFlightStart (dt : Nat) (s : State) : Host.Outcome State Fault Refusal :=
  itemStart dt s (isCode 0x11) fun r s =>
    let w (o : Nat) : Word := BitVec.ofNat 32 (r.p32 o)
    let t := r.p16 18
    s.orElseDo r [
        (r.reservedBad [(12, 5), (18, 14)] || decide (3 < r.p8 16), .badField),
        (decide (0xFF < r.p16 12) || (decide (0xBF < r.p16 14) && r.p16 14 != 0xFFFF) || (decide (0x3FF < t) && t != 0xFFFF),
          .badRef)] fun s =>
      let q : StartReq := { key := r.key, slot := r.p16 12, prio := r.p8 16, tenant := if t = 0xFFFF then none else some t
                            g1 := w 20, g2 := w 24, g3 := w 28, since := s.now, deferred := false }
      match s.tryStart (r.p16 14) q with
      | (s, .ok) => s
      | (s, c) => s.finish r.key c []

/-- FLIGHT_STOP (R39, R104). -/
def execItFlightStop (dt : Nat) (s : State) : Host.Outcome State Fault Refusal :=
  itemStart dt s (isCode 0x12) fun r s =>
    s.orElseDo r [(r.reservedBad [(12, 2)], .badField), (decide (0xBF < r.p16 12), .badRef)] fun s => s.stopLanding r.key (r.p16 12)

/-! ### LANDING_PEEK (R110) -/

/-- Wait code of the context. -/
def Wait.code : Wait → Nat
  | .none | .starting _ => 0
  | .field _ => 1
  | .airClaim _ => 2
  | .ltWait _ _ | .tmWait _ _ _ => 3
  | .banister | .ending _ => 4
  | .newel _ | .tfail _ => 5
  | .crypto _ => 6
  | .judge _ _ | .tload _ _ _ => 7
  | .relOpen _ _ | .relHold _ | .relClose _ => 8
  | .gsend _ _ | .gwait _ _ _ => 9
  | .suspended _ => 10

/-- Source byte of a handle. -/
def KeySrc.code : KeySrc → Nat
  | .empty => 0 | .vault _ => 1 | .tenant _ => 2 | .derived _ => 3

/-- Flag byte of the context. -/
def Flags.byte (f : Flags) : Nat := b2n f.z + 2 * b2n f.n + 4 * b2n f.c + 8 * b2n f.v + 16 * b2n f.f + 32 * b2n f.d

/-- Latch byte of the context. -/
def Landing.latchByte (x : Landing) : Nat :=
  b2n x.proof + 2 * b2n x.relok + 4 * b2n x.relSession + 8 * b2n x.staged.isSome + 16 * b2n x.deferred

/-- A hall of a landing holds a poison-tagged granule. -/
def State.hallHasPoison (s : State) (l h : Nat) : Bool := s.hallPoisoned l h 0 (s.hallLimit l h)

/-- Twelve bytes of the airtime of resource i: of a resource used by two step kinds the longer disturbed run shows (log 34). -/
def State.airRow (s : State) (l i : Nat) : List Byte :=
  let x := s.land l
  let used := vget x.airUsed i 0
  match s.air.grantOf l i with
  | some g =>
    let run := (g.runs.filter fun p => p.1.res == i).foldl (fun m p => max m p.2) 0
    let us := g.ticks s.now / usT
    natLE 1 (if g.suspended then 3 else 2) ++ natLE 1 (sat 255 run) ++ [0, 0] ++ natLE 4 (g.budgetUs - us) ++ natLE 4 (used + us)
  | none =>
    match s.air.claims.find? fun c => c.landing == l && c.mask.testBit i with
    | some c => [1, 0, 0, 0] ++ natLE 4 c.budgetUs ++ natLE 4 used
    | none => natLE 1 (if x.airReleased.testBit i then 4 else 0) ++ [0, 0, 0] ++ natLE 4 0 ++ natLE 4 used

/-- Sixteen bytes of hall h. -/
def State.hallRow (s : State) (l h : Nat) : List Byte :=
  natLE 4 (s.hallBase l h) ++ natLE 4 (s.hallLimit l h) ++ natLE 1 (s.hallPerm l h) ++ natLE 1 (b2n (s.hallHasPoison l h))
  ++ List.replicate 6 0

/-- The 2,048-byte context of a landing. DESIGN CHOICE (log 169): for a gallery part, which no item started, SQ shows 4 and SEQ the number of
the part. -/
def State.context (s : State) (l : Nat) : List Byte :=
  let x := s.land l
  let k := x.item.getD ⟨0, 0⟩
  padTo 2048 <|
    (List.range 16).flatMap (fun n => natLE 4 (x.reg n).toNat)
    ++ natLE 4 x.pc ++ natLE 1 x.flags.byte ++ natLE 1 (x.shown + 4 * x.prio + 16 * x.wait.code) ++ natLE 1 x.slot
    ++ natLE 1 x.latchByte ++ natLE 2 (x.tenant.getD 0xFFFF) ++ natLE 1 k.sq ++ [0] ++ natLE 4 k.seq.toNat
    ++ natLE 4 (x.ran s.now) ++ natLE 4 x.steps ++ natLE 1 (x.expiredMask s.now) ++ List.replicate 7 0
    ++ (x.lts.toList.flatMap fun t => natLE 4 (t.remaining s.now))
    ++ ((List.range 4).flatMap (s.hallRow l))
    ++ (x.handles.toList.flatMap fun h => natLE 2 h.engines ++ natLE 1 h.usage ++ natLE 1 (b2n h.tenantMark) ++ natLE 1 h.src.code
          ++ [0, 0, 0])
    ++ ((List.range 4).flatMap (s.airRow l))
    ++ natLE 1 (orAll (x.fuse.map fun e => 2 ^ e.1))

/-- The landing is busy with its halls bound, or draining (order 5 of R565). -/
def Landing.hasHalls (x : Landing) : Bool :=
  match x.st with | .busy | .hold | .scrub => true | .claimed => x.hallsBound | .free | .unusable => false

/-- LANDING_PEEK (R110). -/
def execItLandingPeek (dt : Nat) (s : State) : Host.Outcome State Fault Refusal :=
  itemStart dt s (isCode 0x13) fun r s =>
    let l := r.p16 12
    let off := r.p16 16
    let len := r.p16 18
    s.orElseDo r [(r.reservedBad [(12, 3), (16, 4)] || r.pageBad, .badField), (decide (0xBF < l), .badRef),
        (decide (len < 1) || decide (2048 < len) || decide (2048 < off + len), .badLength), (s.pageTaken r, .stateRefused),
        (!(s.land l).hasHalls, .badRef)] fun s =>
      s.moveItem r 2 0 (.bytes (s.context l)) (.page (r.p8 14)) off 0 len

/-! ### HALL_READ and HALL_WRITE (R565) -/

/-- The checks of both, for the permission bit that each asks. -/
def State.hallItemChecks (s : State) (r : ItemRec) (perm : Nat) : List (Bool × Code) :=
  let l := r.p16 12
  let h := r.p8 14
  let len := r.p16 20
  [(r.reservedBad [(12, 4), (16, 6)] || decide (3 < h) || r.pageBad, .badField), (decide (0xBF < l), .badRef),
   (decide (len < 1) || decide (2048 < len), .badLength), (s.pageTaken r, .stateRefused), (!(s.land l).hasHalls, .badRef),
   (decide (s.hallLimit l h < r.p32 16 + len), .badLength), (!(s.hallPerm l h).testBit perm, .stateRefused)]

/-- HALL_READ. -/
def execItHallRead (dt : Nat) (s : State) : Host.Outcome State Fault Refusal :=
  itemStart dt s (isCode 0x14) fun r s =>
    s.orElseDo r (s.hallItemChecks r permHr) fun s =>
      s.moveItem r (if r.p8 14 = 2 then 5 else 1) 0 (.hall (r.p16 12) (r.p8 14)) (.page (r.p8 15)) (r.p32 16) 0 (r.p16 20)

/-- HALL_WRITE. -/
def execItHallWrite (dt : Nat) (s : State) : Host.Outcome State Fault Refusal :=
  itemStart dt s (isCode 0x15) fun r s =>
    s.orElseDo r (s.hallItemChecks r permHw) fun s =>
      s.moveItem r 0 1 (.page (r.p8 15)) (.hall (r.p16 12) (r.p8 14)) 0 (r.p32 16) (r.p16 20)

/-! ### EVIDENCE_READ (R308) -/

/-- EVIDENCE_READ. -/
def execItEvidenceRead (dt : Nat) (s : State) : Host.Outcome State Fault Refusal :=
  itemStart dt s (isCode 0x53) fun r s =>
    let n := r.p16 12
    s.orElseDo r [(r.reservedBad [(12, 4)] || r.pageBad || decide (1 < r.p8 15), .badField), (decide (0xFF < n), .badRef),
        (s.pageTaken r, .stateRefused), (!s.evd.filled.contains n, .badRef),
        (r.p8 15 == 1 && (Tbl.find s.evd.captures n).isNone, .badRef)] fun s =>
      s.moveItem r 7 0 (.bytes (padTo 1024 (Tbl.get s.evd.recs n []))) (.page (r.p8 14)) 0 0 1024

/-- Every byte of an evidence record is delivered: a retired capture becomes free. -/
def State.evidenceRead (s : State) (r : ItemRec) : State :=
  let n := r.p16 12
  let e := s.evd
  let s : State :=
    if r.p8 15 = 1 then
      let recs := (Tbl.get e.captures n []).foldl (fun t k => Tbl.del t k) e.recs
      { s with evd := { e with recs := recs, captures := Tbl.del e.captures n } }
    else s
  s.finish r.key .ok (natLE 2 1024)

/-! ### TENANT_READ (R312) -/

/-- The 96-byte record of tenant t. -/
def State.tenantRecord (s : State) (t : Nat) : List Byte :=
  padTo 96 <| natLE 2 1 ++ natLE 2 t ++
    match s.tenant t with
    | none => []
    | some x =>
      natLE 1 x.st ++ natLE 1 x.ttype ++ natLE 1 x.keys ++ natLE 1 x.rights ++ natLE 4 x.tokid ++ natLE 4 x.counter
      ++ natLE 4 x.climit ++ natLE 4 x.vfrom ++ natLE 4 x.vuntil ++ natLE 2 x.mlimit ++ natLE 2 x.startZones ++ natLE 2 x.entryZones
      ++ natLE 1 x.replycfg ++ natLE 1 x.revokedBy ++ natLE 1 x.cf ++ natLE 1 (b2n x.lockEnd.isSome) ++ natLE 2 (s.leftS x.lockEnd)
      ++ natLE 4 x.lctr ++ natLE 4 x.enrolled ++ natLE 4 x.passes ++ natLE 4 x.fails ++ natLE 4 x.lastpass ++ natLE 1 x.batt
      ++ natLE 1 x.life ++ natLE 2 x.elimit ++ natLE 1 x.tstatus

/-- TENANT_READ. -/
def execItTenantRead (dt : Nat) (s : State) : Host.Outcome State Fault Refusal :=
  itemStart dt s (isCode 0x23) fun r s =>
    s.orElseDo r [(r.reservedBad [(12, 3)] || r.pageBad, .badField), (decide (0x3FF < r.p16 12), .badRef),
        (s.pageTaken r, .stateRefused)] fun s => s.toPage r 8 (s.tenantRecord (r.p16 12))

end Sys2Proof.Machine
end

