-- ==== Sys2Proof/Machine/SurveyItem.lean ====
section
/-! DEFINITION. SURVEY (R48): one consistent snapshot of the device. -/

namespace Sys2Proof.Machine

open Sys2Proof

/-- Bits of a word of per-domain or per-anything tests below n. -/
def maskWhere (n : Nat) (p : Nat → Bool) : Nat := (List.range n).foldl (fun m i => if p i then m + 2 ^ i else m) 0

/-- Domains up, and domains that await a deferred rise. -/
def State.upMask (s : State) : Nat := maskWhere 50 s.domUp
def State.deferMask (s : State) : Nat := maskWhere 50 fun d => match s.dom d with | .falling _ (some _) => true | _ => false

/-- The 32 bytes of a retirement record (R433). -/
def Retirement.bytes (q : Retirement) : List Byte :=
  let b := natLE 2 0x52C1 ++ natLE 2 q.epoch ++ natLE 8 q.first ++ natLE 8 q.last ++ natLE 4 q.total ++ natLE 4 0
  b ++ natLE 4 (crc32 b)

/-- Banks byte of the survey. -/
def LifeCycle.banksByte (c : LifeCycle) : Nat :=
  b2n (c.selected 0 == some 1) + 2 * b2n (c.selected 1 == some 3) + 4 * b2n (c.bankIn 0 .trial).isSome
  + 8 * b2n (c.bankIn 1 .trial).isSome

/-- Fuse flags of the survey. -/
def LifeCycle.fuseByte (c : LifeCycle) : Nat := b2n c.marginal + 2 * b2n c.fuseFault + 4 * b2n c.mchange

/-- Landing states, four bits each. -/
def State.landingMap (s : State) : List Byte :=
  (List.range 96).flatMap fun i =>
    let n (k : Nat) : Nat := let x := s.land k; x.shown + 4 * x.prio
    natLE 1 (n (2 * i) + 16 * n (2 * i + 1))

/-- Landings shown in a state. -/
def State.shownCount (s : State) (k : Nat) : Nat := s.landings.toList.countP fun x => x.shown == k

/-- One timer row. -/
def State.timerRow (s : State) (k : Nat) : List Byte :=
  let t := s.timer k
  natLE 4 (s.timerCount k) ++ natLE 1 (b2n t.running + 2 * t.source) ++ natLE 1 (b2n t.cmpPending) ++ [0, 0]

/-- One latched fault. -/
def latchRow : Option Latch → List Byte
  | none => List.replicate 16 0
  | some e => natLE 1 (e.cause.num / 16) ++ natLE 1 e.cause.num ++ natLE 2 e.scope.num ++ natLE 2 e.count ++ [0, 0] ++ natLE 8 e.first

/-- The first part of the survey, to the airtime ledgers: 0x000 to 0x10F. -/
def State.surveyHead (s : State) : List Byte :=
  let h := s.host
  natLE 2 1 ++ natLE 2 0x5A0 ++ natLE 2 h.epoch.toNat ++ natLE 1 s.life.st.num ++ natLE 1 s.life.fuseByte ++ natLE 1 s.life.banksByte
  ++ natLE 1 s.life.trialLeft ++ [0, 0] ++ natLE 8 s.us
  ++ ((List.range 4).flatMap fun q => natLE 4 (vget h.sqSeq q 0).toNat ++ natLE 1 (vget h.credits q 0) ++ natLE 1 (h.accepted q)
        ++ natLE 1 (h.unreleased q) ++ [0])
  ++ natLE 2 h.cqHead ++ natLE 2 h.pendingCount
  ++ s.landingMap ++ ((List.range 4).flatMap fun k => natLE 2 (s.shownCount k))
  ++ (s.gal.nodes.toList.flatMap fun n => natLE 1 n.avail ++ natLE 1 n.flight ++ natLE 1 n.held ++ [0])
  ++ natLE 8 s.rel.lastSent ++ natLE 8 s.rel.top ++ natLE 4 s.rel.retiredCount ++ natLE 4 s.rel.retired.length
  ++ natLE 2 s.evd.freeCount ++ natLE 2 s.evd.filled.length ++ natLE 2 s.evd.capturing.length ++ [0, 0] ++ natLE 4 s.evd.misses
  ++ [0, 0, 0, 0] ++ natLE 8 s.evd.missAt
  ++ natLE 4 s.sec.sysSeeds ++ natLE 4 s.sec.tenSeeds ++ natLE 1 (b2n (s.sec.ent == .alarm)) ++ [0, 0, 0]
  ++ natLE 2 (sat 65535 s.erasesMax) ++ natLE 2 (sat 65535 s.erasesMean) ++ natLE 4 s.life.half ++ natLE 4 s.erasesTotal
  ++ natLE 2 (s.ten.recs.countP fun e => e.2.lockEnd.isSome) ++ natLE 2 (s.ten.recs.countP fun e => e.2.st == 2)
  ++ natLE 2 (sat 65535 (s.leftS s.ten.learnEnd)) ++ natLE 2 s.windowFails.length

/-- The second part: domains, votes, timers, roster, the unusable map, latched faults: 0x110 to 0x59F. The master's address is 0,
and the agreement byte is coded as RESULT 10 of CASCADE_MODE (log 35). -/
def State.surveyTail (s : State) : List Byte :=
  natLE 8 s.upMask ++ natLE 8 s.deferMask
  ++ (s.power.refCount.toList.flatMap fun n => natLE 2 n) ++ (s.power.refVoter.toList.flatMap fun n => natLE 1 n) ++ [0, 0]
  ++ (s.power.votes.toList.flatMap fun m => natLE 8 m)
  ++ ((List.range 16).flatMap s.timerRow)
  ++ (s.gal.nodes.toList.flatMap fun n => natLE 1 n.st ++ natLE 1 (b2n n.modeAck) ++ natLE 2 n.lastRound ++ natLE 1 n.lastCode
        ++ [0, 0, 0])
  ++ natLE 1 s.gal.addr ++ [0] ++ natLE 1 s.gal.rosterByte ++ List.replicate 5 0
  ++ natLE 32 s.bist.unus
  ++ (s.faults.latches.toList.flatMap latchRow)

/-- The 2,048 bytes of a survey. -/
def State.survey (s : State) : List Byte := padTo 2048 (s.surveyHead ++ s.surveyTail)

/-- SURVEY (R48, R432): the ledgers are checked at the snapshot. -/
def execItSurvey (dt : Nat) (s : State) : Host.Outcome State Fault Refusal :=
  itemStart dt s (isCode 0x01) fun r s =>
    s.orElseDo r [(r.reservedBad [(12, 1)] || r.pageBad, .badField), (s.pageTaken r, .stateRefused)] fun s =>
      let s := s.checkLedgers
      if s.live then s.toPage r 8 s.survey else s

end Sys2Proof.Machine
end

