-- ==== Sys2Proof/Machine/TenantItems.lean ====
section
/-! DEFINITION. TENANT_ENROL, TENANT_SUSPEND and TENANT_REVOKE (R316 to R320). -/

namespace Sys2Proof.Machine

open Sys2Proof

/-! ### Enrolment -/

/-- A session on landing l proves the enrolment of tenant t (R318). -/
def State.sessionProof (s : State) (l t : Nat) : Bool :=
  let x := s.land l
  decide (l < 192) && x.busy && x.proof && x.tenant != some t &&
    (match x.tenant.bind s.tenant with | some r => r.st == 1 && r.rights.testBit 0 | none => false)

/-- Proof 0 holds (R318). -/
def State.proof0 (s : State) (l t : Nat) : Bool := (s.life.st == .provisioned && l == 0xFFFF) || s.sessionProof l t

/-- Keep bytes with a running item. -/
def State.keep (s : State) (k : ItemKey) (bs : List Byte) : State :=
  { s with host := { s.host with items := s.host.items.map fun (r : ItemRec) => if r.key == k then { r with memo := bs } else r } }

/-- TENANT_ENROL (R317): checks 1 to 3, and the session proof, before the record moves. -/
def execItTenantEnrol (dt : Nat) (s : State) : Host.Outcome State Fault Refusal :=
  itemStart dt s (isCode 0x20) fun r s =>
    let t := r.p16 12
    let l := r.p16 16
    s.orElseDo r [
        (decide (0x3FF < t) || (decide (0xBF < l) && l != 0xFFFF), .badRef),
        (r.reservedBad [(12, 7), (20, 2)] || r.pageBad || decide (3 < r.p8 14) || decide (1 < r.p8 15), .badField),
        (r.p16 20 != 192, .badLength), (s.pageTaken r, .stateRefused), (s.learnLocked, .lockedOut),
        ((match s.tenant t with | some x => !(x.st == 3 && s.life.st == .service) | none => false), .badRef)] fun s =>
      (s.keep r.key [if r.p8 15 = 1 || s.proof0 l t then 1 else 0]).fromPage r 6 192

/-- Fields of an enrolment record are in range and its reserved bytes are 0 (R316, order 4 of R317). -/
def enrolFields (b : List Byte) (devid : Nat) (r : ItemRec) : Bool :=
  b.take 4 == [0x4D, 0x4B, 0x45, 0x31] && fieldLE b 4 2 == 0xC0 && fieldLE b 6 2 == r.p16 12 && byteAt b 8 == r.p8 14
  && (sliceP b 16 16 == natLE 16 devid)
  && byteAt b 9 != 0 && decide (byteAt b 9 < 16) && decide (byteAt b 10 < 4) && decide (byteAt b 11 < 0x50)
  && fieldLE b 32 4 != 0 && decide (fieldLE b 44 4 < fieldLE b 48 4) && decide (fieldLE b 52 2 ≤ 36000)
  && !(fieldLE b 54 2).testBit 0 && (byteAt b 8 != 3 || fieldLE b 54 2 == 0) && !(fieldLE b 56 2).testBit 0
  && (byteAt b 8 == 1 || fieldLE b 58 2 == 0) && zerosAt b 60 4 && zerosAt b 172 20 && (r.p8 15 == 1 || zerosAt b 156 16)

/-- A vault slot is loaded and its attributes allow a use on an engine mask. -/
def State.slotAllows (s : State) (slot engines use : Nat) : Bool :=
  let v := s.vaultSlot slot
  v.st == 1 && (v.engines &&& engines != 0) && v.usage.testBit use

/-- A failure of learning that counts (R317, R323). -/
def State.enrolFails (s : State) (r : ItemRec) (c : Code) : State := s.learnFail.finish r.key c []

/-- The record of a TENANT_ENROL is staged: checks 4 to 10, then the journal entry (R317). -/
def State.enrolStaged (s : State) (r : ItemRec) (b : List Byte) : State :=
  let kEnrol := (s.vaultSlot 0xF0).key
  let tokid := fieldLE b 32 4
  let held (p : Nat → Bool) : Bool := s.ten.recs.any fun e => e.1 != r.p16 12 && p e.2.st && e.2.tokid == tokid
  if !enrolFields b s.life.devid r then s.finish r.key .badField []
  else if !s.slotAllows 0xF0 (2 ^ engWrap) useDec || (r.p8 15 == 1 && !s.slotAllows 0xF1 engAes useVer) then
    s.finish r.key .keyPolicy []
  else if r.memo != [1] || (r.p8 15 == 1 && aesCmac (s.vaultSlot 0xF1).key (b.take 156) != sliceP b 156 16) then
    s.enrolFails r .authFail
  else
    match gcmDecrypt kEnrol (sliceP b 64 12) (b.take 76) (sliceP b 76 64) (sliceP b 140 16) with
    | none => s.enrolFails r .authFail
    | some keys =>
      if fieldLE b 12 4 ≤ s.ten.learnCtr then s.enrolFails r .counterStale
      else if held fun st => st == 1 || st == 2 then s.finish r.key .badField []
      else if s.life.st != .service && held (fun st => st == 3) then s.finish r.key .badRef []
      else s.commitItem r (b ++ (List.range 4).flatMap fun i => kwWrap s.sec.kek (sliceP keys (16 * i) 16))

/-- The journal entry of an enrolment is durable: the tenant is active, with an empty life record (R317). -/
def State.enrolCommitted (s : State) (r : ItemRec) (b : List Byte) : State := (s.enrolEntry r b).finish r.key .ok (natLE 2 (r.p16 12))

/-! ### Suspension and revocation -/

/-- A busy landing is bound to tenant t (R43). -/
def State.tenantInUse (s : State) (t : Nat) : Bool := s.landings.toList.any fun x => x.busy && x.tenant == some t

/-- TENANT_SUSPEND (R319). -/
def execItTenantSuspend (dt : Nat) (s : State) : Host.Outcome State Fault Refusal :=
  itemStart dt s (isCode 0x21) fun r s =>
    let t := r.p16 12
    let want := if r.p8 14 = 0 then 2 else 1
    s.orElseDo r [(r.reservedBad [(12, 3)] || decide (1 < r.p8 14), .badField), (decide (0x3FF < t), .badRef),
        ((match s.tenant t with | some x => x.st == 3 | none => true), .badRef), (s.tenantInUse t, .stateRefused)] fun s =>
      match s.tenant t with
      | some x => if x.st = want then s.finish r.key .ok (natLE 2 t) else s.commitItem r []
      | none => s

/-- A suspension or resumption is durable (R44, R319). -/
def State.suspendCommitted (s : State) (r : ItemRec) : State := (s.suspendEntry r).finish r.key .ok (natLE 2 (r.p16 12))

/-- TENANT_REVOKE (R320). -/
def execItTenantRevoke (dt : Nat) (s : State) : Host.Outcome State Fault Refusal :=
  itemStart dt s (isCode 0x22) fun r s =>
    let t := r.p16 12
    s.orElseDo r [(r.reservedBad [(12, 2)], .badField), (decide (0x3FF < t), .badRef),
        ((match s.tenant t with | some x => x.st == 3 | none => true), .badRef), (s.tenantInUse t, .stateRefused)] fun s =>
      s.commitItem r []

/-- A revocation is durable (R44, R320). -/
def State.revokeCommitted (s : State) (r : ItemRec) : State := (s.revokeEntry r).finish r.key .ok (natLE 2 (r.p16 12))

end Sys2Proof.Machine
end

