-- ==== Sys2Proof/Machine/KeyItems.lean ====
section
/-! DEFINITION. KEY_UPDATE (R348 to R355, R279). -/

namespace Sys2Proof.Machine

open Sys2Proof

/-- Engines and usages that a key type may carry, and its length (R353). -/
def keyTypeRow (slot : Nat) : Nat → Option (Nat × Nat × Nat)
  | 0 => some (engAes + 2 ^ engKdf + 2 ^ engSts + 2 ^ engUpdver + (if 0xFC ≤ slot then 2 ^ engNfcsec else 0), 0xF, 16)
  | 1 => some (engAes + 2 ^ engKdf + 2 ^ engCansec + 2 ^ engWrap + 2 ^ engUpdver, 0xF, 32)
  | 2 => some (2 ^ engPka, 0x14, 32)
  | 3 => some (2 ^ engPka + 2 ^ engUpdver, 0x08, 64)
  | 4 => some (2 ^ engPka, 0x04, 32)
  | 5 => some (2 ^ engPka + 2 ^ engUpdver, 0x08, 32)
  | _ => none

/-- Every bit of a lies in b. -/
def subMask (a b : Nat) : Bool := (a &&& b) == a

/-- Attributes of R353, and of R349 for the slots it names. -/
def keyAttrs (slot ktype engines usage lifetime : Nat) : Bool :=
  (match keyTypeRow slot ktype with
   | some (e, u, _) => engines != 0 && usage != 0 && subMask engines e && subMask usage u
   | none => false)
  && decide (lifetime < 2)
  && (if slot = 0 then ktype == 3 && engines.testBit engPka && usage.testBit useVer && lifetime == 0
      else if slot = 0xF0 then ktype == 1 && engines.testBit engWrap && usage.testBit useDec
      else if slot = 0xF1 then decide (ktype < 2) && engines &&& engAes == engAes && usage.testBit useVer
      else if 0xFC ≤ slot then ktype == 0 else true)

/-- Order 3 of R354. -/
def keyMsgOk (b : List Byte) (devid : Nat) : Bool :=
  b.take 4 == [0x4D, 0x4B, 0x55, 0x31] && fieldLE b 4 2 == 0x110 && decide (byteAt b 6 < 2) && decide (byteAt b 7 < 2)
  && zerosAt b 14 2 && sliceP b 16 16 == natLE 16 devid && zerosAt b 40 8 && zerosAt b 204 4
  && (if byteAt b 6 = 0 then keyAttrs (byteAt b 8) (byteAt b 9) (fieldLE b 10 2) (byteAt b 12) (byteAt b 13)
      else zerosAt b 9 5 && zerosAt b 48 156)

/-- The key that an install carries, as it opens under the device identity key (R352). -/
def State.openKey (s : State) (b : List Byte) : Option (List Byte) :=
  (p256Ecdh s.sec.dik (sliceP b 48 64)).bind fun z =>
    gcmDecrypt (kdf z [0x4D, 0x4B, 0x55, 0x54] (b.take 48) 256) (sliceP b 112 12) (b.take 124) (sliceP b 124 64) (sliceP b 188 16)

/-- Order 9 of R354. -/
def keyValid (ktype : Nat) (k : List Byte) : Bool :=
  match keyTypeRow 0xFC ktype with
  | none => false
  | some (_, _, n) =>
    zerosAt k n 64 &&
    (match ktype with
     | 2 => let v := beNat (k.take 32); decide (1 ≤ v) && decide (v < p256N)
     | 3 => (p256Point (k.take 64)).isSome
     | 5 => ed25519Valid (k.take 32)
     | _ => true)

/-- KEY_UPDATE (R354): the checks before the message moves. -/
def execItKeyUpdate (dt : Nat) (s : State) : Host.Outcome State Fault Refusal :=
  itemStart dt s (isCode 0x30) fun r s =>
    s.orElseDo r [(s.pageTaken r, .stateRefused), (r.reservedBad [(12, 1), (14, 2)] || r.pageBad, .badField),
        (r.p16 14 != 0x110, .badLength), (s.sec.root.isNone, .entropyUnavailable)] fun s => s.fromPage r 6 272

/-- The message is staged: checks 3 to 9, then the journal entry. -/
def State.keyStaged (s : State) (r : ItemRec) (b : List Byte) : State :=
  let slot := byteAt b 8
  let owner := byteAt b 7 = 1
  let early := s.life.st == .factory || s.life.st == .provisioned
  if !keyMsgOk b s.life.devid then s.finish r.key .badField []
  else if (if owner then slot == 0 else slot != 0 && !early) then s.finish r.key .keyPolicy []
  else if owner && !s.ownerLoaded then s.finish r.key .badRef []
  else if !s.signed (byteAt b 7) (b.take 208) (sliceP b 208 64) then s.finish r.key .authFail []
  else if fieldLE b 32 8 ≤ Tbl.get s.sec.counters slot 0 then s.finish r.key .counterStale []
  else if byteAt b 6 = 1 then s.commitItem r (b.take 208)
  else
    match s.openKey b with
    | none => s.finish r.key .authFail []
    | some k => if keyValid (byteAt b 9) k then s.commitItem r (b.take 208 ++ k) else s.finish r.key .badField []

/-- A handle holds a copy of a slot, or descends from one (R351). -/
def Handle.ofSlot (slot : Nat) (h : Handle) : Bool :=
  match h.src with
  | .vault n => n == slot
  | .derived (some n) => n == slot
  | _ => false

/-- An engine operation may use a copy of the slot, the STS engine for a UWB step with an STS included: KEY_UPDATE waits for its
end (R351). -/
def State.slotBusy1 (s : State) (slot : Nat) : Bool :=
  let sts := match s.uwb.run with | some r => if r.sp1 then some r.land else none | none => none
  (List.range 192).any fun l =>
    let x := s.land l
    x.handles.toList.any (Handle.ofSlot slot) && ((match x.wait with | .crypto _ => true | _ => false) || sts == some l)

/-- Clear every handle of a slot (R351). -/
def State.clearHandles (s : State) (slot : Nat) : State :=
  { s with landings := s.landings.map fun x =>
      { x with handles := x.handles.map fun h => if h.ofSlot slot then Handle.empty else h } }

/-- The end of a KEY_UPDATE: for slots 0xFC to 0xFF its completion follows the mirror (R279, R355). -/
def State.mirrorSlot (s : State) (slot : Nat) (v : VaultSlot) (k : ItemKey) (res : List Byte) : State :=
  if slot < 0xFC then s.finish k .ok res else
  let cell := if v.st = 1 ∧ v.engines.testBit engNfcsec = true then keyCell v.key s.life.devid else List.replicate 32 0
  s.setTag (s.tag.mirror s.now (slot - 0xFC) cell (some (k, res)))

/-- The journal entry of a KEY_UPDATE is durable (R355): the record sealed under SK, and the counter. A message for the same slot that has
become durable since check 7 makes the counter stale: it never decreases (R348, R354). -/
def State.keyCommitted (s : State) (r : ItemRec) (b : List Byte) : State :=
  let slot := byteAt b 8
  let ctr := fieldLE b 32 8
  if ctr ≤ Tbl.get s.sec.counters slot 0 then s.finish r.key .counterStale [] else
  let n := match keyTypeRow slot (byteAt b 9) with | some (_, _, n) => n | none => 0
  let v : VaultSlot :=
    if byteAt b 6 = 1 then ⟨2, 0, 0, 0, false, []⟩
    else ⟨1, byteAt b 9, fieldLE b 10 2, byteAt b 12, byteAt b 13 == 1, sliceP b 208 n⟩
  let s := s.setSec fun c =>
    { c with counters := Tbl.put c.counters slot ctr, vault := Tbl.put c.vault slot v
             store := if v.volatileKey then Tbl.del c.store slot else Tbl.put c.store slot ⟨c.sk, v⟩ }
  (s.clearHandles slot).mirrorSlot slot v r.key (natLE 1 slot ++ [0] ++ natLE 4 ctr)

end Sys2Proof.Machine
end

