-- ==== Sys2Proof/Machine/LifeItems.lean ====
section
/-! DEFINITION. LIFE_CHANGE (R377 to R382, R388). -/

namespace Sys2Proof.Machine

open Sys2Proof

/-- Signers that a transition admits, vendor in bit 0 and owner in bit 1; none when R377 has no such transition. -/
def LifeCycle.signers (c : LifeCycle) (dst : Life) : Option Nat :=
  match c.st, dst with
  | .factory, .provisioned => some 1
  | .provisioned, .bound | .bound, .service | .service, .bound => some 2
  | .factory, .retired | .provisioned, .retired => some 3
  | .bound, .retired | .service, .retired => some 2
  | .tampered, .retired => some 1
  | .tampered, d => if d = c.underTamper then some 1 else none
  | _, _ => none

/-- Parts that a record of the transition must and may hold; none when no record is allowed (R377). -/
def recordParts (src dst : Life) : Option (Nat × Nat) :=
  match src, dst with
  | .factory, .provisioned => some (3, 7)
  | .provisioned, .bound => some (0, 6)
  | _, _ => none

/-- LIFE_CHANGE (R380): order 1, then the authorisation moves; an unsigned return from SERVICE has none. -/
def execItLifeChange (dt vdd : Nat) (temp : Int) (s : State) : Host.Outcome State Fault Refusal :=
  itemStart dt s (isCode 0x31) fun r s =>
    let len := r.p16 14
    s.orElseDo r [(s.pageTaken r, .stateRefused),
        (r.reservedBad [(12, 4)] || r.pageBad || decide (5 < r.p8 12), .badField),
        (!(len == 128 || len == 384 || (len == 0 && s.life.st == .service && r.p8 12 == 2)), .badLength)] fun s =>
      if len = 0 then s.commitItem r []
      else (s.keep r.key [if fuseConditions vdd temp then 1 else 0]).fromPage r 6 len

/-- Order 2 of R380. -/
def State.authOk (s : State) (b : List Byte) (dst : Life) : Bool :=
  let rlen := fieldLE b 10 2
  b.take 4 == [0x4D, 0x4B, 0x4C, 0x31] && fieldLE b 4 2 == 0x80 && byteAt b 6 == s.life.st.num && byteAt b 7 == dst.num
  && (byteAt b 9 == 0 || (byteAt b 9 == 1 && s.life.st == .bound && dst == .service))
  && (rlen == 0 || rlen == 256) && sliceP b 12 16 == natLE 16 s.life.devid
  && (s.life.signers dst).isSome
  && (match recordParts s.life.st dst with
      | none => rlen == 0
      | some (must, may) =>
        if rlen = 0 then must == 0 else subMask must (byteAt b 133) && subMask (byteAt b 133 % 8) may)

/-- Record fields are in range (R379). -/
def recordOk (fused : Nat) (rec1 : List Byte) : Bool :=
  let parts := byteAt rec1 5
  let reg (i : Nat) : Nat := fieldLE rec1 (8 + 4 * i) 4
  let region := byteAt rec1 4
  let within (lo hi v : Nat) : Bool := decide (lo ≤ v) && decide (v ≤ hi)
  rec1.take 4 == [0x4D, 0x4B, 0x50, 0x31] && within 1 0xFE region && (fused == 0 || fused == region) && decide (parts < 8)
  && zerosAt rec1 6 2 && zerosAt rec1 180 76
  && (!parts.testBit 0 ||
      (within 1 1000 (bits (reg 1) 23 12) && decide (reg 2 < 2 ^ 18) && within 1 1000 (bits (reg 3) 31 16) && reg 4 % 65536 == 0
       && decide (bits (reg 6) 27 16 ≤ 1000)))
  && (!parts.testBit 1 || protectionOk (sliceP rec1 36 132))
  && (!parts.testBit 2 ||
      (let a := fieldLE rec1 168 4
       let b := fieldLE rec1 172 4
       let c := fieldLE rec1 176 4
       within 60 3600 (bits a 31 16) && bits a 15 8 == 0 && within 3 10 (bits a 7 0)
       && within 300 7200 (bits b 31 16) && within 300 3600 (bits b 15 0) && within 10 50 c))

/-- A provisioning record by parts. -/
def parseRecord (rec1 : List Byte) : ProvRecord :=
  let parts := byteAt rec1 5
  { region := byteAt rec1 4
    regulatory := if parts.testBit 0 then some ((List.range 7).map fun i => fieldLE rec1 (8 + 4 * i) 4) else none
    protection := if parts.testBit 1 then some (sliceP rec1 36 132) else none
    lockout := if parts.testBit 2 then some ((List.range 3).map fun i => fieldLE rec1 (168 + 4 * i) 4) else none }

/-- The entropy source can give a root now (R372, R380 order 8; log 36). -/
def State.rootReady (s : State) : Bool := !s.entropyOut && decide (4 ≤ s.sec.pool.length)

/-- The authorisation is staged: orders 2 to 9, then the durable writes (R380, R381). -/
def State.lifeStaged (s : State) (r : ItemRec) (b : List Byte) : State :=
  match Life.ofNum (r.p8 12) with
  | none => s.finish r.key .badField []
  | some dst =>
    let src := s.life.st
    let signer := byteAt b 8
    let rec1 := b.drop 128
    let attached := fieldLE b 10 2 != 0
    let digestOk := sliceP b 32 32 == (if attached then sha256 rec1 else List.replicate 32 0)
    let noRoot := if dst = .provisioned ∧ src = .factory then s.sec.root.isNone
      else src == .tampered && dst != .retired && !s.rootReady
    s.orElseDo r [(r.p16 14 != 128 + fieldLE b 10 2, .badLength),
        (!s.authOk b dst, .badField),
        (!((s.life.signers dst).getD 0).testBit signer, .keyPolicy), (signer == 1 && !s.ownerLoaded, .badRef),
        (!s.signed signer (b.take 64) (sliceP b 64 64), .authFail), (decide (fieldLE b 28 4 ≤ s.life.lifeCtr), .counterStale),
        (!digestOk, .authFail), (attached && !recordOk s.life.region rec1, .badField), (noRoot, .entropyUnavailable),
        (dst == .retired && s.landings.toList.any Landing.busy, .stateRefused),
        ((fuseProven src dst).isSome && r.memo != [1], .stateRefused)] fun s => s.commitItem r b

/-- The code that ends a LIFE_CHANGE before its intent, as things stand when the record is about to be written: another change or a ZAP
has come first (R371, R380, R381; log 224). -/
def State.lifeStale (s : State) (b : List Byte) : Code :=
  let src := if b.isEmpty then Life.service.num else byteAt b 6
  if s.life.st.num ≠ src then (if s.life.st = .tampered then .tampered else .badField)
  else if !b.isEmpty && decide (fieldLE b 28 4 ≤ s.life.lifeCtr) then .counterStale
  else .ok

/-- Durable operations that come before all others queued. -/
def State.nextJobs (s : State) (js : List NvmJob) : State := { s with life := { s.life with jobs := js ++ s.life.jobs } }

/-- Step 1 of R381 is durable: the intent record and the life counter. Steps 2 and 3 follow: each copy of an attached record, then the stage
or the journal record. An unsigned return carries no authorisation and does not touch the counter. -/
def State.lifeIntent (s : State) (r : ItemRec) (b : List Byte) : State :=
  match Life.ofNum (r.p8 12) with
  | none => s
  | some dst =>
    let i : LifeIntent :=
      { src := s.life.st, dst := dst, counter := fieldLE b 28 4, digest := sliceP b 32 32, scan := byteAt b 9 == 1
        record := if 128 < b.length then some (parseRecord (b.drop 128)) else none, base := s.life.prov, proven := false }
    let c := { s.life with intent := some i, lifeCtr := if b.isEmpty then s.life.lifeCtr else fieldLE b 28 4 }
    let copy (j : Nat) : List NvmJob := [.erase r.key (copySector j), .commit r.key (1 + j) []]
    ({ s with life := c } : State).nextJobs ((if i.record.isSome then copy 0 ++ copy 1 else []) ++ [.commit r.key 3 []])

/-- Step 3 of R381 and R382: `fuse` holds the bits of the stage that now read blown. A re-provisioning draws its root (R372). Step 4
follows, for RETIRED with its erases. -/
def State.lifeProven (s : State) (r : ItemRec) (fuse : Nat) : State :=
  match s.life.intent with
  | none => s.finish r.key .tampered []
  | some i =>
    let takes (s : State) : State :=
      let s := s.lifeTakes i
      let s := if i.src = .tampered ∧ i.dst ≠ .retired then s.genRoot else s
      s.nextJobs ((if i.dst = .retired then retiredSectors.map fun n => .erase r.key n else []) ++ [.commit r.key 4 []])
    match fuseProven i.src i.dst with
    | some sh =>
      let m := fuse % 256
      if m = 0 then ({ s with life := { s.life with intent := none } } : State).finish r.key .nvmWriteFail []
      else
        let c := s.life.programChange i sh m
        takes { s with life := { c with marginal := c.marginal || m != 0xFF } }
    | none => takes { s with life := { s.life with journal := some i.dst } }

/-- A phase of LIFE_CHANGE is durable: 0 the intent, 1 and 2 the copies of the record, 3 the proof, 4 the done record, with which the item
completes (R381). -/
def State.lifeCommitted (s : State) (r : ItemRec) (phase : Nat) (b : List Byte) (fuse : Nat) : State :=
  let ends (c : Code) : State := ({ s.dropJobs r.key with life := { (s.dropJobs r.key).life with intent := none } } : State).finish r.key c []
  if phase = 0 then
    match s.lifeStale b with | .ok => s.lifeIntent r b | c => s.finish r.key c []
  else match s.life.intent with
    | none => ends .tampered
    | some i =>
      if s.life.st ≠ (if i.proven then i.dst else i.src) then ends .tampered
      else if phase = 1 ∨ phase = 2 then { s with life := s.life.writeCopy (phase - 1) i }
      else if phase = 3 then s.lifeProven r fuse
      else (s.lifeEffects i).finish r.key .ok (natLE 1 i.dst.num)

end Sys2Proof.Machine
end

