-- ==== Sys2Proof/Machine/UpdateItems.lean ====
section
/-! DEFINITION. The update items (R394 to R400, R403, R405, R406). -/

namespace Sys2Proof.Machine

open Sys2Proof

/-! ### The open update -/

/-- The inactive bank of a target: neither ACTIVE nor TRIAL, the lower-numbered one when both are (R394). -/
def LifeCycle.inactive (c : LifeCycle) (t : Nat) : Nat :=
  ([2 * t, 2 * t + 1].find? fun b => (c.bank b).st != .active && (c.bank b).st != .trial).getD (2 * t + 1)

/-- A trial bank awaits confirmation. -/
def LifeCycle.inTrial (c : LifeCycle) : Bool := (c.bankIn 0 .trial).isSome || (c.bankIn 1 .trial).isSome

/-- Close the open update: its bank becomes EMPTY (R396, R399). -/
def LifeCycle.closeUpdate (c : LifeCycle) : LifeCycle :=
  let c := match c.openBank with | some b => c.modBank b fun _ => Bank.blank | none => c
  { c with openTarget := none, bytes := 0, held := 0, erasedTo := 0, lastVerifyOk := false }

/-! ### UPDATE_BEGIN -/

/-- UPDATE_BEGIN (R396): the checks before the manifest moves. -/
def execItUpdateBegin (dt : Nat) (s : State) : Host.Outcome State Fault Refusal :=
  itemStart dt s (isCode 0x40) fun r s =>
    s.orElseDo r [(s.life.inTrial, .stateRefused), (s.pageTaken r, .stateRefused),
        (r.reservedBad [(12, 8)] || decide (1 < r.p8 12) || r.pageBad, .badField), (r.p16 14 != 256, .badLength)] fun s =>
      s.fromPage r 6 256

/-- Manifest fields are as R395 asks. -/
def manifestOk (b : List Byte) (r : ItemRec) (devid : Nat) : Bool :=
  let ilen := fieldLE b 12 4
  let t := byteAt b 6
  b.take 4 == [0x4D, 0x4B, 0x4D, 0x31] && fieldLE b 4 2 == 0x100 && t == r.p8 12 && decide (byteAt b 7 < 2)
  && decide (fieldLE b 8 2 ≤ 511) && zerosAt b 10 2 && ilen % 16 == 0
  && (if t = 0 then decide (1024 ≤ ilen) && decide (ilen ≤ 524288) else decide (1056 ≤ ilen) && decide (ilen ≤ 262144))
  && ilen == r.p32 16 && (zerosAt b 16 16 || sliceP b 16 16 == natLE 16 devid) && zerosAt b 84 108

/-- The manifest is staged: orders 2 to 6, then the open update is resumed, or a new one opened (R396). -/
def State.beginStaged (s : State) (r : ItemRec) (b : List Byte) : State :=
  let t := r.p8 12
  let signer := byteAt b 7
  s.orElseDo r [(!manifestOk b r s.life.devid, .badField), (t == 0 && signer != 0, .keyPolicy),
      (signer == 1 && !s.ownerLoaded, .badRef), (!s.signed signer (b.take 192) (b.drop 192), .imageSigFail),
      (decide (fieldLE b 8 2 < s.life.floor t), .counterStale)] fun s =>
    let same := s.life.openTarget == some t && (match s.life.openBank with
      | some o => (s.life.bank o).version == fieldLE b 8 2 && (s.life.bank o).digest == sliceP b 32 48
      | none => false)
    if same then s.finish r.key .ok (natLE 4 s.life.held) else s.commitItem r b

/-- The download journal record of a new update is durable. -/
def State.beginCommitted (s : State) (r : ItemRec) (b : List Byte) : State :=
  let t := r.p8 12
  let c := s.life.closeUpdate
  let c := c.modBank (c.inactive t) fun _ => ⟨.downloading, b, Mem.empty, false⟩
  ({ s with life := { c with openTarget := some t } } : State).finish r.key .ok (natLE 4 0)

/-! ### UPDATE_CHUNK -/

/-- Queue the descriptor of a chunk into its bank (R397 step 2). -/
def State.chunkMove (s : State) (r : ItemRec) (b : Nat) : State :=
  s.moveItem r 0 3 (.page (r.p8 12)) .stage 0 (4096 * bankSector b + r.p32 16) (r.p16 14)

/-- UPDATE_CHUNK (R397): checks, then the erase of each sector that the chunk reaches for the first time. -/
def execItUpdateChunk (dt : Nat) (s : State) : Host.Outcome State Fault Refusal :=
  itemStart dt s (isCode 0x41) fun r s =>
    let len := r.p16 14
    let off := r.p32 16
    let ilen := match s.life.openBank with | some b => (s.life.bank b).ilen | none => 0
    s.orElseDo r [(s.life.openBank.isNone, .stateRefused), (r.reservedBad [(12, 1), (14, 6)] || r.pageBad, .badField),
        (decide (len < 1) || decide (2048 < len), .badLength), (s.pageTaken r, .stateRefused), (off != s.life.held, .badRef),
        (decide (ilen < off + len) || (len % 16 != 0 && off + len != ilen), .badLength)] fun s =>
      match s.life.openBank with
      | none => s
      | some b =>
        let lo := s.life.erasedTo
        let hi := (off + len - 1) / 4096
        if hi < lo then s.chunkMove r b
        else s.queueJobs ((List.range (hi + 1 - lo)).map fun i => .erase r.key (bankSector b + lo + i))

/-- A chunk's bytes are journalled (R397 step 3). -/
def State.chunkCommitted (s : State) (r : ItemRec) (bs : List Byte) : State :=
  match s.life.openBank with
  | none => s.finish r.key .stateRefused []
  | some b =>
    let n := r.p32 16 + bs.length
    let c := s.life.modBank b fun k =>
      { k with image := k.image.writeN (r.p32 16) bs, st := if n = k.ilen then .downloaded else k.st }
    ({ s with life := { c with bytes := n, held := n } } : State).finish r.key .ok (natLE 4 n)

/-! ### UPDATE_VERIFY -/

/-- The header of a library directory is in range (R405). -/
def dirHeaderOk (img : List Byte) : Bool :=
  img.take 4 == [0x4D, 0x4B, 0x4C, 0x42] && zerosAt img 4 2 && byteAt img 7 == 0 && fieldLE img 8 4 % 4096 == 0
  && decide (dirBlocks img ≤ 16384) && zerosAt img 14 2 && zerosAt img 20 12

/-- Slots of the non-empty entries. -/
def dirSlots (img : List Byte) : List Nat := ((List.range 128).map (· + 0x80)).filter fun n => (dirEntry img n).2.2 != 0

/-- Every entry lies inside its space, and no two of one space overlap (R406). -/
def dirEntriesOk (img : List Byte) : Bool :=
  (dirSlots img).all fun a =>
    let e := dirEntry img a
    decide (e.2.1 + e.2.2 ≤ (if e.1 then 1024 * dirBlocks img else img.length))
    && (dirSlots img).all fun b =>
      let f := dirEntry img b
      a == b || e.1 != f.1 || decide (e.2.1 + e.2.2 ≤ f.2.1) || decide (f.2.1 + f.2.2 ≤ e.2.1)

/-- Images of the entries, from the bank or from the external data. -/
def dirImages (img ext : List Byte) (external : Bool) : List (Option Image) :=
  ((dirSlots img).filter fun n => (dirEntry img n).1 == external).map fun n =>
    let e := dirEntry img n
    libEntry external n e.2.2 (sliceP (if e.1 then ext else img) e.2.1 e.2.2)

/-- Code bytes of a list of images. -/
def codeTotal (l : List (Option Image)) : Nat := l.foldl (fun n i => n + match i with | some x => x.hdr.codeLen | none => 0) 0

/-- Fetch every block that the external entries touch, up to the first that fails (R409). -/
def State.fetchEntries (s : State) (k : ItemKey) (img ext : List Byte) : State × Bool :=
  ((dirSlots img).filter fun n => (dirEntry img n).1).foldl (fun p n =>
    if !p.2 then p else
    let e := dirEntry img n
    let q := p.1.fetchBlocks (.item k) 0x42 img ext (e.2.1 / 1024) ((e.2.1 + e.2.2 - 1) / 1024)
    (q.1, q.2)) (s, true)

/-- The checks of a library (R399, R406). `ext` holds the external image as flash delivers it. -/
def State.libraryCheck (s : State) (k : ItemKey) (img ext : List Byte) : State × Code :=
  let inner := dirImages img ext false
  let external := (dirSlots img).any fun n => (dirEntry img n).1
  if !dirHeaderOk img || !dirEntriesOk img || inner.any (·.isNone) || decide (131072 < codeTotal inner)
      || (external && dirBlocks img == 0) then (s, .badField)
  else if !external then (s, .ok)
  else if (s.fetchKey (dirSlot img)).isNone then (s, .keyPolicy)
  else
    let f := s.fetchEntries k img ext
    let outer := dirImages img ext true
    if !f.2 then (f.1, .imageMacFail)
    else if outer.any (·.isNone) || decide (131072 < codeTotal inner + codeTotal outer) then (f.1, .badField)
    else (f.1, .ok)

/-- UPDATE_VERIFY (R399). -/
def execItUpdateVerify (dt : Nat) (ext : List Byte) (s : State) : Host.Outcome State Fault Refusal :=
  itemStart dt s (isCode 0x42) fun r s =>
    s.orElseDo r [(r.reservedBad [], .badField), (s.life.openBank.isNone, .stateRefused)] fun s =>
      match s.life.openBank with
      | none => s
      | some b =>
        let k := s.life.bank b
        let s : State := { s with life := { s.life with lastVerifyOk := false } }
        if s.life.bytes ≠ k.ilen then s.finish r.key .badLength [] else
        let img := k.image.readN 0 k.ilen
        let q := if sha384 img != k.digest then (s, .imageSigFail)
          else if b < 2 then (s, .ok) else s.libraryCheck r.key img ext
        match q with
        | (s, .ok) => s.commitItem r []
        | (s, c) => ({ s with life := s.life.closeUpdate } : State).finish r.key c []

/-- A verified bank is durably VERIFIED. -/
def State.verifyCommitted (s : State) (r : ItemRec) : State :=
  match s.life.openBank with
  | none => s.finish r.key .stateRefused []
  | some b =>
    let c := s.life.modBank b fun k => { k with st := .verified }
    ({ s with life := { c with lastVerifyOk := true } } : State).finish r.key .ok []

/-! ### UPDATE_ACTIVATE -/

/-- The open bank is verified, and the last UPDATE_VERIFY ended OK (R43). -/
def LifeCycle.readyBank (c : LifeCycle) : Option Nat :=
  c.openBank.filter fun b => c.lastVerifyOk && (c.bank b).st == .verified

/-- UPDATE_ACTIVATE (R400): checks, then the intent. -/
def execItUpdateActivate (dt : Nat) (s : State) : Host.Outcome State Fault Refusal :=
  itemStart dt s (isCode 0x43) fun r s =>
    s.orElseDo r [(r.reservedBad [(12, 1)] || decide (1 < r.p8 12), .badField), (s.life.readyBank.isNone, .stateRefused)] fun s =>
      s.commitItem r []

/-- The phases of UPDATE_ACTIVATE: the intent record, then the pointer commit. -/
def State.activateCommitted (s : State) (r : ItemRec) (phase : Nat) : State :=
  match s.life.openTarget, s.life.readyBank with
  | some t, some b =>
    if phase = 0 then
      ({ s with life := { s.life with updIntent := some (.activate t b) } } : State).queueJobs [.commit r.key 1 []]
    else
      let c := match s.life.bankIn t .active with
        | some a => s.life.modBank a fun k => { k with st := .previous }
        | none => s.life
      let c := c.modBank b fun k => { k with st := .trial }
      let s : State := { s with life := { c with updIntent := none, openTarget := none, bytes := 0, held := 0, erasedTo := 0
                                                 lastVerifyOk := false, trialLeft := 3 } }
      let s : State := if r.p8 12 = 1 then { s with host := { s.host with activate := s.host.activate ++ [⟨r.key, none⟩] } } else s
      (s.attn attnLife).finish r.key .ok (natLE 1 (b % 2))
  | _, _ => s.finish r.key .stateRefused []

/-! ### UPDATE_CONFIRM -/

/-- UPDATE_CONFIRM (R403): checks, then the intent. -/
def execItUpdateConfirm (dt vdd : Nat) (temp : Int) (s : State) : Host.Outcome State Fault Refusal :=
  itemStart dt s (isCode 0x44) fun r s =>
    s.orElseDo r [(r.reservedBad [], .badField), (s.life.trialTarget.isNone, .stateRefused),
        (!fuseConditions vdd temp, .stateRefused)] fun s => s.commitItem r []

/-- The phases of UPDATE_CONFIRM: the intent, the pointer record, the rollback thermometer. -/
def State.confirmCommitted (s : State) (r : ItemRec) (phase : Nat) : State :=
  if phase = 0 then
    match s.life.trialTarget with
    | some t => ({ s with life := { s.life with updIntent := some (.confirm t) } } : State).queueJobs [.commit r.key 1 []]
    | none => s.finish r.key .stateRefused []
  else
    match s.life.updIntent with
    | some (.confirm t) =>
      if phase = 1 then
        match s.life.bankIn t .trial with
        | some b =>
          let c := s.life.modBank b fun k => { k with st := .active }
          (({ s with life := c } : State).attn attnLife).queueJobs [.commit r.key 2 []]
        | none => s.finish r.key .stateRefused []
      else
        match s.life.bankIn t .active with
        | some b =>
          let v := (s.life.bank b).version
          let c := if s.life.floor t < v then s.life.raiseFloor t v else s.life
          ({ s with life := { c with updIntent := none } } : State).finish r.key .ok (natLE 1 (b % 2))
        | none => s.finish r.key .stateRefused []
    | _ => s.finish r.key .stateRefused []

end Sys2Proof.Machine
end

