-- ==== Sys2Proof/Machine/DmaOps.lean ====
section
/-! DEFINITION. Descriptors in action (R129 to R135, R407 to R409, R564), and the end of durable operations (R381, R390 to R393, R397). -/

namespace Sys2Proof.Machine

open Sys2Proof

/-! ### Starting -/

/-- A waiting descriptor may start now: it touches nothing that a recovery holds (R419). -/
def State.descReady (s : State) (d : Desc) : Bool :=
  s.faults.mode != .recovery || !s.descTouches d 8 s.faults.scopes

/-- Take the first element that meets a test out of a list. -/
def takeFirst {α : Type} (p : α → Bool) : List α → Option (α × List α)
  | [] => none
  | a :: t => if p a then some (a, t) else (takeFirst p t).map fun r => (r.1, a :: r.2)

/-- DMA_DESCRIPTOR_START (R135): the first waiting descriptor takes a channel, with D49 up, no BIST_RUN in progress (R512) and no pause
of a HUSH frame (R134). -/
def execEvDmaDescriptorStart (dt : Nat) (s : State) : Host.Outcome State Fault Refusal :=
  occurLive dt s fun s =>
    if s.bist.running || !s.domUp 49 || !s.unhushed then s else
    match s.freeChannel, takeFirst s.descReady s.dma.waiting with
    | some ch, some (d, rest) =>
      let c : Chan := { active := true, doneFlag := false, failed := false, cause := 0, desc := some { d with lastGranule := s.now } }
      { s with dma := { s.dma with waiting := rest, chans := vset s.dma.chans ch c } }
    | _, _ => s

/-! ### What a finished descriptor leads to -/

/-- The descriptor of an item has delivered every granule. -/
def State.itemMoved (s : State) (r : ItemRec) (d : Desc) : State :=
  match r.code with
  | 0x01 | 0x13 | 0x14 | 0x15 | 0x23 => s.finish r.key .ok (natLE 2 d.done)
  | 0x53 => s.evidenceRead r
  | 0x10 => s.flightLoaded r d.buf
  | 0x20 => s.enrolStaged r d.buf
  | 0x30 => s.keyStaged r d.buf
  | 0x31 => s.lifeStaged r d.buf
  | 0x40 => s.beginStaged r d.buf
  | 0x41 | 0x52 => s.commitItem r d.buf
  | 0x55 => s.cascadeMode r.key d.buf
  | _ => s

/-- A descriptor has delivered every granule (R135). -/
def State.descDone (s : State) (d : Desc) : State :=
  match d.job with
  | .item k => match s.item k with | some r => s.itemMoved r d | none => s
  | .initFetch l => match (s.land l).wait with | .starting r => s.initFetched l r | _ => s
  | .cir _ | .place => s

/-- Replace the channel of a descriptor that goes on, or end it. -/
def State.descStep (s : State) (ch : Nat) (d : Desc) : State :=
  let c := s.dma.chan ch
  let over1 := decide (d.len ≤ d.done)
  let c : Chan := { c with desc := some d, active := !over1, doneFlag := over1 }
  let s : State := { s with dma := { s.dma with chans := vset s.dma.chans ch c } }
  if over1 then s.descDone d else s

/-! ### Granules -/

/-- One granule of a descriptor: a poisoned source fails it, else the bytes are delivered (R130 to R132). -/
def State.granule (s : State) (ch : Nat) (d : Desc) : State :=
  match s.dmaRead d with
  | none => s.failDesc ch 2 .failedFault
  | some bs =>
    let s := s.dmaWrite d bs
    let buf := match d.dst with | .stage => d.buf ++ bs | _ => d.buf
    s.descStep ch { d with done := d.done + bs.length, buf := buf, lastGranule := s.now }

/-- The next granule lands in a hall of a busy landing, at one of its step boundaries (R129). -/
def State.landsInFlight (s : State) (d : Desc) : Bool := match d.dst with | .hall l _ => (s.land l).busy | _ => false

/-- The SRAM error of a source granule (R131, R413): where it is recorded. -/
def State.sourceError (s : State) (d : Desc) (addr : Nat) : State :=
  let o := d.srcOff + d.done
  match d.src with
  | .page p => s.raiseAt .sramUe (.page p) (sramDetail addr none 0) ⟨4, o⟩
  | .hall l h =>
    let region := match h with | 0 => 1 | 1 => 0 | n => n
    s.raiseAt .sramUe (.landing l) (sramDetail addr (some l) (s.land l).pc) ⟨region, o⟩
  | .bytes _ => s

/-- DMA_GRANULE_DELIVERED (R130, R131): a source granule fails, or is delivered; one that lands in a hall of a busy landing is
HALL_WRITE_GRANULE. None in the pause of a HUSH frame (R134); the last of an item waits for the engines of its checks (R347). `err` is 0, 1 for an uncorrectable SRAM error of the source granule at byte address `sector`,
or 3 for a read error of NVM sector `sector`. -/
def execEvDmaGranuleDelivered (dt ch err sector : Nat) (s : State) : Host.Outcome State Fault Refusal :=
  occurLive dt s (k := faultRank (err == 1 || err == 3)) fun s =>
    match (s.dma.chan ch).active, (s.dma.chan ch).desc with
    | true, some d =>
      if d.srcKind = 4 || !s.unhushed then s
      else if err = 1 ∧ d.srcKind ≠ 3 then (s.failDesc ch 1 .failedFault).sourceError d sector
      else if err = 3 ∧ d.srcKind = 3 then (s.failDesc ch 3 .failedFault).raise .nvmRead (.sector sector) (s.sectorDetail sector)
      else if s.landsInFlight d || s.stageHeld d then s
      else s.granule ch d
    | _, _ => s

/-- HALL_WRITE_GRANULE (R129): a granule lands between two steps of the busy landing. -/
def execEvHallWriteGranule (dt ch : Nat) (s : State) : Host.Outcome State Fault Refusal :=
  occurLive dt s fun s =>
    match (s.dma.chan ch).active, (s.dma.chan ch).desc with
    | true, some d => if s.landsInFlight d && s.unhushed then s.granule ch d else s
    | _, _ => s

/-! ### OSPI fetches -/

/-- Byte offset in the external data of the next initialisation byte of a landing's image: behind its header and code. -/
def State.fetchAt (s : State) (l : Nat) (d : Desc) : Nat :=
  match s.imageOf l with
  | some i => (dirEntry s.libImage i.slot).2.1 + 32 + i.hdr.codeLen + d.buf.length
  | none => d.buf.length

/-- OSPI_BLOCK_CHECKED (R408, R409): a block and its tag as flash delivered them. A failing block fails its descriptor; the last
passing one makes the move from staging to the hall follow (R564). -/
def execEvOspiBlockChecked (dt ch : Nat) (block tag : List Byte) (s : State) : Host.Outcome State Fault Refusal :=
  occurLive dt s fun s =>
    match (s.dma.chan ch).active, (s.dma.chan ch).desc with
    | true, some d =>
      if d.srcKind ≠ 4 ∨ s.unhushed = false then s else
      match d.job with
      | .initFetch l =>
        let o := s.fetchAt l d
        let b := o / 1024
        let ok := s.blockPasses s.libImage b block tag
        let s : State := { s with life := s.life.fetched b ok }
        if !ok then s.failDesc ch 4 .imageMacFail else
        let buf := d.buf ++ (sliceP block (o % 1024) (1024 - o % 1024)).take (d.len - d.buf.length)
        let d := { d with buf := buf, done := buf.length, lastGranule := s.now }
        let full := decide (d.len ≤ d.done)
        let c : Chan := { s.dma.chan ch with desc := some d, active := !full, doneFlag := full }
        let next : Desc := { d with srcKind := 6, dstKind := 1, src := .bytes buf, buf := [], done := 0 }
        { s with dma := { s.dma with chans := vset s.dma.chans ch c
                                     waiting := if full then s.dma.waiting ++ [next] else s.dma.waiting } }
      | _ => s
    | _, _ => s

/-! ### Durable operations -/

/-- A re-provisioning that leaves TAMPERED for another state than RETIRED draws a new root (R372). -/
def State.drawsRoot (s : State) (r : ItemRec) : Bool := r.code == 0x31 && s.life.st == .tampered && r.p8 12 != 5

/-- The entropy source can no longer supply the root of a re-provisioning (R372). -/
def State.rootLost (s : State) (r : ItemRec) : Bool := s.drawsRoot r && s.entropyOut && decide (s.sec.pool.length < 4)

/-- A durable record of an item is written (R381, R397, R400, R403). A KEY_UPDATE or a LIFE_CHANGE that a ZAP has overtaken ends
TAMPERED (R371). -/
def State.committed (s : State) (r : ItemRec) (phase : Nat) (data : List Byte) (fuse : Nat) : State :=
  match r.code with
  | 0x20 => s.enrolCommitted r data
  | 0x21 => s.suspendCommitted r
  | 0x22 => s.revokeCommitted r
  | 0x30 => if s.zapped then s.finish r.key .tampered [] else s.keyCommitted r data
  | 0x31 =>
    if s.rootLost r then
      let s := s.dropJobs r.key
      ({ s with life := { s.life with intent := none } } : State).finish r.key .entropyUnavailable []
    else s.lifeCommitted r phase data fuse
  | 0x40 => s.beginCommitted r data
  | 0x41 => s.chunkCommitted r data
  | 0x42 => s.verifyCommitted r
  | 0x43 => s.activateCommitted r phase
  | 0x44 => s.confirmCommitted r phase
  | 0x52 => s.atlasCommitted r phase data
  | _ => s

/-- The intent record of an erase is durable (R391 step 1); in a bank of the open update what the sector held is journalled no more (R398). -/
def State.eraseOpened (s : State) (k : ItemKey) (n : Nat) : State :=
  let c := s.life.openErase n
  { s with life := if (match s.item k with | some r => r.code == 0x41 | none => false) then c.dropJournal else c }

/-- A write of an item is given up: what it had still to write goes, what it has staged is rewound or discarded, and a life-cycle intent
that is not proven yet is dropped. -/
def State.writeLost (s : State) (k : ItemKey) : State :=
  let s := (s.dropJobs k).rewound k
  if (s.item k).map (·.code) = some 0x31 then { s with life := { s.life with intent := s.life.intent.filter (·.proven) } } else s

/-- An item's write needs a remap and no spare is free: it ends NVM_WRITE_FAIL and NO_SPARE is recorded (R393). -/
def State.noSpare (s : State) (k : ItemKey) (p : Nat) : State :=
  let s := s.writeLost k
  (if (s.item k).isSome then s.finish k .nvmWriteFail [] else s).recordFault .noSpare (.sector p) (s.sectorDetail p)

/-- The item's data moves after its last erase. -/
def State.afterErase (s : State) (k : ItemKey) : State :=
  match s.item k with
  | none => s
  | some r =>
    let more := s.life.jobs.any fun j => match j with | .erase q _ => q == k | _ => false
    let s : State := if r.code = 0x41 then { s with life := { s.life with erasedTo := s.life.erasedTo + 1 } } else s
    if more then s
    else if r.code = 0x52 then s.atlasMove r
    else if r.code = 0x41 then (match s.life.openBank with | some b => s.chunkMove r b | none => s.finish k .stateRefused [])
    else s

/-- A sector of an item is erased (R282, R391, R397): its contents are gone. At 10,000 erases its role moves to a spare (R393). -/
def State.sectorErased (s : State) (k : ItemKey) (n : Nat) : State :=
  let s : State := { s with life := s.life.closeErase s.host.epoch.toNat n }
  let s := s.dropSector n
  let p := s.life.phys n
  if (s.life.sector p).erases < 10000 then s.afterErase k
  else if s.life.freeSpare.isSome then (s.remapSector p).afterErase k
  else s.noSpare k p

/-- A program or an erase fails (R282, R390, R393, R397): a chunk or an atlas whose bytes do not verify is rewound or discarded, and so is any
item's write while no spare is free: it ends NVM_WRITE_FAIL. Any other operation is made again on the spare that takes the sector's role. -/
def State.durableFails (s : State) (k : ItemKey) (c : Cause) (p : Nat) : State :=
  match s.item k with
  | none => (s.dropJobs k).raise c (.sector p) (s.sectorDetail p)
  | some r =>
    let data := (r.code == 0x41 || r.code == 0x52) && c == .nvmProg
    if !data && s.life.freeSpare.isSome then s.raise c (.sector p) (s.sectorDetail p) else
    let s := s.writeLost k
    (s.finish k .nvmWriteFail []).raise c (.sector p) (s.sectorDetail p)

/-- Roles of the sectors that an operation erases or programs. -/
def State.jobRoles (s : State) (j : NvmJob) : List Nat :=
  match j with
  | .erase _ n => [n]
  | .commit k phase data =>
    let span (base off : Nat) : List Nat := (List.range ((off + data.length - 1) / 4096 + 1 - off / 4096)).map fun i => base + off / 4096 + i
    match s.item k, s.life.openBank with
    | some r, some b =>
      if r.code = 0x41 then span (bankSector b) (r.p32 16)
      else if r.code = 0x52 ∧ phase = 0 then span (atlasSector s.verdict.stageHalf) (r.p32 16) else []
    | some r, none => if r.code = 0x52 ∧ phase = 0 then span (atlasSector s.verdict.stageHalf) (r.p32 16) else []
    | none, _ => []

/-- Key of an operation. -/
def NvmJob.key : NvmJob → ItemKey
  | .erase k _ => k
  | .commit k _ _ => k

/-- The first sector of an operation that was taken out of use and still holds its role. -/
def State.jobOut (s : State) (j : NvmJob) : Option Nat :=
  ((s.jobRoles j).map s.life.phys).find? fun p => (s.life.sector p).retired

/-- A KEY_UPDATE waits for engine operations on copies of its slot (R351), a re-provisioning for the blocks of its root (R372), while the source can supply them. -/
def State.commitWaits (s : State) (r : ItemRec) (data : List Byte) : Bool :=
  (r.code == 0x30 && s.slotBusy1 (byteAt data 8))
  || (s.drawsRoot r && !s.entropyOut && decide (s.sec.pool.length < 4))

/-- NVM_OPERATION_DONE (R390, R391): the operation in progress ends: the intent record of an erase, then the erase, or a program. `ok`
tells that it verified, else it failed, a program in physical sector `sector`; `fuse` holds the bits of a lifecycle stage that read blown
(R382), for the step that programs one. On a sector taken out of use it waits for the remap that follows the recovery (R418). -/
def execEvNvmOperationDone (dt : Nat) (ok : Bool) (sector fuse : Nat) (s : State) : Host.Outcome State Fault Refusal :=
  occurLive dt s (k := faultRank !ok) fun s =>
    if !s.domUp 46 then s else
    match s.life.jobs with
    | [] => s
    | j :: rest =>
      let next : State := { s with life := { s.life with jobs := rest } }
      match s.jobOut j with
      | some p => if s.faults.mode == .recovery then s else s.noSpare j.key p
      | none =>
        match j with
        | .erase k n =>
          let p := s.life.phys n
          if (s.life.sector p).intent.isNone then
            if ok then s.eraseOpened k n else s.durableFails k .nvmProg (sector % 1024)
          else if ok then next.sectorErased k n
          else s.durableFails k .nvmErase p
        | .commit k phase data =>
          match s.item k with
          | none => next
          | some r =>
            if !ok then s.durableFails k .nvmProg (sector % 1024)
            else if s.commitWaits r data then s
            else next.committed r phase data fuse

end Sys2Proof.Machine
end

