-- ==== Sys2Proof/Machine/NfcOps.lean ====
section
/-! DEFINITION. The near-field reader: NFCX, NFCTREE and their events (R254 to R262). -/

namespace Sys2Proof.Machine

open Sys2Proof

/-- Replace the reader state. -/
def State.setNfc (s : State) (r : Reader) : State := { s with nfc := r }

/-- CRC_A and CRC_B of ISO/IEC 14443-3, low byte first (R254). -/
def crcA (bs : List Byte) : List Byte := natLE 2 (crcLsb 0x8408 0x6363 bs)
def crcB (bs : List Byte) : List Byte := natLE 2 (0xFFFF ^^^ crcLsb 0x8408 0xFFFF bs)

/-- The frame of a block is sent as a short frame (R258). -/
def nfcShort (b : List Byte) (frame : List Byte) : Bool :=
  byteAt b 8 == 0 && frame.length == 1 && decide (byteAt frame 0 < 128)

/-! ### Frames and their times (R257, R258, log 183) -/

/-- Ticks of n periods of the 13.56 MHz carrier (R254). -/
def nfcT (n : Nat) : Nat := n * usT * 100 / 1356

/-- Time on air of a frame: at rate r a bit or an etu takes 128 / 2 ^ r carrier periods. -/
def NfcFrame.lasts (f : NfcFrame) : Nat :=
  nfcT ((match f.form with
    | .short => 9
    | .standard => 2 + 9 * f.bytes.length
    | .part n => 2 + n + n / 8
    | .typeB => 22 + 10 * f.bytes.length) * 128 / 2 ^ f.rate)

/-- Minimum PCD frame delay after a reply: 1,172 carrier periods for type A; 10 etu and 32 subcarrier periods for type B. -/
def nfcDelay (typeA : Bool) : Nat := nfcT (if typeA then 1172 else 1792)

/-- The frame that NFCX sends (R258). -/
def nfcxFrame (b frame : List Byte) : NfcFrame :=
  if nfcShort b frame then ⟨.short, frame, 0⟩
  else if byteAt b 8 = 0 then ⟨.standard, frame ++ crcA frame, byteAt b 9⟩
  else ⟨.typeB, frame ++ crcB frame, byteAt b 9⟩

/-- Send a frame of the step: it starts when the frame delay of the last reply is over (R257); the reply window opens at its
end (R259). -/
def State.nfcSend (s : State) (f : NfcFrame) : State :=
  match s.nfc.run with
  | none => s
  | some r =>
    let t := max s.now (max r.opens s.nfc.holdTill)
    s.setNfc { s.nfc with sent := s.nfc.sent ++ [f]
                          run := some { r with phase := .frame, since := s.now, frameAt := t, opens := t + f.lasts } }

/-- Send the frames of an exchange one after the other; the exchange begins with the first. -/
def State.nfcSendAll (s : State) (fs : List NfcFrame) : State :=
  let from_ := match s.nfc.run with | some r => max s.now (max r.opens s.nfc.holdTill) | none => s.now
  let s := fs.foldl State.nfcSend s
  s.setNfc { s.nfc with run := s.nfc.run.map fun r => { r with exchAt := from_ } }

/-- What NFCX asks of its block (R258). -/
def nfcxSpec : FieldSpec :=
  { step := .nfcx, kind := .nfcx, blkLen := 16
    bad := fun b => byteAt b 4 != 0xFF || decide (1 < byteAt b 8) || decide (3 < byteAt b 9)
      || fieldLE b 12 2 == 0 || decide (256 < fieldLE b 12 2) || fieldLE b 14 2 == 0 || decide (256 < fieldLE b 14 2)
    frame := fun b => (fieldLE b 10 2, fieldLE b 12 2)
    badFrame := fun b f => nfcShort b f && byteAt b 9 != 0
    resLen := fun b => 16 + fieldLE b 14 2 }

/-- What NFCTREE asks of its block (R76). -/
def nfctreeSpec : FieldSpec :=
  { step := .nfctree, kind := .nfctree, blkLen := 16
    bad := fun b => byteAt b 8 == 0 || decide (8 < byteAt b 8) || !zerosAt b 9 7
    frame := fun _ => (0, 0)
    resLen := fun b => 16 + 11 * byteAt b 8 }

/-- A walk at its start. -/
def TreeWalk.start : TreeWalk := ⟨.wupa, 1, [], [], [], 0⟩

/-- SEL of a cascade level (ISO/IEC 14443-3). -/
def selByte (level : Nat) : Byte := BitVec.ofNat 8 (0x91 + 2 * level)

/-- Bits of bytes, least significant first. -/
def byteBits (bs : List Byte) : List Bool := bs.flatMap fun b => (List.range 8).map b.toNat.testBit

/-- Bytes of bits, least significant first. -/
def bitsByte : List Bool → Nat → Nat
  | [], _ => 0
  | b :: t, k => (if b then 2 ^ k else 0) + bitsByte t (k + 1)

/-- The first n bytes of bits, zeros after their end. -/
def bitsBytes (n : Nat) (k : List Bool) : List Byte := (List.range n).map fun i => BitVec.ofNat 8 (bitsByte ((k.drop (8 * i)).take 8) 0)

/-- The five bytes of a level: four UID bytes and the BCC. -/
def levelBytes (k : List Bool) : List Byte := bitsBytes 5 k

/-- The frames by which the walk asks what it waits for (R261): a listed or abandoned token is halted first. -/
def TreeWalk.frames (w : TreeWalk) : List NfcFrame :=
  let std (b : List Byte) : NfcFrame := ⟨.standard, b ++ crcA b, 0⟩
  match w.ask with
  | .wupa => [⟨.short, [0x52], 0⟩]
  | .anticollision =>
    let n := w.known.length
    [⟨.part (16 + n), selByte w.level :: BitVec.ofNat 8 ((2 + n / 8) * 16 + n % 8) :: bitsBytes ((n + 7) / 8) w.known, 0⟩]
  | .sak => [std (selByte w.level :: 0x70 :: levelBytes w.known)]
  | .reqaMore | .reqaLast => [std [0x50, 0x00], ⟨.short, [0x26], 0⟩]

/-- The first frame of a step. -/
def nfcFirst (j : FieldJob) : NfcFrame := if j.kind = .nfcx then nfcxFrame j.blk j.frame else ⟨.short, [0x52], 0⟩

/-- Begin a reader step: with the field off it listens first (R256). -/
def State.nfcBegin (s : State) (l : Nat) (j : FieldJob) : State :=
  let on := s.nfc.fieldOn
  let s := (s.setNfc { s.nfc with sent := [], run := some ⟨l, .listen, s.now, TreeWalk.start, s.now, s.now, s.now⟩ }).setJob l
    { j with started := some s.now }
  if on then s.nfcSendAll [nfcFirst j] else s

/-- NFCX (R256, R258). -/
def execStNfcx (dt l : Nat) (s : State) : Host.Outcome State Fault Refusal :=
  fieldStep dt l nfcxSpec s fun j s =>
    if s.marked unitNfc then s.fieldDone l j .unitUnusable 0 (noRest j.kind) else s.nfcBegin l j

/-- NFCTREE (R256, R261). -/
def execStNfctree (dt l : Nat) (s : State) : Host.Outcome State Fault Refusal :=
  fieldStep dt l nfctreeSpec s fun j s =>
    if s.marked unitNfc then s.fieldDone l j .unitUnusable 0 (noRest j.kind) else s.nfcBegin l j

/-- The step in progress with its job. -/
def State.nfcRun (s : State) : Option (NfcRun × FieldJob) :=
  match s.nfc.run with
  | some r => (s.fieldJob r.land).map fun j => (r, j)
  | none => none

/-- One entry of a tree result: UID length, then the UID padded to 10 bytes (R76). -/
def treeEntry (uid : List Byte) : List Byte := BitVec.ofNat 8 uid.length :: padTo 10 uid

/-- Result bytes from byte 8 of a walk. -/
def TreeWalk.rest (w : TreeWalk) : List Byte :=
  padTo 8 [BitVec.ofNat 8 w.found.length] ++ (w.found.map treeEntry).flatten

/-- End of a reader step; FIELD_COLLISION is counted. -/
def State.nfcEnd (s : State) (j : FieldJob) (r : NfcRun) (c : Code) (srcs : Nat) (rest : List Byte) : State :=
  let n := s.nfc
  (s.setNfc { n with run := none, collided := if c == Code.fieldCollision then (n.collided + 1) % 65536 else n.collided }).fieldDone
    r.land j c srcs rest

/-- NFC_EXT_LISTEN_END (R256): `strength` of the external field in 0.01 A/m. -/
def execEvNfcExtListenEnd (dt strength : Nat) (s : State) : Host.Outcome State Fault Refusal :=
  occurLive dt s fun s =>
    match s.nfcRun with
    | some (r, j) =>
      if r.phase = .listen ∧ r.since + bits s.nfc.cfg 15 8 * 10 * usT ≤ s.now then
        let s := s.setNfc { s.nfc with extField := sat 255 strength }
        if bits s.nfc.cfg 7 0 < strength then s.nfcEnd j r .fieldDisturbed 8 (noRest j.kind)
        else s.setNfc { s.nfc with fieldOn := true, run := some { r with phase := .guard, since := s.now } }
      else s
    | none => s

/-- NFC_GUARD_END (R256). -/
def execEvNfcGuardEnd (dt : Nat) (s : State) : Host.Outcome State Fault Refusal :=
  occurLive dt s fun s =>
    match s.nfcRun with
    | some (r, j) =>
      if r.phase = .guard ∧ r.since + bits s.nfc.cfg 23 16 * 100 * usT ≤ s.now then s.nfcSendAll [nfcFirst j] else s
    | none => s

end Sys2Proof.Machine

namespace Sys2Proof

/-- The first collided data bit of a reply (R259). -/
def NfcRx.first (rx : NfcRx) : Option Nat :=
  match rx.collided with | [] => none | p :: ps => some (ps.foldl min p)

/-- The bytes of a reply as decoded, each collided bit as 0 (R259). -/
def NfcRx.decoded (rx : NfcRx) : List Byte :=
  (List.range rx.bytes.length).map fun i =>
    (rx.bytes.getD i 0) &&& BitVec.ofNat 8 (255 - (List.range 8).foldl (fun m k => if rx.collided.contains (8 * i + k) then m + 2 ^ k else m) 0)

end Sys2Proof

namespace Sys2Proof.Machine

open Sys2Proof

/-- Classify the reply of an NFCX (R259); a collided one counts every byte it had, and shows those that the block has room for. -/
def nfcxReply (b frame : List Byte) (rx : NfcRx) : Code × List Byte :=
  let longest := fieldLE b 14 2
  let typeA := byteAt b 8 == 0
  let short := nfcShort b frame
  let n := rx.bytes.length
  let body := if short then rx.bytes else rx.bytes.take (n - 2)
  let crcOk := short || (decide (2 ≤ n) && rx.bytes.drop (n - 2) == (if typeA then crcA body else crcB body))
  match rx.first with
  | some p => if typeA then
      (.fieldCollision, natLE 2 (sat 65535 n) ++ [BitVec.ofNat 8 (if p < 254 then p else 0xFE)] ++ List.replicate 5 0
        ++ rx.decoded.take longest)
    else (.fieldCollision, [0, 0, 0xFF])
  | none =>
    if rx.parityOk && crcOk && decide (body.length ≤ longest) then
      (.ok, natLE 2 body.length ++ [0xFF] ++ List.replicate 5 0 ++ body)
    else (.fieldCollision, [0, 0, 0xFF])

/-- UID bytes that a level adds: of a level that another follows, the cascade tag is removed (R261). -/
def levelUid (more : Bool) (k : List Bool) : List Byte :=
  let bs := (levelBytes k).take 4
  if more then bs.drop 1 else bs

/-- What a step of the walk leads to: it goes on, or the step ends with an outcome. -/
inductive TreeNext where
  | go (w : TreeWalk)
  | stop (w : TreeWalk) (c : Code)

/-- The walk after it. -/
def TreeNext.walk : TreeNext → TreeWalk
  | .go w => w
  | .stop w _ => w

/-- A level restarts after a BCC failure, at most twice; a third failure abandons the token in HALT (R261). -/
def TreeWalk.restart (w : TreeWalk) : TreeNext :=
  if w.restarts < 2 then .go { w with ask := .anticollision, known := [], restarts := w.restarts + 1 }
  else .go { w with ask := .reqaMore }

/-- One answer, or silence, takes the walk on (R261). A select without a SAK counts as a failure of its level (log 20). -/
def TreeWalk.next (w : TreeWalk) (most : Nat) (rx : NfcRx) : TreeNext :=
  match w.ask with
  | .wupa =>
    if rx.answered then .go { w with ask := .anticollision, level := 1, known := [], uid := [], restarts := 0 }
    else .stop w .fieldTimeout
  | .anticollision =>
    if !rx.answered then w.restart
    else
      let got := byteBits rx.bytes
      match rx.first with
      | some p => .go { w with known := (w.known ++ got.take p ++ [false]).take 40 }
      | none =>
        let k := (w.known ++ got.take (40 - w.known.length)).take 40
        let bs := levelBytes k
        let bcc := (bs.take 4).foldl (fun a b => a ^^^ b) 0
        if k.length = 40 ∧ bs[4]? = some bcc then .go { w with known := k, ask := .sak } else w.restart
  | .sak =>
    if !rx.answered || !rx.parityOk then w.restart
    else if (byteAt rx.bytes 0).testBit 2 && decide (w.level < 3) then
      .go { w with ask := .anticollision, level := w.level + 1, uid := w.uid ++ levelUid true w.known, known := [], restarts := 0 }
    else
      let found := w.found ++ [w.uid ++ levelUid false w.known]
      .go { w with found := found, ask := if found.length = most then .reqaLast else .reqaMore }
  | .reqaLast => .stop w (if rx.answered then .noSpace else .ok)
  | .reqaMore =>
    if rx.answered then .go { w with ask := .anticollision, level := 1, known := [], uid := [], restarts := 0 }
    else .stop w .ok

/-- The window of a walk has lapsed (R262). -/
def State.walkOver (s : State) (j : FieldJob) (t : Nat) : Bool := decide (j.issued + j.window * usT ≤ t) && decide (t ≤ s.now)

/-- A walk that its window stopped (R262). -/
def TreeWalk.cut (w : TreeWalk) : Code × List Byte := (if w.found.isEmpty then .fieldTimeout else .noSpace, w.rest)

/-- A reader step takes one reply, or one silence of a walk (R259, R261, R262): a reply that begins in its window; a walk whose
window lapsed during the exchange stops with its end. -/
def State.nfcTake (s : State) (r : NfcRun) (j : FieldJob) (rx : NfcRx) : State :=
  if s.now < r.opens + rx.took then s else
  let s := if rx.answered then
      s.setNfc { s.nfc with replyEnd := s.now, holdTill := s.now + nfcDelay (j.kind != .nfcx || byteAt j.blk 8 == 0) }
    else s
  if j.kind = .nfcx then
    if rx.answered ∧ s.now ≤ r.opens + j.window * usT + rx.took then s.setJob r.land { j with fin := some (nfcxReply j.blk j.frame rx) }
    else s
  else
    let n := r.walk.next (byteAt j.blk 8) rx
    if s.walkOver j s.now then s.setJob r.land { j with fin := some n.walk.cut } else
    match n with
    | .stop w c => s.setJob r.land { j with fin := some (c, w.rest) }
    | .go w => (s.setNfc { s.nfc with run := some { r with walk := w } }).nfcSendAll w.frames

/-- NFC_REPLY_RX (R259, R261): a card replies. A walk is told a silence in the same way, with `answered` false. -/
def execEvNfcReplyRx (dt : Nat) (rx : NfcRx) (s : State) : Host.Outcome State Fault Refusal :=
  occurLive dt s fun s =>
    match s.nfcRun with
    | some (r, j) => if r.phase = .frame ∧ j.fin = none then s.nfcTake r j rx else s
    | none => s

/-- The monitor has seen `us` microseconds of a reply window, with no reply in them (R260); a walk that has its outcome has no window open. -/
def State.nfcHeard (s : State) (r : NfcRun) (j : FieldJob) (us : Nat) : Bool :=
  r.phase == .frame && decide (max r.opens s.nfc.replyEnd + us * usT ≤ s.now)
  && (if j.kind == .nfcx then decide (s.now ≤ r.opens + j.window * usT) else j.fin.isNone)

/-- NFC_DISTURBED (R260, R262): noise `rise` in 0.5 dB over the quiet level for `us` microseconds, without a start of frame. -/
def execEvNfcDisturbed (dt rise us : Nat) (s : State) : Host.Outcome State Fault Refusal :=
  occurLive dt s fun s =>
    match s.nfcRun with
    | some (r, j) =>
      if s.nfcHeard r j us ∧ bits s.nfc.noiseCfg 15 8 ≤ rise ∧ bits s.nfc.noiseCfg 7 0 ≤ us then
        let s := s.setNfc { s.nfc with disturbed := (s.nfc.disturbed + 1) % 65536 }
        let rest := match j.fin with
          | some (_, rest) => rest
          | none => if j.kind = .nfctree then r.walk.rest else noRest j.kind
        s.nfcEnd j r .fieldDisturbed 8 rest
      else s
    | none => s

/-- FIELD_STEP_DONE for the reader. -/
def State.nfcStepDone (s : State) (l : Nat) (j : FieldJob) : State :=
  match s.nfcRun, j.fin with
  | some (r, _), some (c, rest) => if r.land = l then s.nfcEnd j r c 0 rest else s
  | _, _ => s

/-- FIELD_WINDOW_LAPSE for the reader (R259, R262): no reply of an NFCX began within the window; a walk whose window
lapses stops at once between two exchanges, at the end of an HLTA in progress, and at the end of an exchange in progress. -/
def State.nfcLapse (s : State) (l : Nat) (j : FieldJob) : State :=
  match s.nfcRun with
  | some (r, _) =>
    if r.land ≠ l ∨ j.fin.isSome ∨ r.phase ≠ .frame then s
    else if j.kind = .nfcx then
      if r.opens + j.window * usT ≤ s.now then s.nfcEnd j r .fieldTimeout 0 (noRest j.kind) else s
    else if s.walkOver j (min s.now r.exchAt) || (decide (r.frameAt ≤ s.now) && s.walkOver j r.frameAt) then s.nfcEnd j r r.walk.cut.1 0 r.walk.cut.2
    else s
  | none => s

end Sys2Proof.Machine
end

