-- ==== Sys2Proof/Machine/UhfOps.lean ====
section
/-! DEFINITION. The sub-gigahertz link: UHFRX, UHFTX, sniffing and their events (R236 to R253). -/

namespace Sys2Proof.Machine

open Sys2Proof

/-- Replace the UHF state. -/
def State.setUhf (s : State) (u : Uhf) : State := { s with uhf := u }

/-- Ticks of b bits at a rate index: 2.4 kb/s doubled at each index (R238). -/
def uhfBitsT (rate b : Nat) : Nat := b * secT / (2400 * 2 ^ rate)

/-- FSK deviation of a rate index, in Hz (R239). -/
def uhfDeviation : Nat → Nat
  | 0 => 4800 | 1 => 9600 | 2 => 19200 | 3 => 28800 | _ => 38400

/-- The keying of bits at a rate index (R239). -/
def uhfKeying (ask : Bool) (rate : Nat) (bs : List Bool) : UhfKeying :=
  if ask then .ask (manchester bs)
  else .fsk (bs.map fun b => if b then (uhfDeviation rate : Int) else -(uhfDeviation rate : Int))

/-- The receiver of a search takes the keying of a telegram: its modulation, and a deviation within 30 % of nominal (R239). -/
def UhfSearch.takes (f : UhfSearch) (rx : UhfRx) : Bool :=
  match rx.dev with
  | none => f.ask
  | some d => !f.ask && decide (7 * uhfDeviation rx.lane ≤ 10 * d) && decide (10 * d ≤ 13 * uhfDeviation rx.lane)

/-- Block fields. -/
def uhfBand (b : List Byte) : Nat := byteAt b 8
def uhfMod (b : List Byte) : Nat := byteAt b 9

/-- What UHFRX asks of its block (R240). -/
def uhfrxSpec : FieldSpec :=
  { step := .uhfrx, kind := .uhfrx, blkLen := 16
    bad := fun b => decide (3 < uhfBand b) || decide (1 < uhfMod b) || byteAt b 10 == 0 || decide (31 < byteAt b 10)
      || byteAt b 11 == 0 || decide (48 < byteAt b 11)
    frame := fun _ => (0, 0)
    resLen := fun _ => 64 }

/-- Requested power of an UHFTX, signed dBm. -/
def uhfPower (b : List Byte) : Int := sgn 8 (byteAt b 11)

/-- What UHFTX asks of its block (R245). -/
def uhftxSpec : FieldSpec :=
  { step := .uhftx, kind := .uhftx, blkLen := 16
    bad := fun b => decide (3 < uhfBand b) || decide (1 < uhfMod b) || decide (4 < byteAt b 10)
      || decide (uhfPower b < -20) || decide (14 < uhfPower b) || fieldLE b 14 2 == 0 || decide (48 < fieldLE b 14 2)
    frame := fun b => (fieldLE b 12 2, fieldLE b 14 2)
    resLen := fun _ => 16 }

/-- Fields of UHF_CFG. -/
def Uhf.distThr (u : Uhf) : Int := sgn 8 (bits u.cfg 31 24)
def Uhf.distMin (u : Uhf) : Nat := bits u.cfg 23 16
def Uhf.preWin (u : Uhf) : Nat := bits u.cfg 15 8
def Uhf.txPre (u : Uhf) : Nat := bits u.cfg 3 0

/-- A calibration is needed for a step on a band (R237). -/
def Uhf.needsCal (u : Uhf) (band : Nat) (temp : Int) : Bool :=
  band != u.lastBand || decide (20 ≤ (temp - u.calTemp).natAbs)

/-- A fresh search. -/
def UhfSearch.start (band : Nat) (ask : Bool) (rates longest : Nat) : UhfSearch := ⟨band, ask, rates, longest, [], [], [], false, 0, none⟩

/-- Bytes of a telegram of a payload (R238). -/
def uhfTelegram (pre : Nat) (pay : List Byte) : List Byte :=
  let body := BitVec.ofNat 8 pay.length :: pay
  List.replicate pre 0xAA ++ [0xD3, 0x91] ++ body ++ natBE 2 (lfCrc body)

/-- A telegram goes on air at an instant (R238, R239, R245). -/
def Uhf.emits (u : Uhf) (r : UhfRun) (now : Nat) : Uhf :=
  { u with mode := .tx, sent := some ⟨r.search.band, r.rate, uhfKeying r.search.ask r.rate r.bits⟩, run := some { r with txAt := some now }
           spans := (u.spans.filter fun p => decide (now < p.2 + 3600 * secT)) ++ [(now, now + r.air)] }

/-- The step is calibrated and goes on (R237): a telegram leaves, or the receiver listens. -/
def Uhf.goes (u : Uhf) (r : UhfRun) (now : Nat) : Uhf :=
  let r := { r with calWait := false, readyAt := now }
  if r.bits.isEmpty then { u with mode := .rx, run := some r } else u.emits r now

/-- Begin a UHF step: its calibration, and its wait for one that already runs; one for another band or temperature takes its place (log 213). -/
def State.uhfBegin (s : State) (l : Nat) (j : FieldJob) (temp : Int) (sr : UhfSearch) (bits : List Bool) (rate air : Nat) : State :=
  let u := s.uhf
  let need := u.needsCal sr.band temp
  let wait := need || u.cal.isSome
  let r : UhfRun := ⟨l, wait, s.now, sr, bits, rate, air, none⟩
  let u := if wait then { u with cal := if need then some (sr.band, s.now) else u.cal, mode := .cal, run := some r } else u.goes r s.now
  ((({ s with dieTemp := temp }).setUhf u).setJob l { j with started := some s.now })

/-- UHFRX (R240, R242). -/
def execStUhfrx (dt l : Nat) (temp : Int) (s : State) : Host.Outcome State Fault Refusal :=
  fieldStep dt l uhfrxSpec s fun j s =>
    if s.marked unitUhf then s.fieldDone l j .unitUnusable 0 []
    else s.uhfBegin l j temp (UhfSearch.start (uhfBand j.blk) (uhfMod j.blk == 1) (byteAt j.blk 10) (byteAt j.blk 11)) [] 0 0

/-- Bits of a transmitted telegram (R238). -/
def State.uhfTxBits (s : State) (b : List Byte) : Nat := s.uhf.txPre * 8 + 16 + 8 + 8 * fieldLE b 14 2 + 16

/-- The regulatory lock refuses an UHFTX (R246). -/
def State.uhfBlocked (s : State) (b : List Byte) : Bool :=
  let u := s.uhf
  let band := uhfBand b
  let t := uhfBitsT (byteAt b 10) (s.uhfTxBits b)
  let duty := bits u.reg1 27 16
  !u.reg1.testBit (28 + band) || decide (sgn 8 (bits u.reg0 (8 * band + 7) (8 * band)) < uhfPower b)
  || decide (bits u.reg1 15 0 * msT < t)
  || (duty != 0 && decide (duty * 3600 * msT < spansIn u.spans s.now (3600 * secT) + t))

/-- Power applied: at most +14 dBm, or +11 dBm with VDD below 3.0 V (R245). -/
def uhfApplied (b : List Byte) (vdd : Nat) : Int := min (uhfPower b) (if vdd < 3000 then 11 else 14)

/-- Power-amplifier code (R245). -/
def uhfCode (band : Nat) (applied temp : Int) (vdd : Nat) : Nat :=
  (clampI 0 127 (Config.uhfP0 band + 4 * applied + nearestDiv (Config.uhfKt band * (temp - 25)) 16
    + nearestDiv (Config.uhfKv band * ((vdd : Int) - 3300)) 1000)).toNat

/-- UHFTX (R245, R246). -/
def execStUhftx (dt l : Nat) (temp : Int) (vdd : Nat) (s : State) : Host.Outcome State Fault Refusal :=
  fieldStep dt l uhftxSpec s fun j s =>
    if s.marked unitUhf then s.fieldDone l j .unitUnusable 0 []
    else if s.uhfBlocked j.blk then s.fieldDone l j .regulatoryBlocked 0 []
    else
      let p := uhfApplied j.blk vdd
      let s := s.setUhf { s.uhf with paCode := uhfCode (uhfBand j.blk) p temp vdd }
      let j := { j with fin := some (.ok, [BitVec.ofNat 8 (unsgn 8 p)]) }
      s.uhfBegin l j temp (UhfSearch.start (uhfBand j.blk) (uhfMod j.blk == 1) 0 0) (msbBits (uhfTelegram s.uhf.txPre j.frame))
        (byteAt j.blk 10) (uhfBitsT (byteAt j.blk 10) (s.uhfTxBits j.blk))

/-- The step in progress with its job. -/
def State.uhfRun (s : State) : Option (UhfRun × FieldJob) :=
  match s.uhf.run with
  | some r => (s.fieldJob r.land).map fun j => (r, j)
  | none => none

/-- End of a UHF step. -/
def State.uhfEnd (s : State) (j : FieldJob) (r : UhfRun) (c : Code) (srcs : Nat) (rest : List Byte) : State :=
  (s.setUhf { s.uhf with run := none, mode := if s.uhf.cal.isSome then .cal else .ready }).fieldDone r.land j c srcs rest

/-- FIELD_STEP_DONE for the UHF steps: UHFTX after its last bit; UHFRX with its passed telegram. -/
def State.uhfStepDone (s : State) (l : Nat) (j : FieldJob) : State :=
  match s.uhfRun, j.fin with
  | some (r, _), some (c, rest) =>
    if r.land ≠ l ∨ r.calWait then s
    else if j.kind = .uhftx then
      match r.txAt with
      | some t => if t + r.air ≤ s.now then s.uhfEnd j r c 0 rest else s
      | none => s
    else s.uhfEnd j r c 0 rest
  | _, _ => s

/-- FIELD_WINDOW_LAPSE for UHFRX (R242): the window runs from issue. -/
def State.uhfLapse (s : State) (l : Nat) (j : FieldJob) : State :=
  match s.uhfRun with
  | some (r, _) =>
    if r.land = l ∧ j.kind = .uhfrx ∧ j.fin = none ∧ j.issued + j.window * usT ≤ s.now then
      s.uhfEnd j r (if r.search.collided then .fieldCollision else .fieldTimeout) 0 []
    else s
  | none => s

/-! ### Search -/

/-- Longest wait of a sniff for a sync word after its preamble: PERIOD ms and LISTEN µs (R251). -/
def Sniff.syncT (n : Sniff) : Nat := bits n.time 31 16 * msT + bits n.time 15 0 * usT

/-- LISTEN of a sniff (R251). -/
def Sniff.listenT (n : Sniff) : Nat := bits n.time 15 0 * usT

/-- The device is in LOBBY and not waking: sniffs begin there and nowhere else (R252). -/
def State.inLobby (s : State) : Bool := s.power.mode == .lobby && !s.power.waking

/-- The search in progress: a step's, once it is calibrated and up to the end of its window, or a sniff's that listens. -/
def State.uhfSearch (s : State) : Option UhfSearch :=
  match s.uhfRun with
  | some (r, j) =>
    if j.kind == .uhfrx && !r.calWait && j.fin.isNone && decide (s.now ≤ j.issued + j.window * usT) then some r.search else none
  | none => match s.uhf.sniff with
    | some n => if n.since.isSome then some n.search else none
    | none => none

/-- Replace the search in progress. -/
def State.setSearch (s : State) (f : UhfSearch) : State :=
  if s.uhfRun.isSome then s.setUhf { s.uhf with run := s.uhf.run.map fun r => { r with search := f } }
  else s.setUhf { s.uhf with sniff := s.uhf.sniff.map fun n => { n with search := f } }

/-- A preamble may be detected now: a sniff takes one in LOBBY and within LISTEN only (R251, R252). -/
def State.uhfDetects (s : State) : Bool :=
  s.uhfRun.isSome || (s.inLobby && s.uhf.sniff.any fun n => n.since.any fun t => decide (s.now ≤ t + n.listenT))

/-- The search in progress goes on when a hold ends: a sniff's does only in LOBBY (R252). -/
def State.searchStays (s : State) : Bool := s.uhfRun.isSome || s.inLobby

/-- A lane holds a preamble from now on. -/
def UhfSearch.hold (f : UhfSearch) (lane now : Nat) : UhfSearch :=
  { f with holds := Tbl.put f.holds lane now, seen := (lane, now) :: f.seen }

/-- Another lane detected a preamble during the telegram of a lane, from the 16 bits before its own detection to its sync, at which the other
lanes stop (R240 to R242). -/
def UhfSearch.others (f : UhfSearch) (lane at0 sync : Nat) : Bool :=
  f.seen.any fun p => p.1 != lane && decide (at0 ≤ p.2 + uhfBitsT lane 16) && decide (p.2 ≤ sync)

/-- UHF_PREAMBLE_DETECT (R240, R242, R244): a lane of the search finds 16 bits within 12 % of its rate, and holds; a
signal beyond is rejected. -/
def execEvUhfPreambleDetect (dt lane : Nat) (err : Int) (s : State) : Host.Outcome State Fault Refusal :=
  occurAt rankUnit dt s fun s =>
    match s.uhfSearch with
    | none => s
    | some f =>
      if !f.rates.testBit lane || !s.uhfDetects then s
      else if 120 < err.natAbs then
        (s.setUhf { s.uhf with rateReject := (s.uhf.rateReject + 1) % 65536 }).setSearch { f with rejects := s.now :: f.rejects }
      else s.setSearch (f.hold lane s.now)

/-- Length of a run that marks, in ticks: DIST_MIN in the pre-window, after it DIST_MIN and 20 bit times of the slowest rate (R244). -/
def State.uhfRunLength (s : State) (pre : Bool) (rates : Nat) : Nat :=
  let slow := ((List.range 5).find? rates.testBit).getD 0
  s.uhf.distMin * usT + (if pre then 0 else uhfBitsT slow 20)

/-- The pre-window of the step in progress runs (R237, R244). -/
def State.uhfPre (s : State) : Bool := s.uhf.run.any fun r => decide (s.now < r.readyAt + s.uhf.preWin * 4 * usT)

/-- A sniff is over: in LOBBY D33 falls again (R251, R252). -/
def State.sniffEnds (s : State) : State :=
  if s.inLobby then
    (s.setUhf { s.uhf with sniff := none, cal := none, mode := .down }).setDom 33 (.falling s.now none)
  else s.setUhf { s.uhf with sniff := none, mode := if s.domUp 33 then .ready else .down }

/-- A search that has lost its last hold outside LOBBY was a sniff's that went on to the end of its telegram, and is over (R252). -/
def State.searchRests (s : State) (f : UhfSearch) : State := if s.searchStays || !f.holds.isEmpty then s.setSearch f else s.sniffEnds

/-- Holds have ended without a passing telegram, those of the lanes in `left` staying; their run of `runUs` had its length at the end of this
last hold or not (R244). -/
def State.uhfHoldEnds (s : State) (f : UhfSearch) (left : Tbl Nat) (runUs : Nat) : State :=
  let full := decide (s.uhfRunLength s.uhfPre f.rates ≤ runUs * usT)
  s.searchRests { f with holds := left, holdEnd := if full then some s.now else none }

/-- UHF_PREAMBLE_LOST (R244): a lane loses its preamble without a sync. -/
def execEvUhfPreambleLost (dt lane runUs : Nat) (s : State) : Host.Outcome State Fault Refusal :=
  occurAt rankUnit dt s fun s =>
    match s.uhfSearch with
    | some f => if (Tbl.find f.holds lane).isSome then s.uhfHoldEnds f (Tbl.del f.holds lane) runUs else s
    | none => s

/-- Result bytes 8 to 63 of a telegram (R243). -/
def uhfResult (rx : UhfRx) : List Byte :=
  [BitVec.ofNat 8 rx.lane, BitVec.ofNat 8 (unsgn 8 rx.err)] ++ natLE 2 (unsgn 16 rx.strength)
  ++ [BitVec.ofNat 8 rx.len, 0, 0, 0] ++ rx.payload

/-- The telegram passes the checks of R241. -/
def uhfPasses (longest : Nat) (rx : UhfRx) : Bool :=
  rx.len != 0 && decide (rx.len ≤ longest) && rx.payload.length == rx.len
  && lfCrc (BitVec.ofNat 8 rx.len :: rx.payload) == rx.crc

/-- Another lane of the search completed its sync first, or in the same PERI cycle at a lower rate index (R241). -/
def State.uhfBeaten (s : State) (f : UhfSearch) (rx : UhfRx) : Bool :=
  let at0 := (s.now - rx.sync) / periT
  rx.rivals.any fun p =>
    let at1 := (s.now - p.2) / periT
    f.rates.testBit p.1 && decide (f.searchFrom ≤ s.now - p.2) && (decide (at1 < at0) || (at1 == at0 && decide (p.1 < rx.lane)))

/-- A sniff's hit takes the lowest free entry, and the device wakes (R251). -/
def State.sniffHit (s : State) (since : Nat) (rx : UhfRx) : State :=
  let u := s.uhf
  let s' := s.sniffEnds
  match (List.range 4).find? fun k => !u.filled.testBit k with
  | none => s'.setUhf { s'.uhf with lost := (u.lost + 1) % 65536 }
  | some k =>
    let e := [0, 0] ++ natLE 2 (sat 65535 ((s.now - since) / usT)) ++ natLE 4 s.us ++ uhfResult rx
    let s' := s'.setUhf { s'.uhf with bufs := vset u.bufs k (padTo 64 e), filled := u.filled ||| 2 ^ k, hits := (u.hits + 1) % 256 }
    if s.power.mode == .lobby then s'.beginWake 3 else s'

/-- A telegram that fails is discarded; it may count as a collision, and every lane searches again (R241, R242). -/
def State.uhfDiscard (s : State) (f : UhfSearch) (rx : UhfRx) (other : Bool) (runUs : Nat) : State :=
  let coll := other || decide (12 < rx.spread)
  let u := s.uhf
  let s := s.setUhf { u with discarded := (u.discarded + 1) % 65536
                             collided := if coll then (u.collided + 1) % 65536 else u.collided }
  s.uhfHoldEnds { f with collided := f.collided || coll, searchFrom := s.now, seen := [], rejects := [] } [] runUs

/-- The lanes stopped at a sync (R241): what one of them was told to reject after it does not count (log 214). -/
def State.uhfStopped (s : State) (f : UhfSearch) (sync : Nat) : State :=
  let n := (f.rejects.filter fun t => decide (sync < t)).length
  if n = 0 then s else s.setUhf { s.uhf with rateReject := (s.uhf.rateReject + 65536 - n % 65536) % 65536 }

/-- UHF_TELEGRAM_RX (R240 to R243, R251): the telegram of a lane that holds its preamble, and whose sync was complete first, ends; it passes, is
rejected for its rate, or is discarded and may count as a collision. -/
def execEvUhfTelegramRx (dt : Nat) (rx : UhfRx) (runUs : Nat) (s : State) : Host.Outcome State Fault Refusal :=
  occurAt rankUnit dt s fun s =>
    match s.uhfSearch with
    | none => s
    | some f =>
      match Tbl.find f.holds rx.lane with
      | none => s
      | some at0 =>
        let sync := s.now - rx.sync
        let other := f.others rx.lane at0 sync
        if !f.rates.testBit rx.lane || !f.takes rx || decide (sync < at0) || decide (sync < f.searchFrom) || s.uhfBeaten f rx then s
        else
          let s := s.uhfStopped f sync
          if 120 < rx.err.natAbs then
            (s.setUhf { s.uhf with rateReject := (s.uhf.rateReject + 1) % 65536 }).uhfHoldEnds
              { f with seen := [], rejects := [], searchFrom := s.now } [] runUs
          else
            match s.uhfRun, s.uhf.sniff with
            | some (r, j), _ =>
              if uhfPasses f.longest rx then s.setJob r.land { j with fin := some (.ok, uhfResult rx) } else s.uhfDiscard f rx other runUs
            | none, some n =>
              if at0 + n.syncT < sync then s.sniffEnds
              else if !uhfPasses f.longest rx then s.uhfDiscard f rx other runUs
              else if n.cfg.testBit 7 && byteAt rx.payload 0 != bits n.cfg 15 8 then
                s.searchRests { f with holds := [], searchFrom := s.now, seen := [], rejects := [] }
              else s.sniffHit (n.since.getD s.now) rx
            | none, none => s

/-- UHF_DISTURBANCE_MARK (R244): in-band power `power` dBm has stood above DIST_THR for `runUs` microseconds. After a hold that its run outlasted
with its length reached, the mark falls DIST_MIN µs after the end of the hold. -/
def execEvUhfDisturbanceMark (dt : Nat) (power : Int) (runUs : Nat) (s : State) : Host.Outcome State Fault Refusal :=
  occurLive dt s fun s =>
    match s.uhfRun, s.uhfSearch with
    | some (r, j), some f =>
      if !f.holds.isEmpty || decide (power ≤ s.uhf.distThr) || decide (s.now < r.readyAt + runUs * usT) then s
      else
        let held := f.holdEnd.any fun t => decide (s.now - runUs * usT ≤ t)
        let due := if held then f.holdEnd.any fun t => decide (t + s.uhf.distMin * usT ≤ s.now)
          else decide (s.uhfRunLength s.uhfPre f.rates ≤ runUs * usT)
        if due then (s.setUhf { s.uhf with disturbed := (s.uhf.disturbed + 1) % 65536 }).uhfEnd j r .fieldDisturbed 4 [] else s
    | _, _ => s

/-- UHF_SYNTH_CAL_DONE (R237, R413): a calibration lasts 60 µs; two failures in a row are the fault UHF_SYNTH (log 19), and in a sniff they end
its listen (log 182). -/
def execEvUhfSynthCalDone (dt : Nat) (ok : Bool) (temp : Int) (s : State) : Host.Outcome State Fault Refusal :=
  occurAt (faultRank (!ok && s.uhf.calFails != 0)) dt s fun s =>
    match s.uhf.cal, s.uhf.sniff with
    | none, _ => s
    | some (band, t0), sniff =>
      if s.now < t0 + 60 * usT || (!s.live && sniff.isNone) then s
      else if ok then
        let u := { s.uhf with cal := none, calFails := 0, calTemp := temp, lastBand := band, mode := .ready }
        let u := match u.run with
          | some r => u.goes r s.now
          | none => if u.sniff.isSome then { u with mode := .sniff, sniff := u.sniff.map fun n => { n with since := some s.now } } else u
        ({ s with dieTemp := temp }).setUhf u
      else if s.uhf.calFails = 0 then s.setUhf { s.uhf with calFails := 1, cal := some (band, s.now) }
      else if sniff.isSome then (s.setUhf { s.uhf with calFails := 0, cal := none }).sniffEnds
      else (s.setUhf { s.uhf with calFails := 0, cal := none, mode := .ready }).raise .uhfSynth (.domain 33)

/-! ### Sniffing -/

/-- SNIFF_PERIOD (R251): once every PERIOD ms in LOBBY the device brings D33 up; the listen begins after its calibration (R237). -/
def execEvSniffPeriod (dt : Nat) (s : State) : Host.Outcome State Fault Refusal :=
  occurAt rankUnit dt s fun s =>
    let u := s.uhf
    if s.power.mode == .lobby && !s.power.waking && u.sniffCfg.testBit 31 && u.sniff.isNone && s.dom 33 == .down
        && decide (u.sniffAt + bits u.sniffTime 31 16 * msT ≤ s.now) then
      (s.setUhf { u with sniff := some ⟨none, UhfSearch.start (bits u.sniffCfg 27 26) (u.sniffCfg.testBit 25) (bits u.sniffCfg 24 20) 48, u.sniffCfg, u.sniffTime⟩
                         sniffAt := s.now }).setDom 33 (.rising s.now)
    else s

/-- SNIFF_LISTEN_END (R251): LISTEN passes without a preamble, or a preamble stands without a sync for PERIOD and LISTEN; `synced` names a lane
whose sync is complete and the ticks since. -/
def execEvSniffListenEnd (synced : Told (Option (Nat × Nat))) (s : State) : Host.Outcome State Fault Refusal :=
  occurAt rankUnit synced.dt s fun s =>
    match s.uhf.sniff with
    | none => s
    | some n =>
      match n.since with
      | none => s
      | some t =>
        let inTime (e : Nat × Nat) : Bool := synced.what.any fun p => p.1 == e.1 && decide (s.now - p.2 ≤ e.2 + n.syncT)
        let done := match n.search.holds with
          | [] => decide (t + n.listenT ≤ s.now)
          | h => h.all fun e => decide (e.2 + n.syncT ≤ s.now) && !inTime e
        if done then s.sniffEnds else s

end Sys2Proof.Machine
end

