-- ==== Sys2Proof/Machine/FieldEvents.lean ====
section
/-! DEFINITION. The end of a field step's exchange, and of a receive window (R72, R207). -/

namespace Sys2Proof.Machine

open Sys2Proof

/-- The unit of a landing's field step ends its exchange. -/
def State.fieldStepDone (s : State) (l : Nat) (j : FieldJob) (m : FieldMeas) : State :=
  match j.kind with
  | .lftx | .lfrx => s.lfStepDone l j m
  | .uwbpoll | .uwbresp | .uwbfinal => s.uwbStepDone l j
  | .uhfrx | .uhftx => s.uhfStepDone l j
  | .nfcx | .nfctree => s.nfcStepDone l j

/-- FIELD_STEP_DONE (R72): the exchange reaches its outcome and the result is written. -/
def execEvFieldStepDone (dt l : Nat) (m : FieldMeas) (s : State) : Host.Outcome State Fault Refusal :=
  occurLive dt s fun s => match s.fieldJob l with | some j => s.fieldStepDone l j m | none => s

/-- The receive window of a landing's field step lapses. -/
def State.fieldLapse (s : State) (l : Nat) (j : FieldJob) (floor : Nat) : State :=
  match j.kind with
  | .lftx | .lfrx => s
  | .uwbpoll | .uwbresp | .uwbfinal => s.uwbLapse l j floor
  | .uhfrx | .uhftx => s.uhfLapse l j
  | .nfcx | .nfctree => s.nfcLapse l j

/-- FIELD_WINDOW_LAPSE (R207): a receive window lapses without an accepted frame. -/
def execEvFieldWindowLapse (dt l floor : Nat) (s : State) : Host.Outcome State Fault Refusal :=
  occurLive dt s fun s => match s.fieldJob l with | some j => s.fieldLapse l j floor | none => s

end Sys2Proof.Machine
end

