-- ==== Sys2Proof/Machine/RegFields.lean ====
section
/-! DEFINITION. RO fields of every register word, from the register tables of chapters 00 to 16. A word that no row covers is one RO field: a
register of one RO field of 32 bits, or reserved space, which reads 0 (R6). Where a field spans several words, each word's part is taken as a field of its own (log 38). -/

namespace Sys2Proof.Machine

/-- RO fields of the words at base, base + stride, ..., count words in all: each as its high and low bit. -/
structure RoRow where
  base : Nat
  stride : Nat
  count : Nat
  ro : List (Nat × Nat)
deriving DecidableEq, Repr

/-- RO fields of chapter 00: identity. -/
def roRows00 : List RoRow :=
  [⟨0x0000, 4, 1, [(31, 24), (23, 16), (15, 0)]⟩,
   ⟨0x0004, 4, 1, [(31, 16), (15, 8), (7, 0)]⟩]

/-- RO fields of chapter 01: host link. -/
def roRows01 : List RoRow :=
  [⟨0x0100, 4, 1, [(31, 8)]⟩,
   ⟨0x0104, 4, 1, [(31, 9)]⟩,
   ⟨0x0108, 4, 1, [(31, 16), (15, 0)]⟩]

/-- RO fields of chapter 03: flights and halls. -/
def roRows03 : List RoRow :=
  [⟨0x0200, 4, 1, [(31, 10)]⟩,
   ⟨0x021C, 4, 1, [(31, 16), (15, 8), (7, 4), (3, 0)]⟩,
   ⟨0x0224, 8, 16, [(31, 16), (15, 8), (7, 2), (1, 0)]⟩,
   ⟨0x0204, 4, 1, [(31, 24), (7, 0)]⟩,
   ⟨0x0208, 4, 1, [(31, 24), (23, 16), (15, 8), (7, 0)]⟩,
   ⟨0x0210, 4, 1, [(31, 24)]⟩,
   ⟨0x0214, 4, 1, [(31, 24), (23, 16), (15, 8), (7, 0)]⟩,
   ⟨0x0218, 4, 1, [(31, 16), (15, 8), (7, 0)]⟩,
   ⟨0x02A4, 4, 1, [(31, 16), (15, 0)]⟩,
   ⟨0x0400, 4, 1, [(31, 5), (4, 4), (2, 2), (1, 1)]⟩,
   ⟨0x0404, 4, 1, [(31, 5)]⟩,
   ⟨0x0408, 4, 1, [(31, 5), (4, 4), (2, 2), (1, 1)]⟩,
   ⟨0x0410, 16, 16, [(31, 16)]⟩,
   ⟨0x0414, 16, 16, [(31, 17)]⟩,
   ⟨0x0418, 16, 16, [(31, 5)]⟩,
   ⟨0x02A0, 4, 1, [(31, 9), (8, 8), (7, 1), (0, 0)]⟩,
   ⟨0x0300, 32, 8, [(31, 31), (30, 30), (29, 29), (28, 24), (23, 16), (15, 12), (11, 8), (7, 2), (1, 0)]⟩,
   ⟨0x0318, 32, 8, [(31, 8), (7, 0)]⟩]

/-- RO fields of chapter 04: LF. -/
def roRows04 : List RoRow :=
  [⟨0x1004, 4, 1, [(31, 8)]⟩,
   ⟨0x1000, 4, 1, []⟩,
   ⟨0x100C, 4, 1, [(31, 24)]⟩,
   ⟨0x1024, 4, 1, [(31, 8)]⟩,
   ⟨0x1040, 8, 8, [(31, 31), (30, 30), (29, 29), (28, 28), (27, 22), (21, 12), (11, 0)]⟩,
   ⟨0x1044, 8, 8, [(31, 24), (23, 16), (15, 8), (7, 0)]⟩,
   ⟨0x1018, 4, 1, []⟩,
   ⟨0x1028, 4, 1, [(31, 2)]⟩,
   ⟨0x101C, 4, 1, [(31, 16), (15, 8), (7, 0)]⟩,
   ⟨0x1008, 4, 1, [(30, 26), (15, 12), (7, 4)]⟩,
   ⟨0x1010, 4, 1, []⟩,
   ⟨0x1020, 4, 1, [(31, 30)]⟩,
   ⟨0x1030, 4, 1, [(31, 16), (15, 0)]⟩,
   ⟨0x1034, 4, 1, [(31, 24), (23, 12), (11, 0)]⟩,
   ⟨0x1014, 4, 1, [(31, 24), (23, 23), (22, 22), (21, 12), (11, 8), (7, 0)]⟩]

/-- RO fields of chapter 05: UWB. -/
def roRows05 : List RoRow :=
  [⟨0x1400, 4, 1, [(31, 19), (18, 16), (15, 8), (7, 4), (3, 0)]⟩,
   ⟨0x1404, 4, 1, [(31, 16)]⟩,
   ⟨0x1408, 4, 1, [(31, 24), (23, 16), (15, 8), (7, 2), (1, 1), (0, 0)]⟩,
   ⟨0x140C, 4, 1, [(31, 16), (15, 8), (7, 3), (2, 2)]⟩,
   ⟨0x1410, 4, 1, [(31, 9), (8, 8), (2, 2)]⟩,
   ⟨0x1414, 4, 1, [(29, 26), (23, 14)]⟩,
   ⟨0x1418, 4, 1, [(31, 16), (15, 0)]⟩,
   ⟨0x1420, 4, 1, [(31, 24), (23, 8), (7, 7), (6, 0)]⟩,
   ⟨0x1424, 4, 1, [(31, 7)]⟩,
   ⟨0x1430, 4, 1, [(31, 18), (17, 16), (15, 8), (7, 0)]⟩,
   ⟨0x1434, 4, 1, [(31, 16), (15, 0)]⟩,
   ⟨0x1438, 4, 1, [(31, 16), (15, 0)]⟩,
   ⟨0x143C, 4, 1, [(31, 16), (15, 0)]⟩]

/-- RO fields of chapter 06: ranging. -/
def roRows06 : List RoRow :=
  [⟨0x1800, 4, 1, [(31, 10), (7, 6), (3, 0)]⟩,
   ⟨0x1804, 4, 1, []⟩,
   ⟨0x1808, 4, 1, []⟩,
   ⟨0x180C, 4, 1, []⟩,
   ⟨0x1810, 4, 1, [(31, 16)]⟩,
   ⟨0x1814, 4, 1, [(31, 24), (23, 16), (15, 0)]⟩,
   ⟨0x1820, 8, 4, []⟩,
   ⟨0x1824, 8, 4, []⟩,
   ⟨0x1844, 4, 1, [(31, 16), (15, 8), (7, 0)]⟩,
   ⟨0x184C, 4, 1, [(31, 31), (30, 8), (7, 0)]⟩,
   ⟨0x1850, 4, 1, [(31, 16), (15, 0)]⟩]

/-- RO fields of chapter 07: UHF. -/
def roRows07 : List RoRow :=
  [⟨0x1C00, 4, 1, [(31, 19), (18, 16), (15, 8), (7, 2), (1, 0)]⟩,
   ⟨0x1C04, 4, 1, [(7, 4)]⟩,
   ⟨0x1C08, 4, 1, [(31, 16), (15, 0)]⟩,
   ⟨0x1C0C, 4, 1, [(31, 16), (15, 0)]⟩,
   ⟨0x1C10, 4, 1, [(31, 24), (23, 16), (15, 8), (7, 0)]⟩,
   ⟨0x1C14, 4, 1, [(31, 28), (27, 16), (15, 0)]⟩,
   ⟨0x1C18, 4, 1, [(31, 22), (21, 0)]⟩,
   ⟨0x1C20, 4, 1, [(30, 28), (19, 16), (6, 0)]⟩,
   ⟨0x1C24, 4, 1, []⟩,
   ⟨0x1C28, 4, 1, [(31, 16), (15, 8), (7, 4)]⟩]

/-- RO fields of chapter 08: NFC. -/
def roRows08 : List RoRow :=
  [⟨0x2000, 4, 1, [(31, 28)]⟩,
   ⟨0x2004, 4, 1, [(31, 16)]⟩,
   ⟨0x2008, 4, 1, [(31, 9), (8, 8), (7, 0)]⟩,
   ⟨0x200C, 4, 1, [(31, 16), (15, 0)]⟩,
   ⟨0x2040, 4, 1, [(31, 24), (23, 16), (15, 12), (11, 8), (7, 7), (6, 6), (5, 5), (4, 4), (3, 3), (2, 2), (1, 1), (0, 0)]⟩,
   ⟨0x2060, 4, 8, []⟩,
   ⟨0x2080, 4, 1, [(31, 8)]⟩,
   ⟨0x2084, 4, 1, [(31, 16), (15, 8), (7, 3), (2, 2), (1, 1), (0, 0)]⟩,
   ⟨0x2088, 4, 1, [(31, 1)]⟩,
   ⟨0x208C, 4, 1, []⟩]

/-- RO fields of chapter 09: verdict and evidence. -/
def roRows09 : List RoRow :=
  [⟨0x3000, 4, 1, [(31, 31), (30, 30), (28, 16), (15, 8), (7, 0)]⟩,
   ⟨0x3008, 4, 1, [(31, 18), (17, 0)]⟩,
   ⟨0x3014, 4, 1, [(31, 24), (23, 16), (15, 12), (11, 11), (10, 8), (7, 0)]⟩,
   ⟨0x3018, 4, 1, [(31, 24), (23, 16), (15, 8), (7, 0)]⟩,
   ⟨0x3040, 4, 1, [(23, 23), (15, 7)]⟩,
   ⟨0x3044, 4, 1, [(31, 16)]⟩,
   ⟨0x3048, 4, 1, [(31, 30), (29, 27), (26, 18), (17, 9), (8, 0)]⟩,
   ⟨0x3068, 4, 1, [(31, 24), (23, 16), (15, 0)]⟩]

/-- RO fields of chapter 10: tenants, START, release, CAN. -/
def roRows10 : List RoRow :=
  [⟨0x3400, 4, 1, [(31, 16), (15, 8), (7, 0)]⟩,
   ⟨0x3404, 4, 1, [(31, 16), (15, 0)]⟩,
   ⟨0x3408, 4, 1, [(31, 8), (7, 0)]⟩,
   ⟨0x340C, 4, 1, [(31, 16), (15, 8), (7, 1), (0, 0)]⟩,
   ⟨0x3410, 4, 1, []⟩,
   ⟨0x3414, 4, 1, [(31, 1), (0, 0)]⟩,
   ⟨0x341C, 4, 1, [(31, 16)]⟩,
   ⟨0x3420, 4, 1, [(31, 27), (26, 16), (15, 11), (10, 0)]⟩,
   ⟨0x3500, 4, 1, [(31, 20), (15, 13)]⟩,
   ⟨0x3504, 4, 1, [(31, 19), (18, 8), (7, 7), (6, 6), (5, 5), (4, 4), (3, 2), (1, 1), (0, 0)]⟩,
   ⟨0x3508, 4, 1, [(31, 16), (15, 2), (1, 1)]⟩,
   ⟨0x3540, 4, 1, [(29, 29)]⟩,
   ⟨0x3544, 4, 1, [(30, 11)]⟩,
   ⟨0x3548, 4, 1, [(31, 31), (30, 30), (28, 24), (23, 16), (15, 0)]⟩,
   ⟨0x3558, 4, 1, [(31, 16), (15, 0)]⟩,
   ⟨0x3580, 4, 1, []⟩,
   ⟨0x3584, 4, 1, []⟩,
   ⟨0x3588, 4, 1, [(31, 26), (25, 24), (23, 16), (15, 8), (7, 0)]⟩,
   ⟨0x35C8, 4, 1, [(31, 26), (25, 24), (23, 16), (15, 8), (7, 0)]⟩,
   ⟨0x35C0, 4, 2, []⟩]

/-- RO fields of chapter 11: security. -/
def roRows11 : List RoRow :=
  [⟨0x3800, 8, 256, [(31, 30), (29, 27), (26, 26), (25, 25), (24, 20), (19, 11), (10, 0)]⟩,
   ⟨0x4000, 4, 1, [(31, 31), (30, 30), (29, 24), (23, 16), (15, 9), (8, 0)]⟩,
   ⟨0x4004, 4, 1, [(31, 31), (30, 28), (27, 24), (23, 20), (19, 16), (15, 5), (4, 0)]⟩,
   ⟨0x4008, 4, 1, [(31, 16), (15, 0)]⟩,
   ⟨0x400C, 4, 1, []⟩,
   ⟨0x4010, 4, 1, [(31, 16), (15, 0)]⟩,
   ⟨0x4020, 4, 1, [(31, 8)]⟩,
   ⟨0x4024, 4, 1, [(31, 31), (30, 28), (27, 24), (23, 20), (15, 0)]⟩]

/-- RO fields of chapter 12: life cycle. -/
def roRows12 : List RoRow :=
  [⟨0x4400, 4, 1, [(31, 5), (4, 4), (3, 3), (2, 0)]⟩,
   ⟨0x4408, 4, 1, [(31, 24), (23, 16), (15, 5), (3, 3), (2, 2), (1, 1), (0, 0)]⟩,
   ⟨0x440C, 4, 1, [(31, 26), (25, 16), (15, 10), (9, 0)]⟩,
   ⟨0x4410, 4, 1, [(31, 31), (30, 28), (27, 27), (26, 25), (24, 24), (23, 20), (19, 0)]⟩,
   ⟨0x4414, 4, 1, [(31, 26), (25, 24), (23, 8), (7, 7), (6, 6), (5, 5), (4, 4), (3, 3), (2, 2), (1, 1), (0, 0)]⟩,
   ⟨0x4418, 4, 1, [(31, 26), (25, 16), (15, 10), (9, 0)]⟩,
   ⟨0x4420, 4, 1, [(31, 16), (15, 0)]⟩,
   ⟨0x4428, 4, 1, [(31, 24), (23, 16), (15, 0)]⟩,
   ⟨0x4430, 4, 1, [(30, 20), (7, 2)]⟩,
   ⟨0x4434, 4, 1, [(31, 16), (15, 0)]⟩]

/-- RO fields of chapter 13: faults. -/
def roRows13 : List RoRow :=
  [⟨0x4800, 4, 1, [(31, 30), (29, 28), (27, 24), (23, 16), (15, 0)]⟩,
   ⟨0x4804, 4, 1, [(31, 24), (23, 16), (15, 0)]⟩,
   ⟨0x4808, 4, 1, [(31, 16), (15, 0)]⟩,
   ⟨0x480C, 4, 1, [(31, 16)]⟩,
   ⟨0x4900, 16, 16, [(31, 24), (23, 16), (15, 0)]⟩,
   ⟨0x4904, 16, 16, [(31, 16), (15, 0)]⟩,
   ⟨0x4818, 4, 1, []⟩,
   ⟨0x4870, 4, 1, [(31, 16), (15, 0)]⟩,
   ⟨0x4874, 4, 1, [(31, 16), (15, 0)]⟩,
   ⟨0x4878, 4, 1, [(31, 24), (23, 8), (7, 0)]⟩]

/-- RO fields of chapter 14: gallery. -/
def roRows14 : List RoRow :=
  [⟨0x4C00, 4, 1, [(31, 29), (28, 26), (25, 23), (22, 22), (21, 21), (20, 20), (19, 19), (18, 16), (15, 8), (7, 0)]⟩,
   ⟨0x4C08, 4, 1, [(31, 16), (15, 0)]⟩,
   ⟨0x4C10, 4, 1, []⟩,
   ⟨0x4C14, 4, 1, [(31, 16)]⟩,
   ⟨0x4C18, 4, 1, [(31, 1)]⟩,
   ⟨0x4C1C, 4, 1, [(31, 24), (23, 16), (15, 8), (7, 0)]⟩,
   ⟨0x4C20, 4, 1, [(31, 16), (15, 0)]⟩]

/-- RO fields of chapter 15: clocks and power. -/
def roRows15 : List RoRow :=
  [⟨0x5000, 4, 1, [(31, 31), (30, 30), (29, 29), (28, 28), (27, 16), (15, 0)]⟩,
   ⟨0x5004, 4, 1, [(31, 16), (15, 0)]⟩,
   ⟨0x5010, 4, 1, [(31, 3), (2, 2), (1, 0)]⟩,
   ⟨0x5014, 4, 1, [(31, 2)]⟩,
   ⟨0x5018, 4, 1, [(31, 30), (29, 24), (23, 16), (15, 11), (10, 0)]⟩,
   ⟨0x501C, 4, 1, [(31, 10), (7, 7)]⟩,
   ⟨0x5020, 4, 1, []⟩,
   ⟨0x5024, 4, 1, [(31, 16), (15, 9), (8, 8), (7, 5)]⟩,
   ⟨0x5040, 4, 1, [(31, 16), (15, 8), (7, 6), (5, 0)]⟩,
   ⟨0x5100, 4, 50, [(31, 24), (23, 16), (15, 0)]⟩,
   ⟨0x5204, 8, 64, [(31, 18), (17, 0)]⟩]

/-- RO fields of chapter 16: timers and self-test. -/
def roRows16 : List RoRow :=
  [⟨0x5800, 32, 16, [(31, 31), (30, 30), (29, 29), (28, 28), (27, 27), (26, 24), (23, 16), (15, 10), (9, 8), (7, 2), (1, 1), (0, 0)]⟩,
   ⟨0x5C00, 4, 1, [(31, 31), (30, 30), (29, 24), (23, 16), (15, 8), (7, 0)]⟩,
   ⟨0x5C04, 4, 1, [(31, 16), (15, 0)]⟩,
   ⟨0x5C08, 4, 1, [(31, 28), (27, 24), (23, 0)]⟩,
   ⟨0x5C0C, 4, 1, [(31, 12), (11, 11), (10, 10), (9, 9), (8, 8), (7, 4), (3, 0)]⟩,
   ⟨0x5C10, 4, 1, [(31, 8), (7, 7), (6, 6), (5, 4), (3, 2), (1, 1), (0, 0)]⟩,
   ⟨0x5C14, 4, 1, [(31, 31), (30, 16), (15, 10), (9, 0)]⟩]

/-- Every row that has a writable field or more than one RO field. -/
def roRows : List RoRow :=
  roRows00 ++ roRows01 ++ roRows03 ++ roRows04 ++ roRows05 ++ roRows06 ++ roRows07 ++ roRows08 ++ roRows09
  ++ roRows10 ++ roRows11 ++ roRows12 ++ roRows13 ++ roRows14 ++ roRows15 ++ roRows16

/-- The row covers a byte offset. -/
def RoRow.covers (r : RoRow) (off : Nat) : Bool :=
  decide (r.base ≤ off) && (off - r.base) % r.stride == 0 && decide ((off - r.base) / r.stride < r.count)

/-- RO fields of the word at a byte offset. The transfer pages from 0xC000 have none. -/
def roFields (off : Nat) : List (Nat × Nat) :=
  if 0xC000 ≤ off then [] else
  match roRows.find? fun r => r.covers off with
  | some r => r.ro
  | none => [(31, 0)]

/-- A word that is written writes an RO field: it carries there a value other than 0 and the present one (R26). -/
def roWritten (off present v : Nat) : Bool :=
  (roFields off).any fun f => bits v f.1 f.2 != 0 && bits v f.1 f.2 != bits present f.1 f.2

end Sys2Proof.Machine
end

