-- ==== Sys2Proof/Machine/RegRead.lean ====
section
/-! DEFINITION. What each word of the register window reads as (the register tables of chapters 00 to 16). -/

namespace Sys2Proof.Machine

open Sys2Proof

/-- Word n of a byte string. -/
def wordAt (bs : List Byte) (n : Nat) : Nat := fieldLE bs (4 * n) 4

/-- Word n of a long value. -/
def wordOf (v n : Nat) : Nat := v / 2 ^ (32 * n) % 2 ^ 32

/-- Bits i of a word for the entries base to base + 31 of a test. -/
def mask32 (base : Nat) (p : Nat → Bool) : Nat := maskWhere 32 fun i => p (base + i)

/-! ### Chapters 00 and 01 -/

/-- Identity and host link (R2 to R4, R28 to R30). -/
def State.regHost (s : State) (off : Nat) : Nat :=
  match off with
  | 0x0000 => 0xAE4D4192
  | 0x0004 => 0x00004101
  | 0x0010 => wordOf s.life.devid 0
  | 0x0014 => wordOf s.life.devid 1
  | 0x0018 => wordOf s.life.devid 2
  | 0x001C => wordOf s.life.devid 3
  | 0x0100 => s.host.attn.toNat
  | 0x0104 => s.host.mask.toNat
  | 0x0108 => s.host.epoch.toNat
  | 0x0110 => (vget s.host.sqSeq 0 0).toNat
  | 0x0114 => (vget s.host.sqSeq 1 0).toNat
  | 0x0118 => (vget s.host.sqSeq 2 0).toNat
  | 0x011C => (vget s.host.sqSeq 3 0).toNat
  | _ => 0

/-! ### Chapter 03 -/

/-- Landings that a pipe serves. -/
def Sched.serving (c : Sched) : List Nat := c.pipes.toList.filterMap (·.serving)

/-- Landing that holds a resource, or 0xFF (AIR_STATUS). -/
def Air.holder (a : Air) (r : Nat) : Nat :=
  (a.grants.find? fun g => !g.suspended && g.mask.testBit r).elim 0xFF (·.landing)

/-- A landing has a grant, suspended or not, of a resource (R26: a register refused while any landing holds one, log 39). -/
def Air.granted (a : Air) (r : Nat) : Bool := a.grants.any fun g => g.mask.testBit r

/-- PIPE_STATUS. -/
def State.pipeStatus (s : State) : Nat :=
  let on := s.sched.serving
  fld 8 16 (sat 255 ((List.range 192).countP fun l => (s.land l).runnable && !on.contains l))
  + fld 8 8 (maskWhere 8 s.pipeUsable)
  + maskWhere 8 fun p => (vget s.sched.pipes p Pipe.reset).serving.isSome

/-- Word w of DMA_CHn. -/
def Chan.word (c : Chan) (w : Nat) : Nat :=
  match c.desc with
  | none => 0
  | some d =>
    let (sq, seq) := match d.job with | .item k => (k.sq, k.seq.toNat) | .initFetch _ | .cir _ | .place => (0, 0)
    match w with
    | 0 => flg 31 c.active + flg 30 c.doneFlag + flg 29 c.failed + fld 8 16 d.itemCode + fld 4 12 d.srcKind + fld 4 8 d.dstKind
           + fld 2 0 sq
    | 1 => seq
    | 2 => d.srcOff
    | 3 => d.dstOff
    | 4 => d.len
    | 5 => d.done
    | 6 => fld 8 0 c.cause
    | _ => 0

/-- Word w of PAGE_POISONn. -/
def HostLink.poisonWord (h : HostLink) (n w : Nat) : Nat := mask32 (64 * n + 32 * w) h.pagePoison.contains

/-- Flights, halls, pipes, airtime and DMA. -/
def State.regFlight (s : State) (off : Nat) : Nat :=
  if 0x220 ≤ off ∧ off < 0x2A0 then wordOf (vget s.sched.deferLog ((off - 0x220) / 8) 0) ((off / 4) % 2)
  else if 0x2C0 ≤ off ∧ off < 0x300 then s.host.poisonWord ((off - 0x2C0) / 8) ((off / 4) % 2)
  else if 0x300 ≤ off ∧ off < 0x400 then (s.dma.chan ((off - 0x300) / 32)).word ((off / 4) % 8)
  else if 0x410 ≤ off ∧ off < 0x510 then
    let t := vget s.halls.templates ((off - 0x410) / 16) SharedTpl.reset
    match (off / 4) % 4 with | 0 => t.base | 1 => t.limit | 2 => t.perm | _ => 0
  else match off with
  | 0x0200 => s.sched.drainHold
  | 0x0204 => fld 8 16 s.sched.aging + fld 8 8 s.sched.quantum
  | 0x0208 => s.pipeStatus
  | 0x0210 => fld 8 16 s.air.chainUs + fld 16 0 s.air.minHoldUs
  | 0x0214 => fld 8 0 (s.air.holder 0) + fld 8 8 (s.air.holder 1) + fld 8 16 (s.air.holder 2) + fld 8 24 (s.air.holder 3)
  | 0x0218 => fld 8 8 (s.air.grants.countP (·.suspended)) + fld 8 0 s.air.claims.length
  | 0x021C => fld 8 8 s.sched.deferTotal + fld 4 0 s.sched.deferNext
  | 0x02A0 => flg 8 s.halls.fromRecord + flg 0 s.halls.sealed
  | 0x02A4 => fld 16 16 (s.poolFree / 64) + fld 16 0 (s.poolLargest / 64)
  | 0x0400 => s.halls.permCode
  | 0x0404 => s.halls.permData
  | 0x0408 => s.halls.permCir
  | _ => 0

/-! ### Chapters 04 to 08 -/

/-- Whole units of time in a window, rounded up (log 15). -/
def unitsIn (ticks unit : Nat) : Nat := (ticks + (unit - 1)) / unit

/-- Word w of LF_COILn. -/
def State.coilWord (s : State) (n w : Nat) : Nat :=
  let c := s.lf.coil n
  if w = 0 then
    flg 31 c.dump.isSome + flg 30 (c.staleAt s.dieTemp) + flg 29 c.lowHeadroom + flg 28 c.mismatch + fld 6 22 c.tune + fld 10 12 c.q4
    + fld 12 0 c.ifull
  else fld 8 24 (unsgn 8 c.phase) + fld 8 16 c.boost + fld 8 8 c.brake + fld 8 0 (unsgn 8 c.tuneTemp)

/-- LF_STATUS. -/
def State.lfStatus (s : State) : Nat :=
  flg 23 s.lf.overtemp + flg 22 s.lf.vlfLow + fld 10 12 (sat 1000 (unitsIn (spansIn (spansFrom (s.lf.allSpans s.now) s.lf.countFrom) s.now secT) msT))
  + fld 4 8 (maskWhere 4 fun k => s.domUp (35 + k)) + s.lf.maskOf fun c => c.dump.isSome

/-- LF field system. -/
def State.regLf (s : State) (off : Nat) : Nat :=
  let s := s.lfDue
  let f := s.lf
  if 0x1040 ≤ off ∧ off < 0x1080 then s.coilWord ((off - 0x1040) / 8) ((off / 4) % 2)
  else match off with
  | 0x1000 => f.carrier
  | 0x1004 => f.coilEn
  | 0x1008 => f.frameCfg
  | 0x100C => f.tuneCfg
  | 0x1010 => f.noiseCfg
  | 0x1014 => s.lfStatus
  | 0x1018 => f.faultWord
  | 0x101C => fld 16 16 f.deferDelay + fld 8 8 f.deferCount + fld 8 0 f.deferCoils
  | 0x1020 => f.rxcal
  | 0x1028 => f.faultSys
  | 0x1030 => f.reg0
  | 0x1034 => f.reg1
  | _ => 0

/-- UWB front-end. -/
def State.regUwb (s : State) (off : Nat) : Nat :=
  let s := s.uwbMoves
  let u := s.uwb
  match off with
  | 0x1400 => fld 3 16 u.mode.num + fld 8 8 (unsgn 8 u.synthTemp) + fld 4 4 u.dataPort + fld 4 0 u.lastch
  | 0x1404 => u.txpwr
  | 0x1408 => u.pctl + fld 8 8 (match u.sent with | some f => unsgn 8 (u.trim f.ch) | none => 0)
  | 0x140C => fld 8 8 u.loopErr + flg 2 (decide (30 ≤ u.loopErr)) + fld 2 0 u.dpd
  | 0x1410 => flg 8 u.fixFallback + fld 8 0 u.divCfg
  | 0x1414 => u.coexCfg
  | 0x1418 => fld 16 16 u.denied + fld 16 0 u.withdrawn
  | 0x1420 => fld 8 24 u.forced + fld 16 8 u.aborted + fld 7 0 u.overdue
  | 0x1424 => u.fault
  | 0x1430 => u.reg0
  | 0x1434 => u.reg1
  | 0x1438 => u.reg2
  | 0x143C => 
    let p := spansFrom u.spans u.countFrom
    fld 16 16 (unitsIn (spansBins p s.now secT msT + s.uwbReserved) msT) + fld 16 0 (unitsIn (spansBins p s.now (3600 * secT) secT) secT)
  | _ => 0

/-- A noise baseline as RNG_NOISE_STATUS shows it: 0 before the first window. -/
def baseByte (b : Option Nat) : Nat := b.elim 0 fun v => divRound v 65536

/-- Ranging baseband. -/
def State.regRng (s : State) (off : Nat) : Nat :=
  let r := s.rng
  if 0x1820 ≤ off ∧ off < 0x1840 then vget r.aoa ((off - 0x1820) / 4) 0
  else match off with
  | 0x1800 => r.air
  | 0x1804 => r.antdly5
  | 0x1808 => r.antdly9
  | 0x180C => r.det
  | 0x1810 => r.noiseCfg
  | 0x1814 => fld 8 24 (baseByte r.base9) + fld 8 16 (baseByte r.base5) + fld 16 0 r.disturbed
  | 0x1840 => fld 32 0 (s.tsc s.now)
  | 0x1844 => r.latch
  | 0x1848 => wordOf s.alignNow.1 0
  | 0x184C => flg 31 s.alignNow.2 + fld 8 0 (s.alignNow.1 / 2 ^ 32)
  | 0x1850 => fld 16 16 r.discarded + fld 16 0 r.stsfail
  | _ => 0

/-- Sub-gigahertz link. -/
def State.regUhf (s : State) (off : Nat) : Nat :=
  let u := s.uhf
  if 0x1C40 ≤ off ∧ off < 0x1D40 then wordAt (vget u.bufs ((off - 0x1C40) / 64) []) ((off / 4) % 16)
  else match off with
  | 0x1C00 => fld 3 16 u.mode.num + fld 8 8 (unsgn 8 u.calTemp) + fld 2 0 u.lastBand
  | 0x1C04 => u.cfg
  | 0x1C08 => fld 16 16 u.discarded + fld 16 0 u.collided
  | 0x1C0C => fld 16 16 u.disturbed + fld 16 0 u.rateReject
  | 0x1C10 => u.reg0
  | 0x1C14 => u.reg1
  | 0x1C18 => fld 22 0 (unitsIn (spansBins (spansFrom u.spans u.countFrom) s.now (3600 * secT) secT) msT)
  | 0x1C20 => u.sniffCfg
  | 0x1C24 => u.sniffTime
  | 0x1C28 => fld 16 16 u.lost + fld 8 8 u.hits + fld 4 0 u.filled
  | _ => 0

/-- Near-field reader and tag port. -/
def State.regNfc (s : State) (off : Nat) : Nat :=
  let r := s.nfc
  if 0x2060 ≤ off ∧ off < 0x2080 then (vget s.tag.wbuf ((off - 0x2060) / 4) 0).toNat
  else if 0x2100 ≤ off ∧ off < 0x2DC0 then wordAt (s.tag.wireBlock ((off - 0x2100) / 32)) ((off / 4) % 8)
  else match off with
  | 0x2000 => r.cfg
  | 0x2004 => r.noiseCfg
  | 0x2008 => flg 8 r.fieldOn + fld 8 0 r.extField
  | 0x200C => fld 16 16 r.collided + fld 16 0 r.disturbed
  | 0x2040 => s.tag.statusWord s.now
  | 0x2084 => s.tag.wstatWord
  | 0x208C => s.tag.jack
  | _ => 0

/-! ### Chapters 09 and 10 -/

/-- Atlas, verdict and evidence. A value of EVD_CFG or EVD_CFG1 that waits for the next ARMED reads as written (log 40). -/
def State.regVerdict (s : State) (off : Nat) : Nat :=
  let v := s.verdict
  let e := s.evd
  match off with
  | 0x3000 => flg 31 v.published.isSome + flg 30 v.stale + flg 29 v.blkFail + fld 8 8 v.failBlk
  | 0x3004 => s.atlas.elim 0 fun m => m.le 12 4
  | 0x3008 => fld 18 0 v.held
  | 0x3010 => v.last
  | 0x3014 => v.info
  | 0x3018 => v.cost
  | 0x3040 => e.cfgNext.getD e.cfg
  | 0x3044 => e.cfg1Next.getD e.cfg1
  | 0x3048 => fld 2 30 e.mode.num + fld 9 18 e.filled.length + fld 9 9 e.capturing.length + fld 9 0 e.freeCount
  | 0x304C => fld 32 0 e.trigs
  | 0x3050 => fld 32 0 e.capts
  | 0x3054 => fld 32 0 e.joins
  | 0x3058 => fld 32 0 e.misses
  | 0x305C => fld 32 0 e.drops
  | 0x3060 => wordOf e.missAt 0
  | 0x3064 => wordOf e.missAt 1
  | 0x3068 => fld 8 16 e.why + fld 16 0 e.lastTrig
  | _ => 0

/-- State of CAN controller 0 (CANB) or 1 (CANA): error active, error passive or off the bus. -/
def State.canState (s : State) (n : Nat) (c : Can) : Nat := if c.busOff then 2 else if c.passive n s.now then 1 else 0

/-- CANB_ERR, CANA_ERR. -/
def State.canErrWord (s : State) (n : Nat) (c : Can) : Nat :=
  fld 2 24 (s.canState n c) + fld 8 16 (sat 255 (c.recErr n s.now)) + fld 8 8 (sat 255 c.tec) + fld 8 0 c.busOffs

/-- A release session is open: its first frame has been on CANB (R331). -/
def Release.isOpen (r : Release) : Bool := match r.session with | some q => q.openAt.isSome | none => false

/-- Frames sent and acknowledged in the current or last session. -/
def Release.countWord (r : Release) : Nat :=
  match r.session with
  | some q => fld 16 16 q.sent + fld 16 0 q.acked
  | none => fld 16 16 r.sent + fld 16 0 r.acked

/-- Tenants, vehicle time, START, release and CAN. -/
def State.regTenant (s : State) (off : Nat) : Nat :=
  let r := s.rel
  let c := s.start
  if 0x3440 ≤ off ∧ off < 0x34C0 then mask32 (8 * (off - 0x3440)) fun t => (s.tenant t).elim false Tenant.flagged
  else match off with
  | 0x3400 => s.lockCfg 0
  | 0x3404 => s.lockCfg 1
  | 0x3408 => s.lockCfg 2
  | 0x340C => fld 16 16 (sat 0xFFFF (s.leftS s.ten.learnEnd)) + fld 8 8 s.windowFails.length + flg 0 s.learnLocked
  | 0x3410 => s.vehicle.getD 0
  | 0x3414 => flg 0 s.ten.time.isSome
  | 0x3418 => s.ten.floor
  | 0x341C => s.ten.lifeCfg
  | 0x3420 => fld 11 16 (s.ten.recs.countP fun e => e.2.flagged) + fld 11 0 (s.ten.recs.countP fun e => e.2.st == 1)
  | 0x3500 => c.cfg
  | 0x3504 => fld 13 19 c.sep + flg 7 c.disc.isSome + flg 6 s.startRequest + flg 5 c.filtB + flg 4 c.filtA + flg 1 c.rawB + flg 0 c.rawA
  | 0x3508 => fld 16 16 c.count + flg 1 c.firstB + flg 0 c.fault
  | 0x3540 => r.cfg.toNat
  | 0x3544 => r.cfg1.toNat
  | 0x3548 => flg 31 r.isOpen + flg 30 r.pattern + flg 29 r.relPin + fld 8 16 r.relLand + fld 16 0 r.skipped
  | 0x3550 => wordOf r.lastSent 0
  | 0x3554 => wordOf r.lastSent 1
  | 0x3558 => r.countWord
  | 0x3580 => r.canb.nbt.toNat
  | 0x3584 => r.canb.dbt.toNat
  | 0x3588 => s.canErrWord 0 r.canb
  | 0x35C0 => r.cana.nbt.toNat
  | 0x35C4 => r.cana.dbt.toNat
  | 0x35C8 => s.canErrWord 1 r.cana
  | _ => 0

/-! ### Chapters 11 to 13 -/

/-- Word w of VAULT_ATTRn (R348). -/
def State.vaultWord (s : State) (n w : Nat) : Nat :=
  let v := s.vaultSlot n
  if w = 0 then fld 2 30 v.st + fld 3 27 v.ktype + flg 25 v.volatileKey + fld 5 20 v.usage + fld 11 0 v.engines
  else fld 32 0 (Tbl.get s.sec.counters n 0)

/-- ENT_STATUS STATE. -/
def EntState.num : EntState → Nat
  | .off => 0 | .startUp => 1 | .running => 2 | .restarting => 3 | .alarm => 4

/-- TAMPER_STATUS; the raw conditions are the surroundings' and read as a free value (log 4). -/
def State.tamperStatus (s : State) : Nat :=
  flg 31 s.sec.tamperLatch + fld 4 24 (Config.freeValue s.fresh) + fld 4 16 s.sec.tamperEvent + fld 16 0 s.sec.tamperCount

/-- Vault and security core. -/
def State.regSec (s : State) (off : Nat) : Nat :=
  let c := s.sec
  if 0x3800 ≤ off ∧ off < 0x4000 then s.vaultWord ((off - 0x3800) / 8) ((off / 4) % 2)
  else if 0x4040 ≤ off ∧ off < 0x4080 then wordAt c.dikPub ((off - 0x4040) / 4)
  else match off with
  | 0x4000 => flg 31 c.root.isSome + flg 30 c.erasing + fld 8 16 c.katFail + fld 9 0 (c.vault.countP fun e => e.2.st == 1)
  | 0x4004 => fld 3 28 c.ent.num + fld 4 24 c.unbal + fld 4 16 c.consec + fld 5 0 c.pool.length
  | 0x4008 => fld 16 16 c.failed + fld 16 0 c.restarts
  | 0x400C => fld 16 16 c.reseedReq + fld 16 0 c.reseedS
  | 0x4010 => fld 16 16 c.cot + fld 16 0 c.unavail
  | 0x4020 => c.tamperCfg
  | 0x4024 => s.tamperStatus
  | _ => 0

/-- PHASE of UPD_STATUS: that of the bank of the open update. -/
def LifeCycle.phase (c : LifeCycle) : Nat :=
  match c.openBank with
  | some b => match (c.bank b).st with | .downloaded => 1 | .verified => 2 | _ => 0
  | none => 0

/-- UPD_BANKS. -/
def LifeCycle.updBanks (c : LifeCycle) : Nat :=
  fld 2 24 c.trialLeft + flg 7 (c.bankIn 1 .previous).isSome + flg 6 (c.bankIn 1 .trial).isSome + flg 4 (c.selected 1 == some 3)
  + flg 3 (c.bankIn 0 .previous).isSome + flg 2 (c.bankIn 0 .trial).isSome + flg 0 (c.selected 0 == some 1)

/-- Life cycle, fuses, updates, NVM and OSPI. Without a running library its version reads 0 (log 41). -/
def State.regLife (s : State) (off : Nat) : Nat :=
  let c := s.life
  match off with
  | 0x4400 => flg 4 c.scanUnlock + fld 3 0 c.st.num
  | 0x4404 => fld 32 0 c.lifeCtr
  | 0x4408 => fld 8 24 (unsgn 8 c.readTemp) + fld 8 16 c.region + flg 4 c.mchange + flg 3 c.rbMarg + flg 2 c.trimFault + flg 1 c.idFault
              + flg 0 c.marginal
  | 0x440C => fld 10 16 c.libFloor + fld 10 0 c.fwFloor
  | 0x4410 => flg 31 c.rom + fld 3 28 c.revert + flg 27 c.openTarget.isSome + fld 2 25 c.phase + fld 1 24 (c.openTarget.getD 0)
              + fld 20 0 c.bytes
  | 0x4414 => c.updBanks
  | 0x4418 => fld 10 16 (s.libVersion.getD 0) + fld 10 0 (c.bank c.runFw).version
  | 0x4420 => fld 16 16 (sat 0xFFFF s.erasesMax) + fld 16 0 (sat 0xFFFF s.erasesMean)
  | 0x4424 => fld 32 0 s.erasesTotal
  | 0x4428 => fld 8 24 c.spares + fld 8 16 c.remapped + fld 16 0 c.half
  | 0x4430 => c.ospiCfg.toNat
  | 0x4434 => fld 16 16 c.ospiFails + fld 16 0 c.ospiFetches
  | 0x4438 => fld 32 0 c.ospiLastFail
  | _ => 0

/-- FLT_STATUS MODE. -/
def FltMode.num : FltMode → Nat
  | .normal => 0 | .recovery => 1 | .warm => 2 | .halt => 3

/-- Word w of FLT_LATCHn. -/
def latchWord (e : Option Latch) (w : Nat) : Nat :=
  match e with
  | none => 0
  | some e =>
    match w with
    | 0 => fld 8 24 (e.cause.num / 16) + fld 8 16 e.cause.num + fld 16 0 e.scope.num
    | 1 => fld 16 0 e.count
    | 2 => wordOf e.first 0
    | _ => wordOf e.first 1

/-- The event record that EVLOG_SEL names; empty when it is not held. -/
def Faults.selected (f : Faults) : List Byte := (f.evLog.find? fun e => e.1 == f.evSel).elim [] (·.2)

/-- Faults, event log and ledgers. -/
def State.regFault (s : State) (off : Nat) : Nat :=
  let f := s.faults
  if 0x4900 ≤ off ∧ off < 0x4A00 then latchWord (vget f.latches ((off - 0x4900) / 16) none) ((off / 4) % 4)
  else if 0x4820 ≤ off ∧ off < 0x4840 then wordAt f.selected ((off - 0x4820) / 4)
  else match off with
  | 0x4800 => fld 2 30 f.mode.num + fld 2 28 f.depth + fld 8 16 f.lastCause + fld 16 0 f.lastScope
  | 0x4804 => fld 8 24 f.warms + fld 8 16 f.restarts + fld 16 0 f.recoveries
  | 0x4808 => fld 16 16 (sat 0xFFFF f.longest) + fld 16 0 (sat 0xFFFF f.lastTime)
  | 0x480C => fld 16 16 f.overflow + maskWhere 16 fun n => (vget f.latches n none).isSome
  | 0x4810 => fld 32 0 (f.evLog.head?.elim 0 (·.1))
  | 0x4814 => fld 32 0 (f.evLog.getLast?.elim 0 (·.1))
  | 0x4818 => fld 32 0 f.evSel
  | 0x4840 => wordOf s.rel.mark 0
  | 0x4844 => wordOf s.rel.mark 1
  | 0x4848 => wordOf s.rel.t0 0
  | 0x484C => wordOf s.rel.t0 1
  | 0x4850 => fld 32 0 s.rel.sentEpoch
  | 0x4860 => fld 32 0 s.sec.conditioned
  | 0x4864 => fld 32 0 s.sec.drawnSeed
  | 0x4868 => fld 32 0 s.sec.drawnOther
  | 0x486C => fld 32 0 s.sec.discarded
  | 0x4870 => fld 16 16 s.ten.added + fld 16 0 s.ten.win0
  | 0x4874 => fld 16 16 (s.ten.aged + (s.ten.window.length - s.windowFails.length)) + fld 16 0 s.ten.emptied
  | 0x4878 => fld 16 8 f.checks + fld 8 0 f.failed
  | _ => 0

/-! ### Chapters 14 to 16 -/

/-- Gallery bus. -/
def State.regGal (s : State) (off : Nat) : Nat :=
  let g := s.gal
  match off with
  | 0x4C00 => fld 3 26 g.addr + fld 3 23 g.role.num + flg 22 s.power.refSrc + flg 21 g.ghush + flg 20 g.stopped
              + flg 19 (g.lagging == 0 && (g.role == .joined || g.role == .master)) + fld 8 8 g.present + fld 8 0 g.laggingM
  | 0x4C04 => fld 32 0 g.round
  | 0x4C08 => fld 16 0 g.bsess
  | 0x4C0C => fld 32 0 g.mode
  | 0x4C10 => g.cfg
  | 0x4C14 => g.cfg1
  | 0x4C1C => fld 8 24 g.withheld + fld 8 16 g.edges + fld 8 8 g.crcFail + fld 8 0 g.ctrlMiss
  | 0x4C20 => fld 16 16 (unsgn 16 g.dly) + fld 16 0 g.cals
  | _ => 0

/-- Clocks, power domains and votes. -/
def State.regPower (s : State) (off : Nat) : Nat :=
  let p := s.power
  if 0x5100 ≤ off ∧ off < 0x51C8 then
    let d := (off - 0x5100) / 4
    fld 8 16 (vget p.refVoter d 0xFF) + fld 16 0 (vget p.refCount d 0)
  else if 0x5200 ≤ off ∧ off < 0x5400 then wordOf (s.vote ((off - 0x5200) / 8)) ((off / 4) % 2)
  else match off with
  | 0x5000 => flg 31 p.xtalOk + flg 30 p.rootLock + flg 29 p.refSrc + flg 28 p.refQual + fld 16 0 p.switches
  | 0x5004 => fld 16 16 (unsgn 16 p.slowErr) + fld 16 0 p.slowCals
  | 0x5010 => flg 2 p.entering.isSome + fld 2 0 s.pwrCode
  | 0x5018 => fld 2 30 p.outcome + fld 8 16 p.voter + fld 11 0 p.reason
  | 0x501C => p.wakeCfg
  | 0x5020 => p.wtimer
  | 0x5024 => fld 16 16 p.wakes + flg 8 p.fromVest + fld 5 0 p.wakeCause
  | 0x5030 => wordOf s.upMask 0
  | 0x5034 => wordOf s.upMask 1
  | 0x5038 => wordOf s.deferMask 0
  | 0x503C => wordOf s.deferMask 1
  | 0x5040 => fld 16 16 p.deferDelay + fld 8 8 p.deferCount + fld 6 0 p.deferDomain
  | _ => 0

/-- Word w of TMk (R505). -/
def State.timerWord (s : State) (k w : Nat) : Nat :=
  let t := s.timer k
  match w with
  | 0 => flg 31 t.running + flg 30 t.cadence + flg 29 t.owned + flg 28 t.configured + fld 3 24 t.source + fld 8 16 t.trigSrc
         + fld 2 8 t.trigMode + flg 1 (if t.cadence then t.preloaded else t.cmpPending)
  | 1 => t.prescale
  | 2 => s.timerCount k
  | 3 => t.compare
  | 4 => t.period
  | 5 => t.cmpPre
  | 6 => t.perPre
  | _ => t.events

/-- Timers and self-test. BIST runs during a cold start too (R507). -/
def State.regTimer (s : State) (off : Nat) : Nat :=
  let b := s.bist
  if 0x5800 ≤ off ∧ off < 0x5A00 then s.timerWord ((off - 0x5800) / 32) ((off / 4) % 8)
  else match off with
  | 0x5C00 => flg 31 (b.running || s.power.booting.isSome) + flg 30 b.cold + fld 8 16 b.scope + fld 8 0 b.failed
  | 0x5C04 => fld 16 0 b.lastTime
  | 0x5C08 => bits b.unus 31 0
  | 0x5C0C => bits b.unus 43 32
  | 0x5C10 => bits b.unus 51 44
  | 0x5C14 => flg 31 b.sramFail + fld 15 16 b.sramCount + fld 10 0 b.sramBank
  | _ => 0

/-- A word of the transfer pages; poisoned granules read 0 (R132). -/
def State.pageWord (s : State) (off : Nat) : Nat :=
  let a := off - 0xC000
  if s.host.pagePoison.contains (a / 32) then 0 else s.host.pages.le a 4

/-- The word at a byte offset of the register window. -/
def State.reg (s : State) (off : Nat) : Nat :=
  if 0xC000 ≤ off then s.pageWord off
  else if off < 0x200 then s.regHost off
  else if off < 0x600 then s.regFlight off
  else if off < 0x1400 then s.regLf off
  else if off < 0x1800 then s.regUwb off
  else if off < 0x1C00 then s.regRng off
  else if off < 0x2000 then s.regUhf off
  else if off < 0x3000 then s.regNfc off
  else if off < 0x3400 then s.regVerdict off
  else if off < 0x3800 then s.regTenant off
  else if off < 0x4400 then s.regSec off
  else if off < 0x4800 then s.regLife off
  else if off < 0x4C00 then s.regFault off
  else if off < 0x5000 then s.regGal off
  else if off < 0x5800 then s.regPower off
  else s.regTimer off

/-- A register read: RNG_TSC_LO latches the high part (R235); a read of the raw tamper conditions takes a new free value. -/
def State.regRead (s : State) (off : Nat) : State × Nat :=
  if off = 0x1840 then (s.tscLatch, s.reg off)
  else if off = 0x4024 then (s.draw.1, s.reg off)
  else (s, s.reg off)

end Sys2Proof.Machine
end

