-- ==== Sys2Proof/Machine/RegWrite.lean ====
section
/-! DEFINITION. Writes of registers (R5, R8, R26): which values are illegal, when the run-time state refuses a write, and what
each write does. -/

namespace Sys2Proof.Machine

open Sys2Proof

/-- A value lies in a range, ends included. -/
def within (lo hi v : Nat) : Bool := decide (lo ≤ v) && decide (v ≤ hi)

/-! ### Illegal values -/

/-- Chapter 03: flights, halls, airtime. -/
def State.legalFlight (s : State) (off v : Nat) : Bool :=
  if 0x410 ≤ off ∧ off < 0x510 then
    let t := vget s.halls.templates ((off - 0x410) / 16) SharedTpl.reset
    match (off / 4) % 4 with
    | 0 => bits v 15 0 % 64 == 0 && decide (bits v 15 0 + t.limit ≤ 0x10000)
    | 1 => bits v 16 0 % 64 == 0 && decide (t.base + bits v 16 0 ≤ 0x10000)
    | _ => true
  else match off with
  | 0x0200 => decide (v ≤ 1000)
  | 0x0204 => within 16 255 (bits v 23 16) && within 4 64 (bits v 15 8)
  | 0x0210 => within 20 250 (bits v 23 16) && within 100 5000 (bits v 15 0)
  | _ => true

/-- Chapter 04: LF. LF_CARRIER gives a carrier of 119 to 135 kHz. -/
def legalLf (off v : Nat) : Bool :=
  match off with
  | 0x1000 => decide (119000 * v ≤ 124800000 * 65536) && decide (124800000 * 65536 ≤ 135000 * v)
  | 0x1008 => within 50 1000 (bits v 25 16) && within 1 15 (bits v 11 8) && within 1 15 (bits v 3 0)
  | 0x100C => within 5 50 (bits v 23 16) && within 5 45 (bits v 15 8) && within 2 30 (bits v 7 0) && decide (bits v 7 0 < bits v 15 8)
  | 0x1010 => decide (1 ≤ bits v 31 16) && decide (1 ≤ bits v 15 8) && decide (8 ≤ bits v 7 0)
  | 0x1020 => within 256 767 (bits v 29 20) && within 256 767 (bits v 19 10) && within 256 767 (bits v 9 0)
  | _ => true

/-- Chapters 05 and 06: UWB and ranging. -/
def legalUwb (off v : Nat) : Bool :=
  match off with
  | 0x1404 => decide (bits v 15 8 ≤ 80) && decide (bits v 7 0 ≤ 80)
  | 0x1410 => bits v 7 4 != 0
  | 0x1414 => within 10 10000 (bits v 13 0)
  | 0x1800 => bits v 9 8 != 3 && bits v 5 4 != 3
  | 0x180C => decide (16 ≤ bits v 31 24) && decide (32 ≤ bits v 23 16) && within 8 1024 (bits v 15 0)
  | 0x1810 => within 8 80 (bits v 15 8) && within 1 64 (bits v 7 0)
  | _ => true

/-- Chapter 07: UHF. -/
def legalUhf (off v : Nat) : Bool :=
  match off with
  | 0x1C04 =>
    decide (-120 ≤ sgn 8 (bits v 31 24)) && decide (sgn 8 (bits v 31 24) ≤ -40) && decide (16 ≤ bits v 23 16)
    && within 25 250 (bits v 15 8) && decide (2 ≤ bits v 3 0)
  | 0x1C20 => !v.testBit 31 || bits v 24 20 != 0
  | 0x1C24 =>
    within 10 10000 (bits v 31 16) && within 200 20000 (bits v 15 0) && decide (bits v 15 0 ≤ bits v 31 16 * 100)
  | _ => true

/-- Chapter 08: NFC; t is the state whose staging buffer a write of NFC_TAG_WCMD takes (R281). -/
def State.legalNfc (t : State) (off v : Nat) : Bool :=
  match off with
  | 0x2000 =>
    within 1 15 (bits v 27 24) && within 10 100 (bits v 23 16) && within 5 100 (bits v 15 8) && decide (5 ≤ bits v 7 0)
  | 0x2004 => within 6 60 (bits v 15 8) && decide (8 ≤ bits v 7 0)
  | 0x2080 => t.tag.wcmdOk (bits v 7 0)
  | 0x208C => !newer32 v t.tag.jseq
  | _ => true

/-- Chapters 09 and 10: evidence, tenants, START, release, CAN. -/
def legalTenant (off v : Nat) : Bool :=
  match off with
  | 0x3040 => within 8 64 (bits v 22 16) && within 8 64 (bits v 6 0)
  | 0x3044 => within 1 10000 (bits v 15 0)
  | 0x341C => within 1 90 (bits v 15 8) && decide (1 ≤ bits v 7 0)
  | 0x3500 => within 1 8 (bits v 19 16) && within 16 8000 (bits v 12 0)
  | 0x3540 => v.testBit 31 || bits v 28 11 == 0
  | 0x3580 | 0x35C0 => within 80 640 (nominalQuanta v)
  | 0x3584 | 0x35C4 => within 16 160 (dataQuanta v)
  | _ => true

/-- Chapters 11, 12, 14 and 15: security, OSPI, gallery, power. -/
def legalSystem (off v : Nat) : Bool :=
  match off with
  | 0x400C => within 16 4096 (bits v 31 16) && within 1 600 (bits v 15 0)
  | 0x4020 => bits v 7 6 != 3 && bits v 5 4 != 3 && bits v 3 2 != 3 && bits v 1 0 != 3
  | 0x4430 => bits v 19 16 != 0 && decide (bits v 15 8 ≤ 31) && bits v 1 0 != 3
  | 0x4C10 => within 4 64 (bits v 15 8) && within 2 16 (bits v 7 0)
  | 0x4C14 => within 10 10000 (bits v 15 0)
  | 0x5014 => decide (bits v 1 0 ≤ 1)
  | 0x501C => !([0x00, 0x01, 0x02, 0x10, 0x20, 0x21].contains (bits v 6 0))
  | _ => true

/-- A value that the register's own chapter allows (R8). -/
def State.regLegal (t : State) (off v : Nat) : Bool :=
  if 0xC000 ≤ off then true
  else if off < 0x1000 then t.legalFlight off v
  else if off < 0x1400 then legalLf off v
  else if off < 0x1C00 then legalUwb off v
  else if off < 0x2000 then legalUhf off v
  else if off < 0x3000 then t.legalNfc off v
  else if off < 0x4000 then legalTenant off v
  else legalSystem off v

/-! ### Run-time refusals -/

/-- The run-time state refuses a write with STATE_REFUSED (R26): a page that an item names (R27), a BOOT field, which only boot code
writes, an open grant, session or role, a busy staging buffer, a sleep condition that fails. -/
def State.regRefused (s : State) (off v : Nat) : Bool :=
  if 0xC000 ≤ off then s.host.pageNamed none ((off - 0xC000) / 0x800)
  else if 0x400 ≤ off ∧ off < 0x510 then (roFields off) != [(31, 0)]
  else if 0x1820 ≤ off ∧ off < 0x1840 then s.air.granted 1
  else match off with
  | 0x1000 | 0x1004 | 0x1008 | 0x100C | 0x1010 | 0x1020 => s.air.granted 0
  | 0x1404 | 0x140C | 0x1410 | 0x1414 | 0x1800 | 0x1804 | 0x1808 | 0x180C | 0x1810 => s.air.granted 1
  | 0x1C04 => s.air.granted 2
  | 0x2000 | 0x2004 => s.air.granted 3
  | 0x2080 | 0x2088 | 0x208C => s.tag.wbusy
  | 0x3410 => s.timeRefused v
  | 0x3500 | 0x3540 | 0x3580 | 0x3584 | 0x35C0 | 0x35C4 => s.rel.isOpen
  | 0x4020 => true
  | 0x4430 => s.dma.chans.toList.any fun c => c.active && (c.desc.elim false fun d => d.srcKind == 4)
  | 0x4C10 | 0x4C14 => s.gal.role != .standalone
  | 0x5014 => s.sleepReason != 0
  | _ => false

/-! ### Effects -/

/-- Bits that a W1C write leaves: the ones of v among the low n bits are cleared. -/
def w1c (n present v : Nat) : Nat := present &&& (2 ^ n - 1 - v % 2 ^ n)

/-- The staging buffer of the tag port takes a word. -/
def State.putWbuf (s : State) (off v : Nat) : State :=
  if 0x2060 ≤ off ∧ off < 0x2080 then s.setTag { s.tag with wbuf := vset s.tag.wbuf ((off - 0x2060) / 4) (BitVec.ofNat 32 v) } else s

/-- Effects in chapters 01 and 03. -/
def State.putHost (s : State) (off v : Nat) : State :=
  match off with
  | 0x0100 => { s with host := { s.host with attn := BitVec.ofNat 8 (w1c 8 s.host.attn.toNat v) } }
  | 0x0104 => { s with host := { s.host with mask := BitVec.ofNat 9 v } }
  | 0x0200 => { s with sched := { s.sched with drainHold := bits v 9 0 } }
  | 0x0204 => { s with sched := { s.sched with aging := bits v 23 16, quantum := bits v 15 8 } }
  | 0x0210 => { s with air := { s.air with chainUs := bits v 23 16, minHoldUs := bits v 15 0 } }
  | _ => s

/-- LF_CARRIER, LF_RETUNE and LF_FAULT, and the plain LF registers. -/
def State.putLf (s : State) (off v : Nat) : State :=
  let s := s.lfDue
  match off with
  | 0x1000 => s.lfSetCarrier v
  | 0x1004 => s.setLf { s.lf with coilEn := bits v 7 0 }
  | 0x1008 => s.setLf { s.lf with frameCfg := v }
  | 0x100C => s.setLf { s.lf with tuneCfg := v }
  | 0x1010 => s.setLf { s.lf with noiseCfg := v }
  | 0x1018 => s.lfFaultClear v
  | 0x1020 => s.setLf { s.lf with rxcal := v }
  | 0x1024 => s.lfRetune (bits v 7 0)
  | 0x1028 => s.setLf { s.lf with faultSys := w1c 2 s.lf.faultSys v }
  | _ => s

/-- UWB registers; a port whose fault is cleared waits for its next port check (R190). -/
def State.putUwb (s : State) (off v : Nat) : State :=
  let u := s.uwb
  match off with
  | 0x1404 => s.setUwb { u with txpwr := v }
  | 0x140C => s.setUwb { u with dpd := bits v 1 0 }
  | 0x1410 => s.setUwb { u with divCfg := bits v 7 0 }
  | 0x1414 => s.setUwb { u with coexCfg := v }
  | 0x1424 => s.setUwb { u with fault := w1c 7 u.fault v, recheck := u.recheck ||| (u.fault &&& v &&& 31) }
  | _ => s

/-- Ranging registers. -/
def State.putRng (s : State) (off v : Nat) : State :=
  let r := s.rng
  if 0x1820 ≤ off ∧ off < 0x1840 then s.setRng { r with aoa := vset r.aoa ((off - 0x1820) / 4) v }
  else match off with
  | 0x1800 => s.setRng { r with air := v }
  | 0x1804 => s.setRng { r with antdly5 := v }
  | 0x1808 => s.setRng { r with antdly9 := v }
  | 0x180C => s.setRng { r with det := v }
  | 0x1810 => s.setRng { r with noiseCfg := v }
  | _ => s

/-- UHF registers. -/
def State.putUhf (s : State) (off v : Nat) : State :=
  let u := s.uhf
  match off with
  | 0x1C04 => s.setUhf { u with cfg := v }
  | 0x1C20 => s.setUhf { u with sniffCfg := v }
  | 0x1C24 => s.setUhf { u with sniffTime := v }
  | 0x1C28 => s.setUhf { u with filled := w1c 4 u.filled v }
  | _ => s

/-- A write of NFC_TAG_WCMD starts a wire-side write of the staged block (R281). -/
def State.tagWcmd (s : State) (v : Nat) : State := s.setTag (s.tag.hostWrite s.now (bits v 7 0) (.bytes s.tag.staged))

/-- A write of NFC_TAG_CTRL: CLEAR_FAILS commits FAILS := 0 (R275). -/
def State.tagCtrl (s : State) (v : Nat) : State := if v.testBit 0 then s.setTag (s.tag.hostWrite s.now 1 .clearFails) else s

/-- A write of NFC_TAG_JACK commits JACK (R281). -/
def State.tagJack (s : State) (v : Nat) : State := s.setTag (s.tag.hostWrite s.now 1 (.jack v))

/-- NFC registers. -/
def State.putNfc (s : State) (off v : Nat) : State :=
  match off with
  | 0x2000 => s.setNfc { s.nfc with cfg := v }
  | 0x2004 => s.setNfc { s.nfc with noiseCfg := v }
  | 0x2080 => s.tagWcmd v
  | 0x2088 => s.tagCtrl v
  | 0x208C => s.tagJack v
  | _ => s.putWbuf off v

/-- EVD_CFG and EVD_CFG1 act at once in ARMED, else from its next entry; a smaller PRE frees the oldest ring records (R310). -/
def Recorder.setCfg (r : Recorder) (v : Nat) : Recorder :=
  if r.mode == .armed then ({ r with cfg := v } : Recorder).trim else { r with cfgNext := some v }
def Recorder.setCfg1 (r : Recorder) (v : Nat) : Recorder :=
  if r.mode == .armed then { r with cfg1 := v } else { r with cfg1Next := some v }

/-- Registers of chapters 09 and 10. -/
def State.putTenant (s : State) (off v : Nat) : State :=
  let w : Word := BitVec.ofNat 32 v
  match off with
  | 0x3000 => if v.testBit 29 then { s with verdict := { s.verdict with blkFail := false } } else s
  | 0x3040 => { s with evd := s.evd.setCfg v }
  | 0x3044 => { s with evd := s.evd.setCfg1 v }
  | 0x3410 => s.setTime v
  | 0x341C => s.setLifeCfg v
  | 0x3500 => s.setStart fun c => { c with cfg := v }
  | 0x3508 => s.startClear w
  | 0x3540 => s.setRel fun r => { r with cfg := w }
  | 0x3544 => s.setRel fun r => { r with cfg1 := w }
  | 0x3548 => if v.testBit 29 then s.setRel fun r => { r with relPin := false } else s
  | 0x3580 => s.setRel fun r => { r with canb := { r.canb with nbt := w } }
  | 0x3584 => s.setRel fun r => { r with canb := { r.canb with dbt := w } }
  | 0x35C0 => s.setRel fun r => { r with cana := { r.cana with nbt := w } }
  | 0x35C4 => s.setRel fun r => { r with cana := { r.cana with dbt := w } }
  | _ => s

/-- Writing 1 to a VALID bit frees that latch entry (R415). -/
def Faults.freeLatches (f : Faults) (v : Nat) : Faults :=
  { f with latches := Vector.ofFn fun n : Fin 16 => if v.testBit n.val then none else f.latches.get n }

/-- The sleep state that PWR_REQ TARGET names. -/
def pwrTarget (v : Nat) : PwrMode := if bits v 1 0 = 1 then .lobby else .vestibule

/-- Registers of chapters 11 to 15. -/
def State.putSystem (s : State) (off v : Nat) : State :=
  match off with
  | 0x400C => s.setSec fun c => { c with reseedReq := bits v 31 16, reseedS := bits v 15 0 }
  | 0x4024 => s.setSec fun c => { c with tamperEvent := w1c 4 c.tamperEvent (bits v 19 16) }
  | 0x4408 => if v.testBit 4 then { s with life := { s.life with mchange := false } } else s
  | 0x4430 => { s with life := { s.life with ospiCfg := BitVec.ofNat 32 v } }
  | 0x480C => { s with faults := s.faults.freeLatches v }
  | 0x4818 => { s with faults := { s.faults with evSel := v } }
  | 0x4C10 => s.setGal { s.gal with cfg := v }
  | 0x4C14 => s.setGal { s.gal with cfg1 := bits v 15 0 }
  | 0x4C18 => if v.testBit 0 then s.galResume else s
  | 0x5014 => s.powerReq (pwrTarget v)
  | 0x501C => s.setPower fun p => { p with wakeCfg := v }
  | 0x5020 => s.setPower fun p => { p with wtimer := v }
  | 0x5024 => s.setPower fun p => { p with wakeCause := w1c 5 p.wakeCause v }
  | _ => s

/-- Effect of a word written at a byte offset. -/
def State.regPut (s : State) (off v : Nat) : State :=
  if 0xC000 ≤ off then { s with host := { s.host with pages := s.host.pages.writeN (off - 0xC000) (natLE 4 v) } }
  else if off < 0x1000 then s.putHost off v
  else if off < 0x1400 then s.putLf off v
  else if off < 0x1800 then s.putUwb off v
  else if off < 0x1C00 then s.putRng off v
  else if off < 0x2000 then s.putUhf off v
  else if off < 0x3000 then s.putNfc off v
  else if off < 0x4000 then s.putTenant off v
  else s.putSystem off v

/-! ### A write of several words -/

/-- Words with their offsets. -/
def placed (off : Nat) (ws : List Nat) : List (Nat × Nat) := ws.zipIdx.map fun w => (off + 4 * w.2, w.1)

/-- Tags of page granules that a write of the bytes from off to off + n covers whole are cleared (R132). -/
def HostLink.coverPages (h : HostLink) (off n : Nat) : HostLink :=
  { h with pagePoison := h.pagePoison.filter fun g => Nat.blt (0xC000 + 32 * g) off || Nat.blt (off + n) (0xC000 + 32 * g + 32) }

/-- Some word writes an RO field or an illegal value (R26). -/
def State.badWords (s : State) (ps : List (Nat × Nat)) : Bool :=
  let t := ps.foldl (fun t p => t.putWbuf p.1 p.2) s
  ps.any fun p => roWritten p.1 (s.reg p.1) p.2 || !t.regLegal p.1 p.2

/-- A refused PWR_REQ changes PWR_RESULT and the refusal counts (R478). -/
def State.requestRefused (s : State) (ps : List (Nat × Nat)) : State :=
  match ps.find? fun p => p.1 == 0x5014 with
  | some p => if s.sleepReason != 0 then s.powerReq (pwrTarget p.2) else s
  | none => s

/-- All words of a write, or none (R26). A look at the raw tamper conditions takes a new free value. -/
def State.regWrite (s : State) (off : Nat) (ws : List Nat) : State × Code :=
  let ps := placed off ws
  let r : State × Code :=
    if s.badWords ps then (s, .badField)
    else if ps.any fun p => s.regRefused p.1 p.2 then (s.requestRefused ps, .stateRefused)
    else
      let s := ps.foldl (fun s p => s.regPut p.1 p.2) s
      ({ s with host := s.host.coverPages off (4 * ws.length) }, .ok)
  if ps.any fun p => p.1 == 0x4024 then (r.1.draw.1, r.2) else r

end Sys2Proof.Machine
end

