-- ==== Sys2Proof/Machine/HostFrames.lean ====
section
/-! DEFINITION. Frames of the host link (R11 to R34, R424, R481, R485) and the register accesses that have rows of their own. A frame
is one command: it acts at its rising HCSN edge, a HUSH at its eighth edge, and its status words show the state at their own edges. -/

namespace Sys2Proof.Machine

open Sys2Proof

/-! ### Status words and HIRQN -/

/-- The eight status bytes, bit 31 of each word first: STATUS0 as at the falling edge of HCSN, STATUS1 as at the 32nd edge (R12). -/
def State.statusBytes (s : State) (e : Edges) : List Byte :=
  natBE 4 (s.shownAt (s.now - e.fell)).word0 ++ natBE 4 (s.shownAt (s.now - e.mid)).word1

/-- A frame acts: it comes last among the events of its CORE cycle (R556), and the history of the status words starts anew. -/
def State.frameActs (s : State) : State := { s.act rankFrame with seen := [], host := { s.host with wakeIrq := false } }

/-- HIRQN is pulled low (R28, R486). -/
def State.hirqLow (s : State) : Bool :=
  s.host.wakeIrq || (s.host.attn &&& s.host.mask.setWidth 8) != 0 || (s.host.mask.getLsbD 8 && !s.host.cq.isEmpty)

/-! ### What every frame does -/

/-- Frames are treated as in safe hold: in a warm reset, in fault halt, and when the frame aborts an entry (R424, R425, R481). -/
def State.frameHold (s : State) : Bool :=
  s.faults.mode == .warm || s.faults.mode == .halt || s.power.entering.isSome

/-- A frame other than STATUS of which n whole bytes are clocked: while the link sleeps it is discarded (R18); otherwise it
aborts an entry in preparation (R481), takes effect, and leaves its outcome in LASTERR (R17). The effect is given whether frames are
treated as in safe hold and the STATUS1 that was sent, and answers what follows the status words on HSDO. -/
def hostFrame (dt : Nat) (e : Edges) (n : Nat) (s : State) (f : Bool → Nat → State → State × Code × List Byte) :
    Host.Outcome State Fault Refusal :=
  occur dt s fun s =>
    if !s.linkUp then { s with host := { s.host with hsdo := [] } }
    else
      let head := s.statusBytes e
      let r := f s.frameHold (s.shownAt (s.now - e.mid)).word1 (s.frameActs.abortEntry 8 0xFE 30)
      { r.1 with host := { r.1.host with lastErr := r.2.1, hsdo := (head ++ r.2.2).take n } }

/-- A frame that sends nothing but status words and zeros. -/
def plainFrame (dt : Nat) (e : Edges) (n : Nat) (s : State) (f : Bool → State → State × Code) : Host.Outcome State Fault Refusal :=
  hostFrame dt e n s fun h _ s => let r := f h s; (r.1, r.2, List.replicate n 0)

/-- A frame of fewer than eight bits has no OP and no outcome; STATUS has no outcome either (R17). -/
def statusFrame (dt : Nat) (e : Edges) (bits : Nat) (s : State) : Host.Outcome State Fault Refusal :=
  occur dt s fun s =>
    if !s.linkUp then { s with host := { s.host with hsdo := [] } }
    else
      let t := s.frameActs
      { t with host := { t.host with hsdo := (s.statusBytes e).take (bits / 8) } }

/-- The command word's bytes. -/
def cmdBytes (op target len : Nat) : List Byte := natLE 1 op ++ natLE 2 target ++ natLE 1 len

/-- Length and CRC of a frame that changes state (R14, R15): its payload is n bytes and the CRC byte, with no bit over. -/
def frameCheck (op target len n : Nat) (payload : List Byte) (extra : Nat) : Code :=
  if payload.length ≠ n + 1 ∨ extra ≠ 0 then .badLength
  else if crc8 (cmdBytes op target len ++ payload.take n) ≠ payload.getD n 0 then .badCrc
  else .ok

/-! ### Register frames -/

/-- Alignment and range of a register frame (R25). -/
def rangeCheck (target len : Nat) : Code :=
  if target % 4 ≠ 0 then .badAlign
  else if len = 0 ∨ 0x10000 < target + 4 * len then .badLength
  else .ok

/-- Words read one after the other. -/
def State.readWords (s : State) (off : Nat) : Nat → State × List Byte
  | 0 => (s, [])
  | n + 1 =>
    let r := s.regRead off
    let q := r.1.readWords (off + 4) n
    (q.1, natLE 4 r.2 ++ q.2)

/-- REG_READ: only words of which the host clocks a bit are read; the CRC follows the last (R14 to R16, R25). A frame that ends
within its command word has no error (R15). What a refused read sends after the status words is left open. -/
def readFrame (w1 target len bits : Nat) (s : State) : State × Code × List Byte :=
  if bits < 32 then (s, .ok, [])
  else
    match rangeCheck target len with
    | .ok =>
      let n := min len ((bits - 64 + 31) / 32)
      let r := s.readWords target n
      (r.1, .ok, r.2 ++ if n = len then [crc8 (natBE 4 w1 ++ r.2)] else [])
    | c => (s, c, [])

/-- REG_READ (R25). -/
def execFrRegRead (dt target len : Nat) (c : Clocked) (s : State) : Host.Outcome State Fault Refusal :=
  if c.n < 8 then statusFrame dt c.e c.n s
  else hostFrame dt c.e (c.n / 8) s fun _ w s => readFrame w (target % 65536) (len % 256) c.n s

/-- Words of a payload. -/
def payloadWords (n : Nat) (p : List Byte) : List Nat := (List.range n).map (wordAt p)

/-- Registers that can be written while frames are treated as in safe hold: ATTN_CAUSE and HIRQ_MASK (R424). -/
def holdWritable (target len : Nat) : Bool := decide (0x100 ≤ target) && decide (target + 4 * len ≤ 0x108)

/-- REG_WRITE (R26): the frame checks in their order, then the words. -/
def writeFrame (hold : Bool) (target len : Nat) (payload : List Byte) (extra : Nat) (s : State) : State × Code :=
  match frameCheck 0x02 target len (4 * len) payload extra with
  | .ok =>
    match rangeCheck target len with
    | .ok => if hold && !holdWritable target len then (s, .stateRefused) else s.regWrite target (payloadWords len payload)
    | c => (s, c)
  | c => (s, c)

/-- REG_WRITE (R26). -/
def execFrRegWrite (dt target len : Nat) (payload : List Byte) (c : Clocked) (s : State) : Host.Outcome State Fault Refusal :=
  plainFrame dt c.e (4 + payload.length) s fun h s => writeFrame h (target % 65536) (len % 256) payload c.n s

/-! ### Queue frames -/

/-- Accept an item on a queue (R30, R31). -/
def State.accept (s : State) (q : Nat) (raw : List Byte) : State :=
  let h := s.host
  let seq := vget h.sqSeq q 0
  { s with host := { h with
      credits := vset h.credits q (vget h.credits q 0 - 1)
      sqSeq := vset h.sqSeq q (seq + 1)
      items := h.items ++ [{ key := ⟨q, seq⟩, raw := raw, phase := .waiting, since := s.now, awaits := none, memo := [] }] } }

/-- SUBMIT (R31): length, CRC, LEN, TARGET, then credit, SEQ and EPOCH. -/
def submitFrame (hold : Bool) (target len : Nat) (payload : List Byte) (extra : Nat) (s : State) : State × Code :=
  match frameCheck 0x10 target len 32 payload extra with
  | .ok =>
    let raw := payload.take 32
    if len ≠ 8 then (s, .badLength)
    else if 4 ≤ target then (s, .badField)
    else if hold then (s, .stateRefused)
    else if vget s.host.credits target 0 = 0 then (s, .noCredit)
    else if fieldLE raw 4 4 ≠ (vget s.host.sqSeq target 0).toNat ∨ fieldLE raw 8 2 ≠ s.host.epoch.toNat then (s, .badRef)
    else (s.accept target raw, .ok)
  | c => (s, c)

/-- SUBMIT (R31). -/
def execFrSubmit (dt target len : Nat) (payload : List Byte) (c : Clocked) (s : State) : Host.Outcome State Fault Refusal :=
  plainFrame dt c.e (4 + payload.length) s fun h s => submitFrame h (target % 65536) (len % 256) payload c.n s

/-- Entry i from the head of the completion queue, or 16 zero bytes past the last (R34). -/
def HostLink.entryBytes (h : HostLink) (i : Nat) : List Byte :=
  match h.cq[i]? with
  | some e => e.bytes
  | none => List.replicate 16 0

/-- CQ_READ (R34): TARGET 0 to 255, LEN 4 to 252 and a multiple of 4 (R8, R13). DESIGN CHOICE (log 48): a LEN in the range that is no multiple of 4
ends BAD_LENGTH, as one out of it does, and not BAD_ALIGN. -/
def cqReadFrame (w1 target len bits : Nat) (s : State) : State × Code × List Byte :=
  if bits < 32 then (s, .ok, [])
  else if 255 < target then (s, .badField, [])
  else if len < 4 ∨ 252 < len ∨ len % 4 ≠ 0 then (s, .badLength, [])
  else
    let d := (List.range (len / 4)).flatMap fun i => s.host.entryBytes (target + i)
    (s, .ok, d ++ [crc8 (natBE 4 w1 ++ d)])

/-- CQ_READ (R34). -/
def execFrCqRead (dt target len : Nat) (c : Clocked) (s : State) : Host.Outcome State Fault Refusal :=
  if c.n < 8 then statusFrame dt c.e c.n s
  else hostFrame dt c.e (c.n / 8) s fun _ w s => cqReadFrame w (target % 65536) (len % 256) c.n s

/-- Release one entry: its credit returns (R30), and an UPDATE_ACTIVATE that waits for its release starts its 10 ms (R38). -/
def HostLink.releaseOne (h : HostLink) (now : Nat) : HostLink :=
  match h.cq with
  | [] => h
  | e :: t =>
    { h with
      cq := t
      cqHead := (h.cqHead + 1) % 256
      credits := vset h.credits e.sq (vget h.credits e.sq 0 + 1)
      activate := h.activate.map fun (w : ActivateWatch) =>
        if some w.key == e.key then { w with due := some (now + 10 * msT) } else w }

/-- Release n entries from the head. -/
def HostLink.release (now : Nat) : Nat → HostLink → HostLink
  | 0, h => h
  | n + 1, h => HostLink.release now n (h.releaseOne now)

/-- CQ_RELEASE (R34). -/
def releaseFrame (target len : Nat) (payload : List Byte) (extra : Nat) (s : State) : State × Code :=
  match frameCheck 0x21 target len 0 payload extra with
  | .ok =>
    if len ≠ 0 then (s, .badLength)
    else if target = 0 ∨ s.host.pendingCount < target then (s, .badRef)
    else ({ s with host := HostLink.release s.now target s.host }, .ok)
  | c => (s, c)

/-- CQ_RELEASE (R34). -/
def execFrCqRelease (dt target len : Nat) (payload : List Byte) (c : Clocked) (s : State) : Host.Outcome State Fault Refusal :=
  plainFrame dt c.e (4 + payload.length) s fun _ s => releaseFrame (target % 65536) (len % 256) payload c.n s

/-- STATUS (R12, R13): the status words, and no change. -/
def execFrStatus (dt : Nat) (c : Clocked) (s : State) : Host.Outcome State Fault Refusal := statusFrame dt c.e c.n s

/-! ### HUSH -/

/-- TARGET names a scope (R21). -/
def hushScopeOk (t : Nat) : Bool := decide (t < 192) || t == 0xFF || t == 0x100 || t == 0x200 || t == 0xFFFF

/-- Landings of a scope. -/
def hushLands (t : Nat) : List Nat := if t < 192 then [t] else if t = 0xFF ∨ t = 0xFFFF then List.range 192 else []

/-- A flight that a HUSH stops: one that runs and is not ending already. -/
def Landing.stoppable (x : Landing) : Bool :=
  x.busy && x.endReq.isNone && (match x.wait with | .ending _ => false | _ => true)

/-- Item of a descriptor, or of the start it serves. -/
def State.jobKey (s : State) (d : Desc) : Option ItemKey :=
  match d.job with
  | .item k => some k
  | .initFetch l => (s.land l).item
  | .cir _ | .place => none

/-- Items that a HUSH of a scope ends: the flights', the transfers' and the open mode change's. -/
def State.hushKeys (s : State) (t : Nat) (lands : List Nat) : List ItemKey :=
  let fl := lands.filterMap fun l => (s.land l).item
  let tr := if t = 0x100 ∨ t = 0xFFFF then
      ((s.dma.chans.toList.filter (·.active)).filterMap fun c => c.desc.bind s.jobKey) ++ s.dma.waiting.filterMap s.jobKey
    else []
  let ga := if t = 0x200 ∨ t = 0xFFFF then
      (match s.gal.change with | some c => if c.done.isSome then none else c.item | none => none).toList
    else []
  (fl ++ tr ++ ga).filter fun k => k.sq < 4 && s.host.items.any fun r => r.key == k && !r.phase.isEnded

/-- Fail every descriptor, running or waiting (R131, R134). -/
def State.hushDma (s : State) : State :=
  let w := s.dma.waiting
  let s := ({ s with dma := { s.dma with waiting := [] } } : State).failWhere (fun _ _ => true) 5 .failedHush
  w.foldl (fun s d => (s.dmaPoison d).jobFails d .failedHush) s

/-- A HUSH of a scope (R21, R23, R134, R464). -/
def State.hush (s : State) (t : Nat) : State :=
  let lands := hushLands t
  let stop := lands.filter fun l => (s.land l).stoppable
  let h : HostLink := { s.host with hushLive := true, hushItems := s.host.hushItems ++ s.hushKeys t stop
                                    hushLandings := s.host.hushLandings ++ lands }
  let s := stop.foldl (fun s l => s.stopFlight l .failedHush none) ({ s with host := h } : State)
  let s := if t = 0x100 ∨ t = 0xFFFF then s.hushDma else s
  let s := if t = 0x200 ∨ t = 0xFFFF then s.galHush else s
  s.hushCheck

/-- A HUSH frame (R20 to R22, R424), from its eighth edge on: for the pause to its 24th edge no step, descriptor, granule or data slot
begins, and what its scope names stays stopped (log 44). It ends before its 24th edge with scope 0xFFFF. -/
def hushFrame (hold : Bool) (pause target bits : Nat) (s : State) : State × Code :=
  let t := if bits < 24 then 0xFFFF else target
  let p : State := { s with hushTill := max s.hushTill (s.now + pause) }
  if !hushScopeOk t then (p, .badField)
  else if hold then (s, .ok)
  else (p.hush t, .ok)

/-- HUSH (R20 to R24). LEN comes after the scope is decoded and has no effect. -/
def execFrHush (dt target _len : Nat) (c : HushClock) (s : State) : Host.Outcome State Fault Refusal :=
  if c.bits < 8 then statusFrame dt c.e c.bits s
  else plainFrame dt c.e (c.bits / 8) s fun h s => hushFrame h c.pause (target % 65536) c.bits s

/-! ### Other frames -/

/-- An OP that R13 lists. -/
def listedOp (op : Nat) : Bool := [0x00, 0x01, 0x02, 0x10, 0x20, 0x21, 0xFF].contains op

/-- A frame with an OP that R13 does not list, of 32 bits: BAD_OPCODE. With a listed OP this command does not occur (log 8). -/
def execFrFrameUnknownOp (dt : Nat) (c : Clocked) (s : State) : Host.Outcome State Fault Refusal :=
  if listedOp (c.n % 256) then occur dt s id
  else plainFrame dt c.e 4 s fun _ s => (s, .badOpcode)

/-- A frame of at most 16 bits while the link is served: it is what its first byte says (R13, R15, R22, R485). -/
def shortFrame (dt : Nat) (e : Edges) (op edges : Nat) (s : State) : Host.Outcome State Fault Refusal :=
  if edges < 8 ∨ op = 0x00 then statusFrame dt e edges s
  else plainFrame dt e (edges / 8) s fun h s =>
    if op = 0x01 ∨ op = 0x20 then (s, .ok)
    else if op = 0x02 ∨ op = 0x10 ∨ op = 0x21 then (s, .badLength)
    else if op = 0xFF then hushFrame h 0 0 edges s
    else (s, .badOpcode)

/-- WAKE_FRAME (R484, R485): asleep, 16 edges with WAKE_ADDR and its complement wake the device. -/
def execFrWakeFrame (dt : Nat) (b0 b1 : Byte) (c : Clocked) (s : State) : Host.Outcome State Fault Refusal :=
  if s.linkUp then shortFrame dt c.e b0.toNat c.n s
  else occur dt s fun s =>
    if c.n = 16 ∧ b0.toNat = bits s.power.wakeCfg 6 0 ∧ b1 = ~~~b0 then s.beginWake 0 else s

/-! ### Register accesses with rows of their own -/

/-- The REG_WRITE frame of one word, with the right CRC; its edges fall in one CORE cycle (log 44). -/
def writeWord (dt off : Nat) (v : Word) (s : State) : Host.Outcome State Fault Refusal :=
  let d := natLE 4 v.toNat
  execFrRegWrite dt off 1 (d ++ [crc8 (cmdBytes 0x02 off 1 ++ d)]) ⟨⟨0, 0⟩, 0⟩ s

/-- LF_CARRIER_WRITE (R144). -/
def execRgLfCarrierWrite (dt : Nat) (value : Word) (s : State) : Host.Outcome State Fault Refusal := writeWord dt 0x1000 value s

/-- LF_RETUNE (R150). -/
def execRgLfRetune (dt : Nat) (value : Word) (s : State) : Host.Outcome State Fault Refusal := writeWord dt 0x1024 value s

/-- LF_FAULT_CLEAR (R150, R156). -/
def execRgLfFaultClear (dt : Nat) (value : Word) (s : State) : Host.Outcome State Fault Refusal := writeWord dt 0x1018 value s

/-- RNG_TSC_LO_READ (R235). -/
def execRgRngTscLoRead (dt : Nat) (s : State) : Host.Outcome State Fault Refusal := execFrRegRead dt 0x1840 1 ⟨⟨0, 0⟩, 104⟩ s

/-- NFC_TAG_WCMD (R281). -/
def execRgNfcTagWcmd (dt : Nat) (value : Word) (s : State) : Host.Outcome State Fault Refusal := writeWord dt 0x2080 value s

/-- NFC_TAG_CTRL (R275). -/
def execRgNfcTagCtrl (dt : Nat) (value : Word) (s : State) : Host.Outcome State Fault Refusal := writeWord dt 0x2088 value s

/-- NFC_TAG_JACK (R281). -/
def execRgNfcTagJack (dt : Nat) (value : Word) (s : State) : Host.Outcome State Fault Refusal := writeWord dt 0x208C value s

/-- START_FAULT_CLEAR (R329). -/
def execRgStartFaultClear (dt : Nat) (value : Word) (s : State) : Host.Outcome State Fault Refusal := writeWord dt 0x3508 value s

/-- TEN_TIME_WRITE (R314, R315). -/
def execRgTenTimeWrite (dt : Nat) (value : Word) (s : State) : Host.Outcome State Fault Refusal := writeWord dt 0x3410 value s

/-- TEN_LIFE_CFG_WRITE (R326). -/
def execRgTenLifeCfgWrite (dt : Nat) (value : Word) (s : State) : Host.Outcome State Fault Refusal := writeWord dt 0x341C value s

/-- GAL_CTRL_RESUME (R464). -/
def execRgGalCtrlResume (dt : Nat) (value : Word) (s : State) : Host.Outcome State Fault Refusal := writeWord dt 0x4C18 value s

/-- FLT_LATCHED_FREE (R415). -/
def execRgFltLatchedFree (dt : Nat) (value : Word) (s : State) : Host.Outcome State Fault Refusal := writeWord dt 0x480C value s

/-- PWR_REQ (R478 to R480). -/
def execRgPwrReq (dt : Nat) (value : Word) (s : State) : Host.Outcome State Fault Refusal := writeWord dt 0x5014 value s

end Sys2Proof.Machine
end

