-- ==== Sys2Proof/Machine/LoadStore.lean ====
section
/-! DEFINITION. Hall loads and stores (R67, R68). -/

namespace Sys2Proof.Machine

open Sys2Proof

/-- The fault of an access of n bytes: HALL_BOUND, HALL_PERM, ALIGN, in the order R67 lists them (log 10). -/
def State.accessFault (s : State) (l h a n perm : Nat) : Option StepFault :=
  firstFault [s.rangeFault l h a n perm, if a % n = 0 then none else some .align]

/-- A load of n bytes: f gives the register value of the bytes read. -/
def loadStep (dt l : Nat) (k : Step) (n : Nat) (g : Nat → Nat) (s : State) : Host.Outcome State Fault Refusal :=
  runStep dt l k s fun f s =>
    let a := hallAddr f (s.land l)
    let h := bits f.imm 13 12
    match s.accessFault l h a n permRd with
    | some e => s.stepFault l e f.op
    | none =>
      let v := g (leNat (s.hallRead l h a n))
      s.advance l 1 fun x => x.setReg f.d (BitVec.ofNat 32 v)

/-- A store of the low n bytes of gD. -/
def storeStep (dt l : Nat) (k : Step) (n : Nat) (s : State) : Host.Outcome State Fault Refusal :=
  runStep dt l k s fun f s =>
    let x := s.land l
    let a := hallAddr f x
    let h := bits f.imm 13 12
    match s.accessFault l h a n permW with
    | some e => s.stepFault l e f.op
    | none => (s.hallWrite l h a (natLE n (x.reg f.d).toNat)).advance l 1 id

/-- LDW. -/
def execStLdw (dt l : Nat) (s : State) : Host.Outcome State Fault Refusal := loadStep dt l .ldw 4 id s

/-- LDHU: zero-extended halfword. -/
def execStLdhu (dt l : Nat) (s : State) : Host.Outcome State Fault Refusal := loadStep dt l .ldhu 2 id s

/-- LDBU: zero-extended byte. -/
def execStLdbu (dt l : Nat) (s : State) : Host.Outcome State Fault Refusal := loadStep dt l .ldbu 1 id s

/-- LDHS: sign-extended halfword. -/
def execStLdhs (dt l : Nat) (s : State) : Host.Outcome State Fault Refusal :=
  loadStep dt l .ldhs 2 (fun v => unsgn 32 (sgn 16 v)) s

/-- STW. -/
def execStStw (dt l : Nat) (s : State) : Host.Outcome State Fault Refusal := storeStep dt l .stw 4 s

/-- STH. -/
def execStSth (dt l : Nat) (s : State) : Host.Outcome State Fault Refusal := storeStep dt l .sth 2 s

/-- STB. -/
def execStStb (dt l : Nat) (s : State) : Host.Outcome State Fault Refusal := storeStep dt l .stb 1 s

/-- SWAPW: word and register change places as one act; only where the permission allows it, so never on the code or
CIR hall (R67, R125). -/
def execStSwapw (dt l : Nat) (s : State) : Host.Outcome State Fault Refusal :=
  runStep dt l .swapw s fun f s =>
    let x := s.land l
    let a := hallAddr f x
    let h := bits f.imm 13 12
    let codeOrCir := if h = 0 ∨ h = 2 then some StepFault.hallPerm else none
    match firstFault [if s.hallLimit l h < a + 4 then some .hallBound else none, codeOrCir, s.accessFault l h a 4 permSw] with
    | some e => s.stepFault l e f.op
    | none =>
      let old := leNat (s.hallRead l h a 4)
      (s.hallWrite l h a (natLE 4 (x.reg f.d).toNat)).advance l 1 fun y => y.setReg f.d (BitVec.ofNat 32 old)

end Sys2Proof.Machine
end

