-- ==== Sys2Proof/Machine/Dispatch.lean ====
section
/-! DEFINITION. One arm for each command, each one direct call of its meaning. -/

namespace Sys2Proof.Machine

open Sys2Proof

/-- The effect of a command on everything but the queue. -/
def exec (i : Instr) (s : State) : Host.Outcome State Fault Refusal :=
  match i with
  | .frStatus dt c => Sys2Proof.Machine.execFrStatus dt c s
  | .frRegRead dt target len c => Sys2Proof.Machine.execFrRegRead dt target len c s
  | .frRegWrite dt target len payload c => Sys2Proof.Machine.execFrRegWrite dt target len payload c s
  | .frSubmit dt target len payload c => Sys2Proof.Machine.execFrSubmit dt target len payload c s
  | .frCqRead dt target len c => Sys2Proof.Machine.execFrCqRead dt target len c s
  | .frCqRelease dt target len payload c => Sys2Proof.Machine.execFrCqRelease dt target len payload c s
  | .frHush dt target len c => Sys2Proof.Machine.execFrHush dt target len c s
  | .frFrameUnknownOp dt c => Sys2Proof.Machine.execFrFrameUnknownOp dt c s
  | .frWakeFrame dt b0 b1 c => Sys2Proof.Machine.execFrWakeFrame dt b0 b1 c s
  | .itNop dt => Sys2Proof.Machine.execItNop dt s
  | .itSurvey dt => Sys2Proof.Machine.execItSurvey dt s
  | .itFlightLoad dt => Sys2Proof.Machine.execItFlightLoad dt s
  | .itFlightStart dt => Sys2Proof.Machine.execItFlightStart dt s
  | .itFlightStop dt => Sys2Proof.Machine.execItFlightStop dt s
  | .itLandingPeek dt => Sys2Proof.Machine.execItLandingPeek dt s
  | .itHallRead dt => Sys2Proof.Machine.execItHallRead dt s
  | .itHallWrite dt => Sys2Proof.Machine.execItHallWrite dt s
  | .itTenantEnrol dt => Sys2Proof.Machine.execItTenantEnrol dt s
  | .itTenantSuspend dt => Sys2Proof.Machine.execItTenantSuspend dt s
  | .itTenantRevoke dt => Sys2Proof.Machine.execItTenantRevoke dt s
  | .itTenantRead dt => Sys2Proof.Machine.execItTenantRead dt s
  | .itKeyUpdate dt => Sys2Proof.Machine.execItKeyUpdate dt s
  | .itLifeChange dt vdd temp => Sys2Proof.Machine.execItLifeChange dt vdd temp s
  | .itUpdateBegin dt => Sys2Proof.Machine.execItUpdateBegin dt s
  | .itUpdateChunk dt => Sys2Proof.Machine.execItUpdateChunk dt s
  | .itUpdateVerify dt ext => Sys2Proof.Machine.execItUpdateVerify dt ext s
  | .itUpdateActivate dt => Sys2Proof.Machine.execItUpdateActivate dt s
  | .itUpdateConfirm dt vdd temp => Sys2Proof.Machine.execItUpdateConfirm dt vdd temp s
  | .itVoteSet dt => Sys2Proof.Machine.execItVoteSet dt s
  | .itTimerConfigure dt => Sys2Proof.Machine.execItTimerConfigure dt s
  | .itTimerStart dt => Sys2Proof.Machine.execItTimerStart dt s
  | .itTimerStop dt => Sys2Proof.Machine.execItTimerStop dt s
  | .itAtlasLoad dt => Sys2Proof.Machine.execItAtlasLoad dt s
  | .itEvidenceRead dt => Sys2Proof.Machine.execItEvidenceRead dt s
  | .itBistRun dt => Sys2Proof.Machine.execItBistRun dt s
  | .itCascadeStandalone dt => Sys2Proof.Machine.execItCascadeStandalone dt s
  | .itCascadeJoin dt => Sys2Proof.Machine.execItCascadeJoin dt s
  | .itCascadeModeChange dt => Sys2Proof.Machine.execItCascadeModeChange dt s
  | .itUnknownItem dt => Sys2Proof.Machine.execItUnknownItem dt s
  | .stMov dt l => Sys2Proof.Machine.execStMov dt l s
  | .stAdd dt l => Sys2Proof.Machine.execStAdd dt l s
  | .stSub dt l => Sys2Proof.Machine.execStSub dt l s
  | .stMul dt l => Sys2Proof.Machine.execStMul dt l s
  | .stAnd dt l => Sys2Proof.Machine.execStAnd dt l s
  | .stOr dt l => Sys2Proof.Machine.execStOr dt l s
  | .stXor dt l => Sys2Proof.Machine.execStXor dt l s
  | .stShl dt l => Sys2Proof.Machine.execStShl dt l s
  | .stShr dt l => Sys2Proof.Machine.execStShr dt l s
  | .stSar dt l => Sys2Proof.Machine.execStSar dt l s
  | .stCmp dt l => Sys2Proof.Machine.execStCmp dt l s
  | .stTst dt l => Sys2Proof.Machine.execStTst dt l s
  | .stAdc dt l => Sys2Proof.Machine.execStAdc dt l s
  | .stSbc dt l => Sys2Proof.Machine.execStSbc dt l s
  | .stBfx dt l => Sys2Proof.Machine.execStBfx dt l s
  | .stMhu dt l => Sys2Proof.Machine.execStMhu dt l s
  | .stLdw dt l => Sys2Proof.Machine.execStLdw dt l s
  | .stLdhu dt l => Sys2Proof.Machine.execStLdhu dt l s
  | .stLdbu dt l => Sys2Proof.Machine.execStLdbu dt l s
  | .stLdhs dt l => Sys2Proof.Machine.execStLdhs dt l s
  | .stStw dt l => Sys2Proof.Machine.execStStw dt l s
  | .stSth dt l => Sys2Proof.Machine.execStSth dt l s
  | .stStb dt l => Sys2Proof.Machine.execStStb dt l s
  | .stSwapw dt l => Sys2Proof.Machine.execStSwapw dt l s
  | .stJmp dt l => Sys2Proof.Machine.execStJmp dt l s
  | .stBr dt l => Sys2Proof.Machine.execStBr dt l s
  | .stCall dt l => Sys2Proof.Machine.execStCall dt l s
  | .stRet dt l => Sys2Proof.Machine.execStRet dt l s
  | .stWait dt l => Sys2Proof.Machine.execStWait dt l s
  | .stYield dt l => Sys2Proof.Machine.execStYield dt l s
  | .stEnd dt l => Sys2Proof.Machine.execStEnd dt l s
  | .stStepIllegal dt l => Sys2Proof.Machine.execStStepIllegal dt l s
  | .stLtset dt l => Sys2Proof.Machine.execStLtset dt l s
  | .stLtread dt l => Sys2Proof.Machine.execStLtread dt l s
  | .stLtstop dt l => Sys2Proof.Machine.execStLtstop dt l s
  | .stTmread dt l => Sys2Proof.Machine.execStTmread dt l s
  | .stAirClaim dt l => Sys2Proof.Machine.execStAirClaim dt l s
  | .stAirRelease dt l => Sys2Proof.Machine.execStAirRelease dt l s
  | .stLftx dt l m => Sys2Proof.Machine.execStLftx dt l m s
  | .stLfrx dt l => Sys2Proof.Machine.execStLfrx dt l s
  | .stUwbpoll dt l temp vdd bad => Sys2Proof.Machine.execStUwbpoll dt l temp vdd bad s
  | .stUwbresp dt l temp vdd bad => Sys2Proof.Machine.execStUwbresp dt l temp vdd bad s
  | .stUwbfinal dt l temp vdd bad => Sys2Proof.Machine.execStUwbfinal dt l temp vdd bad s
  | .stUhfrx dt l temp => Sys2Proof.Machine.execStUhfrx dt l temp s
  | .stUhftx dt l temp vdd => Sys2Proof.Machine.execStUhftx dt l temp vdd s
  | .stNfcx dt l => Sys2Proof.Machine.execStNfcx dt l s
  | .stNfctree dt l => Sys2Proof.Machine.execStNfctree dt l s
  | .stAesk dt l => Sys2Proof.Machine.execStAesk dt l s
  | .stAesx dt l => Sys2Proof.Machine.execStAesx dt l s
  | .stDerive dt l => Sys2Proof.Machine.execStDerive dt l s
  | .stDrbg dt l => Sys2Proof.Machine.execStDrbg dt l s
  | .stMacv dt l => Sys2Proof.Machine.execStMacv dt l s
  | .stFuse dt l => Sys2Proof.Machine.execStFuse dt l s
  | .stJudge dt l => Sys2Proof.Machine.execStJudge dt l s
  | .stTload dt l => Sys2Proof.Machine.execStTload dt l s
  | .stTpass dt l => Sys2Proof.Machine.execStTpass dt l s
  | .stTfail dt l => Sys2Proof.Machine.execStTfail dt l s
  | .stRelopen dt l => Sys2Proof.Machine.execStRelopen dt l s
  | .stRelhold dt l => Sys2Proof.Machine.execStRelhold dt l s
  | .stRelclose dt l => Sys2Proof.Machine.execStRelclose dt l s
  | .stBanister dt l => Sys2Proof.Machine.execStBanister dt l s
  | .stNewel dt l => Sys2Proof.Machine.execStNewel dt l s
  | .stEvtrig dt l => Sys2Proof.Machine.execStEvtrig dt l s
  | .stGsend dt l => Sys2Proof.Machine.execStGsend dt l s
  | .stGwait dt l => Sys2Proof.Machine.execStGwait dt l s
  | .evAirGrant dt l => Sys2Proof.Machine.execEvAirGrant dt l s
  | .evFieldStepDone dt l m => Sys2Proof.Machine.execEvFieldStepDone dt l m s
  | .evFieldWindowLapse dt l floor => Sys2Proof.Machine.execEvFieldWindowLapse dt l floor s
  | .evCryptoDone dt l => Sys2Proof.Machine.execEvCryptoDone dt l s
  | .evVerdictDone dt l => Sys2Proof.Machine.execEvVerdictDone dt l s
  | .evTenantUnwrapDone dt l => Sys2Proof.Machine.execEvTenantUnwrapDone dt l s
  | .evNewelDurable dt l bad => Sys2Proof.Machine.execEvNewelDurable dt l bad s
  | .evTfailDurable dt l bad => Sys2Proof.Machine.execEvTfailDurable dt l bad s
  | .evBanisterClear dt l => Sys2Proof.Machine.execEvBanisterClear dt l s
  | .evGsendCredit dt l => Sys2Proof.Machine.execEvGsendCredit dt l s
  | .evGwaitEnd dt l => Sys2Proof.Machine.execEvGwaitEnd dt l s
  | .evRelopenFirstFrame dt l => Sys2Proof.Machine.execEvRelopenFirstFrame dt l s
  | .evRelcloseDone dt l => Sys2Proof.Machine.execEvRelcloseDone dt l s
  | .evPipeDispatch dt p => Sys2Proof.Machine.execEvPipeDispatch dt p s
  | .evQuantumExpire dt p => Sys2Proof.Machine.execEvQuantumExpire dt p s
  | .evRunlimitReached dt l => Sys2Proof.Machine.execEvRunlimitReached dt l s
  | .evLtExpire dt l n => Sys2Proof.Machine.execEvLtExpire dt l n s
  | .evRelokExpire dt l => Sys2Proof.Machine.execEvRelokExpire dt l s
  | .evDrainHoldLapse dt l => Sys2Proof.Machine.execEvDrainHoldLapse dt l s
  | .evScrubDone dt l => Sys2Proof.Machine.execEvScrubDone dt l s
  | .evDeferredStartResume dt l => Sys2Proof.Machine.execEvDeferredStartResume dt l s
  | .evVoteHoldoffLapse dt d => Sys2Proof.Machine.execEvVoteHoldoffLapse dt d s
  | .evExchangeBoundary dt l => Sys2Proof.Machine.execEvExchangeBoundary dt l s
  | .evBudgetExhausted dt l => Sys2Proof.Machine.execEvBudgetExhausted dt l s
  | .evMinholdReached dt l => Sys2Proof.Machine.execEvMinholdReached dt l s
  | .evDmaDescriptorStart dt => Sys2Proof.Machine.execEvDmaDescriptorStart dt s
  | .evDmaGranuleDelivered dt ch err sector => Sys2Proof.Machine.execEvDmaGranuleDelivered dt ch err sector s
  | .evHallWriteGranule dt ch => Sys2Proof.Machine.execEvHallWriteGranule dt ch s
  | .evLfCoilShort dt n => Sys2Proof.Machine.execEvLfCoilShort dt n s
  | .evLfVlfLow dt mv => Sys2Proof.Machine.execEvLfVlfLow dt mv s
  | .evLfVlfRestored dt mv => Sys2Proof.Machine.execEvLfVlfRestored dt mv s
  | .evLfOvertemp dt temp => Sys2Proof.Machine.execEvLfOvertemp dt temp s
  | .evLfOvertempClear dt temp => Sys2Proof.Machine.execEvLfOvertempClear dt temp s
  | .evCoilDumpDone dt n => Sys2Proof.Machine.execEvCoilDumpDone dt n s
  | .evCoilDumpTimeout dt n => Sys2Proof.Machine.execEvCoilDumpTimeout dt n s
  | .evLfNoiseTrip dt noise us coherent => Sys2Proof.Machine.execEvLfNoiseTrip dt noise us coherent s
  | .rgLfCarrierWrite dt value => Sys2Proof.Machine.execRgLfCarrierWrite dt value s
  | .rgLfRetune dt value => Sys2Proof.Machine.execRgLfRetune dt value s
  | .rgLfFaultClear dt value => Sys2Proof.Machine.execRgLfFaultClear dt value s
  | .evSynthLockLost dt => Sys2Proof.Machine.execEvSynthLockLost dt s
  | .evSynthCalDone dt ok c => Sys2Proof.Machine.execEvSynthCalDone dt ok c s
  | .evBgCalSlice dt k ending bad => Sys2Proof.Machine.execEvBgCalSlice dt k ending bad s
  | .evBgCalOverdue dt k => Sys2Proof.Machine.execEvBgCalOverdue dt k s
  | .evCoexGntChange dt level => Sys2Proof.Machine.execEvCoexGntChange dt level s
  | .evCoexWaitLapse dt => Sys2Proof.Machine.execEvCoexWaitLapse dt s
  | .evUwbFrameRx dt rx => Sys2Proof.Machine.execEvUwbFrameRx dt rx s
  | .evUwbResponseTx dt tx => Sys2Proof.Machine.execEvUwbResponseTx dt tx s
  | .evUwbWindowOpen dt tx => Sys2Proof.Machine.execEvUwbWindowOpen dt tx s
  | .evUwbFinalTx dt tx => Sys2Proof.Machine.execEvUwbFinalTx dt tx s
  | .evUwbDisturbed dt floor us clip => Sys2Proof.Machine.execEvUwbDisturbed dt floor us clip s
  | .evTscWrap dt => Sys2Proof.Machine.execEvTscWrap dt s
  | .rgRngTscLoRead dt => Sys2Proof.Machine.execRgRngTscLoRead dt s
  | .evUhfPreambleDetect dt lane err => Sys2Proof.Machine.execEvUhfPreambleDetect dt lane err s
  | .evUhfTelegramRx dt rx runUs => Sys2Proof.Machine.execEvUhfTelegramRx dt rx runUs s
  | .evUhfDisturbanceMark dt power runUs => Sys2Proof.Machine.execEvUhfDisturbanceMark dt power runUs s
  | .evUhfSynthCalDone dt ok temp => Sys2Proof.Machine.execEvUhfSynthCalDone dt ok temp s
  | .evSniffPeriod dt => Sys2Proof.Machine.execEvSniffPeriod dt s
  | .evSniffListenEnd synced => Sys2Proof.Machine.execEvSniffListenEnd synced s
  | .evNfcExtListenEnd dt strength => Sys2Proof.Machine.execEvNfcExtListenEnd dt strength s
  | .evNfcGuardEnd dt => Sys2Proof.Machine.execEvNfcGuardEnd dt s
  | .evNfcReplyRx dt rx => Sys2Proof.Machine.execEvNfcReplyRx dt rx s
  | .evNfcDisturbed dt rise us => Sys2Proof.Machine.execEvNfcDisturbed dt rise us s
  | .evTagFieldArrive dt writeLevel => Sys2Proof.Machine.execEvTagFieldArrive dt writeLevel s
  | .evTagFieldLoss weak => Sys2Proof.Machine.execEvTagFieldLoss weak s
  | .evTagFieldAbsentTimeout dt => Sys2Proof.Machine.execEvTagFieldAbsentTimeout dt s
  | .evTagReqa dt => Sys2Proof.Machine.execEvTagReqa dt s
  | .evTagWupa dt => Sys2Proof.Machine.execEvTagWupa dt s
  | .evTagHlta dt => Sys2Proof.Machine.execEvTagHlta dt s
  | .evTagAnticollision dt nbits known => Sys2Proof.Machine.execEvTagAnticollision dt nbits known s
  | .evTagSelect dt uid => Sys2Proof.Machine.execEvTagSelect dt uid s
  | .evTagGetInfo dt body => Sys2Proof.Machine.execEvTagGetInfo dt body s
  | .evTagRead dt body => Sys2Proof.Machine.execEvTagRead dt body s
  | .evTagWrite dt body => Sys2Proof.Machine.execEvTagWrite dt body s
  | .evTagGetChallenge dt body => Sys2Proof.Machine.execEvTagGetChallenge dt body s
  | .evTagAuth dt body => Sys2Proof.Machine.execEvTagAuth dt body s
  | .evTagUnknownCmd dt => Sys2Proof.Machine.execEvTagUnknownCmd dt s
  | .evStoreBlockWriteDone dt => Sys2Proof.Machine.execEvStoreBlockWriteDone dt s
  | .evTagVddRise vio => Sys2Proof.Machine.execEvTagVddRise vio s
  | .evTagVddFall vio => Sys2Proof.Machine.execEvTagVddFall vio s
  | .evFieldWakeEnd dt => Sys2Proof.Machine.execEvFieldWakeEnd dt s
  | .rgNfcTagWcmd dt value => Sys2Proof.Machine.execRgNfcTagWcmd dt value s
  | .rgNfcTagCtrl dt value => Sys2Proof.Machine.execRgNfcTagCtrl dt value s
  | .rgNfcTagJack dt value => Sys2Proof.Machine.execRgNfcTagJack dt value s
  | .evEvdPostMsLapse dt => Sys2Proof.Machine.execEvEvdPostMsLapse dt s
  | .evEvdRearmLapse dt => Sys2Proof.Machine.execEvEvdRearmLapse dt s
  | .evStartEdge dt ch rawA rawB => Sys2Proof.Machine.execEvStartEdge dt ch rawA rawB s
  | .evStartDiscLimit dt rawA rawB => Sys2Proof.Machine.execEvStartDiscLimit dt rawA rawB s
  | .rgStartFaultClear dt value => Sys2Proof.Machine.execRgStartFaultClear dt value s
  | .rgTenTimeWrite dt value => Sys2Proof.Machine.execRgTenTimeWrite dt value s
  | .rgTenLifeCfgWrite dt value => Sys2Proof.Machine.execRgTenLifeCfgWrite dt value s
  | .evLifeRecompute dt => Sys2Proof.Machine.execEvLifeRecompute dt s
  | .evTenantLockoutEnd dt t => Sys2Proof.Machine.execEvTenantLockoutEnd dt t s
  | .evLearnLockoutEnd dt => Sys2Proof.Machine.execEvLearnLockoutEnd dt s
  | .evLearnWindowAge dt => Sys2Proof.Machine.execEvLearnWindowAge dt s
  | .evReleaseRepeat dt => Sys2Proof.Machine.execEvReleaseRepeat dt s
  | .evCanFrameAck dt => Sys2Proof.Machine.execEvCanFrameAck dt s
  | .evCanAttemptFail dt ackError => Sys2Proof.Machine.execEvCanAttemptFail dt ackError s
  | .evReleaseWindowLapse dt => Sys2Proof.Machine.execEvReleaseWindowLapse dt s
  | .evFreshReserveDone dt top ok => Sys2Proof.Machine.execEvFreshReserveDone dt top ok s
  | .evRelHalfPeriod dt readA readB => Sys2Proof.Machine.execEvRelHalfPeriod dt readA readB s
  | .evCanbBusoff dt => Sys2Proof.Machine.execEvCanbBusoff dt s
  | .evCanbBusoffRecover dt => Sys2Proof.Machine.execEvCanbBusoffRecover dt s
  | .evTamperQualified dt src => Sys2Proof.Machine.execEvTamperQualified dt src s
  | .evZapEraseDone dt => Sys2Proof.Machine.execEvZapEraseDone dt s
  | .evEntropyBlock dt raw unbal => Sys2Proof.Machine.execEvEntropyBlock dt raw unbal s
  | .evDrbgWaitLapse dt l => Sys2Proof.Machine.execEvDrbgWaitLapse dt l s
  | .evMaskRekey dt => Sys2Proof.Machine.execEvMaskRekey dt s
  | .evShareRefresh dt => Sys2Proof.Machine.execEvShareRefresh dt s
  | .evScanEnable dt test zero => Sys2Proof.Machine.execEvScanEnable dt test zero s
  | .evPowerOnReset dt caddr fuse => Sys2Proof.Machine.execEvPowerOnReset dt caddr fuse s
  | .evBrownOut dt caddr loss => Sys2Proof.Machine.execEvBrownOut dt caddr loss s
  | .evRstnReset dt us caddr fuse => Sys2Proof.Machine.execEvRstnReset dt us caddr fuse s
  | .evColdStartBistDone dt b marks failed kat sram halt => Sys2Proof.Machine.execEvColdStartBistDone dt b marks failed kat sram halt s
  | .evOtpReread dt temp reads => Sys2Proof.Machine.execEvOtpReread dt temp reads s
  | .evActivateColdReset dt => Sys2Proof.Machine.execEvActivateColdReset dt s
  | .evNvmOperationDone dt ok sector fuse => Sys2Proof.Machine.execEvNvmOperationDone dt ok sector fuse s
  | .evOspiBlockChecked dt ch block tag => Sys2Proof.Machine.execEvOspiBlockChecked dt ch block tag s
  | .evFaultDetected dt kind index addr extra => Sys2Proof.Machine.execEvFaultDetected dt kind index addr extra s
  | .evEngineStall dt engine => Sys2Proof.Machine.execEvEngineStall dt engine s
  | .evPipeStall dt half => Sys2Proof.Machine.execEvPipeStall dt half s
  | .evDmaStall dt ch => Sys2Proof.Machine.execEvDmaStall dt ch s
  | .evDomainRiseTimeout dt d => Sys2Proof.Machine.execEvDomainRiseTimeout dt d s
  | .evRecoveryEnd dt => Sys2Proof.Machine.execEvRecoveryEnd dt s
  | .evRecoveryOverrun dt => Sys2Proof.Machine.execEvRecoveryOverrun dt s
  | .evSafeHold dt b => Sys2Proof.Machine.execEvSafeHold dt b s
  | .evEventRecordWrite dt => Sys2Proof.Machine.execEvEventRecordWrite dt s
  | .rgFltLatchedFree dt value => Sys2Proof.Machine.execRgFltLatchedFree dt value s
  | .evGalRoundStart dt => Sys2Proof.Machine.execEvGalRoundStart dt s
  | .evGalBeaconRx dt beacon => Sys2Proof.Machine.execEvGalBeaconRx dt beacon s
  | .evGalSlotTx dt k => Sys2Proof.Machine.execEvGalSlotTx dt k s
  | .evGalJoinTx dt => Sys2Proof.Machine.execEvGalJoinTx dt s
  | .evGalFrameRx dt slot bits guard frame => Sys2Proof.Machine.execEvGalFrameRx dt slot bits guard frame s
  | .evGalPrepareRx dt unit => Sys2Proof.Machine.execEvGalPrepareRx dt unit s
  | .evGalGrantRx dt unit => Sys2Proof.Machine.execEvGalGrantRx dt unit s
  | .evGalPartRx dt unit => Sys2Proof.Machine.execEvGalPartRx dt unit s
  | .evGalResultRx dt src unit => Sys2Proof.Machine.execEvGalResultRx dt src unit s
  | .evGalModeReplyRx dt src unit => Sys2Proof.Machine.execEvGalModeReplyRx dt src unit s
  | .evGalJoinRx dt src unit => Sys2Proof.Machine.execEvGalJoinRx dt src unit s
  | .evGalResend dt seq => Sys2Proof.Machine.execEvGalResend dt seq s
  | .evPartKeepExpire dt => Sys2Proof.Machine.execEvPartKeepExpire dt s
  | .evNodeLossExpire dt n => Sys2Proof.Machine.execEvNodeLossExpire dt n s
  | .evBeaconLossExpire dt => Sys2Proof.Machine.execEvBeaconLossExpire dt s
  | .evGhushFall dt => Sys2Proof.Machine.execEvGhushFall dt s
  | .evGhushRise dt => Sys2Proof.Machine.execEvGhushRise dt s
  | .evGhushHoldEnd dt => Sys2Proof.Machine.execEvGhushHoldEnd dt s
  | .rgGalCtrlResume dt value => Sys2Proof.Machine.execRgGalCtrlResume dt value s
  | .evCascadeListenEnd dt => Sys2Proof.Machine.execEvCascadeListenEnd dt s
  | .evCascadeJoinTimeout dt => Sys2Proof.Machine.execEvCascadeJoinTimeout dt s
  | .evModeChangeEnd dt => Sys2Proof.Machine.execEvModeChangeEnd dt s
  | .evRefinQualifyChange dt qualifies => Sys2Proof.Machine.execEvRefinQualifyChange dt qualifies s
  | .rgPwrReq dt value => Sys2Proof.Machine.execRgPwrReq dt value s
  | .evPwrEntryDone dt => Sys2Proof.Machine.execEvPwrEntryDone dt s
  | .evWakeTimerLapse dt => Sys2Proof.Machine.execEvWakeTimerLapse dt s
  | .evWakeFieldDetect dt => Sys2Proof.Machine.execEvWakeFieldDetect dt s
  | .evWakeComplete dt b => Sys2Proof.Machine.execEvWakeComplete dt b s
  | .evRootLockLost dt => Sys2Proof.Machine.execEvRootLockLost dt s
  | .evSlowCalibrate dt err => Sys2Proof.Machine.execEvSlowCalibrate dt err s
  | .evDomainRiseDone dt d => Sys2Proof.Machine.execEvDomainRiseDone dt d s
  | .evDomainFallDone dt d => Sys2Proof.Machine.execEvDomainFallDone dt d s
  | .evTimerCompare dt k => Sys2Proof.Machine.execEvTimerCompare dt k s
  | .evTimerWrap dt k => Sys2Proof.Machine.execEvTimerWrap dt k s
  | .evTimerTrigger dt k => Sys2Proof.Machine.execEvTimerTrigger dt k s
  | .evUhfPreambleLost dt lane runUs => Sys2Proof.Machine.execEvUhfPreambleLost dt lane runUs s
  | .evBistRunDone dt marks failed kat sram tunes coils => Sys2Proof.Machine.execEvBistRunDone dt marks failed kat sram tunes coils s

end Sys2Proof.Machine
end

