-- ==== Sys2Proof/Safety.lean ====
section
/-! DEFINITION. What a safe run keeps, in the terms the statements use: canonical memories, the credit ledger (R30), votes honoured by
the power domains (R489, R490), internal votes that follow their units (R488). -/

namespace Sys2Proof.Machine

open Sys2Proof

/-- Every addressed memory of the part has its canonical form. -/
def State.memWf (s : State) : Bool :=
  s.host.pages.wf && s.halls.pool.wf && s.halls.cir.wf && s.halls.shared.wf && s.verdict.half0.wf && s.verdict.half1.wf
  && s.life.banks.toList.all fun b => b.image.wf

/-- The ledger of a queue: host credits, accepted and not completed, completed and not released add up to 64 (R30). The epoch-close
record that is not posted yet holds one credit of SQ0 (R47). -/
def State.creditLedger (s : State) (q : Nat) : Prop :=
  vget s.host.credits q 0 + s.host.accepted q + s.host.unreleased q + (if q = 0 ∧ s.power.booting.isSome then 1 else 0) = 64

/-- A vote stands on domain d, as R489 counts votes. -/
def State.votedOn (s : State) (d : Nat) : Bool := voted s.power.votes s.bist.unus d

/-- What a domain's state says of the votes on it: up and deferred domains are voted, a falling one that does not wait to rise is
not (R489, R490). -/
def Dom.honours (v : Bool) : Dom → Prop
  | .down => True
  | .rising _ => True
  | .up => v = true
  | .falling _ none => v = false
  | .falling _ (some _) => v = true

/-- While the device is awake or waking every domain honours the votes on it: none is up without a vote, and none falls for good under
one. -/
def State.votesHonoured (s : State) : Prop :=
  s.power.mode = .awake ∨ s.power.waking = true → ∀ d < 50, (s.dom d).honours (s.votedOn d)

/-- The voters of the engines, the DMA engine, the NVM controller and BIST vote exactly while their units work (R488). -/
def State.unitVotesFollow (s : State) : Prop :=
  s.live = true →
    s.vote voterDma = (if !s.dma.waiting.isEmpty || s.dma.chans.toList.any (·.active) then 2 ^ 49 else 0)
    ∧ s.vote voterNvm = (if s.nvmWork then 2 ^ 46 else 0)
    ∧ s.vote voterBist = (if s.bist.running then bistDomains s.bist.scope else 0)
    ∧ s.vote voterPka = (if s.engineWork 4 || s.engineWork 9 then 2 ^ 42 else 0)
    ∧ s.vote voterKdf = (if s.engineWork 5 || s.engineWork 10 then 2 ^ 43 else 0)
    ∧ ∀ e < 4, s.vote (voterAes + e) = (if s.engineWork e then 2 ^ (40 + e / 2) else 0)

end Sys2Proof.Machine
end

