-- ==== Sys2Proof/Terms.lean ====
section
/-! DEFINITION. Terms of the statements: when a step, an item, a frame or an event is about to act, and the shapes of the statements that
several commands share. -/

namespace Sys2Proof.Machine

open Sys2Proof

/-! ### Steps -/

/-- Landing l is about to execute the step k with the fields f: the units act, a pipe serves the landing, and its step address holds
that step (R49, R59, R111). -/
def State.atStep (s : State) (l : Nat) (k : Step) (f : StepWord) : Bool :=
  s.live && s.canStep l && s.fetch l == some f && f.step == some k

/-- As atStep, and the condition of the step passes (R53). -/
def State.doesStep (s : State) (l : Nat) (k : Step) (f : StepWord) : Bool :=
  s.atStep l k f && condPasses f.cond (s.land l).flags

/-- Words a step takes (R49, R65). -/
def StepWord.words (f : StepWord) : Nat := if f.ext then 2 else 1

/-- Operand B as R65 gives it, as a word. -/
def Landing.opB (x : Landing) (f : StepWord) (ext : Nat) : Word :=
  match bits f.imm 13 12 with
  | 2 => (BitVec.ofNat 12 f.imm).signExtend 32
  | 3 => BitVec.ofNat 32 ext
  | _ => x.reg (f.imm % 16)

/-- What an arithmetic and logic step leaves of its landing: the result in gD, Z and N from it, C and V as given, and the step address
past the step (R51, R52, R65). -/
def Landing.withAlu (x : Landing) (f : StepWord) (r : Word) (c v : Bool) : Landing :=
  { x.setReg f.d r with flags := { x.flags with z := r == 0, n := r.msb, c := c, v := v }, pc := x.pc + f.words }

/-- As withAlu for a compare step: no register is written. -/
def Landing.withCompare (x : Landing) (f : StepWord) (r : Word) (c v : Bool) : Landing :=
  { x with flags := { x.flags with z := r == 0, n := r.msb, c := c, v := v }, pc := x.pc + f.words }

/-- The step address moves past the step, and nothing else of the landing changes. -/
def Landing.past (x : Landing) (f : StepWord) : Landing := { x with pc := x.pc + f.words }

/-- The exact signed sum of two words and a small number does not fit 32 bits. -/
def signedOver (i : Int) : Bool := decide (i < -2147483648) || decide (2147483647 < i)

/-- A step command answers the next state in which r says what the step did; r is given the state that has counted the step. -/
def StepDoes (c : Nat → Nat → Instr) (k : Step) (r : State → Nat → StepWord → State) : Prop :=
  ∀ (dt l : Nat) (s : State) (f : StepWord), (s.tick dt).doesStep l k f = true →
    exec (c dt l) s = .next (settle (r ((s.tick dt).countStep l) l f))

/-- An arithmetic and logic step: g gives result, C and V from the landing, gS and B. -/
def AluDoes (c : Nat → Nat → Instr) (k : Step) (g : Landing → Word → Word → Word × Bool × Bool) : Prop :=
  StepDoes c k fun u l f =>
    let x := u.land l
    let r := g x (x.reg f.s) (x.opB f (u.fetchExt l))
    u.setLand l (x.withAlu f r.1 r.2.1 r.2.2)

/-- A compare step. -/
def CompareDoes (c : Nat → Nat → Instr) (k : Step) (g : Landing → Word → Word → Word × Bool × Bool) : Prop :=
  StepDoes c k fun u l f =>
    let x := u.land l
    let r := g x (x.reg f.s) (x.opB f (u.fetchExt l))
    u.setLand l (x.withCompare f r.1 r.2.1 r.2.2)

/-- A step with a check: it answers r's state where the check passes, and the step fault that the check names otherwise (R62). -/
def StepChecks (c : Nat → Nat → Instr) (k : Step) (chk : State → Nat → StepWord → Option StepFault)
    (r : State → Nat → StepWord → State) : Prop :=
  ∀ (dt l : Nat) (s : State) (f : StepWord), (s.tick dt).doesStep l k f = true →
    (chk ((s.tick dt).countStep l) l f = none →
      exec (c dt l) s = .next (settle (r ((s.tick dt).countStep l) l f))) ∧
    (∀ e, chk ((s.tick dt).countStep l) l f = some e →
      exec (c dt l) s = .next (settle (((s.tick dt).countStep l).stepFault l e f.op)))

/-- The step that a command names, with its time and landing; none for commands that are no steps. -/
def stepOf : Instr → Option (Nat × Nat × Step)
  | .stMov dt l => some (dt, l, .mov) | .stAdd dt l => some (dt, l, .add) | .stSub dt l => some (dt, l, .sub)
  | .stMul dt l => some (dt, l, .mul) | .stAnd dt l => some (dt, l, .and) | .stOr dt l => some (dt, l, .or)
  | .stXor dt l => some (dt, l, .xor) | .stShl dt l => some (dt, l, .shl) | .stShr dt l => some (dt, l, .shr)
  | .stSar dt l => some (dt, l, .sar) | .stCmp dt l => some (dt, l, .cmp) | .stTst dt l => some (dt, l, .tst)
  | .stAdc dt l => some (dt, l, .adc) | .stSbc dt l => some (dt, l, .sbc) | .stBfx dt l => some (dt, l, .bfx)
  | .stMhu dt l => some (dt, l, .mhu) | .stLdw dt l => some (dt, l, .ldw) | .stLdhu dt l => some (dt, l, .ldhu)
  | .stLdbu dt l => some (dt, l, .ldbu) | .stLdhs dt l => some (dt, l, .ldhs) | .stStw dt l => some (dt, l, .stw)
  | .stSth dt l => some (dt, l, .sth) | .stStb dt l => some (dt, l, .stb) | .stSwapw dt l => some (dt, l, .swapw)
  | .stJmp dt l => some (dt, l, .jmp) | .stBr dt l => some (dt, l, .br) | .stCall dt l => some (dt, l, .call)
  | .stRet dt l => some (dt, l, .ret) | .stWait dt l => some (dt, l, .wait) | .stYield dt l => some (dt, l, .yield)
  | .stEnd dt l => some (dt, l, .end_) | .stLtset dt l => some (dt, l, .ltset) | .stLtread dt l => some (dt, l, .ltread)
  | .stLtstop dt l => some (dt, l, .ltstop) | .stTmread dt l => some (dt, l, .tmread)
  | .stAirClaim dt l => some (dt, l, .airClaim) | .stAirRelease dt l => some (dt, l, .airRelease)
  | .stAesk dt l => some (dt, l, .aesk) | .stAesx dt l => some (dt, l, .aesx) | .stDerive dt l => some (dt, l, .derive)
  | .stDrbg dt l => some (dt, l, .drbg) | .stMacv dt l => some (dt, l, .macv) | .stFuse dt l => some (dt, l, .fuse)
  | .stJudge dt l => some (dt, l, .judge) | .stTload dt l => some (dt, l, .tload) | .stTpass dt l => some (dt, l, .tpass)
  | .stTfail dt l => some (dt, l, .tfail) | .stRelopen dt l => some (dt, l, .relopen)
  | .stRelhold dt l => some (dt, l, .relhold) | .stRelclose dt l => some (dt, l, .relclose)
  | .stBanister dt l => some (dt, l, .banister) | .stNewel dt l => some (dt, l, .newel)
  | .stEvtrig dt l => some (dt, l, .evtrig) | .stGsend dt l => some (dt, l, .gsend) | .stGwait dt l => some (dt, l, .gwait)
  | .stLftx dt l _ => some (dt, l, .lftx) | .stLfrx dt l => some (dt, l, .lfrx)
  | .stUwbpoll dt l _ _ _ => some (dt, l, .uwbpoll) | .stUwbresp dt l _ _ _ => some (dt, l, .uwbresp)
  | .stUwbfinal dt l _ _ _ => some (dt, l, .uwbfinal) | .stUhfrx dt l _ => some (dt, l, .uhfrx)
  | .stUhftx dt l _ _ => some (dt, l, .uhftx) | .stNfcx dt l => some (dt, l, .nfcx)
  | .stNfctree dt l => some (dt, l, .nfctree)
  | _ => none

/-- The transfer target of a control step is a step of the code: R62 PC_RANGE otherwise. -/
def State.targetCheck (u : State) (l : Nat) (t : Int) : Option StepFault :=
  match codeSteps (u.codeOf l) with
  | some as => if 0 ≤ t ∧ t.toNat ∈ as then none else some .pcRange
  | none => some .pcRange

/-- gS plus IMM on 32 bits: the target of JMP and CALL. -/
def Landing.jumpTarget (x : Landing) (f : StepWord) : Nat := ((x.reg f.s).toNat + f.imm) % 2 ^ 32

/-- Outcome c with nothing else in gD, Z set from it, and the step past (R60). -/
def Landing.answers (x : Landing) (d : Nat) (c : Code) : Landing :=
  { x.setReg d (BitVec.ofNat 32 c.num) with flags := { x.flags with z := c == .ok }, pc := x.pc + 1 }

/-- The landing waits with w, at the same step address, and no pipe serves it (R59, R111). -/
def State.waits (t : State) (l : Nat) (w : Wait) : Prop :=
  (t.land l).wait = w ∧ ∀ p ∈ t.sched.pipes.toList, p.serving ≠ some l

/-- The landing keeps registers, flags, timers, handles, latches and step address. -/
def Landing.sameContext (x y : Landing) : Prop :=
  y.regs = x.regs ∧ y.flags = x.flags ∧ y.pc = x.pc ∧ y.lts = x.lts ∧ y.handles = x.handles ∧ y.proof = x.proof ∧
  y.relok = x.relok ∧ y.tenant = x.tenant ∧ y.fuse = x.fuse ∧ y.staged = x.staged

/-- Every other landing is as before. -/
def State.othersKeep (s t : State) (l : Nat) : Prop := ∀ m, m ≠ l → t.land m = s.land m

/-! ### Field steps -/

/-- The field step that a command issues, with its time, its landing and what it asks of its block (R72, R76). -/
def fieldSpecOf : Instr → Option (Nat × Nat × FieldSpec)
  | .stLftx dt l _ => some (dt, l, lftxSpec) | .stLfrx dt l => some (dt, l, lfrxSpec)
  | .stUwbpoll dt l _ _ _ => some (dt, l, uwbSpec .uwbpoll .uwbpoll)
  | .stUwbresp dt l _ _ _ => some (dt, l, uwbSpec .uwbresp .uwbresp)
  | .stUwbfinal dt l _ _ _ => some (dt, l, uwbSpec .uwbfinal .uwbfinal)
  | .stUhfrx dt l _ => some (dt, l, uhfrxSpec) | .stUhftx dt l _ _ => some (dt, l, uhftxSpec)
  | .stNfcx dt l => some (dt, l, nfcxSpec) | .stNfctree dt l => some (dt, l, nfctreeSpec)
  | _ => none

/-- What a field step captures at issue: its block, its frame content, the instant, its window (R72, R74, R75). -/
def State.jobAt (u : State) (l : Nat) (sp : FieldSpec) (f : StepWord) : FieldJob :=
  let base := hallAddr f (u.land l)
  let blk := u.hallRead l 1 base sp.blkLen
  { kind := sp.kind, d := f.d, base := base, blk := blk, frame := u.hallRead l 1 (sp.frame blk).1 (sp.frame blk).2
    issued := u.now, window := blkWindow sp.kind blk, resLen := sp.resLen blk, started := none, srcs := 0, fin := none }

/-- The field step passes its checks: no unit of it lies in a recovery's set, its block, result area and fields are good, its grant is
open and not suspended, no open exchange of the grant is over, and fewer than four disturbed runs stand (R73, R74, R76, R118, R420). -/
def State.fieldMayRun (u : State) (l : Nat) (sp : FieldSpec) (f : StepWord) (g : Grant) : Bool :=
  (u.setUnits &&& sp.kind.units == 0) && (u.fieldFault l sp (hallAddr f (u.land l))).isNone
  && u.air.grantOf l sp.kind.res == some g && !g.suspended && (g.exch.elim true fun e => !e.over u.now)
  && (u.fieldFault2 l sp (u.jobAt l sp f).blk).isNone && decide (g.run sp.kind < 4)

/-- A field step begins where its checks pass and ok holds: the landing waits with its job, keeps its context and memory, and the unit is
as did says. -/
def FieldBegins (c : Nat → Nat → Instr) (sp : FieldSpec) (ok : State → Nat → FieldJob → Prop)
    (did : State → State → Nat → FieldJob → Prop) : Prop :=
  ∀ (dt l : Nat) (s : State) (f : StepWord) (g : Grant), (s.tick dt).doesStep l sp.step f = true →
    let u := (s.tick dt).countStep l
    let j := u.jobAt l sp f
    u.fieldMayRun l sp f g = true → ok u l j →
    ∃ t k, exec (c dt l) s = .next (settle t) ∧ t.waits l (.field k) ∧ k.kind = j.kind ∧ k.blk = j.blk ∧ k.frame = j.frame ∧
      k.issued = j.issued ∧ k.window = j.window ∧ k.d = j.d ∧ k.resLen = j.resLen ∧ k.srcs = 0 ∧
      (u.land l).sameContext (t.land l) ∧ u.othersKeep t l ∧ t.halls = u.halls ∧ t.host = u.host ∧ did u t l j

/-- The state as LFTX judges it: at the die temperature of its issue (R150). -/
def State.lfAt (u : State) (temp : Int) : State := { u with dieTemp := temp }

/-- What the front-end holds once a UWB step has begun: its channel and frame, no background slice, no overdue calibration (R168, R176, R184,
R185). -/
def uwbBegan (u t : State) (l : Nat) (j : FieldJob) : Prop :=
  ∃ r, t.uwb.run = some r ∧ r.land = l ∧ r.step = j.kind ∧ r.ch = uwbCh j.blk ∧ r.kind = uwbKind j.blk ∧ r.session = uwbSession j.blk ∧
    r.out = u.uwbFrame l j.kind j.blk j.frame ∧ r.chips = u.rng.ownChips j.kind j.blk ∧ t.uwb.slice = none ∧ t.uwb.overdue = 0

/-! ### Crypto steps -/

/-- A crypto step has issued: the landing waits for the engine with the results k, queued in issue order or served at once (R346). -/
def cryptoWaits (u t : State) (l : Nat) (k : CryptoJob → Prop) : Prop :=
  (∃ j, (t.land l).wait = .crypto j ∧ k j) ∧ (u.land l).sameContext (t.land l) ∧ t.halls = u.halls

/-- A block step that an engine serves: its block is good, no ZAP has been performed, its key allows the use, and an engine of its set is
usable (R79, R80, R363, R370). -/
def State.blockOk (u : State) (l base n : Nat) (bad : List Byte → Bool) (ranges : List Byte → List (Nat × Nat × Nat)) (allowed : Bool)
    (needs : Nat) : Bool :=
  (u.blockFault l base n bad ranges).isNone && !u.zapped && allowed
  && (List.range 11).any fun e => needs.testBit e && u.engineUsable e

/-- Data ranges of a MACV block. -/
def macvRanges (b : List Byte) : List (Nat × Nat × Nat) :=
  [(fieldLE b 10 2, fieldLE b 12 2, permRd), (fieldLE b 14 2, fieldLE b 16 2, permRd), (fieldLE b 18 2, byteAt b 20, permRd)]

/-- Data ranges of a DERIVE block: label, context, and the peer's key in modes 1 and 2. -/
def deriveRanges (b : List Byte) : List (Nat × Nat × Nat) :=
  [(fieldLE b 12 2, fieldLE b 14 2, permRd), (fieldLE b 16 2, fieldLE b 18 2, permRd)]
  ++ (match byteAt b 8 with | 0 => [] | 1 => [(fieldLE b 20 2, 32, permRd)] | _ => [(fieldLE b 20 2, 64, permRd)])

/-- The handle may serve MACV (R80). -/
def macvAllowed (h : Handle) : Bool := h.engines &&& 15 != 0 && h.usage.testBit 3

/-- The handle may serve a DERIVE mode: KDF in mode 0, the public-key accelerator with an X25519 or a P-256 key in modes 1 and 2 (R80). -/
def deriveAllowed (h : Handle) (mode : Nat) : Bool :=
  h.usage.testBit 2 && (match mode with
    | 0 => h.engines.testBit 5
    | 1 => h.engines.testBit 4 && h.ktype == 4
    | _ => h.engines.testBit 4 && h.ktype == 2)

/-- A keyed step with a good block that its key does not allow answers KEY_POLICY, after a ZAP TAMPERED; a bad block is its fault. -/
def KeyedRefused (c : Nat → Nat → Instr) (k : Step) (bad : List Byte → Bool) (ranges : List Byte → List (Nat × Nat × Nat))
    (allowed : Landing → List Byte → Bool) : Prop :=
  ∀ (dt l : Nat) (s : State) (f : StepWord), (s.tick dt).doesStep l k f = true →
    let u := (s.tick dt).countStep l
    let x := u.land l
    let base := hallAddr f x
    (∀ e, u.blockFault l base 24 bad ranges = some e → exec (c dt l) s = .next (settle (u.stepFault l e f.op))) ∧
    (u.blockFault l base 24 bad ranges = none → u.zapped = true →
      exec (c dt l) s = .next (settle (u.setLand l (x.answers f.d .tampered)))) ∧
    (u.blockFault l base 24 bad ranges = none → u.zapped = false → allowed x (u.hallRead l 1 base 24) = false →
      exec (c dt l) s = .next (settle (u.setLand l (x.answers f.d .keyPolicy))))

/-! ### Events -/

/-- An event of the place k in the order of R556 occurs where ok holds while the units act and its turn is not over: it answers a next state
that did describes from the state in which it acts. -/
def EventDoes (c : Nat → Instr) (ok : State → Prop) (did : State → State → Prop) (k : Nat := rankUnit) : Prop :=
  ∀ (dt : Nat) (s : State), let u := (s.tick dt).act k
    u.live = true → (s.tick dt).inTurn k = true → ok u → ∃ t, exec (c dt) s = .next (settle t) ∧ did u t

/-- As EventDoes for events that do not ask for units that act: in sleep, in a reset, in a boot. -/
def EventAnyDoes (c : Nat → Instr) (ok : State → Prop) (did : State → State → Prop) (k : Nat := rankUnit) : Prop :=
  ∀ (dt : Nat) (s : State), let u := (s.tick dt).act k
    (s.tick dt).inTurn k = true → ok u → ∃ t, exec (c dt) s = .next (settle t) ∧ did u t

/-- The pipe p. -/
def State.pipe (s : State) (p : Nat) : Pipe := vget s.sched.pipes p Pipe.reset

/-- A landing's wait has ended with outcome c in gD: the step is past, nothing else in the registers (R60, R64). -/
def State.waitEnded (s t : State) (l d : Nat) (c : Code) : Prop :=
  (t.land l).wait = .none ∧ (t.land l).regs = ((s.land l).setReg d (BitVec.ofNat 32 c.num)).regs ∧
  (t.land l).flags = { (s.land l).flags with z := c == .ok } ∧ (t.land l).pc = (s.land l).pc + 1

/-- A field step of landing l has ended with outcome c, result byte 1 srcs: gD, Z, F and D as R60, R72 and R75 say, the step past, and the
first two bytes of its result area written; its time in use runs to `till`, or to now. -/
def State.fieldEnded (u t : State) (l : Nat) (j : FieldJob) (c : Code) (srcs : Nat) (till : Option Nat := none) : Prop :=
  let x := u.land l
  (t.land l).wait = .none ∧ (t.land l).pc = x.pc + 1 ∧
  (t.land l).regs = (x.setReg j.d (outcomeWord c.num srcs (min 65535 ((till.getD u.now - j.issued) / usT)))).regs ∧
  (t.land l).flags = { x.flags with z := c == .ok, f := c == .ok, d := c == .fieldDisturbed } ∧
  (∀ m, m ≠ l → (u.land m).sameContext (t.land m)) ∧
  (u.memWf = true → 8 ≤ j.resLen → t.hallRead l 1 (fieldLE j.blk 0 2) 2 = [BitVec.ofNat 8 c.num, BitVec.ofNat 8 srcs])

/-- The landing's field step is j and nothing has asked for the flight's end. -/
def State.inField (u : State) (l : Nat) (j : FieldJob) : Prop := l < 192 ∧ (u.land l).wait = .field j ∧ (u.land l).endReq = none

/-- A host frame is served now and takes its normal effect: the link is up, no entry is in preparation, no warm reset or fault halt
(R18, R424, R425, R481). -/
def State.frameOpen (u : State) : Bool := u.linkUp && u.power.entering.isNone && !u.frameHold

/-- A word may be written: no RO field, no illegal value, no run-time refusal (R26). -/
def State.wordOk (u : State) (off : Nat) (v : Word) : Bool := !u.badWords [(off, v.toNat)] && !u.regRefused off v.toNat

/-- A register row writes its register: the frame ends OK and the unit is as did says. -/
def RegisterDoes (c : Nat → Word → Instr) (off : Nat) (ok : State → Word → Prop) (did : State → Word → State → Prop) : Prop :=
  ∀ (dt : Nat) (v : Word) (s : State), let u := (s.tick dt).frameActs
    (s.tick dt).frameOpen = true → u.wordOk off v = true → ok u v →
    ∃ t, exec (c dt v) s = .next (settle t) ∧ t.host.lastErr = .ok ∧ t.host.items = u.host.items ∧ t.host.cq = u.host.cq ∧ did u v t

/-! ### The DMA engine -/

/-- A descriptor with the next bytes of its source behind it: they count as done, and stand in staging where that is the destination. -/
def Desc.took (d : Desc) (bs : List Byte) (now : Nat) : Desc :=
  { d with done := d.done + bs.length, buf := if d.dst = .stage then d.buf ++ bs else d.buf, lastGranule := now }

/-- Channel ch goes on with descriptor e, or ends it once all its bytes are done (R135). -/
def State.chanShows (u : State) (ch : Nat) (e : Desc) : State :=
  { u with dma := { u.dma with chans := vset u.dma.chans ch { u.dma.chan ch with
      desc := some e, active := decide (e.done < e.len), doneFlag := decide (e.len ≤ e.done) } } }

/-- The granule bs of descriptor d has come on channel ch: its bytes stand at the destination, and the descriptor goes on, or is done and
leads on to what it serves (R130, R135). -/
def State.granuleCame (u : State) (ch : Nat) (d : Desc) (bs : List Byte) : State :=
  let e := d.took bs u.now
  let v := (u.dmaWrite d bs).chanShows ch e
  if e.len ≤ e.done then v.descDone e else v

/-- An external block has passed its check: what the initialisation needs of it joins the bytes in staging, and the last one makes the move
into the hall wait (R408, R564). -/
def State.blockCame (u : State) (ch l : Nat) (d : Desc) (block : List Byte) : State :=
  let o := u.fetchAt l d
  let buf := d.buf ++ (sliceP block (o % 1024) (1024 - o % 1024)).take (d.len - d.buf.length)
  let e := { d with buf := buf, done := buf.length, lastGranule := u.now }
  let v := ({ u with life := u.life.fetched (o / 1024) true } : State).chanShows ch e
  if e.len ≤ e.done then
    { v with dma := { v.dma with waiting := u.dma.waiting ++ [{ e with srcKind := 6, dstKind := 1, src := .bytes buf, buf := [], done := 0 }] } }
  else v

/-- A descriptor runs on channel ch, and the units act in their turn, with no pause of a HUSH frame (R134, R556). -/
def State.moves (u : State) (ch : Nat) (d : Desc) : Prop :=
  u.live = true ∧ u.unhushed = true ∧ ch < 8 ∧ (u.dma.chan ch).active = true ∧ (u.dma.chan ch).desc = some d

/-! ### Frames of the host link -/

/-- A frame has changed nothing but its outcome, what it sent, the wake level of HIRQN, its place in the order of R556, the history of the
status words, and the counter of free values. -/
def framesOnly (u t : State) (c : Code) : Prop :=
  t = { u.frameActs with fresh := t.fresh, host := { u.host with wakeIrq := false, lastErr := c, hsdo := t.host.hsdo } }

/-- A frame answers a next state in which it has only an outcome. -/
def FrameRefused (i : Instr) (u : State) (s : State) (c : Code) : Prop := ∃ t, exec i s = .next (settle t) ∧ framesOnly u t c

/-- The payload of a frame that changes state: its bytes and the CRC over the command word and them (R14). -/
def framePayload (op target len : Nat) (d : List Byte) : List Byte := d ++ [crc8 (cmdBytes op target len ++ d)]

/-- A wake has begun with a source: V33 votes D30, D43 and D46, HIRQN is low unless a wake frame woke the device, and a sniff ends unless a
telegram is in reception (R252, R484, R486). -/
def State.wokeBy (u t : State) (source : Nat) : Prop :=
  t.power.waking = true ∧ t.power.wakeCause = u.power.wakeCause ||| 2 ^ source ∧ t.vote voterAwake = awakeMask ∧
  t.host.wakeIrq = (source != 0) ∧ t.power.wakes = (u.power.wakes + 1) % 65536 ∧ t.power.mode = u.power.mode ∧ t.landings = u.landings ∧
  t.uhf.sniff = u.uhf.sniff.filter fun n => !n.search.holds.isEmpty

/-! ### Items -/

/-- Item r is of the kind, is the next to start, and starts: the units act, its turn in the order of R556 is not over, and nothing makes it
wait (R33, R420, R512). -/
def State.opens (u : State) (r : ItemRec) (p : ItemRec → Bool) : Bool :=
  u.live && u.inTurn rankItem && u.nextItem == some r && p r

/-- The code that stops an item at its start: lifecycle, ROM mode and marked units first (R42, R43, R404), then its own checks in
order. -/
def State.itemCode (u : State) (r : ItemRec) (checks : List (Bool × Code)) : Code :=
  match u.itemGate r with | .ok => firstCode checks | c => c

/-- An item that a check stops ends with that code; one that passes every check has its effect. -/
def ItemDoes (c : Nat → Instr) (p : ItemRec → Bool) (checks : State → ItemRec → List (Bool × Code))
    (eff : State → ItemRec → State → Prop) : Prop :=
  ∀ (dt : Nat) (s : State) (r : ItemRec), (s.tick dt).opens r p = true →
    let u := (s.tick dt).startItem r.key
    (u.itemCode r (checks u r) ≠ .ok →
      exec (c dt) s = .next (settle (u.finish r.key (u.itemCode r (checks u r)) []))) ∧
    (u.itemCode r (checks u r) = .ok → ∃ t, exec (c dt) s = .next (settle t) ∧ eff u r t)

/-- A descriptor of the item has joined the queue of the DMA engine, and nothing else has changed (R135, R564). -/
def State.queuesMove (u t : State) (r : ItemRec) (src : DmaSrc) (dst : DmaDst) (srcOff dstOff len : Nat) : Prop :=
  ∃ d : Desc, t = { u with dma := { u.dma with waiting := u.dma.waiting ++ [d] } } ∧ d.job = .item r.key ∧ d.src = src ∧ d.dst = dst ∧
    d.srcOff = srcOff ∧ d.dstOff = dstOff ∧ d.len = len ∧ d.done = 0

/-- A durable operation of the item has joined the queue of NVM, and nothing else has changed (R389). -/
def State.queuesCommit (u t : State) (r : ItemRec) (data : List Byte) : Prop :=
  t = { u with life := { u.life with jobs := u.life.jobs ++ [.commit r.key 0 data] } }

/-- The item keeps one byte for when its bytes are staged: 1 when what must hold at its start did. -/
def State.kept (u : State) (r : ItemRec) (b : Bool) : State := u.keep r.key [if b then 1 else 0]

/-! ### The tag port -/

/-- The tag port acts in every power state: the command changes its state, as did says, and nothing else. -/
def TagDoes (c : Nat → Instr) (ok : State → Prop) (did : State → Tag → Prop) : Prop :=
  ∀ (dt : Nat) (s : State), let u := (s.tick dt).act rankUnit
    (s.tick dt).inTurn rankUnit = true → ok u → ∃ x, exec (c dt) s = .next (settle { u with tag := x }) ∧ did u x

/-- A tag command reaches the port in ACTIVE, and no wire-side write waits. -/
def Tag.served (t : Tag) : Bool := t.hears && t.mode == .active && t.wire.isEmpty

/-- The port answers and keeps its store, its state and its counters. -/
def Tag.says (t x : Tag) (bs : List Byte) : Prop := x = { t with resp := if t.mute then [] else bs, cmd := none, mute := false }

/-- The block path holds one write that has just started, of a block and its bytes; every block still reads as before (R267, R268). -/
def Tag.starts (t x : Tag) (now b : Nat) (bs : List Byte) (wire : Bool) : Prop :=
  (∃ w, x.path = [w] ∧ w.block = b ∧ w.bytes = bs ∧ w.wire = wire ∧ w.started = some now) ∧ ∀ c, x.block c = t.block c

/-! ### Resets and recoveries -/

/-- An epoch-closing reset has happened with a cause: a new epoch, empty queues, no flight, no grant, NVM banks kept, freshness on at its
reservation top (R29, R45, R46, R331). -/
def State.newEpoch (u t : State) (cause : Nat) : Prop :=
  t.power.booting = some cause ∧ t.host.epoch = BitVec.ofNat 16 ((u.host.epoch.toNat + 1) % 65536) ∧ t.epochStart = u.now ∧
  t.host.items = [] ∧ t.host.cq = [] ∧ (∀ q < 4, t.creditLedger q) ∧ (∀ l < 192, t.land l = Landing.free) ∧ t.air = Air.reset ∧
  t.life.banks = u.life.banks ∧ t.rel.next = u.rel.top ∧ t.dma = Dma.reset

/-- A recovery has begun for one fault: its cause and scope are all that it holds (R417, R418). -/
def State.recoversFrom (u t : State) (c : Cause) (sc : Scope) : Prop :=
  t.faults.mode = .recovery ∧ t.faults.causes = [c] ∧ t.faults.scopes = [sc] ∧ t.faults.opened = u.now ∧
  t.faults.recoveries = (u.faults.recoveries + 1) % 65536

/-- A warm reset has begun: every domain is down, but that of an LF pair that dumps, which falls; grants are gone, the host's votes stand
(R155, R423). -/
def State.warmBegun (u t : State) : Prop :=
  t.faults.mode = .warm ∧ t.faults.warms = (u.faults.warms + 1) % 256 ∧
  (∀ d < 50, t.dom d = .down ∨ (35 ≤ d ∧ d < 39 ∧ t.dom d = .falling u.now none)) ∧ t.air = Air.reset ∧
  (∀ v < 32, t.vote v = u.vote v) ∧ t.host.credits = u.host.credits ∧ t.rel.relA = false ∧ t.rel.relB = false

/-- Fewer than two warm resets lie within the last 1,000 ms. -/
def State.fewWarms (u : State) : Prop := (u.faults.warmAt.filter fun t => decide (u.now ≤ t + 1000 * msT)).length < 2

end Sys2Proof.Machine
end

