-- ==== Sys2Proof/Certificates/Slice0/Obligations.lean ====
section
/-! DEFINITION. The statements for the provers. Each docstring names the rules that its clauses rest on; a clause states the case that it
spells out and no more of a rule. A clause that rests on a choice of the model names its log entry. -/

open Sys2Proof Sys2Proof.Machine

/-! ### Steps of a flight -/

/-- R65, R66: sums, differences and the compare that subtracts. C is the carry out, and for a subtraction 1 means no borrow. -/
def Obligations.SumSteps : Prop :=
  AluDoes .stAdd .add (fun _ a b => (a + b, decide (2 ^ 32 ≤ a.toNat + b.toNat), signedOver (a.toInt + b.toInt))) ∧
  AluDoes .stAdc .adc (fun x a b => (a + b + BitVec.ofNat 32 (b2n x.flags.c), decide (2 ^ 32 ≤ a.toNat + b.toNat + b2n x.flags.c),
    signedOver (a.toInt + b.toInt + b2n x.flags.c))) ∧
  AluDoes .stSub .sub (fun _ a b => (a - b, decide (b ≤ a), signedOver (a.toInt - b.toInt))) ∧
  AluDoes .stSbc .sbc (fun x a b => (a - b - BitVec.ofNat 32 (1 - b2n x.flags.c), decide (b.toNat + (1 - b2n x.flags.c) ≤ a.toNat),
    signedOver (a.toInt - b.toInt - (1 - b2n x.flags.c : Nat)))) ∧
  CompareDoes .stCmp .cmp (fun _ a b => (a - b, decide (b ≤ a), signedOver (a.toInt - b.toInt)))

/-- R65: the move, the logic steps and the products; C and V stay. -/
def Obligations.LogicSteps : Prop :=
  StepDoes .stMov .mov (fun u l f => u.setLand l (((u.land l).setReg f.d ((u.land l).opB f (u.fetchExt l))).past f)) ∧
  AluDoes .stAnd .and (fun x a b => (a &&& b, x.flags.c, x.flags.v)) ∧
  AluDoes .stOr .or (fun x a b => (a ||| b, x.flags.c, x.flags.v)) ∧
  AluDoes .stXor .xor (fun x a b => (a ^^^ b, x.flags.c, x.flags.v)) ∧
  CompareDoes .stTst .tst (fun x a b => (a &&& b, x.flags.c, x.flags.v)) ∧
  AluDoes .stMul .mul (fun x a b => (a * b, x.flags.c, x.flags.v)) ∧
  AluDoes .stMhu .mhu (fun x a b => (((a.setWidth 64 * b.setWidth 64).extractLsb' 32 32), x.flags.c, x.flags.v))

/-- R65, R66: shifts by B [4:0] and the bit field; a shift of 0 leaves C. -/
def Obligations.ShiftSteps : Prop :=
  AluDoes .stShl .shl (fun x a b => (a <<< (b.toNat % 32), if b.toNat % 32 = 0 then x.flags.c else a.getLsbD (32 - b.toNat % 32),
    x.flags.v)) ∧
  AluDoes .stShr .shr (fun x a b => (a >>> (b.toNat % 32), if b.toNat % 32 = 0 then x.flags.c else a.getLsbD (b.toNat % 32 - 1),
    x.flags.v)) ∧
  AluDoes .stSar .sar (fun x a b => (a.sshiftRight (b.toNat % 32),
    if b.toNat % 32 = 0 then x.flags.c else a.getLsbD (b.toNat % 32 - 1), x.flags.v)) ∧
  AluDoes .stBfx .bfx (fun x a b => ((a >>> (b.toNat % 32)) &&& BitVec.ofNat 32 (2 ^ (b.toNat / 32 % 32 + 1) - 1),
    x.flags.c, x.flags.v))

/-- R67: loads. Where the access has no fault the bytes at gS + IMM [11:0] of the hall IMM [13:12], little-endian, go to gD; no flag
changes; an access fault is the step's fault. -/
def Obligations.LoadSteps : Prop :=
  let a (u : State) (l : Nat) (f : StepWord) := hallAddr f (u.land l)
  let h (f : StepWord) := bits f.imm 13 12
  let v (u : State) (l : Nat) (f : StepWord) (n : Nat) := leNat (u.hallRead l (h f) (a u l f) n)
  StepChecks .stLdw .ldw (fun u l f => u.accessFault l (h f) (a u l f) 4 permRd)
    (fun u l f => u.setLand l (((u.land l).setReg f.d (BitVec.ofNat 32 (v u l f 4))).past f)) ∧
  StepChecks .stLdhu .ldhu (fun u l f => u.accessFault l (h f) (a u l f) 2 permRd)
    (fun u l f => u.setLand l (((u.land l).setReg f.d ((BitVec.ofNat 16 (v u l f 2)).setWidth 32)).past f)) ∧
  StepChecks .stLdbu .ldbu (fun u l f => u.accessFault l (h f) (a u l f) 1 permRd)
    (fun u l f => u.setLand l (((u.land l).setReg f.d ((BitVec.ofNat 8 (v u l f 1)).setWidth 32)).past f)) ∧
  StepChecks .stLdhs .ldhs (fun u l f => u.accessFault l (h f) (a u l f) 2 permRd)
    (fun u l f => u.setLand l (((u.land l).setReg f.d ((BitVec.ofNat 16 (v u l f 2)).signExtend 32)).past f))

/-- R67: stores of the low bytes of gD, and SWAPW, which moves word and register at once and never acts on the code or CIR hall. -/
def Obligations.StoreSteps : Prop :=
  let a (u : State) (l : Nat) (f : StepWord) := hallAddr f (u.land l)
  let h (f : StepWord) := bits f.imm 13 12
  let put (u : State) (l : Nat) (f : StepWord) (n : Nat) :=
    (u.hallWrite l (h f) (a u l f) (natLE n ((u.land l).reg f.d).toNat))
  StepChecks .stStw .stw (fun u l f => u.accessFault l (h f) (a u l f) 4 permW)
    (fun u l f => (put u l f 4).setLand l ((u.land l).past f)) ∧
  StepChecks .stSth .sth (fun u l f => u.accessFault l (h f) (a u l f) 2 permW)
    (fun u l f => (put u l f 2).setLand l ((u.land l).past f)) ∧
  StepChecks .stStb .stb (fun u l f => u.accessFault l (h f) (a u l f) 1 permW)
    (fun u l f => (put u l f 1).setLand l ((u.land l).past f)) ∧
  StepChecks .stSwapw .swapw
    (fun u l f =>
      if u.hallLimit l (h f) < a u l f + 4 then some .hallBound
      else if h f = 0 ∨ h f = 2 then some .hallPerm
      else u.accessFault l (h f) (a u l f) 4 permSw)
    (fun u l f => (put u l f 4).setLand l
      (((u.land l).setReg f.d (BitVec.ofNat 32 (leNat (u.hallRead l (h f) (a u l f) 4)))).past f))

/-- The bytes a store leaves in its hall: those stored, inside the stored range; every other byte of every memory as before. -/
def Obligations.HallWriteFrame : Prop :=
  ∀ (s : State) (l h off : Nat) (bs : List Byte), h = 1 ∨ h = 3 → s.memWf = true →
    let t := s.hallWrite l h off bs
    let m (s : State) := if h = 1 then s.halls.pool else s.halls.shared
    let b := s.hallBase l h + off
    t.hallRead l h off bs.length = bs ∧
    (∀ c, c < b ∨ b + bs.length ≤ c → (m t).read c = (m s).read c) ∧
    (h = 1 → t.halls.shared = s.halls.shared) ∧ (h = 3 → t.halls.pool = s.halls.pool) ∧
    t.halls.cir = s.halls.cir ∧ t.landings = s.landings ∧ t.host = s.host ∧ t.memWf = true

/-- R65, R69, R70: JMP, BR, CALL and RET go to a step of the code or raise PC_RANGE; CALL leaves the address after its own in g15. -/
def Obligations.JumpSteps : Prop :=
  let go (u : State) (l : Nat) (t : Int) (x : Landing) : State := u.setLand l { x with pc := t.toNat }
  StepChecks .stJmp .jmp (fun u l f => u.targetCheck l ((u.land l).jumpTarget f : Nat))
    (fun u l f => go u l ((u.land l).jumpTarget f : Nat) (u.land l)) ∧
  StepChecks .stBr .br (fun u l f => u.targetCheck l (((u.land l).pc : Int) + (BitVec.ofNat 14 f.imm).toInt))
    (fun u l f => go u l (((u.land l).pc : Int) + (BitVec.ofNat 14 f.imm).toInt) (u.land l)) ∧
  StepChecks .stCall .call (fun u l f => u.targetCheck l ((u.land l).jumpTarget f : Nat))
    (fun u l f => go u l ((u.land l).jumpTarget f : Nat) ((u.land l).setReg 15 (BitVec.ofNat 32 ((u.land l).pc + 1)))) ∧
  StepChecks .stRet .ret (fun u l _ => u.targetCheck l (((u.land l).reg 15).toNat : Nat))
    (fun u l _ => go u l (((u.land l).reg 15).toNat : Nat) (u.land l))

/-- R69, R70: WAIT ends at once when a named landing timer has expired, and otherwise the landing waits; YIELD ends the turn; END ends the
flight with a code that a step can give, and raises BAD_END for any other. -/
def Obligations.WaitYieldEndSteps : Prop :=
  (∀ (dt l : Nat) (s : State) (f : StepWord), (s.tick dt).doesStep l .wait f = true →
    let u := (s.tick dt).countStep l
    let x := u.land l
    let m := x.expiredMask u.now &&& bits f.imm 3 0
    (bit f.imm 13 = 0 → m ≠ 0 → exec (.stWait dt l) s = .next (settle (u.setLand l ((x.setReg f.d (BitVec.ofNat 32 m)).past f)))) ∧
    (bit f.imm 13 = 0 → m = 0 → ∃ t, exec (.stWait dt l) s = .next (settle t) ∧ t.waits l (.ltWait (bits f.imm 3 0) f.d) ∧
      x.sameContext (t.land l) ∧ u.othersKeep t l ∧ t.halls = u.halls) ∧
    (bit f.imm 13 = 1 → ∃ t, exec (.stWait dt l) s = .next (settle t) ∧ t.waits l (.tmWait (bits f.imm 3 0) f.d u.now) ∧
      x.sameContext (t.land l) ∧ u.othersKeep t l ∧ t.halls = u.halls)) ∧
  (∀ (dt l : Nat) (s : State) (f : StepWord), (s.tick dt).doesStep l .yield f = true →
    let u := (s.tick dt).countStep l
    ∃ t, exec (.stYield dt l) s = .next (settle t) ∧ (∀ p ∈ t.sched.pipes.toList, p.serving ≠ some l) ∧
      (u.land l).regs = (t.land l).regs ∧ (u.land l).flags = (t.land l).flags ∧ (t.land l).wait = .none ∧
      (t.land l).pc = (u.land l).pc + 1 ∧ u.othersKeep t l ∧ t.halls = u.halls) ∧
  (let code (u : State) (l : Nat) (f : StepWord) : Option Code :=
     Code.ofNum (if bit f.imm 13 = 1 then ((u.land l).reg f.s).toNat % 256 else f.imm % 256)
   StepChecks .stEnd .end_ (fun u l f => if (code u l f).any Code.mayEnd then none else some .badEnd)
    (fun u l f => (u.endFlight l ((code u l f).getD .ok)).leavePipe l))

/-- R62, R98: an illegal word faults ILLEGAL whether or not its condition passes; a fetch past the code hall faults HALL_BOUND (log 6). -/
def Obligations.IllegalSteps : Prop :=
  ∀ (dt l : Nat) (s : State), (s.tick dt).live = true → (s.tick dt).canStep l = true →
    let u := (s.tick dt).countStep l
    (∀ f, (s.tick dt).fetch l = some f → f.step = none →
      exec (.stStepIllegal dt l) s = .next (settle (u.stepFault l .illegal f.op))) ∧
    ((s.tick dt).fetch l = none → exec (.stStepIllegal dt l) s = .next (settle (u.stepFault l .hallBound Config.fetchPastOp)))

/-- R62: a step fault leaves the fault word in g1 and ends the flight FAILED_FAULT; it changes no other register and no memory. -/
def Obligations.StepFaultEffect : Prop :=
  ∀ (s : State) (l op : Nat) (k : StepFault), l < 192 → (s.land l).becomesUnusable = false →
    let t := s.stepFault l k op
    (t.land l).reg 1 = BitVec.ofNat 32 (k.num * 2 ^ 24 + op % 256 * 2 ^ 16 + (s.land l).pc % 65536) ∧
    (∀ n, n ≠ 1 → (t.land l).reg n = (s.land l).reg n) ∧
    ((t.land l).wait = .ending .failedFault ∨ (t.land l).st = .hold) ∧ t.halls = s.halls

/-- What every step shares. A step whose condition does not pass changes nothing of its landing but the step address, and no memory, latch
or timer (R53). A step command whose step is not the landing's next one lets time pass and does nothing else: the model's choice (log 8).
Counting a step changes the landing's start of run time and step count, its turn, DEFER_LOG at a deferred start, and the place in the order of R556 (R61,
R106, R111). -/
def Obligations.StepCommon : Prop :=
  (∀ (c : Instr) (dt l : Nat) (k : Step) (s : State) (f : StepWord), stepOf c = some (dt, l, k) → (s.tick dt).atStep l k f = true →
    condPasses f.cond ((s.tick dt).land l).flags = false →
    let u := (s.tick dt).countStep l
    exec c s = .next (settle (u.setLand l ((u.land l).past f)))) ∧
  (∀ (c : Instr) (dt l : Nat) (k : Step) (s : State), stepOf c = some (dt, l, k) → (∀ f, (s.tick dt).atStep l k f = false) →
    exec c s = .next (settle (s.tick dt))) ∧
  (∀ (s : State) (l : Nat), l < 192 →
    let t := s.countStep l
    t.land l = { s.land l with startedAt := some ((s.land l).startedAt.getD s.now), steps := ((s.land l).steps + 1) % 2 ^ 32 } ∧
    s.othersKeep t l ∧ t.sched.lastServed = s.sched.lastServed ∧
    t = { s with landings := t.landings, sched := t.sched, turn := t.turn })

/-- R69, R505: landing timers and the read of a timer. -/
def Obligations.TimerSteps : Prop :=
  StepDoes .stLtset .ltset (fun u l f =>
    let x := u.land l
    let v := ((x.reg f.s).toNat + bits f.imm 13 2) % 2 ^ 32
    let t : LTimer := if v = 0 then { running := false, expired := true, deadline := 0, left := 0 }
      else { running := true, expired := false, deadline := u.now + v * usT, left := v }
    u.setLand l (({ x with lts := vset x.lts (f.imm % 4) t } : Landing).past f)) ∧
  StepDoes .stLtread .ltread (fun u l f =>
    let x := u.land l
    let v := BitVec.ofNat 32 ((vget x.lts (f.imm % 4) LTimer.idle).remaining u.now)
    u.setLand l (({ x.setReg f.d v with
      flags := x.flags.ofValue ((vget x.lts (f.imm % 4) LTimer.idle).remaining u.now) } : Landing).past f)) ∧
  StepDoes .stLtstop .ltstop (fun u l f =>
    let x := u.land l
    u.setLand l (({ x with lts := vset x.lts (f.imm % 4) (LTimer.mk false false 0 ((vget x.lts (f.imm % 4) LTimer.idle).remaining u.now)) } : Landing).past f)) ∧
  StepDoes .stTmread .tmread (fun u l f =>
    let x := u.land l
    let v := u.timerCount (f.imm % 16)
    u.setLand l (({ x.setReg f.d (BitVec.ofNat 32 v) with flags := x.flags.ofValue v } : Landing).past f))

/-- R71, R116: AIR claim waits with its claim in the list, or answers at once; AIR release gives the named resources back and answers OK. -/
def Obligations.AirSteps : Prop :=
  (∀ (dt l : Nat) (s : State) (f : StepWord), (s.tick dt).doesStep l .airClaim f = true →
    let u := (s.tick dt).countStep l
    let x := u.land l
    let mask := f.imm % 16
    let budget := (x.reg f.s).toNat
    (mask = 0 ∨ budget < 1 ∨ 200000 < budget → exec (.stAirClaim dt l) s = .next (settle (u.stepFault l .operand f.op))) ∧
    (mask ≠ 0 → 1 ≤ budget → budget ≤ 200000 →
      let y := { x with claimedEver := x.claimedEver ||| mask }
      (u.air.heldBy l &&& mask ≠ 0 → exec (.stAirClaim dt l) s = .next (settle (u.setLand l (y.answers f.d .stateRefused)))) ∧
      (u.air.heldBy l &&& mask = 0 → u.airUnusable mask = true →
        exec (.stAirClaim dt l) s = .next (settle (u.setLand l (y.answers f.d .unitUnusable)))) ∧
      (u.air.heldBy l &&& mask = 0 → u.airUnusable mask = false →
        ∃ t, exec (.stAirClaim dt l) s = .next (settle t) ∧ t.waits l (.airClaim f.d) ∧ x.sameContext (t.land l) ∧
          (t.land l).claimedEver = x.claimedEver ||| mask ∧ t.air.grants = u.air.grants ∧
          t.air.claims = u.air.claims ++ [{ landing := l, mask := mask, prio := x.prio, budgetUs := budget, since := u.now }] ∧
          u.othersKeep t l ∧ t.halls = u.halls))) ∧
  (∀ (dt l : Nat) (s : State) (f : StepWord), (s.tick dt).doesStep l .airRelease f = true →
    let u := (s.tick dt).countStep l
    let t := u.airRelease l (f.imm % 16)
    exec (.stAirRelease dt l) s = .next (settle (t.setLand l ((t.land l).answers f.d .ok))))

/-- R71, R117, R120: after a release the landing holds no grant of the named resources; the grants of other landings keep their
resources, and memory and registers stay. -/
def Obligations.AirReleaseEffect : Prop :=
  ∀ (s : State) (l mask : Nat),
    let t := s.airRelease l mask
    (∀ g ∈ t.air.grants, g.landing = l → g.mask &&& (mask % 16) = 0) ∧
    (∀ g ∈ s.air.grants, g.landing ≠ l → g.mask ≠ 0 → ∃ h ∈ t.air.grants, h.landing = g.landing ∧ h.mask = g.mask) ∧
    t.air.claims = s.air.claims ∧ (∀ m n, (t.land m).reg n = (s.land m).reg n) ∧ t.halls = s.halls ∧ t.host = s.host

/-! ### Field steps and crypto steps -/

/-- R72, R118, and the unit's own checks at issue: the nine field steps begin, and the unit holds the step. -/
def Obligations.FieldStepsBegin : Prop :=
  (∀ temp tuneTemp tunes, FieldBegins (fun dt l => .stLftx dt l ⟨temp, tuneTemp, tunes⟩) lftxSpec
    (fun u _ j => u.marked unitLfRx = false ∧ (u.lfAt temp).lfBlocked j.blk = false ∧ (u.lfAt temp).lfSelection j.blk ≠ 0)
    (fun u t l j => ∃ r, t.lf.run = some r ∧ r.land = l ∧ r.tx = true ∧ r.blk = j.blk ∧ r.content = j.frame ∧
      r.sel = (u.lfAt temp).lfSelection j.blk ∧ t.dieTemp = temp ∧ t.uwb = u.uwb ∧ t.uhf = u.uhf ∧ t.nfc = u.nfc)) ∧
  FieldBegins .stLfrx lfrxSpec (fun u _ _ => u.marked unitLfRx = false)
    (fun u t l _ => ∃ r, t.lf.run = some r ∧ r.land = l ∧ r.tx = false ∧ r.start = some u.now ∧ t.uwb = u.uwb ∧ t.uhf = u.uhf ∧
      t.nfc = u.nfc) ∧
  (∀ temp vdd bad, FieldBegins (fun dt l => .stUwbpoll dt l temp vdd bad) (uwbSpec .uwbpoll .uwbpoll)
    (fun u l j => u.uwbChecks = 0 ∧ u.uwbCheck l j = .ok) uwbBegan) ∧
  (∀ temp vdd bad, FieldBegins (fun dt l => .stUwbresp dt l temp vdd bad) (uwbSpec .uwbresp .uwbresp)
    (fun u l j => u.uwbChecks = 0 ∧ u.uwbCheck l j = .ok) uwbBegan) ∧
  (∀ temp vdd bad, FieldBegins (fun dt l => .stUwbfinal dt l temp vdd bad) (uwbSpec .uwbfinal .uwbfinal)
    (fun u l j => u.uwbChecks = 0 ∧ u.uwbCheck l j = .ok) uwbBegan) ∧
  (∀ temp, FieldBegins (fun dt l => .stUhfrx dt l temp) uhfrxSpec (fun u _ _ => u.marked unitUhf = false)
    (fun u t l j => ∃ r, t.uhf.run = some r ∧ r.land = l ∧ r.search.band = byteAt j.blk 8 ∧ r.search.rates = byteAt j.blk 10 ∧
      r.search.longest = byteAt j.blk 11 ∧ t.lf = u.lf ∧ t.uwb = u.uwb ∧ t.nfc = u.nfc)) ∧
  (∀ temp vdd, FieldBegins (fun dt l => .stUhftx dt l temp vdd) uhftxSpec
    (fun u _ j => u.marked unitUhf = false ∧ u.uhfBlocked j.blk = false)
    (fun u t l j => ∃ r, t.uhf.run = some r ∧ r.land = l ∧ r.bits = msbBits (uhfTelegram u.uhf.txPre j.frame) ∧
      t.uhf.paCode = uhfCode (uhfBand j.blk) (uhfApplied j.blk vdd) temp vdd ∧ t.lf = u.lf ∧ t.uwb = u.uwb ∧ t.nfc = u.nfc)) ∧
  FieldBegins .stNfcx nfcxSpec (fun u _ _ => u.marked unitNfc = false)
    (fun u t l j => ∃ r, t.nfc.run = some r ∧ r.land = l ∧ r.phase = (if u.nfc.fieldOn then NfcPhase.frame else NfcPhase.listen) ∧
      t.nfc.sent = (if u.nfc.fieldOn then [nfcxFrame j.blk j.frame] else []) ∧ t.lf = u.lf ∧ t.uwb = u.uwb ∧ t.uhf = u.uhf) ∧
  FieldBegins .stNfctree nfctreeSpec (fun u _ _ => u.marked unitNfc = false)
    (fun u t l _ => ∃ r, t.nfc.run = some r ∧ r.land = l ∧ r.phase = (if u.nfc.fieldOn then NfcPhase.frame else NfcPhase.listen) ∧
      r.walk = TreeWalk.start ∧ t.nfc.sent = (if u.nfc.fieldOn then [NfcFrame.mk .short [0x52] 0] else []) ∧ t.lf = u.lf ∧ t.uwb = u.uwb ∧ t.uhf = u.uhf)

/-- R73: without a grant a field step emits nothing: it raises NO_AIRTIME when its resource was never claimed in the flight, and ends at
once with STATE_REFUSED when it was. -/
def Obligations.FieldStepWithoutGrant : Prop :=
  ∀ (c : Instr) (dt l : Nat) (sp : FieldSpec) (s : State) (f : StepWord), fieldSpecOf c = some (dt, l, sp) →
    (s.tick dt).doesStep l sp.step f = true → (s.tick dt).setUnits &&& sp.kind.units = 0 →
    let u := (s.tick dt).countStep l
    let x := u.land l
    u.fieldFault l sp (hallAddr f x) = none → u.air.grantOf l sp.kind.res = none → x.endReq = none →
    (x.claimedEver.testBit sp.kind.res = false → exec c s = .next (settle (u.stepFault l .noAirtime f.op))) ∧
    (x.claimedEver.testBit sp.kind.res = true →
      ∃ t, exec c s = .next (settle t) ∧ (t.land l).regs = (x.setReg f.d (BitVec.ofNat 32 Code.stateRefused.num)).regs ∧
        (t.land l).flags = { x.flags with z := false, f := false, d := false } ∧ (t.land l).pc = x.pc + 1 ∧ u.othersKeep t l ∧
        t.air = u.air ∧ t.lf = u.lf ∧ t.uwb = u.uwb ∧ t.uhf = u.uhf ∧ t.nfc = u.nfc)

/-- R79, R313: AESK loads a vault slot or a key of the bound tenant into a handle; BAD_REF when there is none, NO_TENANT without a binding. -/
def Obligations.AeskStep : Prop :=
  ∀ (dt l : Nat) (s : State) (f : StepWord), (s.tick dt).doesStep l .aesk f = true → (s.tick dt).zapped = false →
    let u := (s.tick dt).countStep l
    let x := u.land l
    let n := f.imm % 256
    let v := u.vaultSlot n
    (bits f.imm 13 12 = 0 → v.st = 1 → exec (.stAesk dt l) s = .next (settle (u.setLand l { x.answers f.d .ok with
      handles := vset x.handles (bits f.imm 11 10) (Handle.mk (.vault n) v.ktype v.engines v.usage false v.key) }))) ∧
    (bits f.imm 13 12 = 0 → v.st ≠ 1 → exec (.stAesk dt l) s = .next (settle (u.setLand l (x.answers f.d .badRef)))) ∧
    (bits f.imm 13 12 = 1 → x.tenant = none → exec (.stAesk dt l) s = .next (settle (u.stepFault l .noTenant f.op))) ∧
    (bits f.imm 13 12 = 1 → ∀ t k, x.tenant = some t → x.tenantKeys.getD n none = some k →
      exec (.stAesk dt l) s = .next (settle (u.setLand l { x.answers f.d .ok with handles := vset x.handles (bits f.imm 11 10) k }))) ∧
    (bits f.imm 13 12 = 1 → ∀ t, x.tenant = some t → x.tenantKeys.getD n none = none →
      exec (.stAesk dt l) s = .next (settle (u.setLand l (x.answers f.d .badRef))))

/-- R80, R83, R557: AESX and MACV wait for an engine with the result their mode and key give. -/
def Obligations.KeyedSteps : Prop :=
  (∀ (dt l : Nat) (s : State) (f : StepWord), (s.tick dt).doesStep l .aesx f = true →
    let u := (s.tick dt).countStep l
    let base := hallAddr f (u.land l)
    let b := u.hallRead l 1 base 24
    let h := (u.land l).handle (byteAt b 9)
    let rd (o n : Nat) := u.hallRead l 1 (fieldLE b o 2) n
    let src := rd 10 (fieldLE b 14 2)
    let dst := fieldLE b 12 2
    let out (c : Code) (w : List (Nat × List Byte)) : Prop := ∃ t, exec (.stAesx dt l) s = .next (settle t) ∧
      cryptoWaits u t l (fun j => j.code = c ∧ j.writes = w ∧ j.d = f.d ∧ j.needs = h.engines &&& 15 ∧ j.handle = none)
    u.blockOk l base 24 aesxBad aesxRanges (aesxAllowed h (byteAt b 8)) (h.engines &&& 15) = true →
    (byteAt b 8 = 0 → out .ok [(dst, aesEcb false h.key src)]) ∧
    (byteAt b 8 = 1 → out .ok [(dst, aesEcb true h.key src)]) ∧
    (byteAt b 8 = 2 → out .ok [(dst, aesCtr h.key (rd 16 16) src)]) ∧
    (byteAt b 8 = 3 → out .ok [(dst, (gcmEncrypt h.key (rd 16 12) (rd 18 (fieldLE b 20 2)) src).1),
      (fieldLE b 22 2, (gcmEncrypt h.key (rd 16 12) (rd 18 (fieldLE b 20 2)) src).2)]) ∧
    (byteAt b 8 = 4 → match gcmDecrypt h.key (rd 16 12) (rd 18 (fieldLE b 20 2)) src (rd 22 16) with
      | some pt => out .ok [(dst, pt)]
      | none => out .authFail [(dst, List.replicate (fieldLE b 14 2) 0)]) ∧
    (byteAt b 8 = 5 → out .ok [(fieldLE b 22 2, aesCmac h.key src)])) ∧
  (∀ (dt l : Nat) (s : State) (f : StepWord), (s.tick dt).doesStep l .macv f = true →
    let u := (s.tick dt).countStep l
    let x := u.land l
    let base := hallAddr f x
    let b := u.hallRead l 1 base 24
    let h := x.handle (byteAt b 9)
    let rd (o n : Nat) := u.hallRead l 1 (fieldLE b o 2) n
    let good := (aesCmac h.key (rd 10 (fieldLE b 12 2) ++ rd 14 (fieldLE b 16 2))).take (byteAt b 20) = rd 18 (byteAt b 20)
    u.blockOk l base 24 macvBad macvRanges (macvAllowed h) (h.engines &&& 15) = true →
    ∃ t, exec (.stMacv dt l) s = .next (settle t) ∧ cryptoWaits u t l (fun j => j.writes = [] ∧ j.handle = none ∧ j.d = f.d ∧
      (good → j.code = .ok ∧ j.proof = (h.tenantMark && x.tenant.isSome)) ∧ (¬ good → j.code = .authFail ∧ j.proof = false)))

/-- R82, R344: DERIVE waits for an engine with a derived handle: the KDF in mode 0, X25519 in mode 1, P-256 in mode 2. The handle has the
tenant mark of its input, the type of byte 23, the usage of byte 22, and the engines of byte 11 within the input's mask. A peer point off
the curve ends AUTH_FAIL without a handle (log 13). -/
def Obligations.DeriveStep : Prop :=
  ∀ (dt l : Nat) (s : State) (f : StepWord), (s.tick dt).doesStep l .derive f = true →
    let u := (s.tick dt).countStep l
    let base := hallAddr f (u.land l)
    let b := u.hallRead l 1 base 24
    let h := (u.land l).handle (byteAt b 9)
    let rd (o n : Nat) := u.hallRead l 1 (fieldLE b o 2) n
    let needs := 2 ^ (if byteAt b 8 = 0 then 5 else 4)
    u.blockOk l base 24 deriveBad deriveRanges (deriveAllowed h (byteAt b 8)) needs = true →
    let key : Option (List Byte) :=
      if byteAt b 8 = 0 then some (kdf h.key (rd 12 (fieldLE b 14 2)) (rd 16 (fieldLE b 18 2)) (if byteAt b 23 = 1 then 256 else 128))
      else if byteAt b 8 = 1 then some (x25519 h.key (rd 20 32))
      else p256Ecdh (beNat h.key) (rd 20 64)
    ∃ t, exec (.stDerive dt l) s = .next (settle t) ∧ cryptoWaits u t l (fun j => j.writes = [] ∧ j.d = f.d ∧ j.needs = needs ∧
      (key = none → j.code = .authFail ∧ j.handle = none) ∧
      (∀ k, key = some k → j.code = .ok ∧ ∃ o, j.handle = some (byteAt b 10, o) ∧ o.key = k ∧ o.ktype = byteAt b 23 ∧
        o.usage = byteAt b 22 ∧ o.tenantMark = h.tenantMark ∧ o.engines = deriveEngines (byteAt b 11) h.engines))

/-- R80, R557, R562, R370: what AESX, MACV and DERIVE do instead where their block is bad, a ZAP has destroyed the keys, or the key's
attributes forbid the use. -/
def Obligations.KeyedStepsRefused : Prop :=
  KeyedRefused .stAesx .aesx aesxBad aesxRanges (fun x b => aesxAllowed (x.handle (byteAt b 9)) (byteAt b 8)) ∧
  KeyedRefused .stMacv .macv macvBad macvRanges (fun x b => macvAllowed (x.handle (byteAt b 9))) ∧
  KeyedRefused .stDerive .derive deriveBad deriveRanges (fun x b => deriveAllowed (x.handle (byteAt b 9)) (byteAt b 8))

/-- R81, R363, R365: DRBG answers at once from an instance that needs no seed, ends ENTROPY_UNAVAILABLE under the alarm and counts it, and
otherwise waits for three pool blocks. -/
def Obligations.DrbgStep : Prop :=
  ∀ (dt l : Nat) (s : State) (f : StepWord), (s.tick dt).doesStep l .drbg f = true → (s.tick dt).zapped = false →
    let u := (s.tick dt).countStep l
    let x := u.land l
    let n := f.imm % 64 + 1
    let dst := (x.reg f.s).toNat
    let sys := if bit f.imm 13 = 1 then some (bits f.imm 11 8) else none
    (sys = none → x.tenant = none → exec (.stDrbg dt l) s = .next (settle (u.stepFault l .noTenant f.op))) ∧
    ((sys.isSome = true ∨ x.tenant.isSome = true) → u.rangeFault l 1 dst n permW = none →
      (u.noEntropy = true → exec (.stDrbg dt l) s = .next (settle (u.drbgUnavail.setLand l (x.answers f.d .entropyUnavailable)))) ∧
      (u.noEntropy = false → u.needsSeed l sys = false →
        let r := u.drbgOut l sys n
        exec (.stDrbg dt l) s = .next (settle ((r.1.hallWrite l 1 dst r.2).setLand l (x.answers f.d .ok)))) ∧
      (u.noEntropy = false → u.needsSeed l sys = true → u.sec.pool.length < 3 →
        ∃ t, exec (.stDrbg dt l) s = .next (settle t) ∧ t.sec.drbgQueue = u.sec.drbgQueue ++ [l] ∧ t.sec.pool = u.sec.pool ∧
          cryptoWaits u t l (fun j => j.drbg = some (n, dst, u.now) ∧ j.drbgSys = sys ∧ j.d = f.d)))

/-! ### Steps of verdicts, tenants, release, ordering and the gallery -/

/-- R84, R85, R294: FUSE captures a result area; JUDGE waits its turn at the verdict engine. -/
def Obligations.FuseJudgeSteps : Prop :=
  (let a (u : State) (l : Nat) (f : StepWord) := (((u.land l).reg f.s).toNat + 4 * (f.imm % 1024)) % 2 ^ 32
   let k (f : StepWord) := bits f.imm 13 10
   let n (u : State) (l : Nat) (f : StepWord) := u.fuseLen l (k f) (a u l f)
   StepChecks .stFuse .fuse
    (fun u l f => firstFault [u.rangeFault l 1 (a u l f) (if k f = 4 then 20 else n u l f) permRd, u.rangeFault l 1 (a u l f) (n u l f) permRd])
    (fun u l f => u.setLand l (({ u.land l with
      fuse := Tbl.put (u.land l).fuse (k f) (u.hallRead l 1 (a u l f) (n u l f)) } : Landing).past f))) ∧
  (∀ (dt l : Nat) (s : State) (f : StepWord), (s.tick dt).doesStep l .judge f = true →
    let u := (s.tick dt).countStep l
    ∃ t, exec (.stJudge dt l) s = .next (settle t) ∧ t.waits l (.judge f.d (f.imm % 256)) ∧ (u.land l).sameContext (t.land l) ∧
      u.othersKeep t l ∧ t.halls = u.halls ∧ t.verdict.stale = u.atlasStale ∧
      t.verdict = { u.verdict with stale := u.atlasStale, queue := u.verdict.queue ++ [(l, u.atlasStale)] })

/-- R87 to R89, R93: the tenant steps. TLOAD waits for its turn at the tenant, binds after its checks and waits for the keys, which WRAP must be usable for (R363); TPASS stages a counter that is newer than the
stored one; TFAIL and NEWEL wait for their durable writes; without a tenant or a proof the steps fault. -/
def Obligations.TenantSteps : Prop :=
  (∀ (dt l : Nat) (s : State) (f : StepWord), (s.tick dt).doesStep l .tload f = true →
    let u := (s.tick dt).countStep l
    let t := ((u.land l).reg f.s).toNat % 65536
    (u.tenantTurn l t = false → ∃ v, exec (.stTload dt l) s = .next (settle v) ∧ v.waits l (.tload f.d t false) ∧
      (u.land l).sameContext (v.land l) ∧ (v.land l).tenant = (u.land l).tenant ∧ u.othersKeep v l ∧ v.halls = u.halls ∧
      v.ten = (u.joinTurn l t).ten) ∧
    (u.tenantTurn l t = true → u.zapped = true →
      exec (.stTload dt l) s = .next (settle (u.setLand l ((u.land l).answers f.d .tampered)))) ∧
    (u.tenantTurn l t = true → u.zapped = false → u.tenantCheck l t ≠ .ok →
      exec (.stTload dt l) s = .next (settle (u.setLand l ((u.land l).answers f.d (u.tenantCheck l t))))) ∧
    (∀ r, u.tenantTurn l t = true → u.zapped = false → u.tenantCheck l t = .ok → u.tenant t = some r → r.keys ≠ 0 → u.engineUsable 10 = false →
      exec (.stTload dt l) s = .next (settle (u.setLand l ((u.land l).answers f.d .unitUnusable)))) ∧
    (∀ r, u.tenantTurn l t = true → u.zapped = false → u.tenantCheck l t = .ok → u.tenant t = some r → r.keys = 0 ∨ u.engineUsable 10 = true →
      ∃ v, exec (.stTload dt l) s = .next (settle v) ∧ v.waits l (.tload f.d t true) ∧
      (v.land l).tenant = some t ∧ (v.land l).proof = false ∧ (v.land l).relok = false ∧ (v.land l).regs = (u.land l).regs ∧
      (v.land l).pc = (u.land l).pc ∧ u.othersKeep v l ∧ v.halls = u.halls ∧ v.ten = u.ten)) ∧
  (∀ (dt l : Nat) (s : State) (f : StepWord), (s.tick dt).doesStep l .tpass f = true →
    let u := (s.tick dt).countStep l
    let x := u.land l
    let v := (x.reg f.s).toNat
    (x.tenant = none → exec (.stTpass dt l) s = .next (settle (u.stepFault l .noTenant f.op))) ∧
    (x.tenant.isSome = true → x.proof = false → exec (.stTpass dt l) s = .next (settle (u.stepFault l .noProof f.op))) ∧
    (∀ t r, x.tenant = some t → x.proof = true → u.tenant t = some r → v ≤ r.counter →
      exec (.stTpass dt l) s = .next (settle (u.setLand l (x.answers f.d .counterStale)))) ∧
    (∀ t r, x.tenant = some t → x.proof = true → u.tenant t = some r → r.counter < v →
      exec (.stTpass dt l) s = .next (settle (u.setLand l { x.answers f.d .ok with
        staged := some (Staged.mk t v u.vehicle x.battery x.status) })))) ∧
  (∀ (dt l : Nat) (s : State) (f : StepWord), (s.tick dt).doesStep l .tfail f = true →
    let u := (s.tick dt).countStep l
    let x := u.land l
    (x.tenant = none → exec (.stTfail dt l) s = .next (settle (u.stepFault l .noTenant f.op))) ∧
    (∀ t, x.tenant = some t → x.flags.d = true → exec (.stTfail dt l) s =
      .next (settle ((u.evdTfail l t .fieldDisturbed (u.tenant t)).setLand l (x.answers f.d .fieldDisturbed)))) ∧
    (x.tenant.isSome = true → x.flags.d = false → ∃ t, exec (.stTfail dt l) s = .next (settle t) ∧ t.waits l (.tfail f.d) ∧
      x.sameContext (t.land l) ∧ u.othersKeep t l ∧ t.halls = u.halls ∧ t.ten = u.ten)) ∧
  (∀ (dt l : Nat) (s : State) (f : StepWord), (s.tick dt).doesStep l .newel f = true →
    let u := (s.tick dt).countStep l
    let x := u.land l
    (x.staged = none → exec (.stNewel dt l) s = .next (settle (u.setLand l (x.answers f.d .ok)))) ∧
    (x.staged.isSome = true → ∃ t, exec (.stNewel dt l) s = .next (settle t) ∧ t.waits l (.newel f.d) ∧ x.sameContext (t.land l) ∧
      u.othersKeep t l ∧ t.halls = u.halls ∧ t.ten = { u.ten with newels := u.ten.newels ++ [l] }))

/-- R90, R91, R336: the release steps. Without the privilege of a library image they fault; RELOPEN opens a session where all its
conditions hold; RELHOLD and RELCLOSE act on the landing's own session. -/
def Obligations.ReleaseSteps : Prop :=
  (∀ (c : Instr) (dt l : Nat) (k : Step) (s : State) (f : StepWord), stepOf c = some (dt, l, k) →
    k = .relopen ∨ k = .relhold ∨ k = .relclose → (s.tick dt).doesStep l k f = true →
    let u := (s.tick dt).countStep l
    u.relPrivilege l = false → exec c s = .next (settle (u.stepFault l .privilege f.op))) ∧
  (∀ (dt l : Nat) (s : State) (f : StepWord), (s.tick dt).doesStep l .relopen f = true →
    let u := (s.tick dt).countStep l
    let x := u.land l
    let base := hallAddr f x
    let b := u.hallRead l 1 base 16
    let v := u.vaultSlot (byteAt b 6)
    u.relPrivilege l = true → u.blockFault l base 16 relBad (fun b => [(fieldLE b 0 2, 24, permW)]) = none →
    (u.life.st = .bound ∨ u.life.st = .service) → u.marked unitCan = false → u.sec.katFail.testBit 6 = false →
    (x.relok = true → u.startRequest = true → u.start.fault = false → u.rel.session = none → v.st = 1 → v.engines.testBit 6 = true →
      v.usage.testBit 0 = true → ∃ t q, exec (.stRelopen dt l) s = .next (settle t) ∧ t.waits l (.relOpen f.d base) ∧
        t.rel.session = some q ∧ q.land = l ∧ q.slot = byteAt b 6 ∧ q.zone = x.relokZone ∧ q.openAt = none ∧
        q.period = (if fieldLE b 2 2 = 0 then 40 else fieldLE b 2 2) * msT ∧
        q.window = (if fieldLE b 4 2 = 0 then 30000 else fieldLE b 4 2) * msT ∧ t.rel.sent = 0 ∧ t.rel.acked = 0 ∧
        x.sameContext (t.land l) ∧ u.othersKeep t l ∧ t.halls = u.halls) ∧
    (x.relok = false → ∃ d, exec (.stRelopen dt l) s = .next (settle (u.setLand l
      { x.setReg f.d (outcomeWord Code.stateRefused.num d 0) with flags := { x.flags with z := false }, pc := x.pc + 1 })) ∧
      d % 2 = 1)) ∧
  (∀ (dt l : Nat) (s : State) (f : StepWord), (s.tick dt).doesStep l .relhold f = true →
    let u := (s.tick dt).countStep l
    u.relPrivilege l = true →
    (∀ q, u.rel.session = some q → q.land = l → ∃ t, exec (.stRelhold dt l) s = .next (settle t) ∧ t.waits l (.relHold f.d) ∧
      (u.land l).sameContext (t.land l) ∧ u.othersKeep t l ∧ t.rel = u.rel ∧ t.halls = u.halls) ∧
    ((∀ q, u.rel.session = some q → q.land ≠ l) →
      exec (.stRelhold dt l) s = .next (settle (u.setLand l ((u.land l).answers f.d .stateRefused))))) ∧
  (∀ (dt l : Nat) (s : State) (f : StepWord), (s.tick dt).doesStep l .relclose f = true →
    let u := (s.tick dt).countStep l
    u.relPrivilege l = true →
    (∀ q, u.rel.session = some q → q.land = l → ∃ t, exec (.stRelclose dt l) s = .next (settle t) ∧ t.waits l (.relClose f.d) ∧
      t.rel.session = none ∧ t.rel.queued = none ∧ t.rel.curGone = true ∧ t.rel.stopping = u.rel.pattern ∧
      (t.land l).regs = (u.land l).regs ∧ (t.land l).relSession = false ∧ u.othersKeep t l ∧ t.halls = u.halls) ∧
    ((∀ q, u.rel.session = some q → q.land ≠ l) →
      exec (.stRelclose dt l) s = .next (settle (u.setLand l ((u.land l).answers f.d .ok)))))

/-- R92, R94: BANISTER goes on when evidence, gallery messages and its item's group are clear and waits otherwise; EVTRIG leaves the number
of the trigger record, or 0xFFFF for a missed trigger. -/
def Obligations.OrderingSteps : Prop :=
  (∀ (dt l : Nat) (s : State) (f : StepWord), (s.tick dt).doesStep l .banister f = true →
    let u := ((s.tick dt).countStep l).closeCapture l
    (u.banisterClear l = true → exec (.stBanister dt l) s = .next (settle (u.setLand l ((u.land l).past f)))) ∧
    (u.banisterClear l = false → ∃ t, exec (.stBanister dt l) s = .next (settle t) ∧ t.waits l .banister ∧
      (u.land l).sameContext (t.land l) ∧ u.othersKeep t l ∧ t.halls = u.halls)) ∧
  (∀ (dt l : Nat) (s : State) (f : StepWord), (s.tick dt).doesStep l .evtrig f = true →
    let r := ((s.tick dt).countStep l).evdTrigger 1 (f.imm % 256) l
    let x := r.1.land l
    exec (.stEvtrig dt l) s = .next (settle (r.1.setLand l
      { x.setReg f.d (BitVec.ofNat 32 (r.2.getD 0xFFFF)) with flags := { x.flags with z := r.2.isSome }, pc := x.pc + 1 })))

/-- R95, R97, R456: GSEND queues its parts on nodes that have a credit, in place of earlier sendings of them, and waits for the others; GWAIT ends at once when every named node
has reported and waits otherwise; a bad block is the step's fault. -/
def Obligations.GallerySteps : Prop :=
  (∀ (dt l : Nat) (s : State) (f : StepWord), (s.tick dt).doesStep l .gsend f = true →
    let u := (s.tick dt).countStep l
    let base := hallAddr f (u.land l)
    let blk := u.hallRead l 1 base 32
    let r := (u.dropParts l (fieldLE blk 10 2) (byteAt blk 8)).sendParts l blk (byteAt blk 8)
    (∀ e, u.galFault l base = some e → exec (.stGsend dt l) s = .next (settle (u.stepFault l e f.op))) ∧
    (u.galFault l base = none → u.gsendCode l ≠ .ok →
      exec (.stGsend dt l) s = .next (settle (u.setLand l ((u.land l).answers f.d (u.gsendCode l))))) ∧
    (u.galFault l base = none → u.gsendCode l = .ok → r.2 = 0 →
      exec (.stGsend dt l) s = .next (settle (r.1.setLand l ((r.1.land l).answers f.d .ok)))) ∧
    (u.galFault l base = none → u.gsendCode l = .ok → r.2 ≠ 0 → ∃ t, exec (.stGsend dt l) s = .next (settle t) ∧
      t.waits l (.gsend f.d blk) ∧ Tbl.find t.gal.sends l = some (r.2, u.now + 2 * msT) ∧ t.gal.parts = r.1.gal.parts ∧
      t.gal.out = r.1.gal.out ∧ u.othersKeep t l ∧ t.halls = u.halls)) ∧
  (∀ (dt l : Nat) (s : State) (f : StepWord), (s.tick dt).doesStep l .gwait f = true →
    let u := (s.tick dt).countStep l
    let base := hallAddr f (u.land l)
    let blk := u.hallRead l 1 base 32
    let till := u.now + (if fieldLE blk 2 2 = 0 then 5000 else fieldLE blk 2 2) * usT
    (∀ e, u.galFault l base = some e → exec (.stGwait dt l) s = .next (settle (u.stepFault l e f.op))) ∧
    (u.galFault l base = none → u.partsOut l blk = true → ∃ t, exec (.stGwait dt l) s = .next (settle t) ∧
      t.waits l (.gwait f.d blk till) ∧ (u.land l).sameContext (t.land l) ∧ u.othersKeep t l ∧ t.halls = u.halls ∧ t.gal = u.gal) ∧
    (u.galFault l base = none → u.partsOut l blk = false → (u.land l).endReq = none → ∃ t, exec (.stGwait dt l) s = .next (settle t) ∧
      (t.land l).wait = .none ∧ (t.land l).pc = (u.land l).pc + 1 ∧ u.othersKeep t l ∧
      (∀ p ∈ t.gal.parts, ¬ (p.land = l ∧ p.part = fieldLE blk 10 2 ∧ (byteAt blk 8).testBit p.node = true))))

/-! ### Events of airtime, pipes and landings -/

/-- R116 to R119: a claim that may be granted is granted whole; a spent budget lapses at once outside an exchange and at the next boundary
inside one; a waiting claim of higher priority suspends a grant that has held for MINHOLD; an exchange that is over ends. -/
def Obligations.AirtimeEvents : Prop :=
  (∀ (l d : Nat) (c : AirClaim), EventDoes (fun dt => .evAirGrant dt l)
    (fun u => u.air.claims.find? (fun e => e.landing == l) = some c ∧ (u.land l).wait = .airClaim d ∧ (u.land l).endReq = none ∧
      l < 192 ∧ u.air.eligible u.now c = true ∧ u.airUp c.mask = true ∧ u.airReady c.mask = true)
    (fun u t => u.waitEnded t l d .ok ∧ u.othersKeep t l ∧ t.air.claims = u.air.claims.filter (fun e => e.landing != l) ∧
      ∃ g, t.air.grants = u.air.grants ++ [g] ∧ g.landing = l ∧ g.mask = c.mask ∧ g.prio = c.prio ∧ g.budgetUs = c.budgetUs ∧
        g.suspended = false ∧ g.heldSince = u.now ∧ g.exch = none)) ∧
  (∀ (l : Nat) (g : Grant), EventDoes (fun dt => .evBudgetExhausted dt l)
    (fun u => u.air.grants = [g] ∧ g.landing = l ∧ g.suspended = false ∧ g.budgetEnd ≤ u.now)
    (fun _ t => (g.exch = none → t.air.grants = []) ∧ (g.exch.isSome = true → t.air.grants = [{ g with lapsing := true }]))) ∧
  (∀ (l : Nat) (g : Grant), EventDoes (fun dt => .evMinholdReached dt l)
    (fun u => u.air.grants = [g] ∧ g.landing = l ∧ g.suspended = false ∧ g.prio ≠ 0 ∧ g.heldSince + g.minHoldUs * usT ≤ u.now ∧
      u.air.wantedAbove g.mask g.prio = true)
    (fun u t => t.air.claims = u.air.claims ∧
      (g.exch = none → t.air.grants = [{ g with suspended := true, usedTicks := g.usedTicks + (u.now - g.heldSince) }]) ∧
      (g.exch.isSome = true → t.air.grants = [{ g with preempted := true }]))) ∧
  (∀ (l r : Nat) (g : Grant) (e : Exchange), EventDoes (fun dt => .evExchangeBoundary dt l)
    (fun u => u.air.grants = [g] ∧ g.landing = l ∧ r < 4 ∧ g.mask = 2 ^ r ∧ g.exch = some e ∧ e.over u.now = true ∧ g.lapsing = false ∧
      u.now < g.budgetEnd)
    (fun u t => (u.air.wantedAbove g.mask g.prio = false → t.air.grants = [{ g with exch := none, preempted := false }]) ∧
      ((g.preempted || g.held u.now) = false → t.air.grants = [{ g with exch := none, preempted := false }]) ∧
      ((g.preempted || g.held u.now) = true → u.air.wantedAbove g.mask g.prio = true →
        t.air.grants = [{ g with exch := none, suspended := true, usedTicks := g.ticks u.now, preempted := false }])))

/-- R111 to R113: the lowest-numbered free pipe takes a runnable landing that no pipe serves, of the highest priority there is; a turn of
QUANTUM steps ends; with no free pipe a landing of higher priority takes the pipe of a lower one. -/
def Obligations.PipeEvents : Prop :=
  (∀ (p l : Nat), EventDoes (fun dt => .evPipeDispatch dt p)
    (fun u => u.freePipe = some p ∧ (u.pipe p).agedTurn u.sched.aging = false ∧ u.pick false = some l)
    (fun u t => (t.pipe p).serving = some l ∧ (t.pipe p).turnSteps = 0 ∧ (t.pipe p).quantum = u.sched.quantum ∧
      (t.pipe p).turnStart = u.now ∧ (∀ q, q ≠ p → t.pipe q = u.pipe q) ∧ t.landings = u.landings ∧ t.halls = u.halls ∧
      (u.land l).runnable = true ∧ (∀ q ∈ u.sched.pipes.toList, q.serving ≠ some l) ∧
      (∀ m, (u.land m).runnable = true → (∀ q ∈ u.sched.pipes.toList, q.serving ≠ some m) → (u.land l).prio ≤ (u.land m).prio))) ∧
  (∀ (p l v : Nat), EventDoes (fun dt => .evPipeDispatch dt p)
    (fun u => u.freePipe = none ∧ u.pick false = some l ∧ u.victim (u.land l).prio = some p ∧ (u.pipe p).serving = some v ∧ p < 8 ∧
      (u.pipe p).turnStart < (u.land l).readySince ∧ (u.pipe p).agedTurn u.sched.aging = false)
    (fun u t => (t.pipe p).serving = some l ∧ (t.pipe p).turnSteps = 0 ∧ (t.land v).readySince = u.now ∧
      (t.land v).regs = (u.land v).regs ∧ (t.land v).pc = (u.land v).pc ∧ (u.land l).prio < (u.land v).prio ∧ t.halls = u.halls)) ∧
  (∀ (p l : Nat), EventDoes (fun dt => .evQuantumExpire dt p)
    (fun u => (u.pipe p).serving = some l ∧ (u.pipe p).quantum ≤ (u.pipe p).turnSteps)
    (fun u t => (∀ q ∈ t.sched.pipes.toList, q.serving ≠ some l) ∧ (u.land l).sameContext (t.land l) ∧ u.othersKeep t l ∧
      t.halls = u.halls))

/-- R61: at RUNLIMIT a flight that is not ending takes a RUNTIME fault: at once with the fault word in g1, or after the exchange
that it waits for. -/
def Obligations.RunLimit : Prop :=
  ∀ (l t0 : Nat) (i : Image), EventDoes (fun dt => .evRunlimitReached dt l)
    (fun u => l < 192 ∧ (u.land l).startedAt = some t0 ∧ u.imageOf l = some i ∧ (u.land l).busy = true ∧
      t0 + i.hdr.runLimit * msT ≤ u.now ∧ (u.land l).endReq = none ∧ (u.land l).becomesUnusable = false ∧
      ∀ c, (u.land l).wait ≠ .ending c)
    (fun u t => (∀ q ∈ t.sched.pipes.toList, q.serving ≠ some l) ∧
      ((u.land l).wait = .none → ((t.land l).reg 1).toNat / 2 ^ 24 = StepFault.runtime.num ∧
        ((t.land l).wait = .ending .failedFault ∨ (t.land l).st = .hold)) ∧
      (∀ j, (u.land l).wait = .field j → (t.land l).wait = .field j ∧ (t.land l).endReq.isSome = true ∧ (t.land l).regs = (u.land l).regs))
    rankFault

/-- R69, R86, R92, R103, R105, R106: timers of a landing, RELOK, the drain hold, scrub, deferred starts and BANISTER waits end when due. -/
def Obligations.LandingEvents : Prop :=
  (∀ (l n : Nat), EventDoes (fun dt => .evLtExpire dt l n)
    (fun u => l < 192 ∧ n < 4 ∧ (u.land l).busy = true ∧ (vget (u.land l).lts n LTimer.idle).running = true ∧
      (vget (u.land l).lts n LTimer.idle).deadline ≤ u.now ∧ (u.land l).endReq = none)
    (fun u t => vget (t.land l).lts n LTimer.idle = { running := false, expired := true, deadline := 0, left := 0 } ∧
      u.othersKeep t l ∧ t.halls = u.halls ∧
      ((u.land l).wait = .none → (t.land l).regs = (u.land l).regs ∧ (t.land l).pc = (u.land l).pc) ∧
      (∀ sel d, (u.land l).wait = .ltWait sel d → sel.testBit n = true → (t.land l).wait = .none ∧ (t.land l).pc = (u.land l).pc + 1 ∧
        (d ≠ 0 → d < 16 → ((t.land l).reg d).toNat.testBit n = true)))) ∧
  (∀ l, EventDoes (fun dt => .evRelokExpire dt l)
    (fun u => l < 192 ∧ (u.land l).relok = true ∧ (u.land l).relokAt + 500 * msT ≤ u.now)
    (fun u t => t = u.setLand l { u.land l with relok := false })) ∧
  (∀ (l h : Nat), EventDoes (fun dt => .evDrainHoldLapse dt l)
    (fun u => l < 192 ∧ (u.land l).st = .hold ∧ (u.land l).holdUntil = some h ∧ h ≤ u.now)
    (fun u t => t = u.setLand l { u.land l with st := .scrub })) ∧
  (∀ l, EventDoes (fun dt => .evScrubDone dt l)
    (fun u => l < 192 ∧ (u.land l).st = .scrub ∧ u.host.items.any (fun r => r.namesLanding l) = false)
    (fun u t => ((u.land l).pending = none → t.land l = Landing.free) ∧
      (∀ r, (u.land l).pending = some r → t.land l = { Landing.free with st := .claimed, pending := some r }) ∧
      u.othersKeep t l ∧ t.host = u.host ∧ t.halls.pool = u.halls.pool ∧
      (∀ g, (u.land l).dataBase / 32 ≤ g → g < ((u.land l).dataBase + (u.land l).dataLen) / 32 → g ∉ t.halls.poolPoison))) ∧
  (∀ (l : Nat) (r : StartReq), EventDoes (fun dt => .evDeferredStartResume dt l)
    (fun u => l < 192 ∧ (u.land l).st = .claimed ∧ (u.land l).pending = some r ∧ u.domUp (l / 8) = true ∧ (u.land l).hallsBound = false ∧
      u.startWaits l r = false)
    (fun u t => t = (u.leaveTurn l).beginFlight l r)) ∧
  (∀ (l n : Nat) (r : StartReq), EventDoes (fun dt => .evDeferredStartResume dt l)
    (fun u => (u.land l).st = .claimed ∧ (u.land l).pending = some r ∧ u.domUp (l / 8) = true ∧ r.tenant = some n ∧
      u.tenantTurn l n = false)
    (fun u t => t = u.joinTurn l n)) ∧
  (∀ l, EventDoes (fun dt => .evBanisterClear dt l)
    (fun u => l < 192 ∧ (u.land l).wait = .banister ∧ u.banisterClear l = true ∧ (u.land l).endReq = none)
    (fun u t => (t.land l).wait = .none ∧ (t.land l).pc = (u.land l).pc + 1 ∧ (t.land l).regs = (u.land l).regs ∧
      (t.land l).flags = (u.land l).flags ∧ u.othersKeep t l)) ∧
  (∀ (l : Nat) (c : Code), EventDoes (fun dt => .evBanisterClear dt l)
    (fun u => (u.land l).wait = .ending c ∧ u.banisterClear l = true)
    (fun u t => t = u.finishEnd l c))

/-- R63, R103: the end of a flight moves its landing to draining without keys, proof, RELOK, staged change, grants or claims; its timers
stand still. -/
def Obligations.FlightEndClears : Prop :=
  ∀ (s : State) (l : Nat) (c : Code), l < 192 → (s.land l).becomesUnusable = false →
    let t := s.finishEnd l c
    (t.land l).st = .hold ∧ (t.land l).wait = .none ∧ (t.land l).handles = Vector.replicate 4 Handle.empty ∧
    (t.land l).proof = false ∧ (t.land l).relok = false ∧ (t.land l).staged = none ∧ (t.land l).tenantKeys = [] ∧
    (t.land l).lts = (s.land l).lts.map (fun x => x.frozen s.now) ∧ (t.land l).reg 1 = (s.land l).reg 1 ∧ (∀ g ∈ t.air.grants, g.landing ≠ l) ∧ (∀ e ∈ t.air.claims, e.landing ≠ l) ∧
    (∀ q, t.rel.session = some q → q.land ≠ l) ∧ (∀ q ∈ t.sched.pipes.toList, q.serving ≠ some l) ∧ t.halls = s.halls

/-- R52, R58: a flight starts with g1 to g3 from FLIGHT_START, every other register 0, all flags 0, at ENTRY, its data hall with the image's
initialisation and then zeros. -/
def Obligations.FlightStarts : Prop :=
  ∀ (s : State) (l : Nat) (r : StartReq) (id : Nat) (i : Image), l < 192 → s.memWf = true → s.startCheck l r = .ok →
    s.slotImage r.slot = some (id, i) → i.slot < 0x80 → r.tenant = none → r.key.sq < 4 → i.init.length ≤ i.hdr.dataLen →
    let t := s.beginFlight l r
    (t.land l).st = .busy ∧ (t.land l).pc = i.hdr.entry ∧ (t.land l).flags = Flags.clear ∧ (t.land l).reg 1 = r.g1 ∧
    (t.land l).reg 2 = r.g2 ∧ (t.land l).reg 3 = r.g3 ∧ (∀ n, n = 0 ∨ 3 < n → (t.land l).reg n = 0) ∧ (t.land l).prio = r.prio ∧
    (t.land l).wait = .none ∧ (t.land l).item = some r.key ∧ (t.land l).dataLen = i.hdr.dataLen ∧
    (∀ n, n < i.hdr.dataLen → t.halls.pool.read ((t.land l).dataBase + n) = i.init.getD n 0) ∧ s.othersKeep t l

/-! ### The DMA engine -/

/-- R129 to R132, R135, R408, R564: the first descriptor that may start takes the lowest idle channel; a granule comes to its destination,
outside and inside the halls of a busy landing, up to the next 32-byte boundary of it, and the last one ends the descriptor; an external block
that passes joins the bytes in staging. A poisoned source granule, an error of it, an NVM error or a failing block fails the descriptor: its cause
is shown, and what it has not written is poisoned. -/
def Obligations.DmaEvents : Prop :=
  (∀ (dt ch : Nat) (s : State) (d : Desc) (rest : List Desc), let u := (s.tick dt).act rankUnit
    u.live = true → (s.tick dt).inTurn rankUnit = true → u.unhushed = true → u.bist.running = false → u.domUp 49 = true →
    u.freeChannel = some ch → takeFirst u.descReady u.dma.waiting = some (d, rest) →
    exec (.evDmaDescriptorStart dt) s = .next (settle { u with dma := { u.dma with
      waiting := rest, chans := vset u.dma.chans ch (Chan.mk true false false 0 (some { d with lastGranule := u.now })) } }) ∧
    u.descReady d = true ∧ d ∈ u.dma.waiting ∧ ∀ k, k < ch → (u.dma.chan k).active = true ∨ u.inSet (.dma k) = true) ∧
  (∀ (dt ch n : Nat) (s : State) (d : Desc) (bs : List Byte), let u := (s.tick dt).act rankUnit
    (s.tick dt).inTurn rankUnit = true → u.moves ch d → d.srcKind ≠ 4 → u.landsInFlight d = false → u.stageHeld d = false →
    u.dmaRead d = some bs → exec (.evDmaGranuleDelivered dt ch 0 n) s = .next (settle (u.granuleCame ch d bs))) ∧
  (∀ (dt ch : Nat) (s : State) (d : Desc) (bs : List Byte), let u := (s.tick dt).act rankUnit
    (s.tick dt).inTurn rankUnit = true → u.moves ch d → u.landsInFlight d = true → u.dmaRead d = some bs →
    exec (.evHallWriteGranule dt ch) s = .next (settle (u.granuleCame ch d bs))) ∧
  (∀ (dt ch l : Nat) (block tag : List Byte) (s : State) (d : Desc), let u := (s.tick dt).act rankUnit
    (s.tick dt).inTurn rankUnit = true → u.moves ch d → d.srcKind = 4 → d.job = .initFetch l →
    (u.blockPasses u.libImage (u.fetchAt l d / 1024) block tag = true →
      exec (.evOspiBlockChecked dt ch block tag) s = .next (settle (u.blockCame ch l d block))) ∧
    (u.blockPasses u.libImage (u.fetchAt l d / 1024) block tag = false → exec (.evOspiBlockChecked dt ch block tag) s =
      .next (settle ({ u with life := u.life.fetched (u.fetchAt l d / 1024) false }.failDesc ch 4 .imageMacFail)))) ∧
  (∀ (u : State) (d : Desc) (bs : List Byte), u.dmaRead d = some bs → d.done < d.len → (∀ b, d.src ≠ .bytes b) →
    bs.length = min (32 - (d.dstOff + d.done) % 32) (d.len - d.done)) ∧
  (∀ (dt ch n : Nat) (s : State) (d : Desc), let u := (s.tick dt).act rankUnit
    (s.tick dt).inTurn rankUnit = true → u.moves ch d → d.srcKind ≠ 4 → u.dmaRead d = none →
    (u.landsInFlight d = false → u.stageHeld d = false →
      exec (.evDmaGranuleDelivered dt ch 0 n) s = .next (settle (u.failDesc ch 2 .failedFault))) ∧
    (u.landsInFlight d = true → exec (.evHallWriteGranule dt ch) s = .next (settle (u.failDesc ch 2 .failedFault)))) ∧
  (∀ (dt ch n : Nat) (s : State) (d : Desc), let u := (s.tick dt).act rankFault
    (s.tick dt).inTurn rankFault = true → u.moves ch d → d.srcKind ≠ 4 →
    (d.srcKind ≠ 3 → exec (.evDmaGranuleDelivered dt ch 1 n) s = .next (settle ((u.failDesc ch 1 .failedFault).sourceError d n))) ∧
    (d.srcKind = 3 → exec (.evDmaGranuleDelivered dt ch 3 n) s =
      .next (settle ((u.failDesc ch 3 .failedFault).raise .nvmRead (.sector n) (u.sectorDetail n))))) ∧
  (∀ (u : State) (ch cause l p : Nat) (c : Code) (d : Desc), u.moves ch d → d.job = .cir l → d.dst = .page p → d.done < d.len →
    let t := u.failDesc ch cause c
    t.dma.chan ch = { u.dma.chan ch with active := false, doneFlag := false, failed := true, cause := cause } ∧
    (∀ k, k ≠ ch → t.dma.chan k = u.dma.chan k) ∧ t.halls = u.halls ∧ t.landings = u.landings ∧
    ∀ g, (0x800 * p + d.dstOff + d.done) / 32 ≤ g → g ≤ (0x800 * p + d.dstOff + d.len - 1) / 32 → g ∈ t.host.pagePoison)

/-! ### The low-frequency fields -/

/-- R144, R150, R152 to R156, R164. A new carrier makes every coil stale, LF_RETUNE the coils of its mask, and a cleared fault bit its coil;
opens, shorts, supply and temperature stop coils and dump them; dumps end or time out, in every power state; noise in the pre-window of an LFTX
ends the step FIELD_DISTURBED before anything is emitted, and later marks it. -/
def Obligations.LfEvents : Prop :=
  (∀ n, EventDoes (fun dt => .evLfCoilShort dt n) (fun u => n < 8 ∧ u.lfDue.lf.coilEn.testBit n = true)
    (fun u t => (t.lf.coil n).fault = (u.lfDue.lf.coil n).fault ||| 2 ∧ (t.lf.coil n).dump.isSome = true ∧
      (∀ m, m ≠ n → t.lf.coil m = u.lfDue.lf.coil m) ∧ t.faults.lastCause = Cause.lfShort.num ∧ t.landings = u.landings) rankFault) ∧
  (∀ (n addr extra t0 : Nat) (r : LfRun), EventDoes (fun dt => .evFaultDetected dt 0x41 n addr extra)
    (fun u => let f := u.lfDue.lf
      n < 8 ∧ f.run = some r ∧ r.start = some t0 ∧ f.drives n u.now = true ∧
      f.frameAt r t0 + f.halfCycles (f.coil n).boost + f.cycles 8 ≤ u.now)
    (fun u t => (t.lf.coil n).fault = (u.lfDue.lf.coil n).fault ||| 1 ∧ (t.lf.coil n).dump.isSome = true ∧
      (∀ m, m ≠ n → t.lf.coil m = u.lfDue.lf.coil m) ∧ t.faults.lastCause = Cause.lfOpen.num ∧ t.landings = u.landings) rankFault) ∧
  (∀ mv, EventDoes (fun dt => .evLfVlfLow dt mv) (fun u => mv < 5500 ∧ u.lf.vlfLow = false)
    (fun u t => t.lf.vlf = mv ∧ t.lf.vlfLow = true ∧ t.lf.faultSys.testBit 0 = true ∧
      (∀ n, n < 8 → u.lf.coilEn.testBit n = true → (t.lf.coil n).dump.isSome = true) ∧ t.faults.lastCause = Cause.lfVlfLow.num)) ∧
  (∀ mv, EventDoes (fun dt => .evLfVlfRestored dt mv) (fun _ => 5800 < mv)
    (fun u t => t = { u with lf := { u.lf with vlf := mv, vlfLow := false } })) ∧
  (∀ temp, EventDoes (fun dt => .evLfOvertemp dt temp) (fun u => 155 < temp ∧ u.lf.overtemp = false)
    (fun u t => t.lf.overtemp = true ∧ t.lf.faultSys.testBit 1 = true ∧
      (∀ n, n < 8 → u.lf.coilEn.testBit n = true → (t.lf.coil n).dump.isSome = true) ∧ t.faults.lastCause = Cause.lfOvertemp.num)) ∧
  (∀ temp, EventDoes (fun dt => .evLfOvertempClear dt temp) (fun _ => temp < 140)
    (fun u t => t = { u with lf := { u.lf with overtemp := false } })) ∧
  (∀ n, EventAnyDoes (fun dt => .evCoilDumpDone dt n) (fun u => n < 8 ∧ (u.lfDue.lf.coil n).dump.isSome = true)
    (fun u t => t.lf.coil n = { u.lfDue.lf.coil n with dump := none } ∧ ∀ m, m ≠ n → t.lf.coil m = u.lfDue.lf.coil m)) ∧
  (∀ n b, EventAnyDoes (fun dt => .evCoilDumpTimeout dt n)
    (fun u => n < 8 ∧ (u.lfDue.lf.coil n).dump = some b ∧ b + 400 * usT ≤ u.now)
    (fun u t => t.lf.coil n = { u.lfDue.lf.coil n with dump := none, clamped := true, fault := (u.lfDue.lf.coil n).fault ||| 8 } ∧
      t.faults.lastCause = Cause.lfDumpTimeout.num)) ∧
  (∀ (noise us coherent t0 : Nat) (r : LfRun) (j : FieldJob), EventDoes (fun dt => .evLfNoiseTrip dt noise us coherent)
    (fun u => u.lf.run = some r ∧ u.inField r.land j ∧ j.kind = .lftx ∧ r.tx = true ∧ r.start = some t0 ∧ j.srcs = 0 ∧
      u.now < u.lf.preEnd t0 ∧ u.lf.noiseThr < noise ∧ u.lf.noiseMin ≤ us ∧ coherent ≤ u.lf.ffThr)
    (fun u t => u.fieldEnded t r.land j .fieldDisturbed 1 ∧ t.lf.run = none ∧
      t.lf.spans = u.lf.spans.filter (fun p => decide (u.now < p.2 + secT)))) ∧
  (∀ (noise us coherent t0 : Nat) (r : LfRun) (j : FieldJob), EventDoes (fun dt => .evLfNoiseTrip dt noise us coherent)
    (fun u => u.lfDue.lf.run = some r ∧ u.inField r.land j ∧ r.tx = true ∧ r.start = some t0 ∧ u.lf.preEnd t0 ≤ u.now ∧
      u.lf.noiseThr < noise ∧ u.lf.noiseMin ≤ us ∧ u.now ≤ u.lfDue.lf.monitorEnd r j t0)
    (fun u t => (t.land r.land).wait = .field { j with srcs := j.srcs ||| 1 } ∧ u.othersKeep t r.land ∧
      t.lf.run.isSome = true)) ∧
  RegisterDoes .rgLfCarrierWrite 0x1000 (fun _ _ => True) (fun u v t => t.lf.carrier = v.toNat ∧
    (v.toNat ≠ u.lf.carrier → ∀ n, n < 8 → (t.lf.coil n).stale = true) ∧ (v.toNat = u.lf.carrier → t.lf = u.lfDue.lf)) ∧
  RegisterDoes .rgLfRetune 0x1024 (fun _ _ => True) (fun u v t => ∀ n, n < 8 →
    t.lf.coil n = if v.toNat.testBit n then { u.lfDue.lf.coil n with stale := true } else u.lfDue.lf.coil n) ∧
  RegisterDoes .rgLfFaultClear 0x1018 (fun _ _ => True) (fun u v t => ∀ n, n < 8 → ∀ b, b < 4 →
    let c := u.lfDue.lf.coil n
    ((t.lf.coil n).fault.testBit b = (c.fault.testBit b && !v.toNat.testBit (8 * b + n))) ∧
    (c.fault.testBit b = true → v.toNat.testBit (8 * b + n) = true → (t.lf.coil n).stale = true))

/-! ### The ends of field steps -/

/-- R72, R75, R164, R166, R207, R242, R259, R262: field steps end when their exchange has its outcome or their window lapses; the unit is idle
again. -/
def Obligations.FieldStepsEnd : Prop :=
  (∀ (l t0 : Nat) (phases : List Int) (r : LfRun) (j : FieldJob), EventDoes (fun dt => .evFieldStepDone dt l (.lftx phases))
    (fun u => u.inField l j ∧ j.kind = .lftx ∧ u.lfDue.lf.run = some r ∧ r.land = l ∧ r.tx = true ∧ r.start = some t0 ∧
      u.lfDue.lf.lastBrake r (u.lfDue.lf.frameAt r t0) ≤ u.now)
    (fun u t => u.fieldEnded t l j (if u.lfDue.lf.finished r (u.lfDue.lf.frameAt r t0) = 0 then Code.antennaFault
      else if j.srcs.testBit 0 then Code.fieldDisturbed else Code.ok) j.srcs
      (some (u.lfDue.lf.lastBrake r (u.lfDue.lf.frameAt r t0))) ∧ t.lf.run = none)) ∧
  (∀ (l t0 noise : Nat) (x y z : Int × Int) (r : LfRun) (j : FieldJob), EventDoes (fun dt => .evFieldStepDone dt l (.lfrx x y z noise))
    (fun u => u.inField l j ∧ j.kind = .lfrx ∧ r.start = some t0 ∧ r.tx = false ∧ u.lf.run = some r ∧ r.land = l ∧
      t0 + j.window * usT ≤ u.now)
    (fun u t => u.fieldEnded t l j (if j.srcs.testBit 0 then Code.fieldDisturbed else Code.ok)
      (j.srcs + (if (byteAt j.blk 8).testBit 1 then 32 else 0)) ∧ t.lf.run = none)) ∧
  (∀ (l : Nat) (m : FieldMeas) (r : NfcRun) (j : FieldJob) (c : Code) (rest : List Byte), EventDoes (fun dt => .evFieldStepDone dt l m)
    (fun u => u.inField l j ∧ (j.kind = .nfcx ∨ j.kind = .nfctree) ∧ j.fin = some (c, rest) ∧ u.nfc.run = some r ∧ r.land = l)
    (fun u t => u.fieldEnded t l j c 0 ∧ t.nfc.run = none)) ∧
  (∀ (l : Nat) (m : FieldMeas) (r : UhfRun) (j : FieldJob) (c : Code) (rest : List Byte), EventDoes (fun dt => .evFieldStepDone dt l m)
    (fun u => u.inField l j ∧ j.kind = .uhfrx ∧ j.fin = some (c, rest) ∧ u.uhf.run = some r ∧ r.land = l ∧ r.calWait = false)
    (fun u t => u.fieldEnded t l j c 0 ∧ t.uhf.run = none)) ∧
  (∀ (l t0 : Nat) (m : FieldMeas) (r : UhfRun) (j : FieldJob) (c : Code) (rest : List Byte), EventDoes (fun dt => .evFieldStepDone dt l m)
    (fun u => u.inField l j ∧ j.kind = .uhftx ∧ j.fin = some (c, rest) ∧ u.uhf.run = some r ∧ r.land = l ∧ r.calWait = false ∧
      r.txAt = some t0 ∧ t0 + r.air ≤ u.now)
    (fun u t => u.fieldEnded t l j c 0 ∧ t.uhf.run = none)) ∧
  (∀ (l : Nat) (m : FieldMeas) (r : UwbRun) (j : FieldJob) (rest : List Byte), EventDoes (fun dt => .evFieldStepDone dt l m)
    (fun u => u.inField l j ∧ j.kind = .uwbpoll ∧ j.fin = some (.ok, rest) ∧ j.srcs = 0 ∧ u.uwbNow.uwb.run = some r ∧ r.land = l ∧
      (r.closed = true → r.readyAt ≤ u.now) ∧ r.withdrawn = false ∧ r.lost = false ∧ u.cirMoving l = false)
    (fun u t => u.fieldEnded t l j (if r.antenna then .antennaFault else if r.disturbed then .fieldDisturbed else .ok)
      (if r.disturbed then 2 else 0) ∧ t.uwb.run = none)) ∧
  (∀ (l floor : Nat) (r : UhfRun) (j : FieldJob), EventDoes (fun dt => .evFieldWindowLapse dt l floor)
    (fun u => u.inField l j ∧ j.kind = .uhfrx ∧ j.fin = none ∧ u.uhf.run = some r ∧ r.land = l ∧ j.issued + j.window * usT ≤ u.now)
    (fun u t => u.fieldEnded t l j (if r.search.collided then .fieldCollision else .fieldTimeout) 0 ∧ t.uhf.run = none)) ∧
  (∀ (l floor : Nat) (r : NfcRun) (j : FieldJob), EventDoes (fun dt => .evFieldWindowLapse dt l floor)
    (fun u => u.inField l j ∧ j.kind = .nfcx ∧ j.fin = none ∧ u.nfc.run = some r ∧ r.land = l ∧ r.phase = .frame ∧
      r.opens + j.window * usT ≤ u.now)
    (fun u t => u.fieldEnded t l j .fieldTimeout 0 ∧ t.nfc.run = none)) ∧
  (∀ (l floor : Nat) (r : NfcRun) (j : FieldJob), EventDoes (fun dt => .evFieldWindowLapse dt l floor)
    (fun u => u.inField l j ∧ j.kind = .nfctree ∧ j.fin = none ∧ u.nfc.run = some r ∧ r.land = l ∧ r.phase = .frame ∧
      (j.issued + j.window * usT ≤ min u.now r.exchAt ∨ (j.issued + j.window * usT ≤ r.frameAt ∧ r.frameAt ≤ u.now)))
    (fun u t => u.fieldEnded t l j (if r.walk.found = [] then .fieldTimeout else .noSpace) 0 ∧ t.nfc.run = none)) ∧
  (∀ (l floor w : Nat) (r : UwbRun) (j : FieldJob), EventDoes (fun dt => .evFieldWindowLapse dt l floor)
    (fun u => u.inField l j ∧ j.kind = .uwbpoll ∧ j.fin = none ∧ j.srcs = 0 ∧ u.uwbNow.uwb.run = some r ∧ r.land = l ∧
      r.window = some w ∧ r.withdrawn = false ∧ r.lost = false ∧ u.cirMoving l = false ∧ w + j.window * usT ≤ u.now)
    (fun u t => u.fieldEnded t l j (if r.disturbed then .fieldDisturbed else .fieldTimeout) (if r.disturbed then 2 else 0) ∧
      t.uwb.run = none))

/-! ### The UWB radio -/

/-- R173, R175, R177, R190 to R193, R204, R210, R216, R221, R222, R233: the frames of the UWB steps. The own frame leaves at its mark with its
FCS, unless COEX_GNT bars it; a response leaves 1,024 CHIP periods after the poll; the reply window opens 512 CHIP periods after the own frame;
a frame that fails its FCS is discarded and one that passes gives its step an outcome; a disturbance before the first emission ends the
step. -/
def Obligations.UwbFrames : Prop :=
  (∀ (s : State) (r : UwbRun) (p : Nat), s.uwb.run = some r → r.closed = false → r.withdrawn = false → r.txMark = none →
    r.ready s.now = true →
    let m := if r.step = .uwbresp then p + 1024 * chipT else s.uwbStart r
    let out := s.uwbFilled r m
    (r.step = .uwbresp → r.pollMark = some p ∧ r.window.isSome = true) → m ≤ s.now →
    let t := s.uwbMoves
    (s.uwb.coex = false ∨ s.uwb.granted = true → t.uwb.mode = .tx ∧ (m, m + r.chips * chipT) ∈ t.uwb.spans ∧
      (∃ q, t.uwb.run = some q ∧ q.txMark = some m ∧ q.land = r.land ∧ q.reserved = 0) ∧
      (∃ f, t.uwb.sent = some f ∧ f.mark = m ∧ f.ch = r.ch ∧ f.code = r.code ∧ f.psdu = out ++ uwbFcs out) ∧ t.landings = s.landings) ∧
    (s.uwb.coex = true → s.uwb.granted = false → t.uwb.sent = s.uwb.sent ∧ t.uwb.spans = s.uwb.spans ∧ t.landings = s.landings ∧
      ∃ q, t.uwb.run = some q ∧ q.withdrawn = true)) ∧
  (∀ (tx : TxMeas) (m : Nat) (r : UwbRun) (j : FieldJob), EventDoes (fun dt => .evUwbWindowOpen dt tx)
    (fun u => u.uwbMoves.uwb.run = some r ∧ u.inField r.land j ∧ j.kind = .uwbpoll ∧ r.step = .uwbpoll ∧ j.fin = none ∧ r.window = none ∧
      r.txMark = some m ∧ m + r.chips * chipT + 512 * chipT ≤ u.now ∧ r.closed = false ∧ r.withdrawn = false ∧ u.uwb.coex = false ∧
      r.antenna = false ∧ r.meas = none ∧ (r.measured = true ∨ tx.matched = true))
    (fun u t => t.uwb.mode = .rx ∧ t.landings = u.landings ∧
      ∃ q, t.uwb.run = some q ∧ q.window = some (m + r.chips * chipT + 512 * chipT) ∧ q.txMark = some m ∧ q.land = r.land)) ∧
  (∀ (tx : TxMeas) (m : Nat) (r : UwbRun) (j : FieldJob), EventDoes (fun dt => .evUwbFinalTx dt tx)
    (fun u => u.uwbMoves.uwb.run = some r ∧ u.inField r.land j ∧ j.kind = .uwbfinal ∧ r.txMark = some m ∧ r.meas = none ∧
      r.measured = false ∧ r.closed = false)
    (fun u t => (∃ q, t.uwb.run = some q ∧ q.txMark = some m ∧ q.meas = some tx) ∧ u.othersKeep t r.land ∧
      (r.report = true → t.landings = u.landings) ∧
      (r.report = false → ∃ rest, (t.land r.land).wait = .field { j with fin := some (.ok, rest) }))) ∧
  (∀ (tx : TxMeas) (m : Nat) (r : UwbRun) (j : FieldJob), EventDoes (fun dt => .evUwbResponseTx dt tx)
    (fun u => u.uwbMoves.uwb.run = some r ∧ u.inField r.land j ∧ j.kind = .uwbresp ∧ r.txMark = some m ∧ r.meas = none ∧
      r.measured = false ∧ r.closed = false)
    (fun u t => (∃ q, t.uwb.run = some q ∧ q.txMark = some m ∧ q.meas = some tx) ∧ t.landings = u.landings)) ∧
  (∀ (rx : UwbRx) (w n : Nat) (r : UwbRun) (j : FieldJob),
    let ok (u : State) : Prop :=
      let first := u.now - u.rng.frameChips rx.code rx.sp1 rx.psdu.length * chipT
      let sfd := first + u.rng.sfdChips rx.code * chipT
      u.uwbMoves.uwb.run = some r ∧ u.inField r.land j ∧ j.kind = .uwbpoll ∧ j.fin = none ∧ r.closed = false ∧ r.withdrawn = false ∧
      r.kind = 0 ∧ r.sp1 = false ∧ rx.sp1 = false ∧ r.window = some w ∧ w ≤ first ∧ sfd ≤ w + j.window * usT ∧ r.searchFrom ≤ sfd ∧
      uwbLane rx.code = some n ∧ r.lanes.testBit n = true ∧ u.uwbEligible rx ≠ 0 ∧ u.uwbBeaten r rx.code sfd rx.rivals = false ∧
      rx.sfdOk = true ∧ rx.phrOk = true ∧ 3 ≤ rx.psdu.length ∧ rx.psdu.length ≤ 127
    EventDoes (fun dt => .evUwbFrameRx dt rx)
      (fun u => ok u ∧ uwbFcs (rx.psdu.take (rx.psdu.length - 2)) = rx.psdu.drop (rx.psdu.length - 2))
      (fun u t => t.rng.discarded = u.rng.discarded ∧ t.halls = u.halls ∧
        ∃ k rest, (t.land r.land).wait = .field k ∧ k.fin = some (.ok, rest)) ∧
    EventDoes (fun dt => .evUwbFrameRx dt rx)
      (fun u => ok u ∧ uwbFcs (rx.psdu.take (rx.psdu.length - 2)) ≠ rx.psdu.drop (rx.psdu.length - 2))
      (fun u t => t.rng.discarded = (u.rng.discarded + 1) % 65536 ∧ t.landings = u.landings ∧ t.rng.records = u.rng.records)) ∧
  (∀ (floor us clip from_ : Nat) (r : UwbRun) (j : FieldJob), EventDoes (fun dt => .evUwbDisturbed dt floor us clip)
    (fun u => u.uwbMoves.uwb.run = some r ∧ u.inField r.land j ∧ j.kind = .uwbpoll ∧ j.srcs = 0 ∧ r.txMark = none ∧ r.window = none ∧
      r.pollMark = none ∧ r.disturbed = false ∧ r.lost = false ∧ u.uwbMoves.uwbSample r j = some from_ ∧ from_ + us * usT ≤ u.now ∧
      clip &&& u.uwbPorts ≠ 0 ∧ 1 ≤ us ∧ u.cirMoving r.land = false)
    (fun u t => u.fieldEnded t r.land j .fieldDisturbed 2 ∧ t.uwb.run = none ∧ t.uwb.spans = u.uwb.spans ∧ t.uwb.sent = u.uwb.sent ∧
      t.rng.disturbed = (u.rng.disturbed + 1) % 65536))

/-- R169, R170, R183, R185, R191, R192, R196: synthesiser, background calibrations, coexistence and the timestamp counter. -/
def Obligations.UwbUpkeep : Prop :=
  EventDoes .evSynthLockLost (fun u => u.domUp 29 = true ∧ u.uwb.cal = none ∧ u.uwb.run = none ∧
      ∀ g ∈ u.air.grants, g.mask.testBit 1 = true → g.exch = none)
    (fun u t => t.uwb.cal = some (u.uwb.lastch, u.now) ∧ t.uwb.mode = .cal ∧ t.uwb.fault = u.uwb.fault ||| 32 ∧ t.uwb.slice = none ∧
      t.landings = u.landings) ∧
  (∀ (r : UwbRun) (j : FieldJob), EventDoes .evSynthLockLost
    (fun u => u.domUp 29 = true ∧ u.uwb.cal = none ∧ u.uwbClosing.uwb.run = some r ∧ u.inField r.land j ∧ j.srcs = 0)
    (fun u t => u.fieldEnded t r.land j .unitUnusable (if r.disturbed then 2 else 0) ∧ t.uwb.run = none ∧
      t.uwb.cal = some (u.uwb.lastch, u.now))) ∧
  (∀ (temp : Int) (ch t0 bad : Nat), EventDoes (fun dt => .evSynthCalDone dt true ⟨temp, bad⟩)
    (fun u => u.uwb.cal = some (ch, t0) ∧ t0 + 80 * usT ≤ u.now ∧ u.uwb.run = none ∧ u.uwb.rising = false)
    (fun u t => t.uwb.cal = none ∧ t.uwb.mode = .ready ∧ t.uwb.lastch = ch ∧ t.uwb.synthTemp = temp ∧ t.uwb.calFails = 0 ∧
      t.uwb.trim ch = 0 ∧ t.uwb.calAt = u.uwb.calAt ∧ t.landings = u.landings)) ∧
  (∀ (temp : Int) (ch t0 : Nat), EventDoes (fun dt => .evSynthCalDone dt true ⟨temp, 0⟩)
    (fun u => u.uwb.cal = some (ch, t0) ∧ t0 + 80 * usT ≤ u.now ∧ u.uwb.rising = true)
    (fun u t => t.uwb.cal = none ∧ t.uwb.rising = false ∧ t.uwb.calAt = Vector.replicate 7 u.now ∧ t.uwb.overdue = 0 ∧
      t.uwb.fault = u.uwb.fault ∧ t.landings = u.landings)) ∧
  (∀ (temp : Int) (ch t0 bad : Nat), EventDoes (fun dt => .evSynthCalDone dt false ⟨temp, bad⟩)
    (fun u => u.uwb.cal = some (ch, t0) ∧ t0 + 80 * usT ≤ u.now ∧ u.uwb.calFails = 0)
    (fun u t => t.uwb.cal = some (ch, u.now) ∧ t.uwb.calFails = 1 ∧ t.faults = u.faults)) ∧
  (∀ k bad, EventDoes (fun dt => .evBgCalSlice dt k false bad)
    (fun u => k ≤ 6 ∧ u.uwb.mode = .ready ∧ u.uwb.run = none ∧ u.uwb.slice = none)
    (fun u t => t = { u with uwb := { u.uwb with slice := some (k, u.now) } })) ∧
  (∀ k t0, EventDoes (fun dt => .evBgCalSlice dt k true 0)
    (fun u => k ≤ 6 ∧ u.uwb.mode = .ready ∧ u.uwb.run = none ∧ u.uwb.slice = some (k, t0) ∧ t0 + uwbSliceUs k * usT ≤ u.now)
    (fun u t => t.uwb.slice = none ∧ vget t.uwb.calAt k 0 = u.now ∧ t.uwb.overdue.testBit k = false ∧ t.uwb.fault = u.uwb.fault)) ∧
  (∀ k, EventDoes (fun dt => .evBgCalOverdue dt k)
    (fun u => k < 7 ∧ u.domUp 29 = true ∧ vget u.uwb.calAt k 0 + 2 * uwbAgeMs k * msT ≤ u.now ∧ u.uwbMoves.uwb.run = none)
    (fun u t => t = { u with uwb := { u.uwb with overdue := u.uwb.overdue ||| 2 ^ k } })) ∧
  (∀ (k : Nat) (r : UwbRun) (j : FieldJob), EventDoes (fun dt => .evBgCalOverdue dt k)
    (fun u => k < 6 ∧ u.domUp 29 = true ∧ vget u.uwb.calAt k 0 + 2 * uwbAgeMs k * msT ≤ u.now ∧ u.uwbMoves.uwb.run = some r ∧
      u.inField r.land j ∧ r.waits = true)
    (fun u t => t.uwb.overdue = u.uwbMoves.uwb.overdue ∧ vget t.uwb.calAt k 0 = u.now ∧ t.landings = u.landings ∧
      ∃ q, t.uwb.run = some q ∧ q.readyAt = max r.readyAt u.now + (min 40 (r.forcedUs + uwbSliceUs k) - r.forcedUs) * usT)) ∧
  (∀ (level : Bool) (r : UwbRun) (j : FieldJob), EventDoes (fun dt => .evCoexGntChange dt level)
    (fun u => u.uwb.coexCfg.testBit 31 = true ∧ u.uwb.coexCfg.testBit 30 ≠ level ∧ u.uwb.run = some r ∧ u.inField r.land j ∧
      r.closed = false ∧ r.withdrawn = false ∧ r.coexWait = true)
    (fun u t => t.uwb.gnt = level ∧ t.landings = u.landings ∧
      ∃ q, t.uwb.run = some q ∧ q.coexWait = false ∧ q.readyAt = max r.readyAt u.now)) ∧
  (∀ (r : UwbRun) (j : FieldJob), EventDoes .evCoexWaitLapse
    (fun u => u.uwb.run = some r ∧ u.inField r.land j ∧ j.srcs = 0 ∧ r.disturbed = false ∧ r.coexWait = true ∧ r.lost = false ∧
      u.cirMoving r.land = false ∧ r.coexSince + u.uwb.coexCfg % 16384 * usT ≤ u.now)
    (fun u t => u.fieldEnded t r.land j .coexDenied 0 ∧ t.uwb.denied = (u.uwb.denied + 1) % 65536 ∧ t.uwb.run = none ∧
      t.uwb.req = false)) ∧
  EventDoes .evTscWrap (fun u => u.domUp 30 = true)
    (fun u t => t = u ∧ ∀ k, t.tsc (k + 5 * 2 ^ 40) = t.tsc k ∨ k < t.rng.tscBase) ∧
  (∀ (dt : Nat) (s : State), (s.tick dt).frameOpen = true → ∃ t, exec (.rgRngTscLoRead dt) s = .next (settle t) ∧
    t.host.lastErr = .ok ∧ t.rng = { s.rng with latch := s.rng.era % 65536 * 65536 + (s.tick dt).tsc (s.now + dt) / 2 ^ 32 } ∧
    t.landings = s.landings)

/-! ### The sub-gigahertz link and the near-field reader -/

/-- R237, R240 to R244, R251: preambles hold a lane, telegrams pass, are rejected for their rate or are discarded, disturbances mark,
calibrations end after 60 µs, and the sniffer brings D33 up and listens once a period in LOBBY. -/
def Obligations.UhfEvents : Prop :=
  (∀ (lane : Nat) (err : Int) (f : UhfSearch), EventAnyDoes (fun dt => .evUhfPreambleDetect dt lane err)
    (fun u => u.uhfSearch = some f ∧ u.uhfDetects = true ∧ f.rates.testBit lane = true ∧ err.natAbs ≤ 120)
    (fun u t => t.uhf.rateReject = u.uhf.rateReject ∧ t.landings = u.landings ∧
      ∃ g, t.uhfSearch = some g ∧ Tbl.find g.holds lane = some u.now ∧ g.seen = (lane, u.now) :: f.seen)) ∧
  (∀ (lane : Nat) (err : Int) (f : UhfSearch), EventAnyDoes (fun dt => .evUhfPreambleDetect dt lane err)
    (fun u => u.uhfSearch = some f ∧ u.uhfDetects = true ∧ f.rates.testBit lane = true ∧ 120 < err.natAbs)
    (fun u t => t = ({ u with uhf := { u.uhf with rateReject := (u.uhf.rateReject + 1) % 65536 } } : State).setSearch
      { f with rejects := u.now :: f.rejects })) ∧
  (∀ (lane runUs : Nat) (f : UhfSearch), EventAnyDoes (fun dt => .evUhfPreambleLost dt lane runUs)
    (fun u => u.uhfSearch = some f ∧ (Tbl.find f.holds lane).isSome = true ∧ u.searchStays = true)
    (fun u t => t.landings = u.landings ∧ ∃ g, t.uhfSearch = some g ∧ Tbl.find g.holds lane = none)) ∧
  (∀ (rx : UhfRx) (runUs at0 : Nat) (f : UhfSearch),
    let taken (u : State) : Prop := u.uhfSearch = some f ∧ f.rates.testBit rx.lane = true ∧ Tbl.find f.holds rx.lane = some at0 ∧
      f.takes rx = true ∧ f.rejects = [] ∧ at0 ≤ u.now - rx.sync ∧ f.searchFrom ≤ u.now - rx.sync ∧ u.uhfBeaten f rx = false
    (∀ (r : UhfRun) (j : FieldJob), EventAnyDoes (fun dt => .evUhfTelegramRx dt rx runUs)
      (fun u => taken u ∧ u.uhf.run = some r ∧ u.inField r.land j ∧ rx.err.natAbs ≤ 120 ∧ uhfPasses f.longest rx = true)
      (fun u t => (t.land r.land).wait = .field { j with fin := some (.ok, uhfResult rx) } ∧ t.uhf = u.uhf)) ∧
    (∀ (r : UhfRun) (j : FieldJob), EventAnyDoes (fun dt => .evUhfTelegramRx dt rx runUs)
      (fun u => taken u ∧ u.uhf.run = some r ∧ u.inField r.land j ∧ rx.err.natAbs ≤ 120 ∧ uhfPasses f.longest rx = false)
      (fun u t => t.uhf.discarded = (u.uhf.discarded + 1) % 65536 ∧ t.landings = u.landings ∧ t.uhf.hits = u.uhf.hits ∧
        t.uhf.collided = (if f.others rx.lane at0 (u.now - rx.sync) || decide (12 < rx.spread) then (u.uhf.collided + 1) % 65536 else u.uhf.collided))) ∧
    EventAnyDoes (fun dt => .evUhfTelegramRx dt rx runUs) (fun u => taken u ∧ 120 < rx.err.natAbs ∧ u.searchStays = true)
      (fun u t => t.uhf.rateReject = (u.uhf.rateReject + 1) % 65536 ∧ t.uhf.discarded = u.uhf.discarded ∧ t.landings = u.landings ∧
        ∃ g, t.uhfSearch = some g ∧ Tbl.find g.holds rx.lane = none)) ∧
  (∀ (power : Int) (runUs : Nat) (r : UhfRun) (j : FieldJob), EventDoes (fun dt => .evUhfDisturbanceMark dt power runUs)
    (fun u => u.uhf.run = some r ∧ u.inField r.land j ∧ j.kind = .uhfrx ∧ j.fin = none ∧ r.calWait = false ∧ r.search.holds = [] ∧
      r.search.holdEnd = none ∧ u.uhf.distThr < power ∧ u.now < r.readyAt + u.uhf.preWin * 4 * usT ∧ u.uhf.distMin ≤ runUs ∧
      r.readyAt + runUs * usT ≤ u.now ∧ u.now ≤ j.issued + j.window * usT)
    (fun u t => u.fieldEnded t r.land j .fieldDisturbed 4 ∧ t.uhf.disturbed = (u.uhf.disturbed + 1) % 65536 ∧ t.uhf.run = none)) ∧
  (∀ (temp : Int) (b t0 : Nat), EventDoes (fun dt => .evUhfSynthCalDone dt true temp)
    (fun u => u.uhf.cal = some (b, t0) ∧ t0 + 60 * usT ≤ u.now)
    (fun u t => t.uhf.cal = none ∧ t.uhf.lastBand = b ∧ t.uhf.calTemp = temp ∧ t.uhf.calFails = 0 ∧ t.landings = u.landings)) ∧
  (∀ (temp : Int) (b t0 : Nat) (n : Sniff), EventAnyDoes (fun dt => .evUhfSynthCalDone dt true temp)
    (fun u => u.uhf.cal = some (b, t0) ∧ t0 + 60 * usT ≤ u.now ∧ u.uhf.run = none ∧ u.uhf.sniff = some n)
    (fun u t => t.uhf.mode = .sniff ∧ t.uhf.sniff = some { n with since := some u.now } ∧ t.uhf.cal = none)) ∧
  EventAnyDoes .evSniffPeriod
    (fun u => u.power.mode = .lobby ∧ u.power.waking = false ∧ u.uhf.sniffCfg.testBit 31 = true ∧ u.uhf.sniff = none ∧ u.dom 33 = .down ∧
      u.uhf.sniffAt + bits u.uhf.sniffTime 31 16 * msT ≤ u.now)
    (fun u t => t.dom 33 = .rising u.now ∧ t.uhf.sniffAt = u.now ∧ ∃ n, t.uhf.sniff = some n ∧ n.since = none ∧
      n.cfg = u.uhf.sniffCfg ∧ n.time = u.uhf.sniffTime ∧ n.search.band = bits u.uhf.sniffCfg 27 26 ∧ n.search.rates = bits u.uhf.sniffCfg 24 20) ∧
  (∀ (n : Sniff) (t0 : Nat) (synced : Option (Nat × Nat)),
    let lobby (u : State) : Prop := u.power.mode = .lobby ∧ u.power.waking = false ∧ u.uhf.sniff = some n ∧ n.since = some t0
    EventAnyDoes (fun dt => .evSniffListenEnd ⟨dt, synced⟩)
      (fun u => lobby u ∧ n.search.holds = [] ∧ t0 + n.listenT ≤ u.now)
      (fun u t => t = ({ u with uhf := { u.uhf with sniff := none, cal := none, mode := .down } } : State).setDom 33 (.falling u.now none)) ∧
    (∀ lane at0, EventAnyDoes (fun dt => .evSniffListenEnd ⟨dt, synced⟩)
      (fun u => lobby u ∧ n.search.holds = [(lane, at0)] ∧ synced = none ∧ at0 + n.syncT ≤ u.now)
      (fun u t => t = ({ u with uhf := { u.uhf with sniff := none, cal := none, mode := .down } } : State).setDom 33 (.falling u.now none))) ∧
    (∀ lane at0 k, EventAnyDoes (fun dt => .evSniffListenEnd ⟨dt, synced⟩)
      (fun u => lobby u ∧ n.search.holds = [(lane, at0)] ∧ synced = some (lane, k) ∧ u.now - k ≤ at0 + n.syncT)
      (fun u t => t = u)))

/-- R256, R257, R259, R260: the reader listens for an external field, waits its guard time, sends, takes the replies that begin in their window
and marks disturbances. -/
def Obligations.NfcEvents : Prop :=
  (∀ (strength : Nat) (r : NfcRun) (j : FieldJob),
    let ok (u : State) : Prop := u.nfc.run = some r ∧ u.inField r.land j ∧ r.phase = .listen ∧
      r.since + bits u.nfc.cfg 15 8 * 10 * usT ≤ u.now
    EventDoes (fun dt => .evNfcExtListenEnd dt strength) (fun u => ok u ∧ strength ≤ u.nfc.cfg % 256)
      (fun u t => t.nfc.fieldOn = true ∧ t.nfc.extField = min 255 strength ∧ t.landings = u.landings ∧
        t.nfc.run = some { r with phase := .guard, since := u.now }) ∧
    EventDoes (fun dt => .evNfcExtListenEnd dt strength) (fun u => ok u ∧ u.nfc.cfg % 256 < strength)
      (fun u t => u.fieldEnded t r.land j .fieldDisturbed 8 ∧ t.nfc.run = none ∧ t.nfc.fieldOn = u.nfc.fieldOn)) ∧
  (∀ (r : NfcRun) (j : FieldJob), EventDoes .evNfcGuardEnd
    (fun u => u.nfc.run = some r ∧ u.inField r.land j ∧ r.phase = .guard ∧ r.since + bits u.nfc.cfg 23 16 * 100 * usT ≤ u.now)
    (fun u t =>
      let from_ := max u.now (max r.opens u.nfc.holdTill)
      t = { u with nfc := { u.nfc with sent := u.nfc.sent ++ [nfcFirst j]
                                       run := some { r with phase := .frame, since := u.now, exchAt := from_, frameAt := from_
                                                            opens := from_ + (nfcFirst j).lasts } } })) ∧
  (∀ (rx : NfcRx) (r : NfcRun) (j : FieldJob),
    let ok (u : State) : Prop := u.nfc.run = some r ∧ u.inField r.land j ∧ r.phase = .frame ∧ j.kind = .nfcx ∧ j.fin = none ∧
      rx.answered = true ∧ r.opens + rx.took ≤ u.now
    let heard (u : State) : Reader :=
      { u.nfc with replyEnd := u.now, holdTill := u.now + nfcDelay (byteAt j.blk 8 == 0) }
    EventDoes (fun dt => .evNfcReplyRx dt rx) (fun u => ok u ∧ u.now ≤ r.opens + j.window * usT + rx.took)
      (fun u t => (t.land r.land).wait = .field { j with fin := some (nfcxReply j.blk j.frame rx) } ∧ u.othersKeep t r.land ∧
        t.nfc = heard u) ∧
    EventDoes (fun dt => .evNfcReplyRx dt rx) (fun u => ok u ∧ r.opens + j.window * usT + rx.took < u.now)
      (fun u t => t = { u with nfc := heard u })) ∧
  (∀ (rise us : Nat) (r : NfcRun) (j : FieldJob), EventDoes (fun dt => .evNfcDisturbed dt rise us)
    (fun u => u.nfc.run = some r ∧ u.inField r.land j ∧ u.nfcHeard r j us = true ∧ bits u.nfc.noiseCfg 15 8 ≤ rise ∧
      u.nfc.noiseCfg % 256 ≤ us)
    (fun u t => u.fieldEnded t r.land j .fieldDisturbed 8 ∧ t.nfc.run = none ∧ t.nfc.disturbed = (u.nfc.disturbed + 1) % 65536))

/-! ### The block -/

/-- One step is the command at the front of the queue acting on the state with the queue's rest; on an empty queue the block idles
(the model's choice, log 43). -/
def Obligations.StepRunsFront : Prop :=
  (∀ (c : Instr) (s : State), step { s with pending := c :: s.pending } = exec c s) ∧
  (∀ s : State, s.pending = [] → step s = .next s)

/-- After a power-on reset: memories canonical, votes honoured, internal votes as their units are, and the reset values that the spec
gives (R29, R30, R45, R108, R111, R117, R126, R489). That the stored epoch of a new part is 0 is the model's choice (log 26). -/
def Obligations.ResetState : Prop :=
  let s := State.reset
  s.memWf = true ∧ s.votesHonoured ∧ s.unitVotesFollow ∧ s.pending = [] ∧ s.host.epoch = 1 ∧
  (∀ q < 4, s.creditLedger q ∧ vget s.host.sqSeq q 1 = 0) ∧ s.host.items = [] ∧ s.host.cq = [] ∧ s.host.attn = 1 ∧ s.host.mask = 0x1FF ∧
  (∀ l < 192, s.land l = Landing.free) ∧ s.sched.drainHold = 20 ∧ s.sched.quantum = 16 ∧ s.sched.aging = 64 ∧
  s.air.chainUs = 100 ∧ s.air.minHoldUs = 500 ∧ s.air.grants = [] ∧ s.power.booting = some 1

/-- R488, R489, R490: every command answers a next state, and in it each domain honours the votes on it and the voters of the engines,
the DMA engine, the NVM controller and BIST vote exactly as their units work. -/
def Obligations.StepKeepsVotes : Prop :=
  (∀ (c : Instr) (s : State), ∃ t, exec c s = .next t ∧ t.votesHonoured ∧ t.unitVotesFollow) ∧
  (∀ s t : State, s.votesHonoured → s.unitVotesFollow → step s = .next t → t.votesHonoured ∧ t.unitVotesFollow)

/-! ### Frames of the host link -/

/-- R12, R13, R15, R16, R18: STATUS and REG_READ change nothing but the outcome of the frame; what HSDO sends is the status words, the
words read, and the CRC over STATUS1 and them. -/
def Obligations.ReadFrames : Prop :=
  (∀ (dt n : Nat) (e : Edges) (s : State), (s.tick dt).linkUp = true → exec (.frStatus dt ⟨e, n⟩) s = .next (settle
    { (s.tick dt).frameActs with host := { s.host with wakeIrq := false, hsdo := ((s.tick dt).statusBytes e).take (n / 8) } })) ∧
  (∀ (dt target len : Nat) (e : Edges) (s : State), (s.tick dt).linkUp = true → s.power.entering = none → target % 4 = 0 → 1 ≤ len → len < 256 →
    target + 4 * len ≤ 0x10000 →
    let u := (s.tick dt).frameActs
    let d := (u.readWords target len).2
    ∃ t, exec (.frRegRead dt target len ⟨e, 72 + 32 * len⟩) s = .next (settle t) ∧
      t.host.hsdo = (s.tick dt).statusBytes e ++ d ++ [crc8 (natBE 4 ((s.tick dt).shownAt ((s.tick dt).now - e.mid)).word1 ++ d)] ∧ t.host.lastErr = .ok ∧
      d.length = 4 * len ∧ t.landings = s.landings ∧ t.halls = s.halls ∧ t.host.items = s.host.items ∧ t.host.cq = s.host.cq ∧
      t.host.credits = s.host.credits ∧ t.host.attn = s.host.attn ∧ t.host.pages = s.host.pages) ∧
  (∀ (dt op : Nat) (e : Edges) (s : State), (s.tick dt).frameOpen = true → op < 256 → op ∉ [0x00, 0x01, 0x02, 0x10, 0x20, 0x21, 0xFF] →
    FrameRefused (.frFrameUnknownOp dt ⟨e, op⟩) (s.tick dt) s .badOpcode) ∧
  (∀ (dt : Nat) (e : Edges) (b0 b1 : Byte) (s : State), (s.tick dt).frameOpen = true →
    b0.toNat ∉ [0x00, 0x01, 0x02, 0x10, 0x20, 0x21, 0xFF] → FrameRefused (.frWakeFrame dt b0 b1 ⟨e, 16⟩) (s.tick dt) s .badOpcode) ∧
  (∀ (dt : Nat) (e : Edges) (b0 b1 : Byte) (s : State), (s.tick dt).linkUp = false → b0.toNat = bits s.power.wakeCfg 6 0 → b1 = ~~~b0 →
    s.power.waking = false → ∃ t, exec (.frWakeFrame dt b0 b1 ⟨e, 16⟩) s = .next (settle t) ∧ (s.tick dt).wokeBy t 0)

/-- R25, R28, R34: range and alignment of register frames, HIRQN, and the two frames of the completion queue. -/
def Obligations.QueueAndRangeRules : Prop :=
  (∀ (dt target len n : Nat) (e : Edges) (s : State), (s.tick dt).frameOpen = true → target < 0x10000 → len < 256 → 32 ≤ n →
    (target % 4 ≠ 0 → FrameRefused (.frRegRead dt target len ⟨e, n⟩) (s.tick dt) s .badAlign) ∧
    (target % 4 = 0 → len = 0 ∨ 0x10000 < target + 4 * len → FrameRefused (.frRegRead dt target len ⟨e, n⟩) (s.tick dt) s .badLength)) ∧
  (∀ (dt target len : Nat) (e : Edges) (d : List Byte) (s : State), (s.tick dt).frameOpen = true → target < 0x10000 → len < 256 →
    d.length = 4 * len →
    (target % 4 ≠ 0 → FrameRefused (.frRegWrite dt target len (framePayload 0x02 target len d) ⟨e, 0⟩) (s.tick dt) s .badAlign) ∧
    (target % 4 = 0 → len = 0 ∨ 0x10000 < target + 4 * len →
      FrameRefused (.frRegWrite dt target len (framePayload 0x02 target len d) ⟨e, 0⟩) (s.tick dt) s .badLength)) ∧
  (∀ s : State, s.host.wakeIrq = false → (s.hirqLow = true ↔
    (s.host.attn &&& s.host.mask.setWidth 8) ≠ 0 ∨ (s.host.mask.getLsbD 8 = true ∧ s.host.pendingCount ≠ 0))) ∧
  (∀ (s : State) (m : BitVec 9), ({ s with host := { s.host with mask := m } } : State).status0 = s.status0) ∧
  (∀ (dt target k : Nat) (e : Edges) (s : State), (s.tick dt).frameOpen = true → target < 256 → 1 ≤ k → k ≤ 63 →
    let d := (List.range k).flatMap fun i => match s.host.cq[target + i]? with | some e => e.bytes | none => List.replicate 16 0
    (∀ e ∈ s.host.cq, e.bytes.length = 16) →
    ∃ t, exec (.frCqRead dt target (4 * k) ⟨e, 72 + 128 * k⟩) s = .next (settle t) ∧ framesOnly (s.tick dt) t .ok ∧
      t.host.hsdo = (s.tick dt).statusBytes e ++ d ++ [crc8 (natBE 4 ((s.tick dt).shownAt ((s.tick dt).now - e.mid)).word1 ++ d)]) ∧
  (∀ (dt n : Nat) (e : Edges) (s : State), (s.tick dt).frameOpen = true → n < 0x10000 →
    (n = 0 ∨ s.host.cq.length < n → FrameRefused (.frCqRelease dt n 0 (framePayload 0x21 n 0 []) ⟨e, 0⟩) (s.tick dt) s .badRef) ∧
    (1 ≤ n → n ≤ s.host.cq.length → (∀ e ∈ s.host.cq, e.sq < 4) →
      ∃ t, exec (.frCqRelease dt n 0 (framePayload 0x21 n 0 []) ⟨e, 0⟩) s = .next (settle t) ∧ t.host.lastErr = .ok ∧
        t.host.cq = s.host.cq.drop n ∧ t.host.cqHead = (s.host.cqHead + n) % 256 ∧ t.host.items = s.host.items ∧
        (∀ q < 4, s.creditLedger q → t.creditLedger q) ∧ t.landings = s.landings))

/-- R26: a write of registers is all or nothing. A wrong length or CRC, an illegal value or a run-time refusal leaves the part as it
was; otherwise every word acts in order. In a warm reset or fault halt only ATTN_CAUSE and HIRQ_MASK can be written (R424). -/
def Obligations.WriteFrames : Prop :=
  ∀ (dt target len : Nat) (e : Edges) (d : List Byte) (s : State), target % 4 = 0 → 1 ≤ len → len < 256 → target + 4 * len ≤ 0x10000 →
    let u := s.tick dt
    let i (p : List Byte) (x : Nat) : Instr := .frRegWrite dt target len p ⟨e, x⟩
    let p := framePayload 0x02 target len d
    let ps := placed target (payloadWords len p)
    (u.frameOpen = true → (∀ q x, q.length ≠ 4 * len + 1 ∨ x ≠ 0 → FrameRefused (i q x) u s .badLength)) ∧
    (d.length = 4 * len →
      (u.frameOpen = true → ∀ c, c ≠ crc8 (cmdBytes 0x02 target len ++ d) → FrameRefused (i (d ++ [c]) 0) u s .badCrc) ∧
      (let v := u.frameActs
       u.frameOpen = true → v.badWords ps = true → FrameRefused (i p 0) u s .badField) ∧
      (let v := u.frameActs
       u.frameOpen = true → v.badWords ps = false → (∀ w ∈ ps, w.1 ≠ 0x5014) → (ps.any fun w => v.regRefused w.1 w.2) = true →
        FrameRefused (i p 0) u s .stateRefused) ∧
      (let v := u.frameActs
       u.frameOpen = true → v.badWords ps = false → (ps.any fun w => v.regRefused w.1 w.2) = false → (∀ w ∈ ps, w.1 ≠ 0x4024) →
        let t := ps.foldl (fun s w => s.regPut w.1 w.2) v
        ∃ h, exec (i p 0) s = .next (settle { t with host := { t.host.coverPages target (4 * len) with lastErr := .ok, hsdo := h } })) ∧
      (u.linkUp = true → u.power.entering = none → u.faults.mode = .warm ∨ u.faults.mode = .halt → target < 0x100 ∨ 0x108 < target + 4 * len →
        FrameRefused (i p 0) u s .stateRefused))

/-- R31, and R30 for it: a SUBMIT is accepted when its CRC, LEN, credit, SEQ and EPOCH are right, and changes nothing otherwise. -/
def Obligations.SubmitFrames : Prop :=
  ∀ (dt q len : Nat) (e : Edges) (d : List Byte) (c : Byte) (s : State), (s.tick dt).frameOpen = true → q < 4 → len < 256 → d.length = 32 →
    let i : Instr := .frSubmit dt q len (d ++ [c]) ⟨e, 0⟩
    let good := crc8 (cmdBytes 0x10 q len ++ d)
    let seq := vget s.host.sqSeq q 0
    let known := fieldLE d 4 4 = seq.toNat ∧ fieldLE d 8 2 = s.host.epoch.toNat
    (c ≠ good → FrameRefused i (s.tick dt) s .badCrc) ∧
    (c = good → len ≠ 8 → FrameRefused i (s.tick dt) s .badLength) ∧
    (c = good → len = 8 → vget s.host.credits q 0 = 0 → FrameRefused i (s.tick dt) s .noCredit) ∧
    (c = good → len = 8 → vget s.host.credits q 0 ≠ 0 → ¬ known → FrameRefused i (s.tick dt) s .badRef) ∧
    (c = good → len = 8 → vget s.host.credits q 0 ≠ 0 → known → ∃ t r, exec i s = .next (settle t) ∧ t.host.lastErr = .ok ∧
      t.host.items = s.host.items ++ [r] ∧ r.key = ⟨q, seq⟩ ∧ r.raw = d ∧ r.phase = .waiting ∧
      vget t.host.sqSeq q 0 = seq + 1 ∧ vget t.host.credits q 0 = vget s.host.credits q 0 - 1 ∧ t.host.cq = s.host.cq ∧
      (∀ k < 4, k ≠ q → vget t.host.sqSeq k 0 = vget s.host.sqSeq k 0 ∧ vget t.host.credits k 0 = vget s.host.credits k 0) ∧
      (∀ k < 4, s.creditLedger k → t.creditLedger k) ∧ t.landings = s.landings)

/-- R20 to R24, R134, R424: HUSH of a landing ends its flight, HUSH of the DMA engine fails every descriptor, a target that names no scope
is BAD_FIELD and only pauses the part from the eighth edge to the 24th, and a frame that ends before its 24th edge is a HUSH of everything. -/
def Obligations.HushFrames : Prop :=
  (∀ (dt pause l len n : Nat) (e : Edges) (s : State), (s.tick dt).frameOpen = true → l < 192 → 24 ≤ n → (s.land l).busy = true → (s.land l).endReq = none →
    (s.land l).wait = .none → (s.land l).becomesUnusable = false →
    ∃ t, exec (.frHush dt l len ⟨e, pause, n⟩) s = .next (settle t) ∧ t.host.lastErr = .ok ∧
      ((t.land l).wait = .ending .failedHush ∨ (t.land l).st = .hold) ∧ (∀ p ∈ t.sched.pipes.toList, p.serving ≠ some l)) ∧
  (∀ (dt pause len n : Nat) (e : Edges) (s : State), (s.tick dt).frameOpen = true → 24 ≤ n →
    (∀ ch < 8, (s.dma.chan ch).active = true → (s.dma.chan ch).desc.isSome = true) →
    ∃ t, exec (.frHush dt 0x100 len ⟨e, pause, n⟩) s = .next (settle t) ∧ t.host.lastErr = .ok ∧ t.dma.waiting = [] ∧
      (∀ ch < 8, (t.dma.chan ch).active = false)) ∧
  (∀ (dt pause target len n : Nat) (e : Edges) (s : State), (s.tick dt).frameOpen = true → 24 ≤ n → target < 0x10000 → 192 ≤ target →
    target ∉ [0xFF, 0x100, 0x200, 0xFFFF] → ∃ t, exec (.frHush dt target len ⟨e, pause, n⟩) s = .next (settle t) ∧
      t = { (s.tick dt).frameActs with
        hushTill := max s.hushTill (s.now + dt + pause)
        host := { s.host with wakeIrq := false, lastErr := .badField, hsdo := t.host.hsdo } }) ∧
  (∀ (dt pause target len n : Nat) (e : Edges) (s : State), 8 ≤ n → n < 24 →
    ∃ t t', exec (.frHush dt target len ⟨e, pause, n⟩) s = .next (settle t) ∧ exec (.frHush dt 0xFFFF 0 ⟨e, pause, 32⟩) s = .next (settle t') ∧
      ({ t with host := { t.host with hsdo := [] } } : State) = { t' with host := { t'.host with hsdo := [] } })

/-! ### Items -/

/-- R32, R33, R36: an item that ends is posted at once when no earlier item of its banister group is out: the queue gets its 16-byte entry,
it is accepted no more, and the credit does not return yet. NOP ends at once; a code that is not listed ends BAD_OPCODE (R38). -/
def Obligations.CompletionPosted : Prop :=
  (∀ (s : State) (r : ItemRec) (code : Code) (res : List Byte),
    (s.host.items.filter fun q => q.key == r.key) = [r] → (∀ q ∈ s.host.items, q.phase.isEnded = false ∧ q.awaits ≠ some r.key) → r.bgrp = 0 →
    let t := s.finish r.key code res
    t.host.cq = s.host.cq ++ [⟨r.key.sq, some r.key, completionBytes r code res⟩] ∧
    t.host.items = s.host.items.filter (fun q => q.key != r.key) ∧ t.host.credits = s.host.credits ∧
    (∀ q, s.creditLedger q → t.creditLedger q) ∧ t.halls = s.halls ∧ t.life = s.life) ∧
  ItemDoes .itNop (isCode 0x00) (fun _ r => [(r.reservedBad [], .badField)]) (fun u r t => t = u.finish r.key .ok []) ∧
  (∀ (dt : Nat) (s : State) (r : ItemRec), (s.tick dt).live = true → (s.tick dt).inTurn rankItem = true → (s.tick dt).nextItem = some r →
    r.code ∉ itemCodes → exec (.itUnknownItem dt) s = .next (settle (((s.tick dt).startItem r.key).finish r.key .badOpcode [])))

/-- R39, R55, R100, R104, R110, R308, R312, R561, R565: the items on flights, landings and halls, evidence and tenant records. -/
def Obligations.FlightItems : Prop :=
  ItemDoes .itFlightLoad (isCode 0x10)
    (fun u r => [(r.reservedBad [(12, 2), (14, 1), (16, 4), (20, 2), (22, 1)] || decide (7 < r.p8 14) || decide (1 < r.p8 22), .badField),
      (decide (0x7F < r.p16 12), .badRef), (decide (r.p32 16 % 4 ≠ 0 ∨ r.p16 20 % 4 ≠ 0), .badAlign),
      (decide (r.p16 20 < 4 ∨ 2048 < r.p16 20), .badLength), (u.pageTaken r, .stateRefused), (u.slotBusy (r.p16 12), .stateRefused),
      (decide (r.p32 16 ≠ 0 ∧ r.p32 16 ≠ (u.heldBytes (r.p16 12)).length), .badRef)])
    (fun u r t =>
      let v : State := { u with halls := { u.halls with held := if r.p32 16 = 0 then Tbl.del u.halls.held (r.p16 12) else u.halls.held } }
      (65536 < v.loadedArea + v.loadsMoving r.key + r.p16 20 → t = u.finish r.key .noSpace []) ∧
      (v.loadedArea + v.loadsMoving r.key + r.p16 20 ≤ 65536 → v.queuesMove t r (.page (r.p8 14)) .stage 0 0 (r.p16 20))) ∧
  ItemDoes .itFlightStart (isCode 0x11)
    (fun _ r => [(r.reservedBad [(12, 5), (18, 14)] || decide (3 < r.p8 16), .badField),
      (decide (0xFF < r.p16 12 ∨ (0xBF < r.p16 14 ∧ r.p16 14 ≠ 0xFFFF) ∨ (0x3FF < r.p16 18 ∧ r.p16 18 ≠ 0xFFFF)), .badRef)])
    (fun u r t =>
      let n := r.p16 14
      let w (o : Nat) : Word := BitVec.ofNat 32 (r.p32 o)
      let q := StartReq.mk r.key (r.p16 12) (r.p8 16) (if r.p16 18 = 0xFFFF then none else some (r.p16 18)) (w 20) (w 24) (w 28) u.now false
      (n ≠ 0xFFFF → u.claimCheck n ≠ .ok → t = u.finish r.key (u.claimCheck n) []) ∧
      (n ≠ 0xFFFF → u.claimCheck n = .ok → t = u.claimStart n q) ∧
      (n = 0xFFFF → u.noPipe = false → u.anyFree = none → t = u.finish r.key .noLanding []) ∧
      (∀ l, n = 0xFFFF → u.noPipe = false → u.anyFree = some l → l ∉ u.host.hushLandings → t = u.claimStart l q ∧ (u.land l).st = .free ∧
        (u.domUp (l / 8) = true ∨ ∀ m < 192, (u.land m).st = .free → u.domUp (m / 8) = false) ∧
        (∀ m < l, (u.land m).st = .free → u.domUp (m / 8) = false ∧ u.domUp (l / 8) = true))) ∧
  ItemDoes .itFlightStop (isCode 0x12) (fun _ r => [(r.reservedBad [(12, 2)], .badField), (decide (0xBF < r.p16 12), .badRef)])
    (fun u r t =>
      let l := r.p16 12
      let x := u.land l
      (x.st = .free ∨ x.st = .unusable → t = u.finish r.key .badRef []) ∧
      (x.st = .hold → t = (u.setLand l { x with st := .scrub }).finish r.key .ok (natLE 4 x.stopPc)) ∧
      (x.st = .scrub → x.pending = none → t = u.finish r.key .ok (natLE 4 x.stopPc)) ∧
      (x.st = .claimed ∨ (x.st = .scrub ∧ x.pending.isSome = true) →
        t = u.stopStart r.key (x.pending.map (·.key)) fun v => v.cancelStart l .failedHush) ∧
      (∀ q, x.st = .busy → x.wait = .starting q → t = u.stopStart r.key (some q.key) fun v => v.startFails l q .failedHush) ∧
      (x.st = .busy → x.wait = .none → x.becomesUnusable = false →
        ((t.land l).wait = .ending .failedHush ∨ (t.land l).st = .hold) ∧ (∀ p ∈ t.sched.pipes.toList, p.serving ≠ some l))) ∧
  ItemDoes .itLandingPeek (isCode 0x13)
    (fun u r => [(r.reservedBad [(12, 3), (16, 4)] || decide (7 < r.p8 14), .badField), (decide (0xBF < r.p16 12), .badRef),
      (decide (r.p16 18 < 1 ∨ 2048 < r.p16 18 ∨ 2048 < r.p16 16 + r.p16 18), .badLength), (u.pageTaken r, .stateRefused),
      (!(u.land (r.p16 12)).hasHalls, .badRef)])
    (fun u r t => u.queuesMove t r (.bytes (u.context (r.p16 12))) (.page (r.p8 14)) (r.p16 16) 0 (r.p16 18)) ∧
  (let checks (perm : Nat) (u : State) (r : ItemRec) : List (Bool × Code) :=
     [(r.reservedBad [(12, 4), (16, 6)] || decide (3 < r.p8 14) || decide (7 < r.p8 15), .badField), (decide (0xBF < r.p16 12), .badRef),
      (decide (r.p16 20 < 1 ∨ 2048 < r.p16 20), .badLength), (u.pageTaken r, .stateRefused), (!(u.land (r.p16 12)).hasHalls, .badRef),
      (decide (u.hallLimit (r.p16 12) (r.p8 14) < r.p32 16 + r.p16 20), .badLength),
      (!(u.hallPerm (r.p16 12) (r.p8 14)).testBit perm, .stateRefused)]
   ItemDoes .itHallRead (isCode 0x14) (checks permHr)
     (fun u r t => u.queuesMove t r (.hall (r.p16 12) (r.p8 14)) (.page (r.p8 15)) (r.p32 16) 0 (r.p16 20)) ∧
   ItemDoes .itHallWrite (isCode 0x15) (checks permHw)
     (fun u r t => u.queuesMove t r (.page (r.p8 15)) (.hall (r.p16 12) (r.p8 14)) 0 (r.p32 16) (r.p16 20))) ∧
  ItemDoes .itEvidenceRead (isCode 0x53)
    (fun u r => [(r.reservedBad [(12, 4)] || decide (7 < r.p8 14) || decide (1 < r.p8 15), .badField), (decide (0xFF < r.p16 12), .badRef),
      (u.pageTaken r, .stateRefused), (!u.evd.filled.contains (r.p16 12), .badRef),
      (r.p8 15 == 1 && (Tbl.find u.evd.captures (r.p16 12)).isNone, .badRef)])
    (fun u r t => u.queuesMove t r (.bytes (padTo 1024 (Tbl.get u.evd.recs (r.p16 12) []))) (.page (r.p8 14)) 0 0 1024) ∧
  ItemDoes .itTenantRead (isCode 0x23)
    (fun u r => [(r.reservedBad [(12, 3)] || decide (7 < r.p8 14), .badField), (decide (0x3FF < r.p16 12), .badRef),
      (u.pageTaken r, .stateRefused)])
    (fun u r t => u.queuesMove t r (.bytes (u.tenantRecord (r.p16 12))) (.page (r.p8 14)) 0 0 96)

/-- R316 to R320, R350 to R355: the items on tenants and keys, and what their durable records leave. -/
def Obligations.KeyTenantItems : Prop :=
  ItemDoes .itTenantEnrol (isCode 0x20)
    (fun u r => [(decide (0x3FF < r.p16 12 ∨ (0xBF < r.p16 16 ∧ r.p16 16 ≠ 0xFFFF)), .badRef),
      (r.reservedBad [(12, 7), (20, 2)] || decide (7 < r.p8 18) || decide (3 < r.p8 14) || decide (1 < r.p8 15), .badField),
      (decide (r.p16 20 ≠ 192), .badLength), (u.pageTaken r, .stateRefused), (u.ten.learnEnd.isSome, .lockedOut),
      ((u.tenant (r.p16 12)).any (fun x => !(x.st == 3 && u.life.st == .service)), .badRef)])
    (fun u r t => (u.kept r (decide (r.p8 15 = 1) || u.proof0 (r.p16 16) (r.p16 12))).queuesMove t r (.page (r.p8 18)) .stage 0 0 192) ∧
  ItemDoes .itTenantSuspend (isCode 0x21)
    (fun u r => [(r.reservedBad [(12, 3)] || decide (1 < r.p8 14), .badField), (decide (0x3FF < r.p16 12), .badRef),
      ((u.tenant (r.p16 12)).all (fun x => x.st == 3), .badRef), (u.tenantInUse (r.p16 12), .stateRefused)])
    (fun u r t => ∀ x, u.tenant (r.p16 12) = some x →
      (x.st = (if r.p8 14 = 0 then 2 else 1) → t = u.finish r.key .ok (natLE 2 (r.p16 12))) ∧
      (x.st ≠ (if r.p8 14 = 0 then 2 else 1) → u.queuesCommit t r [])) ∧
  ItemDoes .itTenantRevoke (isCode 0x22)
    (fun u r => [(r.reservedBad [(12, 2)], .badField), (decide (0x3FF < r.p16 12), .badRef),
      ((u.tenant (r.p16 12)).all (fun x => x.st == 3), .badRef), (u.tenantInUse (r.p16 12), .stateRefused)])
    (fun u r t => u.queuesCommit t r []) ∧
  ItemDoes .itKeyUpdate (isCode 0x30)
    (fun u r => [(u.pageTaken r, .stateRefused), (r.reservedBad [(12, 1), (14, 2)] || decide (7 < r.p8 12), .badField),
      (decide (r.p16 14 ≠ 0x110), .badLength), (u.sec.root.isNone, .entropyUnavailable)])
    (fun u r t => u.queuesMove t r (.page (r.p8 12)) .stage 0 0 272) ∧
  (∀ (s : State) (r : ItemRec) (x : Tenant), s.tenant (r.p16 12) = some x →
    (s.suspendCommitted r).tenant (r.p16 12) = some { x with st := if r.p8 14 = 0 then 2 else 1 } ∧
    (s.revokeCommitted r).tenant (r.p16 12) = some { x with st := 3, revokedBy := 1, keys := 0, wrapped := [] } ∧
    ∀ n, n ≠ r.p16 12 → (s.suspendCommitted r).tenant n = s.tenant n ∧ (s.revokeCommitted r).tenant n = s.tenant n) ∧
  (∀ (s : State) (r : ItemRec) (b : List Byte), ∃ x, (s.enrolCommitted r b).tenant (r.p16 12) = some x ∧ x.st = 1 ∧ x.ttype = byteAt b 8 ∧
    x.tokid = fieldLE b 32 4 ∧ x.counter = fieldLE b 36 4 ∧ x.climit = fieldLE b 40 4 ∧ x.startZones = fieldLE b 54 2 ∧ x.life = 0 ∧ x.passes = 0 ∧
    x.fails = 0 ∧ x.lockEnd = none ∧ (s.enrolCommitted r b).ten.learnCtr = fieldLE b 12 4 ∧
    ∀ n, n ≠ r.p16 12 → (s.enrolCommitted r b).tenant n = s.tenant n) ∧
  (∀ (s : State) (r : ItemRec) (b : List Byte), fieldLE b 32 8 ≤ Tbl.get s.sec.counters (byteAt b 8) 0 →
    s.keyCommitted r b = s.finish r.key .counterStale []) ∧
  (∀ (s : State) (r : ItemRec) (b : List Byte), Tbl.get s.sec.counters (byteAt b 8) 0 < fieldLE b 32 8 →
    let t := s.keyCommitted r b
    let n := byteAt b 8
    Tbl.get t.sec.counters n 0 = fieldLE b 32 8 ∧
    (byteAt b 6 = 0 → byteAt b 13 ≠ 1 → Tbl.find t.sec.store n = some ⟨s.sec.sk, t.vaultSlot n⟩) ∧
    (byteAt b 6 = 1 → (t.vaultSlot n).st = 2 ∧ (t.vaultSlot n).key = [] ∧ (t.vaultSlot n).engines = 0) ∧
    (byteAt b 6 = 0 → (t.vaultSlot n).st = 1 ∧ (t.vaultSlot n).ktype = byteAt b 9 ∧ (t.vaultSlot n).engines = fieldLE b 10 2 ∧
      (t.vaultSlot n).usage = byteAt b 12) ∧
    (∀ m, m ≠ n → t.vaultSlot m = s.vaultSlot m ∧ Tbl.get t.sec.counters m 0 = Tbl.get s.sec.counters m 0) ∧
    ∀ l < 192, ∀ k < 4, ((s.land l).handle k).ofSlot n = true → (t.land l).handle k = Handle.empty)

/-- R282, R283, R377 to R382, R394 to R403, R48: LIFE_CHANGE, the update items, ATLAS_LOAD and SURVEY. -/
def Obligations.LifeUpdateItems : Prop :=
  (∀ (vdd : Nat) (temp : Int), ItemDoes (fun dt => .itLifeChange dt vdd temp) (isCode 0x31)
    (fun u r => [(u.pageTaken r, .stateRefused), (r.reservedBad [(12, 4)] || decide (7 < r.p8 13) || decide (5 < r.p8 12), .badField),
      (!(r.p16 14 == 128 || r.p16 14 == 384 || (r.p16 14 == 0 && u.life.st == .service && r.p8 12 == 2)), .badLength)])
    (fun u r t => (r.p16 14 = 0 → u.queuesCommit t r []) ∧
      (r.p16 14 ≠ 0 → (u.kept r (decide (3000 ≤ vdd ∧ -20 ≤ temp ∧ temp ≤ 85))).queuesMove t r (.page (r.p8 13)) .stage 0 0 (r.p16 14)))) ∧
  ItemDoes .itUpdateBegin (isCode 0x40)
    (fun u r => [(u.life.inTrial, .stateRefused), (u.pageTaken r, .stateRefused),
      (r.reservedBad [(12, 8)] || decide (1 < r.p8 12) || decide (7 < r.p8 13), .badField), (decide (r.p16 14 ≠ 256), .badLength)])
    (fun u r t => u.queuesMove t r (.page (r.p8 13)) .stage 0 0 256) ∧
  ItemDoes .itUpdateChunk (isCode 0x41)
    (fun u r =>
      let n := u.life.openBank.elim 0 fun b => (u.life.bank b).ilen
      [(u.life.openBank.isNone, .stateRefused), (r.reservedBad [(12, 1), (14, 6)] || decide (7 < r.p8 12), .badField),
       (decide (r.p16 14 < 1 ∨ 2048 < r.p16 14), .badLength), (u.pageTaken r, .stateRefused), (decide (r.p32 16 ≠ u.life.held), .badRef),
       (decide (n < r.p32 16 + r.p16 14 ∨ (r.p16 14 % 16 ≠ 0 ∧ r.p32 16 + r.p16 14 ≠ n)), .badLength)])
    (fun u r t =>
      let hi := (r.p32 16 + r.p16 14 - 1) / 4096
      (hi < u.life.erasedTo → u.queuesMove t r (.page (r.p8 12)) .stage 0
        (4096 * bankSector (u.life.openBank.getD 0) + r.p32 16) (r.p16 14)) ∧
      (u.life.erasedTo ≤ hi → t = { u with life := { u.life with jobs := u.life.jobs ++
        ((List.range (hi + 1 - u.life.erasedTo)).map fun i => .erase r.key (bankSector (u.life.openBank.getD 0) + u.life.erasedTo + i)) } })) ∧
  (∀ ext, ItemDoes (fun dt => .itUpdateVerify dt ext) (isCode 0x42)
    (fun u r => [(r.reservedBad [], .badField), (u.life.openBank.isNone, .stateRefused)])
    (fun u r t => ∀ b, u.life.openBank = some b →
      let k := u.life.bank b
      let v : State := { u with life := { u.life with lastVerifyOk := false } }
      (u.life.bytes ≠ k.ilen → t = v.finish r.key .badLength []) ∧
      (u.life.bytes = k.ilen → sha384 (k.image.readN 0 k.ilen) ≠ k.digest →
        t = ({ v with life := v.life.closeUpdate } : State).finish r.key .imageSigFail []) ∧
      (u.life.bytes = k.ilen → sha384 (k.image.readN 0 k.ilen) = k.digest → b < 2 → v.queuesCommit t r []))) ∧
  ItemDoes .itUpdateActivate (isCode 0x43)
    (fun u r => [(r.reservedBad [(12, 1)] || decide (1 < r.p8 12), .badField), (u.life.readyBank.isNone, .stateRefused)])
    (fun u r t => u.queuesCommit t r []) ∧
  (∀ (vdd : Nat) (temp : Int), ItemDoes (fun dt => .itUpdateConfirm dt vdd temp) (isCode 0x44)
    (fun u r => [(r.reservedBad [], .badField), (u.life.trialTarget.isNone, .stateRefused),
      (decide (¬ (3000 ≤ vdd ∧ -20 ≤ temp ∧ temp ≤ 85)), .stateRefused)])
    (fun u r t => u.queuesCommit t r [])) ∧
  ItemDoes .itAtlasLoad (isCode 0x52)
    (fun u r => [(r.reservedBad [(12, 1), (14, 7)] || decide (7 < r.p8 12) || decide (1 < r.p8 20), .badField),
      (decide (r.p16 14 < 1 ∨ 2048 < r.p16 14), .badLength), (u.pageTaken r, .stateRefused),
      (u.landings.toList.any Landing.busy, .stateRefused), (decide (r.p32 16 ≠ 0 ∧ r.p32 16 ≠ u.verdict.held), .badRef),
      (decide (131072 < r.p32 16 + r.p16 14), .noSpace)])
    (fun u r t =>
      (r.p32 16 ≠ 0 → u.queuesMove t r (.page (r.p8 12)) .stage 0 (4096 * atlasSector u.verdict.stageHalf + r.p32 16) (r.p16 14)) ∧
      (r.p32 16 = 0 → t = { u with verdict := { u.verdict with held := 0 }, life := { u.life with jobs := u.life.jobs ++
        ((List.range 32).map fun i => .erase r.key (atlasSector u.verdict.stageHalf + i)) } })) ∧
  ItemDoes .itSurvey (isCode 0x01) (fun u r => [(r.reservedBad [(12, 1)] || decide (7 < r.p8 12), .badField), (u.pageTaken r, .stateRefused)])
    (fun u r t => u.ledgersBad = 0 →
      let v : State := { u with faults := { u.faults with checks := (u.faults.checks + 1) % 65536, failed := 0 } }
      v.queuesMove t r (.bytes v.survey) (.page (r.p8 12)) 0 0 2048) ∧
  (∀ (s : State) (r : ItemRec) (bs : List Byte) (b : Nat), s.life.openBank = some b → b < 4 → (s.life.bank b).image.wf = true →
    let t := s.chunkCommitted r bs
    t.life.bytes = r.p32 16 + bs.length ∧ t.life.held = r.p32 16 + bs.length ∧ (t.life.bank b).image.readN (r.p32 16) bs.length = bs ∧
    ((t.life.bank b).st = if r.p32 16 + bs.length = (s.life.bank b).ilen then .downloaded else (s.life.bank b).st) ∧
    ∀ a, a ≠ b → t.life.bank a = s.life.bank a)

/-- R436, R437, R460, R491, R494 to R505, R511 to R514: VOTE_SET, TIMER_SET, BIST_RUN and CASCADE_MODE. -/
def Obligations.ControlItems : Prop :=
  ItemDoes .itVoteSet (isCode 0x50)
    (fun u r => [(r.reservedBad [(12, 1), (16, 8)] || decide (0x1F < r.p8 12) || decide (2 ^ 50 ≤ fieldLE r.raw 16 8), .badField),
      ((List.range 50).any (fun d => (fieldLE r.raw 16 8).testBit d && !(u.vote (r.p8 12)).testBit d && heldDown u.bist.unus d), .unitUnusable)])
    (fun u r t => t.vote (r.p8 12) = fieldLE r.raw 16 8 ∧ (∀ v, v ≠ r.p8 12 → t.vote v = u.vote v) ∧ t.power.domains = u.power.domains ∧ t.halls = u.halls) ∧
  (let name (r : ItemRec) : List (Bool × Code) := [(decide (15 < r.p8 12), .badField), (decide (r.p8 12 < 2), .badRef)]
   ItemDoes .itTimerConfigure (fun r => isCode 0x51 r && r.p8 13 != 1 && r.p8 13 != 2)
     (fun u r =>
       let x := u.timer (r.p8 12)
       [(decide (2 < r.p8 13), .badField)] ++ name r ++ [(r.reservedBad [(12, 3), (16, 14)] || !timerFieldsOk (r.p8 12) r, .badField),
        (x.running && !(x.source == r.p8 14 && x.prescale == r.p32 16 && x.trigSrc == r.p8 28 && x.trigMode == r.p8 29), .stateRefused)])
     (fun u r t => let x := u.timer (r.p8 12)
       (x.running = false → (t.timer (r.p8 12)).configured = true ∧ (t.timer (r.p8 12)).source = r.p8 14 ∧
         (t.timer (r.p8 12)).prescale = r.p32 16 ∧ (t.timer (r.p8 12)).compare = r.p32 20 ∧ (t.timer (r.p8 12)).period = r.p32 24 ∧
         (t.timer (r.p8 12)).count = 0 ∧ (t.timer (r.p8 12)).running = false ∧ (t.timer (r.p8 12)).events = 0) ∧
       (x.running = true → x.cadence = true → (t.timer (r.p8 12)).cmpPre = r.p32 20 ∧ (t.timer (r.p8 12)).perPre = r.p32 24 ∧
         (t.timer (r.p8 12)).preloaded = true ∧ (t.timer (r.p8 12)).running = true) ∧
       (x.running = true → x.cadence = false → (t.timer (r.p8 12)).compare = r.p32 20 ∧ (t.timer (r.p8 12)).running = true)) ∧
   ItemDoes .itTimerStart (fun r => isCode 0x51 r && r.p8 13 == 1)
     (fun u r => name r ++ [(r.reservedBad [(12, 2)], .badField), (!(u.timer (r.p8 12)).configured, .stateRefused)])
     (fun u r t => (t.timer (r.p8 12)).running = true ∧ ((u.timer (r.p8 12)).running = true → ∀ k < 16, t.timer k = u.timer k)) ∧
   ItemDoes .itTimerStop (fun r => isCode 0x51 r && r.p8 13 == 2) (fun _ r => name r ++ [(r.reservedBad [(12, 2)], .badField)])
     (fun u r t => (t.timer (r.p8 12)).running = false ∧ ((u.timer (r.p8 12)).running = false → ∀ k < 16, t.timer k = u.timer k))) ∧
  ItemDoes .itBistRun (isCode 0x54)
    (fun u r => [(r.reservedBad [(12, 2)] || decide (r.p16 12 = 0 ∨ 255 < r.p16 12), .badField),
      (u.landings.toList.any Landing.busy, .stateRefused)])
    (fun u r t => t = { u with bist := { u.bist with running := true, cold := false, scope := r.p16 12, startedAt := u.now } }) ∧
  (∀ (marks failed kat coils : Nat) (r : ItemRec), EventDoes (fun dt => .evBistRunDone dt marks failed kat [] [] coils)
    (fun u => u.bist.running = true ∧ (u.host.items.find? fun q => q.code == 0x54 && q.phase == .running) = some r ∧ u.bist.scope = 0x80 ∧
      r.bgrp = 0 ∧ u.bist.unus = 0 ∧ (u.host.items.filter fun q => q.key == r.key) = [r])
    (fun _ t => t.bist.running = false ∧ t.bist.failed = failed &&& 0x80 &&& 0xFF ∧ t.bist.unus = 0 ∧
      ∃ e ∈ t.host.cq, e.bytes = completionBytes r .ok (natLE 2 (failed &&& 0x80 &&& 0xFF)))) ∧
  ItemDoes .itCascadeStandalone (fun r => isCode 0x55 r && r.p8 12 == 0) (fun _ r => [(r.reservedBad [(12, 1)], .badField)])
    (fun u _ t => (u.gal.role ≠ .standalone → t.gal.leaving = true ∨ t.gal.role = .standalone) ∧ t.halls = u.halls) ∧
  ItemDoes .itCascadeJoin (fun r => isCode 0x55 r && r.p8 12 == 1) (fun _ r => [(r.reservedBad [(12, 1)], .badField)])
    (fun u r t => (u.gal.addr = 0 → u.gal.role = .standalone → u.gal.joinItem = none →
        t = { u with gal := { u.gal with listen := some u.now, joinItem := some r.key } }) ∧
      (u.gal.addr ≠ 0 → u.gal.joinItem = none → u.gal.role = .standalone → t.gal.role = .joining ∧ t.gal.joinItem = some r.key ∧
        t.gal.joinAt = some u.now ∧ t.gal.leaving = false) ∧
      (u.gal.addr ≠ 0 → u.gal.joinItem = none → u.gal.role = .lagging → t.gal.role = .joining ∧ t.gal.joinItem = some r.key ∧
        t.gal.joinAt = some u.now ∧ t.gal.leaving = false) ∧
      (u.gal.addr ≠ 0 → u.gal.role = .joined → t = ({ u with gal := { u.gal with leaving := false } } : State).galItem (some r.key) .ok)) ∧
  ItemDoes .itCascadeModeChange (fun r => isCode 0x55 r && decide (1 < r.p8 12))
    (fun u r => [(r.reservedBad [(12, 4)] || decide (2 < r.p8 12) || r.pageBad, .badField), (decide (r.p16 14 ≠ 16), .badLength),
      (decide (u.gal.addr ≠ 0), .stateRefused), (u.pageTaken r, .stateRefused)])
    (fun u r t => u.queuesMove t r (.page (r.p8 13)) .stage 0 0 16)

/-! ### Engines, verdicts, tenants, evidence -/

/-- R59, R80, R86 to R89, R93, R293, R304, R314, R315, R322 to R326, R346, R356, R365: what ends the waits of crypto, JUDGE, TLOAD, TFAIL
and NEWEL steps; lockouts, the learning window, life flags, vehicle time and the evidence recorder. -/
def Obligations.VerdictTenantEvents : Prop :=
  (∀ (l e : Nat) (j : CryptoJob), EventDoes (fun dt => .evCryptoDone dt l)
    (fun u => l < 192 ∧ (u.land l).wait = .crypto j ∧ j.engine = some e ∧ u.domUp (engineDomain e) = true ∧ (u.land l).endReq = none)
    (fun u t => u.waitEnded t l j.d j.code ∧ (t.land l).proof = ((u.land l).proof || j.proof) ∧
      (∀ i h, j.handle = some (i, h) → i < 4 → (t.land l).handle i = h) ∧
      t.halls = (j.writes.foldl (fun s w => s.hallWrite l 1 w.1 w.2) u).halls)) ∧
  (∀ (l n dst t0 : Nat) (j : CryptoJob), EventDoes (fun dt => .evDrbgWaitLapse dt l)
    (fun u => l < 192 ∧ (u.land l).wait = .crypto j ∧ j.drbg = some (n, dst, t0) ∧ t0 + 150 * usT ≤ u.now ∧ j.writes = [] ∧
      j.handle = none ∧ (u.land l).endReq = none)
    (fun u t => ∃ v : State, u.waitEnded v l j.d .entropyUnavailable ∧ v.halls = u.halls ∧ v.sec.unavail = (u.sec.unavail + 1) % 65536 ∧
      v.sec.drbgQueue = u.sec.drbgQueue.filter (· != l) ∧ t = v.serveDrbg v.sec.drbgQueue.length)) ∧
  (∀ (l d blk : Nat) (stale : Bool) (rest : List (Nat × Bool)), EventDoes (fun dt => .evVerdictDone dt l)
    (fun u => l < 192 ∧ u.verdict.queue = (l, stale) :: rest ∧ (u.land l).wait = .judge d blk ∧ (u.land l).endReq = none)
    (fun u t =>
      let v := (u.draw.1.judge l blk stale u.draw.2).1
      (t.land l).wait = .none ∧ (t.land l).pc = (u.land l).pc + 1 ∧ (t.land l).regs = ((u.land l).setReg d (BitVec.ofNat 32 v.word)).regs ∧
      (t.land l).flags = { (u.land l).flags with z := v.cls == 0 } ∧ (t.land l).relok = v.relok ∧ (t.land l).relokZone = v.zone ∧
      (t.land l).fuse = [] ∧ t.verdict.queue = rest ∧ t.verdict.last = v.word ∧ t.halls = u.halls ∧ u.othersKeep t l ∧
      (u.atlas = none → v.cls = 1 ∧ v.conf = 0 ∧ v.relok = false ∧ (t.land l).relok = false))) ∧
  (∀ (l d n : Nat), EventDoes (fun dt => .evTenantUnwrapDone dt l)
    (fun u => l < 192 ∧ (u.land l).wait = .tload d n false ∧ u.tenantTurn l n = true ∧ (u.leaveTurn l).tloadCode l n = .ok)
    (fun u t => (t.land l).wait = .tload d n true ∧ (t.land l).tenant = some n ∧ (t.land l).pc = (u.land l).pc ∧
      (t.land l).regs = (u.land l).regs ∧ t.halls = u.halls ∧ u.othersKeep t l)) ∧
  (∀ (l d n : Nat), EventDoes (fun dt => .evTenantUnwrapDone dt l)
    (fun u => l < 192 ∧ (u.land l).wait = .tload d n true ∧ u.domUp 43 = true ∧ (u.land l).endReq = none)
    (fun u t => u.waitEnded t l d .ok ∧ t.ten = u.ten ∧ t.halls = u.halls ∧ u.othersKeep t l ∧
      ∀ x, u.tenant n = some x → (t.land l).tenantKeys = (List.range 4).map (u.unwrapKey x))) ∧
  (∀ (l d : Nat) (g : Staged) (r : Tenant) (rest : List Nat), EventDoes (fun dt => .evNewelDurable dt l none)
    (fun u => l < 192 ∧ (u.land l).wait = .newel d ∧ (u.land l).staged = some g ∧ u.ten.newels = l :: rest ∧ u.tenant g.tenant = some r ∧
      (u.land l).endReq = none)
    (fun u t => u.waitEnded t l d .ok ∧ (t.land l).staged = none ∧ t.ten.newels = rest ∧ t.halls = u.halls ∧
      (∃ x, t.tenant g.tenant = some x ∧ x.counter = g.counter ∧ x.cf = 0 ∧ x.passes = (r.passes + 1) % 2 ^ 32 ∧ x.st = r.st ∧
        x.fails = r.fails ∧ x.tokid = r.tokid) ∧ ∀ n, n ≠ g.tenant → t.tenant n = u.tenant n)) ∧
  (∀ (l d n : Nat) (r : Tenant), EventDoes (fun dt => .evTfailDurable dt l none)
    (fun u => l < 192 ∧ (u.land l).wait = .tfail d ∧ (u.land l).tenant = some n ∧ u.tenant n = some r ∧ (u.land l).endReq = none)
    (fun u t =>
      let cf := min (r.cf + 1) 255
      let locks := r.lockEnd.isSome = true ∨ u.lockLim ≤ cf
      t.halls = u.halls ∧ (locks → u.waitEnded t l d .lockedOut) ∧ (¬ locks → u.waitEnded t l d .ok) ∧
      ∃ x, t.tenant n = some x ∧ x.cf = cf ∧ x.fails = (r.fails + 1) % 2 ^ 32 ∧ x.counter = r.counter ∧
        (locks → x.lockEnd = some (u.counting + u.lockS * secT)) ∧ (¬ locks → x.lockEnd = none))) ∧
  (∀ (n e : Nat) (r : Tenant), EventDoes (fun dt => .evTenantLockoutEnd dt n)
    (fun u => u.tenant n = some r ∧ r.lockEnd = some e ∧ e ≤ u.counting)
    (fun u t => t.tenant n = some { r with lockEnd := none } ∧ ∀ m, m ≠ n → t.tenant m = u.tenant m)) ∧
  (∀ e, EventDoes .evLearnLockoutEnd (fun u => u.ten.learnEnd = some e ∧ e ≤ u.counting)
    (fun u t => t = { u with ten := { u.ten with learnEnd := none } })) ∧
  EventDoes .evLearnWindowAge (fun _ => True)
    (fun u t => t.ten.window = u.windowFails ∧ t.ten.aged + t.ten.window.length = u.ten.aged + u.ten.window.length ∧ t.ten.recs = u.ten.recs) ∧
  EventDoes .evLifeRecompute (fun u => u.ten.time.isSome = true ∧ u.ten.lifeAt + 60 * secT ≤ u.counting)
    (fun u t => t.ten.lifeAt = u.counting ∧
      t.ten.recs = u.ten.recs.map fun e => (e.1, { e.2 with life := u.lifeFlags e.2 })) ∧
  (∀ c, EventDoes .evEvdPostMsLapse (fun u => u.evd.cap = some c ∧ c.since + bits u.evd.cfg1 15 0 * msT ≤ u.now)
    (fun u t => t.evd.cap = none ∧ t.evd.mode = .rearm ∧ t.evd.pubAt = u.now ∧
      Tbl.find t.evd.captures c.trig = some (c.trig :: (c.pre ++ c.post)) ∧ t.landings = u.landings)) ∧
  EventDoes .evEvdRearmLapse (fun u => u.evd.mode = .rearm ∧ u.evd.pubAt + 2 * msT ≤ u.now)
    (fun u t => t.evd.mode = .armed ∧ t.evd.cfg = u.evd.cfgNext.getD u.evd.cfg ∧ t.evd.cfg1 = u.evd.cfg1Next.getD u.evd.cfg1 ∧
      t.evd.captures = u.evd.captures) ∧
  RegisterDoes .rgTenTimeWrite 0x3410 (fun _ _ => True) (fun u v t => t.ten.time = some (v.toNat, u.counting) ∧
    t.ten.floor = (if u.life.st = .service then v.toNat else if u.ten.floor + 3600 ≤ v.toNat then v.toNat else u.ten.floor)) ∧
  RegisterDoes .rgTenLifeCfgWrite 0x341C (fun _ _ => True) (fun u v t => t.ten.lifeCfg = v.toNat ∧
    t.ten.recs = u.ten.recs.map fun e =>
      (e.1, { e.2 with life := ({ u with ten := { u.ten with lifeCfg := v.toNat } } : State).lifeFlags e.2 }))

/-! ### Release sessions and the START sampler -/

/-- R327 to R338: the release session, its frames on CANB, the pattern on RELA and RELB, freshness, and the START sampler. -/
def Obligations.ReleaseEvents : Prop :=
  (∀ (l d base : Nat) (q : Session), EventDoes (fun dt => .evRelopenFirstFrame dt l)
    (fun u => l < 192 ∧ u.rel.session = some q ∧ q.land = l ∧ (u.land l).wait = .relOpen d base ∧ u.rel.covered = true ∧ u.rel.cur = none ∧
      u.rel.canb.transmits = true ∧ (u.land l).endReq = none)
    (fun u t => u.waitEnded t l d .ok ∧ (t.land l).relSession = true ∧ t.rel.next = u.rel.next + 1 ∧ t.rel.lastSent = u.rel.next ∧
      (∃ f, t.rel.cur = some f ∧ f.fresh = u.rel.next ∧ f = u.relFrame q q.window) ∧
      (∃ p, t.rel.session = some p ∧ p.openAt = some u.now ∧ p.sent = (q.sent + 1) % 65536 ∧ p.land = l) ∧
      (q.drive = true → t.rel.pattern = true ∧ t.rel.relA = true ∧ t.rel.relB = false ∧ t.rel.halfAt = u.now) ∧ t.halls = u.halls ∧
      (u.rel.cfg1.toNat.testBit 31 = true → ∃ o, t.rel.canaOut = some o ∧ o.ident = bits u.rel.cfg1.toNat 10 0 ∧ o.data.length = 8))) ∧
  (∀ (l d : Nat), EventDoes (fun dt => .evRelcloseDone dt l)
    (fun u => l < 192 ∧ (u.land l).wait = .relClose d ∧ u.rel.pattern = false ∧ u.rel.cur = none ∧ (u.land l).endReq = none)
    (fun u t => u.waitEnded t l d .ok ∧ t.rel = u.rel ∧ t.halls = u.halls ∧ u.othersKeep t l)) ∧
  (∀ (q : Session) (t0 : Nat), EventDoes .evReleaseRepeat
    (fun u => u.rel.session = some q ∧ q.openAt = some t0 ∧ t0 + q.k * q.period ≤ u.now ∧ q.k * q.period < q.window ∧
      u.rel.canb.busOff = false)
    (fun u t => (∃ p, t.rel.session = some p ∧ p.k = q.k + 1 ∧ p.land = q.land) ∧ t.landings = u.landings ∧
      (u.rel.covered = true → u.rel.cur = none → u.rel.canb.transmits = true →
        t.rel.next = u.rel.next + 1 ∧ ∃ f, t.rel.cur = some f ∧ f.fresh = u.rel.next) ∧
      (u.rel.covered = true → u.rel.cur.isSome = true → t.rel.cur = u.rel.cur ∧ t.rel.curGone = true ∧
        ∃ f, t.rel.queued = some f ∧ f.fresh = u.rel.next) ∧
      (u.rel.covered = false → t.rel.skipped = (u.rel.skipped + 1) % 65536 ∧ t.rel.next = u.rel.next ∧ t.rel.queued = none))) ∧
  EventDoes .evCanFrameAck (fun u => u.rel.cur.isSome = true ∧ u.rel.canb.transmits = true ∧ u.domUp 47 = true ∧ u.rel.queued = none)
    (fun u t => t.rel.cur = none ∧ t.rel.orphan = false ∧ t.rel.canb.tec = u.rel.canb.tec - 1 ∧ t.rel.next = u.rel.next ∧
      t.landings = u.landings ∧ (u.rel.session = none ∨ u.rel.orphan = false → t.rel.acked = (u.rel.acked + 1) % 65536) ∧
      (∀ q, u.rel.session = some q → u.rel.orphan = false → ∃ p, t.rel.session = some p ∧ p.acked = (q.acked + 1) % 65536) ∧
      (∀ q, u.rel.session = some q → u.rel.orphan = true → ∃ p, t.rel.session = some p ∧ p.acked = q.acked % 65536)) ∧
  (∀ ackError, EventDoes (fun dt => .evCanAttemptFail dt ackError)
    (fun u => u.rel.cur.isSome = true ∧ u.rel.canb.transmits = true ∧ u.domUp 47 = true ∧ u.rel.queued = none)
    (fun u t => t.rel.cur = (if u.rel.curGone then none else u.rel.cur) ∧
      t.rel.canb.tec = (if ackError = true ∧ u.rel.canb.passive 0 u.now = true then u.rel.canb.tec else u.rel.canb.tec + 8) ∧
      t.rel.session = u.rel.session ∧ t.rel.next = u.rel.next ∧ t.landings = u.landings)) ∧
  (∀ (q : Session) (t0 d : Nat), EventDoes .evReleaseWindowLapse
    (fun u => u.rel.session = some q ∧ q.openAt = some t0 ∧ t0 + q.window ≤ u.now ∧ q.land < 192 ∧ (u.land q.land).wait = .relHold d ∧
      (u.land q.land).endReq = none)
    (fun u t => t.rel.session = none ∧ t.rel.queued = none ∧ t.rel.curGone = true ∧ t.rel.stopping = u.rel.pattern ∧
      t.rel.cur = (if u.rel.canb.busOff then none else u.rel.cur) ∧ (t.land q.land).wait = .none ∧ (t.land q.land).pc = (u.land q.land).pc + 1 ∧ (t.land q.land).relSession = false ∧
      (t.land q.land).flags.z = (q.acked != 0) ∧ (d ≠ 0 → d < 16 → ((t.land q.land).reg d).toNat % 256 =
        (if q.acked = 0 then Code.fieldTimeout.num else Code.ok.num)))) ∧
  EventDoes (fun dt => .evFreshReserveDone dt true true) (fun u => u.rel.top - u.rel.mark < 64)
    (fun u t => t = { u with rel := { u.rel with top := u.rel.top + 256 } }) ∧
  EventDoes (fun dt => .evFreshReserveDone dt false true)
    (fun u => u.rel.session.isSome = true ∧ u.rel.covered = false ∧ u.rel.next < u.rel.top)
    (fun u t => t = { u with rel := { u.rel with mark := (u.rel.next / 16 + 1) * 16 } } ∧ t.rel.covered = true) ∧
  (∀ readA readB, EventDoes (fun dt => .evRelHalfPeriod dt readA readB)
    (fun u => u.rel.pattern = true ∧ readA = u.rel.relA ∧ readB = u.rel.relB ∧ u.rel.halfAt + 500 * usT ≤ u.now)
    (fun u t => t.landings = u.landings ∧
      (u.rel.stopping = false → t.rel.relA = !u.rel.relA ∧ t.rel.relB = !u.rel.relB ∧ t.rel.halfAt = u.rel.halfAt + 500 * usT ∧
        t.rel.pattern = true) ∧
      (u.rel.stopping = true → t.rel.relA = false ∧ t.rel.relB = false ∧ t.rel.pattern = false ∧ t.rel.relPin = u.rel.relPin))) ∧
  (∀ readA readB, EventDoes (fun dt => .evRelHalfPeriod dt readA readB)
    (fun u => u.rel.pattern = true ∧ (readA ≠ u.rel.relA ∨ readB ≠ u.rel.relB) ∧ u.rel.halfAt + 250 * usT ≤ u.now)
    (fun u t => t.landings = u.landings ∧ t.rel.relA = false ∧ t.rel.relB = false ∧ t.rel.pattern = false ∧ t.rel.relPin = true ∧
      t.faults.lastCause = Cause.relPin.num) rankFault) ∧
  EventDoes .evCanbBusoff (fun u => u.rel.canb.busOff = false ∧ 256 ≤ u.rel.canb.tec ∧ u.domUp 47 = true)
    (fun u t => t.rel.canb.busOff = true ∧ t.rel.canb.tec = 255 ∧ t.rel.canb.offAt = u.now ∧
      t.rel.cur = (if u.rel.curGone then none else u.rel.cur) ∧ t.rel.canb.busOffs = (u.rel.canb.busOffs + 1) % 256 ∧
      t.rel.session = u.rel.session ∧ t.faults.lastCause = Cause.canbBusoff.num ∧ t.landings = u.landings) rankFault ∧
  EventDoes .evCanbBusoffRecover
    (fun u => u.rel.canb.busOff = true ∧ u.rel.canb.offAt + u.rel.canb.bitTicks (128 * 11) ≤ u.now ∧ u.rel.queued = none)
    (fun u t => t.rel.canb.busOff = false ∧ t.rel.canb.tec = 0 ∧ t.rel.canb.recErr 0 u.now = 0 ∧ t.rel.session = u.rel.session ∧ t.rel.cur = u.rel.cur) ∧
  (∀ rawB, EventDoes (fun dt => .evStartEdge dt 0 true rawB)
    (fun u => u.domUp 47 = true ∧ u.start.filtA = false ∧ u.start.filtB = false ∧ u.start.disc = none ∧
      u.start.mayChange 0 u.startSample = true ∧ u.relJustEnded none [0] = false)
    (fun u t => t.start.filtA = true ∧ t.start.filtB = false ∧ t.start.disc = some (Disc.mk u.startSample false) ∧
      t.start.fault = u.start.fault ∧ t.landings = u.landings)) ∧
  (∀ (rawA : Bool) (e : Nat), EventDoes (fun dt => .evStartEdge dt 1 rawA false)
    (fun u => u.domUp 47 = true ∧ u.start.filtA = true ∧ u.start.filtB = false ∧ u.start.disc = some (Disc.mk e false) ∧
      u.startSample ≤ e + u.start.limit ∧ u.start.fault = false ∧ u.start.mayChange 1 u.startSample = true ∧
      u.relJustEnded none [0] = false)
    (fun u t => t.start.filtB = true ∧ t.start.disc = none ∧ t.start.sep = min 8191 (u.startSample - e) ∧ t.startRequest = true)) ∧
  (∀ (rawA rawB : Bool) (d : Disc), EventDoes (fun dt => .evStartDiscLimit dt rawA rawB)
    (fun u => u.start.disc = some d ∧ u.domUp 47 = true ∧ d.e1 + u.start.limit + 1 ≤ u.startSample ∧ u.relJustEnded none [0] = false)
    (fun u t => t.start.disc = none ∧ t.start.fault = true ∧ t.start.firstB = d.firstB ∧ t.start.count = (u.start.count + 1) % 65536 ∧
      t.startRequest = false) rankFault) ∧
  RegisterDoes .rgStartFaultClear 0x3508 (fun _ _ => True) (fun u v t =>
    (v.toNat.testBit 0 = true → u.start.filtA = false → u.start.filtB = false → u.start.idleSince + 16 ≤ u.startSample →
      t.start.fault = false ∧ t.start.firstB = if u.start.fault then false else u.start.firstB) ∧
    (v.toNat.testBit 0 = false ∨ u.start.filtA = true ∨ u.start.filtB = true ∨ u.startSample < u.start.idleSince + 16 → t.start = u.start))

/-! ### The tag port and the field store -/

/-- R264 to R281: states of the port, its commands, the field store, FIELD_WAKE, and the registers of the wire side. A write in progress
never shows in its block before it is committed. -/
def Obligations.TagEvents : Prop :=
  (∀ wl, TagDoes (fun dt => .evTagFieldArrive dt wl) (fun _ => True) (fun u x => x.field = true ∧ x.vtagOk = true ∧ x.vtagWrite = wl ∧
    x.mode = (if u.tag.mode == .powerOff then .idle else u.tag.mode) ∧ x.slots = u.tag.slots ∧ x.path = u.tag.path ∧
    (u.tag.field = false → u.tag.fdWake = true → u.nfc.fieldOn = false → x.wakeEnd = some (u.now + u.tag.cfg 9 * msT)) ∧
    (u.tag.field = true ∨ u.tag.fdWake = false ∨ u.nfc.fieldOn = true → x.wakeEnd = u.tag.wakeEnd))) ∧
  (∀ weak, TagDoes (fun dt => .evTagFieldLoss ⟨dt, weak⟩) (fun _ => True) (fun u x => x.vtagOk = false ∧ x.slots = u.tag.slots ∧
    (u.tag.vdd = true → x = { u.tag with
      field := weak, vtagOk := false, vtagWrite := false, fieldLost := u.now, mute := u.tag.cmd.isSome && (u.tag.mute || !weak) }) ∧
    (u.tag.vdd = false → x.field = false ∧ x.mode = .powerOff ∧ x.path = [] ∧ x.wire = [] ∧ x.cmd = none ∧ x.authed = false ∧ x.chal = none ∧
      x.wakeEnd = none ∧ x.staged = List.replicate 32 0 ∧ x.wstatWord = 0))) ∧
  TagDoes .evTagFieldAbsentTimeout (fun u => u.tag.vdd = true ∧ u.tag.field = false ∧ u.tag.fieldLost + msT ≤ u.now)
    (fun u x => x = { u.tag with mode := .idle, authed := false, chal := none }) ∧
  (∀ vio, TagDoes (fun dt => .evTagVddRise ⟨dt, vio⟩) (fun _ => True)
    (fun u x => x = { u.tag with vdd := true, vio := vio, mode := if u.tag.mode == .powerOff then .idle else u.tag.mode })) ∧
  (∀ vio, TagDoes (fun dt => .evTagVddFall ⟨dt, vio⟩) (fun _ => True) (fun u x => x.vdd = false ∧ x.vio = vio ∧ x.slots = u.tag.slots ∧
    (u.tag.vtagOk = true → x = { u.tag with vdd := false, vio := vio }) ∧
    (u.tag.vtagOk = false → x.mode = .powerOff ∧ x.path = [] ∧ x.wire = [] ∧ x.cmd = none ∧ x.wakeEnd = none ∧
      x.staged = List.replicate 32 0 ∧ x.wstatWord = 0))) ∧
  (∀ e, TagDoes .evFieldWakeEnd (fun u => u.tag.wakeEnd = some e ∧ e ≤ u.now) (fun u x => x = { u.tag with wakeEnd := none })) ∧
  TagDoes .evTagReqa (fun u => u.tag.hears = true ∧ u.tag.mode = .idle)
    (fun u x => x = { u.tag with mode := .ready, resp := [0x04, 0x00] }) ∧
  TagDoes .evTagReqa (fun u => u.tag.hears = true ∧ u.tag.mode = .halt) (fun u x => x = { u.tag with resp := [] }) ∧
  TagDoes .evTagWupa (fun u => u.tag.hears = true ∧ (u.tag.mode = .idle ∨ u.tag.mode = .halt))
    (fun u x => x = { u.tag with mode := .ready, resp := [0x04, 0x00] }) ∧
  (∀ c : Nat → Instr, (c = .evTagReqa ∨ c = .evTagWupa ∨ c = (fun dt => .evTagSelect dt []) ∨ c = (fun dt => .evTagAnticollision dt 0 0)) →
    TagDoes c (fun u => u.tag.hears = true ∧ u.tag.mode = .active)
      (fun u x => x = { u.tag with mode := .idle, authed := false, chal := none, resp := [] })) ∧
  TagDoes .evTagHlta (fun u => u.tag.hears = true ∧ u.tag.mode = .active)
    (fun u x => x = { u.tag with mode := .halt, authed := false, chal := none, resp := [] }) ∧
  (∀ nbits known, TagDoes (fun dt => .evTagAnticollision dt nbits known)
    (fun u => u.tag.hears = true ∧ u.tag.mode = .ready ∧ nbits ≤ 32 ∧ leNat u.tag.uidBcc % 2 ^ nbits = known % 2 ^ nbits)
    (fun u x => x = { u.tag with resp := u.tag.uidBcc.drop (nbits / 8) })) ∧
  (∀ uid, TagDoes (fun dt => .evTagSelect dt uid) (fun u => u.tag.hears = true ∧ u.tag.mode = .ready)
    (fun u x => (uid = u.tag.uidBcc → x = { u.tag with mode := .active, resp := [0x00] }) ∧
      (uid ≠ u.tag.uidBcc → x = { u.tag with mode := .idle, authed := false, chal := none, resp := [] }))) ∧
  TagDoes (fun dt => .evTagGetInfo dt []) (fun u => u.tag.served = true) (fun u x => ∃ keys : Byte,
    u.tag.says x ([0x00, 0x01, keys] ++ sliceP (u.tag.block 0) 4 4 ++ sliceP (u.tag.block 0) 12 8) ∧
    ∀ k < 4, keys.toNat.testBit k = u.tag.keyPresent k) ∧
  (∀ b : Byte, TagDoes (fun dt => .evTagRead dt [b]) (fun u => u.tag.served = true) (fun u x =>
    (101 < b.toNat → u.tag.says x [1]) ∧ (b.toNat ≤ 101 → u.tag.allows b.toNat 4 6 = false → u.tag.says x [2]) ∧
    (u.tag.allows b.toNat 4 6 = true → u.tag.says x (0 :: u.tag.block b.toNat)))) ∧
  (∀ (b : Byte) (bs : List Byte), bs.length = 32 → TagDoes (fun dt => .evTagWrite dt (b :: bs)) (fun u => u.tag.served = true)
    (fun u x => (101 < b.toNat → u.tag.says x [1]) ∧ (b.toNat ≤ 101 → u.tag.allows b.toNat 5 7 = false → u.tag.says x [2]) ∧
      (u.tag.allows b.toNat 5 7 = true → u.tag.canWrite = false → u.tag.path = [] → u.tag.says x [6]) ∧
      (u.tag.allows b.toNat 5 7 = true → u.tag.canWrite = true → u.tag.path = [] → u.tag.starts x u.now b.toNat bs false ∧
        x.cmd = some .write))) ∧
  (∀ k : Byte, TagDoes (fun dt => .evTagGetChallenge dt [k]) (fun u => u.tag.served = true ∧ k.toNat ≤ 3) (fun u x => x.authed = false ∧
    (u.tag.keyPresent k.toNat = false → ({ u.tag with authed := false } : Tag).says x [3]) ∧
    (u.tag.keyPresent k.toNat = true → u.tag.failLimit ≤ u.tag.fails → ({ u.tag with authed := false } : Tag).says x [4]) ∧
    (u.tag.keyPresent k.toNat = true → u.tag.fails < u.tag.failLimit → u.tag.canWrite = true → u.tag.path = [] →
      x.cmd = some (.challenge k.toNat) ∧ x.chal = none ∧
      ∃ bs, u.tag.starts x u.now 1 bs false ∧ fieldLE bs 0 4 = (u.tag.cnt + 1) % 2 ^ 32))) ∧
  (∀ body : List Byte, body.length = 20 → TagDoes (fun dt => .evTagAuth dt body) (fun u => u.tag.served = true) (fun u x =>
    (u.tag.chal = none → u.tag.says x [5]) ∧
    (∀ tchal k cnt, u.tag.chal = some (tchal, k, cnt) → x.chal = none ∧
      (u.tag.denied (leNat (body.take 4)) = true → ({ u.tag with chal := none } : Tag).says x [2]) ∧
      (u.tag.denied (leNat (body.take 4)) = false → u.tag.canWrite = true → u.tag.path = [] →
        (∃ bs, u.tag.starts x u.now (10 + u.tag.jhead) bs false) ∧ ∃ tmac, x.cmd = some (.authJournal
          ((aesCmac (kdf ((u.tag.block (2 + k)).take 16) [0x4D, 0x4B, 0x54, 0x47] (body.take 4) 128)
            ([0xD4] ++ tchal ++ sliceP body 4 8 ++ body.take 4)).take 8 == sliceP body 12 8) tmac))))) ∧
  TagDoes .evTagUnknownCmd (fun u => u.tag.hears = true ∧ u.tag.mode = .active)
    (fun u x => x = { u.tag with mode := .idle, authed := false, chal := none, resp := [] }) ∧
  (∀ (w : StoreWrite) (bs : List Byte), TagDoes .evStoreBlockWriteDone
    (fun u => u.tag.path = [w] ∧ w.wire = false ∧ u.tag.cmd = some .write ∧ u.tag.wire = [] ∧ u.tag.field = true ∧ u.tag.mute = false ∧
      w.slot = (if u.tag.selected w.block = some 0 then 1 else 0) ∧ bs.length = 32 ∧ u.tag.blockSeq w.block < 65536 ∧
      (u.tag.slot w.block w.slot).data = bs ∧ (u.tag.slot w.block w.slot).seq = (u.tag.blockSeq w.block + 1) % 65536)
    (fun u x => x.block w.block = bs ∧ x.path = [] ∧ x.cmd = none ∧ x.resp = [0] ∧ (∀ c, c ≠ w.block → x.block c = u.tag.block c))) ∧
  (∀ (w : StoreWrite) (tmac : List Byte), TagDoes .evStoreBlockWriteDone
    (fun u => u.tag.path = [w] ∧ w.wire = false ∧ u.tag.cmd = some (.authCount true tmac) ∧ u.tag.wire = [] ∧ u.tag.field = true ∧
      u.tag.mute = false)
    (fun u x => x.authed = (u.tag.mode == .active) ∧ x.resp = 0 :: tmac ∧ x.cmd = none ∧ x.wakeEnd.isSome = true)) ∧
  (∀ (w : StoreWrite) (k : Nat), TagDoes .evStoreBlockWriteDone
    (fun u => u.tag.path = [w] ∧ w.wire = false ∧ u.tag.cmd = some (.challenge k) ∧ u.tag.wire = [])
    (fun u x => x.chal.isSome = (u.tag.mode == .active) ∧ x.cmd = none ∧ x.path = [] ∧
      (u.tag.field = false ∨ u.tag.mute = true → x.resp = []) ∧
      (∀ tchal n cnt, x.chal = some (tchal, n, cnt) → n = k ∧ cnt = x.cnt ∧
        (u.tag.field = true → u.tag.mute = false → x.resp = 0 :: (natLE 4 cnt ++ tchal))))) ∧
  (let idle (u : State) : Prop := u.tag.cmd = none ∧ u.tag.path = [] ∧ u.tag.wire = [] ∧ u.tag.canWrite = true
   RegisterDoes .rgNfcTagWcmd 0x2080 (fun u _ => idle u) (fun u v t => t.tag.wbusy = true ∧ t.tag.wdone = false ∧
     u.tag.starts t.tag u.now (bits v.toNat 7 0) (padTo 32 u.tag.staged) true) ∧
   RegisterDoes .rgNfcTagCtrl 0x2088 (fun u _ => idle u) (fun u v t => (v.toNat.testBit 0 = false → t.tag = u.tag) ∧
     (v.toNat.testBit 0 = true → ∃ bs, u.tag.starts t.tag u.now 1 bs true ∧ byteAt bs 4 = 0 ∧ fieldLE bs 0 4 = u.tag.cnt)) ∧
   RegisterDoes .rgNfcTagJack 0x208C (fun u _ => idle u) (fun u v t => ∃ bs, u.tag.starts t.tag u.now 1 bs true ∧
     fieldLE bs 12 4 = v.toNat ∧ fieldLE bs 8 4 = u.tag.jseq))

/-! ### Security, faults and recovery -/

/-- R358 to R362, R368 to R371, R373: the entropy source, masks and shares, tamper events, the ZAP and its erase, and scan. -/
def Obligations.SecurityEvents : Prop :=
  (∀ src, EventAnyDoes (fun dt => .evTamperQualified dt src)
    (fun u => u.sec.scan = false ∧ u.power.mode = .awake ∧ u.power.entering = none ∧ src < 4 ∧ u.watched src = true ∧ u.tamperAction src = 1 ∧
      u.relJustEnded none [0, 1, 2, 3] = false)
    (fun u t => t.sec = { u.sec with tamperEvent := u.sec.tamperEvent ||| 2 ^ src, tamperCount := (u.sec.tamperCount + 1) % 65536 } ∧
      t.life = u.life ∧ (src = 1 → t.power.clockLost = true) ∧
      t.rel = { u.rel with pattern := false, stopping := false, relA := false, relB := false } ∧ t.faults.lastCause = (tamperCause src).num ∧ t.host.attn.getLsbD 6 = true) rankFault) ∧
  (∀ src, EventAnyDoes (fun dt => .evTamperQualified dt src)
    (fun u => u.sec.scan = false ∧ u.power.mode = .awake ∧ u.power.entering = none ∧ src < 4 ∧ u.watched src = true ∧
      u.tamperAction src = 2 ∧ u.life.st ≠ .tampered ∧ u.sec.erasing = false ∧ u.relJustEnded none [0, 1, 2, 3] = false)
    (fun _ t => t.life.st = .tampered ∧ t.sec.zapRecord = true ∧ t.sec.tamperLatch = true ∧ t.sec.erasing = true ∧ t.sec.root = none ∧
      t.sec.kek = [] ∧ t.sec.sk = [] ∧ t.sec.vault = [] ∧ t.sec.sysDrbg = [] ∧ t.rel.relA = false ∧ t.rel.relB = false) rankFault) ∧
  (∀ (s : State) (l k : Nat), (s.zeroKeys.land l).handle k = Handle.empty ∧ s.zeroKeys.sec.root = none ∧ s.zeroKeys.sec.vault = [] ∧
    (s.zeroKeys.land l).regs = (s.land l).regs ∧ s.zeroKeys.halls = s.halls) ∧
  EventAnyDoes .evZapEraseDone (fun u => u.sec.erasing = true ∧ u.domUp 46 = true ∧ u.sec.scan = false)
    (fun u t => t.sec.store = [] ∧ t.sec.shareA = none ∧ t.sec.shareB = none ∧ t.sec.erasing = false ∧
      (u.faults.mode = .halt → t.power = u.power ∧ t.host = u.host) ∧ (u.faults.mode ≠ .halt → u.newEpoch t 0x04)) ∧
  (∀ (raw : List Byte) (unbal : Nat), raw.length = 128 → EventAnyDoes (fun dt => .evEntropyBlock dt raw unbal)
    (fun u => u.collecting = true ∧ u.sec.blockAt + 32 * usT ≤ u.now ∧ u.sec.ent = .running ∧ unbal % 16 = 0 ∧ (feedCells u.sec.cells raw).2 = false ∧
      u.sec.scrambleKey ≠ [] ∧ u.sec.maskKey ≠ [] ∧ u.sec.pool.length < 16 ∧ u.sec.root.isSome = true ∧ u.sec.drbgQueue = [])
    (fun u t => t.sec.pool = u.sec.pool ++ [aesCbcMac Config.conditionerKey raw] ∧ t.sec.conditioned = u.sec.conditioned + 1 ∧
      t.sec.consec = 0 ∧ t.sec.ent = .running ∧ t.sec.root = u.sec.root)) ∧
  (∀ (raw : List Byte) (unbal : Nat), raw.length = 128 → EventAnyDoes (fun dt => .evEntropyBlock dt raw unbal)
    (fun u => u.collecting = true ∧ u.sec.blockAt + 32 * usT ≤ u.now ∧ u.sec.ent ≠ .running ∧ unbal % 16 = 0 ∧ (feedCells u.sec.cells raw).2 = false)
    (fun u t => t.sec.pool = u.sec.pool ∧ t.sec.conditioned = u.sec.conditioned ∧ t.sec.startPos = (u.sec.startPos + 1) % 4 ∧
      t.sec.ent = if u.sec.startPos = 3 then .running else .startUp)) ∧
  (∀ (raw : List Byte) (unbal : Nat), raw.length = 128 →
    let fails (u : State) : Prop := u.collecting = true ∧ u.sec.blockAt + 32 * usT ≤ u.now ∧ (unbal % 16 ≠ 0 ∨ (feedCells u.sec.cells raw).2 = true)
    EventAnyDoes (fun dt => .evEntropyBlock dt raw unbal) (fun u => fails u ∧ u.sec.consec < 7)
      (fun u t => t.sec.ent = .restarting ∧ t.sec.startPos = 0 ∧ t.sec.consec = u.sec.consec + 1 ∧ t.sec.pool = u.sec.pool ∧
        t.sec.failed = (u.sec.failed + 1) % 65536 ∧ t.sec.restarts = (u.sec.restarts + 1) % 65536 ∧ t.sec.conditioned = u.sec.conditioned) ∧
    EventAnyDoes (fun dt => .evEntropyBlock dt raw unbal) (fun u => fails u ∧ 7 ≤ u.sec.consec ∧ u.faults.mode = .normal)
      (fun u t => t.sec.ent = .alarm ∧ t.sec.pool = [] ∧ t.sec.discarded = u.sec.discarded + u.sec.pool.length ∧
        t.faults.lastCause = Cause.entropyAlarm.num ∧ t.host.attn.getLsbD 1 = true) rankFault) ∧
  (∀ (b : List Byte) (rest : List (List Byte)), EventAnyDoes .evMaskRekey
    (fun u => u.sec.pool = b :: rest ∧ u.domUp 43 = true ∧ u.entropyOut = false ∧ u.sec.maskAt + 10 * msT ≤ u.now)
    (fun u t => t = { u with sec := { u.sec with pool := rest, maskKey := b, maskAt := u.now, drawnOther := u.sec.drawnOther + 1 } })) ∧
  EventAnyDoes .evShareRefresh (fun u => u.domUp 43 = true) (fun u t => t = { u with sec := { u.sec with sharesAt := u.now } }) ∧
  EventAnyDoes (fun dt => .evScanEnable dt true true) (fun u => u.power.mode = .awake ∧ u.life.st = .factory)
    (fun _ t => t.sec.scan = true ∧ t.sec.root = none ∧ t.sec.vault = [] ∧ t.life.jobs = [] ∧ t.rel.relA = false ∧ t.rel.relB = false) ∧
  EventAnyDoes (fun dt => .evScanEnable dt true false) (fun u => u.power.mode = .awake ∧ u.life.st = .factory) (fun u t => t = u.zeroKeys) ∧
  EventAnyDoes (fun dt => .evScanEnable dt true true)
    (fun u => u.life.st ≠ .factory ∧ (u.life.st ≠ .service ∨ u.life.scanUnlock = false)) (fun u t => t = u)

/-- R413 to R418, R422, R423: latching, detection, recovery, and what ends it. -/
def Obligations.FaultEvents : Prop :=
  (∀ (s : State) (c : Cause) (sc : Scope) (d : List Byte) (fl : Nat),
    let t := s.recordFault c sc d fl
    t.faults.lastCause = c.num ∧ t.faults.lastScope = sc.num ∧ (∃ e, t.faults.evPending = s.faults.evPending ++ [e] ∧ e.cause = c.num ∧
      e.scope = sc.num ∧ e.us = s.us ∧ e.epoch = s.host.epoch.toNat) ∧
    (∀ i e, s.faults.entryOf c sc = some i → vget s.faults.latches i none = some e →
      vget t.faults.latches i none = some { e with count := min 65535 (e.count + 1) } ∧ t.faults.overflow = s.faults.overflow) ∧
    (∀ i, s.faults.entryOf c sc = none → s.faults.freeEntry = some i →
      vget t.faults.latches i none = some (Latch.mk c sc 1 s.us) ∧ t.faults.overflow = s.faults.overflow) ∧
    (s.faults.entryOf c sc = none → s.faults.freeEntry = none →
      t.faults.latches = s.faults.latches ∧ t.faults.overflow = (s.faults.overflow + 1) % 65536) ∧
    t.landings = s.landings ∧ t.halls = s.halls ∧ t.power = s.power) ∧
  (∀ index addr extra, EventAnyDoes (fun dt => .evFaultDetected dt 0x15 index addr extra)
    (fun u => u.power.mode = .awake ∧ u.sec.scan = false) (fun u t => t = u.recordFault .ceRate .device (sramDetail addr none 0)) rankFault) ∧
  (∀ index addr off, index < 8 → EventAnyDoes (fun dt => .evFaultDetected dt 0x11 index addr (8 * off + 4))
    (fun u => u.power.mode = .awake ∧ u.sec.scan = false ∧ u.power.booting = none ∧ u.faults.mode = .normal)
    (fun u t => u.recoversFrom t .sramUe (.page index) ∧ 64 * index + off / 32 ∈ t.host.pagePoison) rankFault) ∧
  (∀ (index addr extra : Nat) (r : Tenant), index < 1024 → EventAnyDoes (fun dt => .evFaultDetected dt 0x26 index addr extra)
    (fun u => u.power.mode = .awake ∧ u.sec.scan = false ∧ u.tenant index = some r ∧ r.st ≠ 3)
    (fun _ t => t.tenant index = some { r with st := 3, revokedBy := 3, keys := 0, wrapped := [], lockEnd := none } ∧
      t.faults.lastCause = Cause.tenantLost.num) rankFault) ∧
  (∀ e, EventDoes (fun dt => .evEngineStall dt e) (fun u => u.overlong e = true ∧ u.faults.mode = .normal)
    (fun u t => u.recoversFrom t .engineStall (.engine e) ∧ t.bist.unus &&& engineUnits e = engineUnits e) rankFault) ∧
  (∀ h, h < 2 → EventDoes (fun dt => .evPipeStall dt h)
    (fun u => u.faults.mode = .normal ∧ ∃ i < 4, (u.pipe (4 * h + i)).serving.isSome = true ∧ (u.pipe (4 * h + i)).stepAt + 256 * coreT < u.now)
    (fun u t => u.recoversFrom t .pipeStall (.pipeHalf h) ∧ t.marked (unitPipe h) = true ∧ ∀ i < 4, (t.pipe (4 * h + i)).serving = none) rankFault) ∧
  (∀ (ch : Nat) (d : Desc), ch < 8 → EventDoes (fun dt => .evDmaStall dt ch)
    (fun u => (u.dma.chan ch).active = true ∧ (u.dma.chan ch).desc = some d ∧ d.lastGranule + 100 * usT ≤ u.now ∧ u.stageHeld d = false ∧
      ch ∉ u.dma.stalled ∧ u.faults.mode = .normal)
    (fun u t => u.recoversFrom t .dmaStall (.dma ch) ∧ (t.dma.chan ch).active = false ∧ ch ∈ t.dma.stalled) rankFault) ∧
  EventAnyDoes .evRecoveryEnd
    (fun u => u.faults.mode = .recovery ∧ u.workEnded = true ∧ u.now ≤ u.faults.restarted + 2000 * usT ∧ u.ledgersBad = 0 ∧
      u.gal.held = [])
    (fun u t => t.faults.mode = .normal ∧ t.faults.causes = [] ∧ t.faults.scopes = [] ∧ t.faults.depth = 0 ∧
      t.faults.lastTime = min 65535 ((u.now - u.faults.opened) / usT) ∧
      t.faults.longest = max u.faults.longest (min 65535 ((u.now - u.faults.opened) / usT)) ∧
      t.faults.checks = (u.faults.checks + 1) % 65536) ∧
  EventAnyDoes .evRecoveryOverrun
    (fun u => u.faults.mode = .recovery ∧ u.power.booting = none ∧ u.faults.restarted + 2000 * usT < u.now ∧ u.fewWarms)
    (fun u t => u.warmBegun t) rankFault ∧
  (∀ b, EventAnyDoes (fun dt => .evSafeHold dt b) (fun u => u.faults.mode = .warm ∧ u.coreUp = true)
    (fun _ t => t.faults.mode ≠ .warm ∧ t.host.items = [] ∧ t.dma.waiting = [] ∧
      ∀ l < 192, (t.land l).st = .free ∨ (t.land l).st = .unusable)) ∧
  (∀ (e : EvPending) (rest : List EvPending), EventAnyDoes .evEventRecordWrite
    (fun u => u.faults.evPending = e :: rest ∧ u.domUp 46 = true ∧ u.sec.scan = false)
    (fun u t => t.faults.evPending = rest ∧ t.faults.evHead = u.faults.evHead + 1 ∧ t.faults.evLog.length ≤ 24448 ∧
      t.faults.evLog.head? = some (u.faults.evHead + 1, eventBytes (u.faults.evHead + 1) e) ∧ t.faults.latches = u.faults.latches)) ∧
  RegisterDoes .rgFltLatchedFree 0x480C (fun _ _ => True) (fun u v t => ∀ n, n < 16 →
    vget t.faults.latches n none = if v.toNat.testBit n then none else vget u.faults.latches n none)

/-! ### Power and resets -/

/-- R29, R45, R380, R382, R388, R390, R391, R400, R411, R473 to R475, R478 to R492, R507, R519, R522: the resets, the ends of a boot and of a
wake, durable operations, clocks, sleep and wake, and domains. -/
def Obligations.PowerResetEvents : Prop :=
  (∀ caddr fuse, EventAnyDoes (fun dt => .evPowerOnReset dt caddr fuse) (fun _ => True)
    (fun u t => u.newEpoch t 0x01 ∧ t.gal.addr = caddr % 8) rankReset) ∧
  (∀ caddr fuse vio, EventAnyDoes (fun dt => .evBrownOut dt caddr ⟨fuse, vio⟩) (fun _ => True)
    (fun u t => u.newEpoch t 0x02 ∧ t.gal.addr = caddr % 8 ∧ t.host.unfin = some u.host.unfinished ∧ t.tag.vio = vio) rankReset) ∧
  (∀ us caddr fuse, EventAnyDoes (fun dt => .evRstnReset dt us caddr fuse) (fun _ => True)
    (fun u t => (us < 1 → t = u) ∧ (10 ≤ us → u.newEpoch t 0x01)) rankReset) ∧
  EventAnyDoes .evActivateColdReset
    (fun u => u.power.mode = .awake ∧ u.sec.scan = false ∧ u.faults.mode ≠ .halt ∧ ∃ a ∈ u.host.activate, ∃ t0, a.due = some t0 ∧ t0 ≤ u.now)
    (fun u t => u.newEpoch t 0x05) rankReset ∧
  (∀ (b : BootIn) (marks failed kat cause : Nat) (sram : List Nat) (halt : Bool),
    EventAnyDoes (fun dt => .evColdStartBistDone dt b marks failed kat sram halt)
      (fun u => u.power.booting = some cause ∧ u.coreUp = true ∧ u.power.mode = .awake ∧ u.sec.scan = false ∧ (u.boot b true).2 = false ∧
        (u.boot b true).1.wantsRoot = false)
      (fun u t => t.power.booting = none ∧ t.bist.unus = (marks ||| katMarks kat marks) &&& unitsMask ∧
        (halt = true ∨ (∃ e ∈ sram, 208 ≤ e) ∨ u.faults.haltDue = true → t.faults.mode = .halt) ∧
        ∃ n, t.host.cq.head? = some (closeRecord ((t.host.epoch.toNat + 65535) % 65536) t.host.epoch.toNat cause n))) ∧
  (∀ b, EventAnyDoes (fun dt => .evWakeComplete dt b) (fun u => u.power.waking = true ∧ u.coreUp = true ∧ (u.boot b false).2 = false)
    (fun u t => t.power.mode = .awake ∧ t.power.waking = false ∧ t.host.epoch = u.host.epoch ∧
      ∀ k < 16, t.timer k = bootTimer k u.now)) ∧
  (∀ (temp : Int) reads, EventDoes (fun dt => .evOtpReread dt temp reads) (fun u => (temp - u.life.readTemp).natAbs < 40)
    (fun u t => t = { u with dieTemp := temp }) (faultRank !reads.isEmpty)) ∧
  (∀ temp : Int, EventDoes (fun dt => .evOtpReread dt temp [])
    (fun u => 40 ≤ (temp - u.life.readTemp).natAbs ∧ u.life.readIdentity.idFault = false ∧ u.life.readIdentity.trimFault = false)
    (fun u t => t.life.readTemp = temp ∧ t.dieTemp = temp ∧ t.life.mchange = u.life.mchange ∧ t.faults = u.faults)) ∧
  (∀ (k : ItemKey) (phase fuse sector : Nat) (data : List Byte) (rest : List NvmJob) (r : ItemRec),
    EventDoes (fun dt => .evNvmOperationDone dt true sector fuse)
      (fun u => u.domUp 46 = true ∧ u.life.jobs = .commit k phase data :: rest ∧ u.jobOut (.commit k phase data) = none ∧
        u.item k = some r ∧ u.commitWaits r data = false)
      (fun u t => t = ({ u with life := { u.life with jobs := rest } } : State).committed r phase data fuse)) ∧
  (∀ (k : ItemKey) (n sector fuse : Nat) (rest : List NvmJob),
    let erases (u : State) : Prop := u.domUp 46 = true ∧ u.life.jobs = .erase k n :: rest ∧ (u.life.sector (u.life.phys n)).retired = false
    EventDoes (fun dt => .evNvmOperationDone dt true sector fuse)
      (fun u => erases u ∧ (u.life.sector (u.life.phys n)).intent = none)
      (fun u t => t.life.jobs = u.life.jobs ∧ (t.life.sector (u.life.phys n)).intent = some ((u.life.sector (u.life.phys n)).erases + 1) ∧
        (t.life.sector (u.life.phys n)).erases = (u.life.sector (u.life.phys n)).erases) ∧
    (∀ r c, EventDoes (fun dt => .evNvmOperationDone dt true sector fuse)
      (fun u => erases u ∧ (u.life.sector (u.life.phys n)).intent = some c ∧ c < 10000 ∧ u.item k = some r ∧ r.code = 0x52 ∧
        ∃ m, NvmJob.erase k m ∈ rest)
      (fun u t => t.life.jobs = rest ∧ (t.life.sector (u.life.phys n)).stampOk = true ∧
        (t.life.sector (u.life.phys n)).intent = none ∧ (t.life.sector (u.life.phys n)).erases = c))) ∧
  RegisterDoes .rgPwrReq 0x5014 (fun _ _ => True) (fun _ v t => t.power.entering = some (pwrTarget v.toNat) ∧ (∀ n < 64, t.vote n = 0) ∧
    t.power.outcome = 1 ∧ t.power.reason = 0) ∧
  (∀ (dt : Nat) (v : Word) (s : State), (s.tick dt).frameOpen = true → (s.tick dt).badWords [(0x5014, v.toNat)] = false →
    (s.tick dt).sleepReason ≠ 0 → ∃ t, exec (.rgPwrReq dt v) s = .next (settle t) ∧ t.host.lastErr = .stateRefused ∧
      t.power.outcome = 2 ∧ t.power.reason = (s.tick dt).sleepReason ∧ t.power.entering = none ∧ t.power.votes = s.power.votes ∧
      t.landings = s.landings) ∧
  (∀ m, EventAnyDoes .evPwrEntryDone (fun u => u.power.entering = some m ∧ ∀ d < 50, u.dom d = .down)
    (fun u t => t.power.mode = m ∧ t.power.entering = none ∧ t.host.epoch = u.host.epoch ∧ t.host.pages = Mem.empty ∧
      t.life.banks = u.life.banks ∧ t.rel.next = u.rel.next ∧ t.rel.top = u.rel.top ∧ t.sec.root = u.sec.root ∧
      ∀ l < 192, (t.land l).st = .free ∨ (t.land l).st = .unusable)) ∧
  (∀ t0, EventAnyDoes .evWakeTimerLapse
    (fun u => u.power.mode = .lobby ∧ u.power.waking = false ∧ u.power.wakeCfg.testBit 9 = true ∧ u.power.wtimer ≠ 0 ∧
      u.power.slowSince = some t0 ∧ u.power.wtimer * msT * 200 ≤ (u.now - t0) * 199)
    (fun u t => u.wokeBy t 2)) ∧
  EventAnyDoes .evWakeFieldDetect
    (fun u => u.tag.vdd = true ∧ u.power.wakeCfg.testBit 8 = true ∧ u.nfc.fieldOn = false ∧ u.power.mode ≠ .awake ∧ u.power.waking = false)
    (fun u t => u.wokeBy t 1) ∧
  EventAnyDoes .evWakeFieldDetect
    (fun u => u.tag.vdd = true ∧ u.power.wakeCfg.testBit 8 = true ∧ u.nfc.fieldOn = false ∧ u.power.mode = .awake ∧ u.power.entering.isSome = true)
    (fun _ t => t.power.entering = none ∧ t.power.restoring = true ∧ t.power.outcome = 3 ∧ t.power.reason = 2 ^ 10 ∧
      t.vote voterAwake = awakeMask) ∧
  EventAnyDoes .evRootLockLost
    (fun u => u.domUp 30 = true ∧ u.faults.mode = .normal ∧ u.power.booting = none ∧ u.fewWarms ∧ u.power.clockLost = false)
    (fun u t => u.warmBegun t) rankFault ∧
  EventAnyDoes .evRootLockLost (fun u => u.domUp 30 = true ∧ u.power.clockLost = true)
    (fun u t => t.power.rootLock = false ∧ t.power.clockLost = false ∧ t.faults.lastCause = Cause.rootLock.num ∧
      t.faults.mode = u.faults.mode ∧ t.power.domains = u.power.domains ∧ t.landings = u.landings) rankFault ∧
  (∀ err : Int, EventDoes (fun dt => .evSlowCalibrate dt err) (fun u => u.domUp 30 = true ∧ u.power.slowAt + 1000 * msT ≤ u.now)
    (k := faultRank (decide (200 < err.natAbs))) (fun u t => t.power.slowErr = err ∧ t.power.slowTrim = u.power.slowTrim - err ∧ t.power.slowCals = (u.power.slowCals + 1) % 65536 ∧ t.power.slowAt = u.now ∧
      (err.natAbs ≤ 200 → t.faults = u.faults) ∧ (200 < err.natAbs → t.faults.lastCause = Cause.slowCal.num))) ∧
  (∀ q, EventDoes (fun dt => .evRefinQualifyChange dt q) (fun u => u.gal.isSlave = true ∧ u.power.refQual ≠ q)
    (fun u t => t = { u with power := { u.power with refQual := q, refSrc := q, switches := (u.power.switches + 1) % 65536 }
                             rng := { u.rng with alignValid := q && u.rng.alignValid } })) ∧
  (∀ (d t0 : Nat), EventAnyDoes (fun dt => .evDomainRiseDone dt d)
    (fun u => (u.power.mode = .awake ∨ u.power.waking = true) ∧ d < 50 ∧ u.dom d = .rising t0 ∧ u.now ≤ t0 + 2 * riseUs d * usT ∧
      (d = 30 ∨ u.domUp 30 = true) ∧ u.power.voteWaits = [] ∧ u.sec.queue = [])
    (fun u t => t.dom d = .up ∧ (∀ e, e ≠ d → t.dom e = u.dom e) ∧ t.landings = u.landings ∧ t.host = u.host ∧
      (d = 29 → t.uwb.cal = some (u.uwb.lastch, u.now) ∧ t.uwb.rising = true ∧ t.uwb.mode = .cal) ∧
      (d = 30 → t.rng.tscBase = u.now ∧ t.rng.era = (u.rng.era + 1) % 65536 ∧ t.power.rootLock = true ∧ t.power.xtalOk = true) ∧
      (d = 33 → t.uhf.cal = some (u.uhf.sniff.elim u.uhf.lastBand (·.search.band), u.now)) ∧
      (d = 43 → u.sec.ent ≠ .alarm → u.marked unitEntropy = false → t.sec.ent = .startUp ∧ t.sec.startPos = 0))) ∧
  (∀ (d t0 : Nat), EventAnyDoes (fun dt => .evDomainFallDone dt d) (fun u => u.mayFall d = true ∧ u.dom d = .falling t0 none)
    (fun u t => t = u.setDom d .down)) ∧
  (∀ (d t0 t1 : Nat), EventAnyDoes (fun dt => .evDomainFallDone dt d)
    (fun u => d < 50 ∧ u.mayFall d = true ∧ u.dom d = .falling t0 (some t1))
    (fun u t => t.dom d = .rising u.now ∧ t.power.deferCount = (u.power.deferCount + 1) % 256 ∧ t.power.deferDomain = d ∧
      t.power.deferDelay = min 65535 ((u.now - t1) / usT) ∧ ∀ e, e ≠ d → t.dom e = u.dom e)) ∧
  (∀ (d t0 : Nat), EventDoes (fun dt => .evVoteHoldoffLapse dt d)
    (fun u => Tbl.find u.power.holdoffs d = some t0 ∧ t0 ≤ u.now ∧ (u.vote voterSched).testBit d = true)
    (fun u t => t.vote voterSched = u.vote voterSched - 2 ^ d ∧ Tbl.find t.power.holdoffs d = none ∧
      ∀ v, v ≠ voterSched → t.vote v = u.vote v)) ∧
  (∀ (d t0 : Nat), EventAnyDoes (fun dt => .evDomainRiseTimeout dt d)
    (fun u => u.power.mode = .awake ∧ u.power.booting = none ∧ u.faults.mode = .normal ∧ d < 50 ∧ d ≠ 30 ∧ d ≠ 46 ∧ d ≠ 49 ∧
      u.dom d = .rising t0 ∧ t0 + 2 * riseUs d * usT < u.now)
    (fun u t => u.recoversFrom t .domainRise (.domain d) ∧ t.dom d = .down ∧ t.bist.unus &&& domUnits d = domUnits d) rankFault)

/-! ### Timers -/

/-- R69, R497 to R499, R502 to R504: a compare event leaves COMPARE in the count and in gD of the steps that wait for it; a wrap returns
the count to 0 and copies preloads; a trigger resets or clocks its slave. -/
def Obligations.TimerEvents : Prop :=
  (∀ k, EventDoes (fun dt => .evTimerCompare dt k)
    (fun u => k < 16 ∧ (u.timer k).compare ≠ 0 ∧ (u.timer k).toCompare ≤ (u.timer k).toWrap ∧ u.reached k (u.timer k).toCompare = true)
    (fun u t => (t.timer k).count = (u.timer k).compare ∧ (t.timer k).events = ((u.timer k).events + 1) % 2 ^ 32 ∧
      (t.timer k).compare = (u.timer k).compare ∧ (t.timer k).running = (u.timer k).running ∧
      (∀ i < 16, i ≠ k → (u.timer i).trigSrc = k → (u.timer i).trigMode = 2 ∨ (u.timer i).trigMode = 3 → (u.timer i).running = true →
        (t.timer i).trigDue = some u.nextPeri) ∧
      ((∀ l d n, (u.land l).wait = .tmWait k d n → (u.land l).endReq = none) →
        (∀ l d n, l < 192 → (u.land l).wait = .tmWait k d n → n / periT < u.now / periT →
          (t.land l).wait = .none ∧ (t.land l).pc = (u.land l).pc + 1 ∧
          (t.land l).regs = ((u.land l).setReg d (BitVec.ofNat 32 (u.timer k).compare)).regs) ∧
        (∀ l, (∀ d n, (u.land l).wait = .tmWait k d n → u.now / periT ≤ n / periT) → t.land l = u.land l)))) ∧
  (∀ k, EventDoes (fun dt => .evTimerWrap dt k)
    (fun u => k < 16 ∧ ((u.timer k).compare = 0 ∨ (u.timer k).toWrap ≤ (u.timer k).toCompare) ∧ u.reached k (u.timer k).toWrap = true)
    (fun u t => let x := u.timer k
      (t.timer k).count = 0 ∧ (t.timer k).running = x.running ∧
      (x.cadence = true → x.preloaded = true → x.setAt / periT < u.now / periT → (t.timer k).compare = x.cmpPre ∧ (t.timer k).period = x.perPre ∧
        (t.timer k).preloaded = false) ∧
      (x.cadence = false ∨ x.preloaded = false ∨ u.now / periT ≤ x.setAt / periT → (t.timer k).compare = x.compare ∧ (t.timer k).period = x.period) ∧
      (t.timer k).events = if (t.timer k).compare = 0 then (x.events + 1) % 2 ^ 32 else x.events)) ∧
  (∀ k due, EventDoes (fun dt => .evTimerTrigger dt k)
    (fun u => k < 16 ∧ (u.timer k).trigDue = some due ∧ due ≤ u.now ∧ (u.timer k).trigSrc ≠ k)
    (fun u t => let x := u.timer k
      (t.timer k).trigDue = none ∧ (t.timer k).running = x.running ∧
      (x.running = true → x.trigMode = 2 → (t.timer k).count = 0) ∧
      (x.running = true → x.trigMode = 3 → (t.timer k).count = (if x.count + 1 < x.modulus then x.count + 1 else 0)) ∧
      (x.running = false ∨ (x.trigMode ≠ 2 ∧ x.trigMode ≠ 3) → t.timer k = { x with trigDue := none } ∧ t.landings = u.landings)))

/-! ### The gallery bus -/

/-- R95, R97, R436 to R468: rounds, frames, units, credits, parts, joining, mode change, silence and loss, and what ends GSEND and GWAIT.
Where commands of the master are taken, none waits from before: the held ones come first in CSEQ order. -/
def Obligations.GalleryEvents : Prop :=
  EventDoes .evGalRoundStart
    (fun u => u.gal.isMaster = true ∧ u.domUp 48 = true ∧ u.gal.edgeAt + msT ≤ u.now ∧ u.gal.leaving = false ∧ u.gal.change = none ∧
      (u.gal.synced = true → u.gal.ledger = true))
    (fun u t => t.gal.round = (if u.gal.synced then (u.gal.round + 1) % 2 ^ 32 else 0) ∧ t.gal.synced = true ∧
      t.gal.edgeAt = u.now ∧ t.gal.mode = u.gal.mode ∧
      t.faults.checks = (if u.gal.synced then (u.faults.checks + 1) % 65536 else u.faults.checks) ∧
      ∃ b us, t.gal.frame = galFrame 0 0 0 0 u.gal.mode (b :: us) ∧ us.length ≤ 4 ∧ byteAt b 0 = 0x10 ∧ fieldLE b 4 4 = t.gal.round) ∧
  EventDoes .evGalRoundStart
    (fun u => u.gal.isMaster = true ∧ u.domUp 48 = true ∧ u.gal.edgeAt + msT ≤ u.now ∧ u.gal.leaving = true ∧
      (u.gal.synced = true → u.gal.ledger = true))
    (fun _ t => t.gal.role = .standalone) ∧
  EventDoes .evGalRoundStart
    (fun u => u.gal.isMaster = true ∧ u.domUp 48 = true ∧ u.gal.edgeAt + msT ≤ u.now ∧ u.gal.synced = true ∧ u.gal.ledger = false ∧
      u.faults.mode = .normal ∧ u.fewWarms)
    (fun u t => u.warmBegun t) ∧
  (∀ b : List Byte, b.length = 64 → byteAt b 0 = 0x10 → EventDoes (fun dt => .evGalBeaconRx dt b)
    (fun u => u.domUp 48 = true ∧ u.gal.addr ≠ 0 ∧ u.gal.role ≠ .standalone ∧ u.gal.leaving = false ∧ u.gal.held = [] ∧
      (u.gal.synced = true → u.gal.ledger = true))
    (fun u t => t.gal.round = fieldLE b 4 4 ∧ t.gal.edgeAt = u.now ∧ t.gal.bsess = fieldLE b 2 2 ∧
      (u.gal.role = .noBeacon → u.gal.pending = none → t.gal.role = .joining))) ∧
  (∀ b : List Byte, b.length = 64 → byteAt b 0 = 0x10 → EventDoes (fun dt => .evGalBeaconRx dt b)
    (fun u => u.domUp 48 = true ∧ u.gal.addr ≠ 0 ∧ u.gal.role ≠ .standalone ∧ u.gal.leaving = true ∧
      (u.gal.synced = true → u.gal.ledger = true))
    (fun _ t => t.gal.role = .standalone ∧ t.gal.leaving = false)) ∧
  (∀ b : List Byte, b.length = 64 → byteAt b 0 = 0x10 → EventDoes (fun dt => .evGalBeaconRx dt b)
    (fun u => u.domUp 48 = true ∧ u.gal.addr = 0 ∧ u.gal.listen.isSome = true)
    (fun _ t => t.gal.listen = none ∧ t.gal.joinItem = none)) ∧
  (∀ k, EventDoes (fun dt => .evGalSlotTx dt k)
    (fun u => u.gal.isSlave = true ∧ u.domUp 48 = true ∧ u.unhushed = true ∧ u.inSlot k = true ∧ u.gal.owner k = some u.gal.addr ∧
      u.gal.role ≠ .noBeacon)
    (fun u t => (400000 < u.slotErr k → t.gal.withheld = (u.gal.withheld + 1) % 256 ∧ t.gal.frame = u.gal.frame) ∧
      (u.slotErr k ≤ 400000 → u.now + usT < u.gal.edgeAt + msT → u.gal.edgeAt ≤ u.now → u.gal.stopped = false → u.gal.ghush = false →
        u.gal.slaveUnits ≠ [] → (t.gal.node 0).cret = 0 ∧
        ∃ c, c ≤ b2n u.gal.calNeeded ∧ t.gal.frame = galFrame u.gal.addr c (u.gal.node 0).cret u.gal.cackNow u.gal.mode
          (u.gal.slaveUnits.map (·.unit))) ∧
      (u.slotErr k ≤ 400000 → u.now + usT < u.gal.edgeAt + msT → u.gal.stopped = true ∨ u.gal.ghush = true → t = u))) ∧
  EventDoes .evGalJoinTx
    (fun u => u.gal.isSlave = true ∧ u.domUp 48 = true ∧ u.gal.role = .joining ∧ u.gal.grantSeq = 0 ∧ u.gal.stopped = false ∧
      u.gal.ghush = false ∧ u.now + usT < u.gal.edgeAt + msT + slotT ∧ u.inSlot 39 = true ∧
      u.gal.round % 8 = u.gal.addr ∧ u.gal.synced = true ∧ u.slotErr 39 ≤ 400000)
    (fun u t => ∃ b, t = { u with gal := { u.gal with frame := galFrame u.gal.addr 0 0 0 u.gal.mode [b] } } ∧ byteAt b 0 = 5 ∧
      fieldLE b 4 4 = u.gal.mode % 2 ^ 32 ∧ sliceP b 16 16 = u.devidBytes) ∧
  (∀ (slot bits guard : Nat) (f : List Byte), galFrameOk f = true → bits ≤ 2776 → guard = 0 → 1 ≤ slot →
    EventDoes (fun dt => .evGalFrameRx dt slot bits guard f)
      (fun u => u.gal.isMaster = true ∧ u.domUp 48 = true ∧ u.gal.owner slot = some (byteAt f 0 % 8) ∧ 1 ≤ byteAt f 0 % 8 ∧
        1 ≤ (u.gal.node (byteAt f 0 % 8)).st ∧ (u.gal.node (byteAt f 0 % 8)).st ≤ 3)
      (fun u t => let x := t.gal.node (byteAt f 0 % 8)
        x.heard = true ∧ x.silent = 0 ∧ x.lastRound = u.gal.round % 65536 ∧ x.modeId = fieldLE f 8 4 ∧ t.gal.quiet = 0 ∧
        t.gal.crcFail = u.gal.crcFail ∧ t.landings = u.landings ∧ ∀ o ∈ t.gal.out, o.dest.testBit (byteAt f 0 % 8) = true →
          o.acks.testBit (byteAt f 0 % 8) = false → o.sent.isSome = true → fieldLE f 4 4 < o.seq)) ∧
  (∀ (bits : Nat) (f : List Byte), galFrameOk f = true → bits ≤ 2776 → EventDoes (fun dt => .evGalFrameRx dt 39 bits 0 f)
    (fun u => u.gal.isMaster = true ∧ u.domUp 48 = true ∧ 1 ≤ byteAt f 0 % 8 ∧ (u.gal.node (byteAt f 0 % 8)).st = 0)
    (fun u t => (t.gal.node (byteAt f 0 % 8)).heard = true ∧ t.gal.quiet = 0 ∧ t.gal.out = u.gal.out ∧ t.landings = u.landings)) ∧
  (∀ (slot bits : Nat) (f : List Byte), galFrameOk f = false → bits ≤ 2776 → 1 ≤ slot → EventDoes (fun dt => .evGalFrameRx dt slot bits 0 f)
    (fun u => u.gal.role ≠ .standalone ∧ u.domUp 48 = true)
    (fun u t => t = { u with gal := { u.gal with crcFail := (u.gal.crcFail + 1) % 256 } })) ∧
  (∀ c : List Byte, c.length = 64 →
    let takes (u : State) (n : Nat) : Prop := u.hearsCommands = true ∧ byteAt c 0 = n ∧ u.gal.held = [] ∧ u.gal.stopped = false ∧
      u.faults.mode ≠ .recovery
    EventDoes (fun dt => .evGalPrepareRx dt c)
      (fun u => takes u 3 ∧ (byteAt c 1).testBit u.gal.addr = true ∧ u.gal.grantSeq ≠ 0 ∧ fieldLE c 4 4 = u.gal.nextSeq)
      (fun u t => t.gal.nextSeq = max (u.gal.nextSeq + 1) u.gal.cmin ∧
        (∃ o ∈ t.gal.out, byteAt o.unit 0 = 4 ∧ byteAt o.unit 1 = u.prepareVerdict c ∧ fieldLE o.unit 8 4 = fieldLE c 8 4) ∧
        (u.prepareVerdict c = 0 → t.gal.pending = some (GalPending.mk (fieldLE c 8 4) (fieldLE c 12 4) (byteAt c 16))) ∧
        (u.prepareVerdict c ≠ 0 → t.gal.pending = u.gal.pending ∧ (u.gal.role = .joining → t.gal.role = .refused))) ∧
    EventDoes (fun dt => .evGalGrantRx dt c)
      (fun u => takes u 6 ∧ byteAt c 1 = u.gal.addr ∧ sliceP c 16 16 = u.devidBytes ∧ u.gal.grantSeq < fieldLE c 4 4)
      (fun u t => t.gal.role = .joining ∧ t.gal.grantSeq = fieldLE c 4 4 ∧ t.gal.nextSeq = max (fieldLE c 4 4 + 1) u.gal.cmin ∧
        t.gal.out = [] ∧ t.gal.calNeeded = true ∧ t.gal.joinAt = none ∧ (t.gal.node 0).avail = 16 ∧ (t.gal.node 0).cret = 1) ∧
    (let part (u : State) : Prop := takes u 1 ∧ byteAt c 1 = u.gal.addr ∧ u.gal.grantSeq ≠ 0 ∧ fieldLE c 4 4 = u.gal.nextSeq
     let old (u : State) := u.keptPart (fieldLE c 8 4) (fieldLE c 12 2)
     (∀ k, EventDoes (fun dt => .evGalPartRx dt c) (fun u => part u ∧ old u = some k ∧ k.running = true)
       (fun u t => t.gal.kept = u.gal.kept ∧ t.gal.out = u.gal.out ∧ (t.gal.node 0).cret = (u.gal.node 0).cret + 1 ∧
         t.landings = u.landings)) ∧
     (∀ k, EventDoes (fun dt => .evGalPartRx dt c) (fun u => part u ∧ old u = some k ∧ k.running = false ∧ byteAt k.result 1 = 0)
       (fun u t => t.gal.kept = u.gal.kept ∧ t.landings = u.landings ∧
         ∃ o, t.gal.out = u.gal.out ++ [o] ∧ o.unit = patch k.result 4 (natLE 2 u.gal.mseq))) ∧
     EventDoes (fun dt => .evGalPartRx dt c) (fun u => part u ∧ old u = none ∧ u.lifeAllows 0x11 = false ∧
         ∀ k ∈ u.gal.kept, k.id ≠ u.gal.keptId)
       (fun u t => t.landings = u.landings ∧ ∃ o, t.gal.out = u.gal.out ++ [o] ∧ byteAt o.unit 0 = 2 ∧
         byteAt o.unit 1 = Code.lifecycleRefused.num ∧ byteAt o.unit 3 = 0xFF ∧ fieldLE o.unit 6 2 = fieldLE c 12 2) ∧
     (∀ l, EventDoes (fun dt => .evGalPartRx dt c)
       (fun u => part u ∧ old u = none ∧ u.lifeAllows 0x11 = true ∧ fieldLE c 14 2 = 0xFFFF ∧ u.noPipe = false ∧ u.anyFree = some l ∧
         l ∉ u.host.hushLandings ∧ u.domUp (l / 8) = false)
       (fun _ t => (t.land l).st = .claimed ∧ ∃ r, (t.land l).pending = some r ∧ r.slot = byteAt c 3 ∧ r.prio = byteAt c 2 % 4 ∧
         r.tenant = none ∧ r.g1 = BitVec.ofNat 32 (fieldLE c 16 4) ∧ r.g2 = BitVec.ofNat 32 (fieldLE c 20 4) ∧
         r.g3 = BitVec.ofNat 32 (fieldLE c 24 4) ∧ ∃ k ∈ t.gal.kept, k.run = fieldLE c 8 4 ∧ k.part = fieldLE c 12 2 ∧
           k.running = true ∧ r.key = partKey k.id)))) ∧
  (∀ (src : Nat) (m : List Byte), m.length = 64 →
    let new (u : State) (n : Nat) : Prop := u.gal.isMaster = true ∧ byteAt m 0 = n ∧ 1 ≤ src ∧ src < 8 ∧ 1 ≤ (u.gal.node src).st ∧
      (u.gal.node src).st ≤ 3 ∧ u.gal.nextMessage src (fieldLE m 4 2) = true
    (∀ p, EventDoes (fun dt => .evGalResultRx dt src m)
      (fun u => new u 2 ∧ u.gal.parts = [p] ∧ p.run = fieldLE m 8 4 ∧ p.part = fieldLE m 6 2 ∧ p.node = src ∧ p.result = none)
      (fun _ t => t.gal.parts = [{ p with result := some m }] ∧ (t.gal.node src).mack = fieldLE m 4 2 ∧
        (t.gal.node src).lastCode = byteAt m 1)) ∧
    EventDoes (fun dt => .evGalResultRx dt src m) (fun u => new u 2 ∧ u.gal.parts = [])
      (fun u t => t.gal.parts = [] ∧ (t.gal.node src).cret = (u.gal.node src).cret + 1) ∧
    (∀ c : ModeChange, EventDoes (fun dt => .evGalModeReplyRx dt src m)
      (fun u => new u 4 ∧ u.gal.change = some c ∧ c.pmode = fieldLE m 8 4 ∧ c.dest.testBit src = true ∧ c.target.isSome = true ∧
        c.done = none)
      (fun u t => (t.gal.node src).cret = (u.gal.node src).cret + 1 ∧
        (byteAt m 1 = 0 → t.gal.change = some { c with acks := c.acks ||| 2 ^ src }) ∧
        (byteAt m 1 ≠ 0 → t.gal.change = some { c with nak := true }))) ∧
    (let joins (u : State) : Prop := u.gal.isMaster = true ∧ byteAt m 0 = 5 ∧ 1 ≤ src ∧ src < 8
     EventDoes (fun dt => .evGalJoinRx dt src m)
       (fun u => joins u ∧ (u.gal.mode = 0 ∨ u.gal.members.testBit src = true) ∧ (u.gal.node src).st = 0)
       (fun u t => (t.gal.node src).st = 1 ∧ (t.gal.node src).heard = true ∧ (t.gal.node src).devid = sliceP m 16 16 ∧ t.gal.role = .master ∧
         t.gal.cseq = (u.gal.cseq + 1) % 2 ^ 32 ∧ t.host.attn.getLsbD 7 = true ∧
         ∃ o, t.gal.out.getLast? = some o ∧ o.seq = u.gal.cseq ∧ o.dest = 2 ^ src ∧ byteAt o.unit 0 = 6 ∧ byteAt o.unit 1 = src ∧
           sliceP o.unit 16 16 = sliceP m 16 16) ∧
     EventDoes (fun dt => .evGalJoinRx dt src m) (fun u => joins u ∧ u.gal.mode ≠ 0 ∧ u.gal.members.testBit src = false)
       (fun u t => t = u.attn attnCascade))) ∧
  (∀ (seq r : Nat) (o : GalOut), EventDoes (fun dt => .evGalResend dt seq)
    (fun u => u.gal.out = [o] ∧ o.seq = seq ∧ o.gone = false ∧ o.sent = some r ∧ r + 2 ≤ u.gal.round)
    (fun u t => t = { u with gal := { u.gal with out := [{ o with resend := true }] } })) ∧
  EventDoes .evPartKeepExpire (fun _ => True) (fun u t => t = { u with gal := { u.gal with kept := t.gal.kept } } ∧
    ∀ k, k ∈ t.gal.kept ↔ k ∈ u.gal.kept ∧ (k.running = true ∨ u.now < k.endedAt + bits u.gal.cfg1 15 0 * msT)) ∧
  (∀ n, EventDoes (fun dt => .evNodeLossExpire dt n)
    (fun u => u.gal.isMaster = true ∧ 1 ≤ n ∧ n < 8 ∧ 1 ≤ (u.gal.node n).st ∧ (u.gal.node n).st ≤ 3 ∧ u.gal.ghush = false ∧
      bits u.gal.cfg 15 8 ≤ u.silentRounds n)
    (fun _ t => (t.gal.node n).st = 4 ∧ (t.gal.node n).lastCode = Code.cascadeNodeFailed.num ∧ (t.gal.node n).avail = 16 ∧
      (t.gal.node n).flight = 0 ∧ t.faults.lastCause = Cause.nodeLost.num ∧ (∀ p ∈ t.gal.parts, p.node = n → p.result.isSome = true))) ∧
  EventDoes .evBeaconLossExpire
    (fun u => u.gal.isSlave = true ∧ u.gal.role ≠ .noBeacon ∧ u.gal.edgeAt + (bits u.gal.cfg 7 0 + 1) * msT ≤ u.now)
    (fun _ t => t.gal.role = .noBeacon ∧ t.gal.held = [] ∧ t.gal.pending = none ∧ t.gal.grantSeq = 0 ∧
      t.faults.lastCause = Cause.beaconLost.num) ∧
  EventAnyDoes .evGhushFall (fun _ => True) (fun u t => t = { u with gal := { u.gal with ghush := true } }) ∧
  EventAnyDoes .evGhushRise (fun _ => True)
    (fun u t => t = { u with gal := { u.gal with ghush := u.gal.isMaster && (u.gal.stopped || u.gal.babbleTill.isSome) } }) ∧
  (∀ e, EventDoes .evGhushHoldEnd (fun u => u.gal.babbleTill = some e ∧ e ≤ u.now)
    (fun u t => t = { u with gal := { u.gal with babbleTill := none, ghush := u.gal.isMaster && u.gal.stopped } })) ∧
  RegisterDoes .rgGalCtrlResume 0x4C18 (fun u v => v.toNat.testBit 0 = true → u.gal.stopped = true → u.gal.held = []) (fun u v t =>
    (v.toNat.testBit 0 = false ∨ u.gal.stopped = false → t.gal = u.gal) ∧
    (v.toNat.testBit 0 = true → u.gal.stopped = true → u.gal.isMaster = true → u.gal.addr = 0 →
      t.gal = { u.gal with stopped := false, ghush := u.gal.babbleTill.isSome }) ∧
    (v.toNat.testBit 0 = true → u.gal.stopped = true → u.gal.isSlave = true → u.gal.isMaster = false → u.gal.held = [] →
      u.faults.mode ≠ .recovery → t.gal = { u.gal with stopped := false, nextSeq := max u.gal.nextSeq u.gal.cmin })) ∧
  (∀ e, EventDoes .evCascadeListenEnd (fun u => u.gal.listen = some e ∧ e + 4 * msT ≤ u.now ∧ u.domUp 48 = true ∧ u.gal.bsess < 65536)
    (fun u t => t.gal.role = .master ∧ t.gal.listen = none ∧ t.gal.round = u.gal.round ∧ t.gal.synced = false ∧ t.gal.edgeAt = u.now - msT ∧
      t.gal.bsess ≠ u.gal.bsess ∧ t.gal.run = 1 ∧ t.gal.cseq = 1 ∧ t.gal.mode = 0 ∧ (t.gal.node 0).st = 2 ∧
      ∀ n, 1 ≤ n → n < 8 → t.gal.node n = GalNode.blank)) ∧
  (∀ e, EventDoes .evCascadeJoinTimeout (fun u => u.gal.joinAt = some e ∧ e + 64 * msT ≤ u.now ∧ u.gal.isSlave = true)
    (fun _ t => t.gal.role = .standalone ∧ t.gal.joinItem = none ∧ t.gal.joinAt = none)) ∧
  (∀ (c : ModeChange) (ok : Bool), EventDoes .evModeChangeEnd
    (fun u => u.gal.isMaster = true ∧ u.changeDue = true ∧ u.gal.change = some c ∧ c.done = some ok)
    (fun u t => t.gal.change = none ∧
      (∀ k, c.item = some k → ok = true → ∀ n, 1 ≤ n → n < 8 → (u.gal.node n).st = 2 → (u.gal.node n).heard = false →
        (t.gal.node n).st = 3) ∧
      (c.item = none → t = { u with gal := { u.gal with change := none } }))) ∧
  (∀ (l d w till : Nat) (blk : List Byte), EventDoes (fun dt => .evGsendCredit dt l)
    (fun u => l < 192 ∧ (u.land l).wait = .gsend d blk ∧ Tbl.find u.gal.sends l = some (w, till) ∧ (u.land l).endReq = none ∧
      ((u.sendParts l blk w).2 = 0 ∨ till ≤ u.now))
    (fun u t => u.waitEnded t l d .ok ∧ u.othersKeep t l ∧ Tbl.find t.gal.sends l = none ∧ t.halls = u.halls ∧
      t.gal.out = (u.sendParts l blk w).1.gal.out ∧ t.gal.parts = (u.sendParts l blk w).1.gal.parts)) ∧
  (∀ (l d till : Nat) (blk : List Byte), EventDoes (fun dt => .evGwaitEnd dt l)
    (fun u => l < 192 ∧ (u.land l).wait = .gwait d blk till ∧ (u.land l).endReq = none ∧ (u.partsOut l blk = false ∨ till ≤ u.now))
    (fun u t => (t.land l).wait = .none ∧ (t.land l).pc = (u.land l).pc + 1 ∧ u.othersKeep t l ∧
      (∀ p ∈ t.gal.parts, ¬ (p.land = l ∧ p.part = fieldLE blk 10 2 ∧ (byteAt blk 8).testBit p.node = true)) ∧
      (∀ p ∈ u.gal.parts, p.land ≠ l → p ∈ t.gal.parts)))
end

