-- ==== Sys2Proof/Laws/Mem.lean ====
section
/-! SUPPORT. The addressed memories: every operation keeps the canonical form, a read after a write gives the byte written, and a
write leaves every other byte alone. -/

namespace Sys2Proof.Machine

open Sys2Proof

/-- The form holds above any lower bound. -/
theorem cellsWf_mono {lo lo' : Nat} (h : lo ≤ lo') : ∀ {l : List Host.Cell}, cellsWf lo' l = true → cellsWf lo l = true
  | [], _ => rfl
  | (k, b) :: t, hw => by
    simp only [cellsWf, Bool.and_eq_true, decide_eq_true_eq] at hw ⊢
    exact ⟨⟨by omega, hw.1.2⟩, hw.2⟩

/-- A write keeps the form. -/
theorem cellsWrite_wf (a : Nat) (x : Byte) :
    ∀ {l : List Host.Cell} {lo : Nat}, lo ≤ a → cellsWf lo l = true → cellsWf lo (cellsWrite l a x) = true
  | [], lo, ha, _ => by
    unfold cellsWrite
    split
    · rfl
    · simp [cellsWf, *]
  | (k, b) :: t, lo, ha, hw => by
    simp only [cellsWf, Bool.and_eq_true, decide_eq_true_eq] at hw
    unfold cellsWrite
    split
    · split
      · simp [cellsWf, hw]
      · simp only [cellsWf, Bool.and_eq_true, decide_eq_true_eq]
        exact ⟨⟨ha, by simpa using ‹¬x = Mem.blank›⟩, ⟨⟨by omega, hw.1.2⟩, hw.2⟩⟩
    · split
      · subst_vars
        split
        · exact cellsWf_mono (by omega) hw.2
        · simp only [cellsWf, Bool.and_eq_true, decide_eq_true_eq]
          exact ⟨⟨ha, by simpa using ‹¬x = Mem.blank›⟩, hw.2⟩
      · simp only [cellsWf, Bool.and_eq_true, decide_eq_true_eq]
        exact ⟨hw.1, cellsWrite_wf a x (by omega) hw.2⟩

/-- A write keeps the canonical form. -/
theorem Mem.write_wf {m : Mem} (a : Nat) (x : Byte) (h : m.wf = true) : (m.write a x).wf = true :=
  cellsWrite_wf a x (Nat.zero_le a) h

/-- Writing bytes keeps the canonical form. -/
theorem Mem.writeN_wf : ∀ (bs : List Byte) {m : Mem} (a : Nat), m.wf = true → (m.writeN a bs).wf = true
  | [], _, _, h => h
  | b :: bs, _, a, h => Mem.writeN_wf bs (a + 1) (Mem.write_wf a b h)

/-- Dropping entries keeps the form. -/
theorem cellsWf_filter (p : Host.Cell → Bool) :
    ∀ {l : List Host.Cell} {lo : Nat}, cellsWf lo l = true → cellsWf lo (l.filter p) = true
  | [], _, _ => rfl
  | (k, b) :: t, lo, hw => by
    simp only [cellsWf, Bool.and_eq_true, decide_eq_true_eq] at hw
    have ht := cellsWf_filter p hw.2
    by_cases hp : p (k, b) = true
    · simp only [List.filter_cons, hp, if_true, cellsWf, Bool.and_eq_true, decide_eq_true_eq]
      exact ⟨hw.1, ht⟩
    · simp only [List.filter_cons, hp]
      exact cellsWf_mono (by omega) ht

/-- Clearing a range keeps the canonical form. -/
theorem Mem.clear_wf {m : Mem} (lo hi : Nat) (h : m.wf = true) : (m.clear lo hi).wf = true := cellsWf_filter _ h

/-- The empty memory has the canonical form. -/
theorem Mem.empty_wf : Mem.empty.wf = true := rfl

/-- Below its lower bound a canonical list reads blank. -/
theorem cellsRead_below : ∀ {l : List Host.Cell} {lo a : Nat}, cellsWf lo l = true → a < lo → cellsRead l a = Mem.blank
  | [], _, _, _, _ => rfl
  | (k, b) :: t, lo, a, hw, ha => by
    simp only [cellsWf, Bool.and_eq_true, decide_eq_true_eq] at hw
    unfold cellsRead
    rw [if_neg (by omega)]
    exact cellsRead_below hw.2 (by omega)

/-- Reading the cells after a write. -/
theorem cellsRead_write (a c : Nat) (x : Byte) :
    ∀ {l : List Host.Cell} {lo : Nat}, cellsWf lo l = true → cellsRead (cellsWrite l a x) c = if a = c then x else cellsRead l c
  | [], _, _ => by
    unfold cellsWrite
    split
    · split <;> simp_all [cellsRead]
    · simp [cellsRead]
  | (k, b) :: t, lo, hw => by
    simp only [cellsWf, Bool.and_eq_true, decide_eq_true_eq] at hw
    unfold cellsWrite
    split
    · have hb := cellsRead_below (a := a) hw.2
      split
      · by_cases h : a = c
        · subst h; rw [if_pos rfl, cellsRead, if_neg (by omega), hb (by omega)]; exact (‹x = Mem.blank›).symm
        · rw [if_neg h]
      · simp [cellsRead]
    · split
      · subst_vars
        split
        · by_cases h : k = c
          · subst h; rw [if_pos rfl, cellsRead_below hw.2 (by omega)]; exact (‹x = Mem.blank›).symm
          · rw [if_neg h, cellsRead, if_neg h]
        · by_cases h : k = c <;> simp [cellsRead, h]
      · rw [cellsRead, cellsRead_write a c x hw.2]
        by_cases h : a = c
        · subst h; simp [show ¬ k = a by omega]
        · simp [h, cellsRead]

/-- A read after a write: the byte written at its address, every other byte as before. -/
theorem Mem.read_write {m : Mem} (h : m.wf = true) (a c : Nat) (x : Byte) :
    (m.write a x).read c = if a = c then x else m.read c := cellsRead_write a c x h

/-- Bytes outside a written range are as before. -/
theorem Mem.read_writeN_outside :
    ∀ (bs : List Byte) {m : Mem} (a c : Nat), m.wf = true → c < a ∨ a + bs.length ≤ c → (m.writeN a bs).read c = m.read c
  | [], _, _, _, _, _ => rfl
  | b :: bs, m, a, c, h, hc => by
    simp only [List.length_cons] at hc
    rw [Mem.writeN, Mem.read_writeN_outside bs (a + 1) c (Mem.write_wf a b h) (by omega), Mem.read_write h]
    exact if_neg (by omega)

/-- Byte i of a written range. -/
theorem Mem.read_writeN_inside :
    ∀ (bs : List Byte) {m : Mem} (a i : Nat) (_ : m.wf = true) (hi : i < bs.length), (m.writeN a bs).read (a + i) = bs[i]
  | b :: bs, m, a, 0, h, _ => by
    show ((m.write a b).writeN (a + 1) bs).read a = b
    rw [Mem.read_writeN_outside bs (a + 1) a (Mem.write_wf a b h) (by omega), Mem.read_write h]
    simp
  | b :: bs, m, a, i + 1, h, hi => by
    rw [Mem.writeN, show a + (i + 1) = a + 1 + i by omega]
    exact Mem.read_writeN_inside bs (a + 1) i (Mem.write_wf a b h) (by simpa using hi)

/-- Canonical lists that read alike are equal. -/
theorem cells_ext : ∀ {l m : List Host.Cell} {lo : Nat}, cellsWf lo l = true → cellsWf lo m = true →
    (∀ a, cellsRead l a = cellsRead m a) → l = m
  | [], [], _, _, _, _ => rfl
  | [], (k, b) :: t, lo, _, hm, h => by
    simp only [cellsWf, Bool.and_eq_true, decide_eq_true_eq] at hm
    have := h k
    simp [cellsRead] at this
    simp [← this] at hm
  | (k, b) :: t, [], lo, hl, _, h => by
    simp only [cellsWf, Bool.and_eq_true, decide_eq_true_eq] at hl
    have := h k
    simp [cellsRead] at this
    simp [this] at hl
  | (k, b) :: t, (k', b') :: t', lo, hl, hm, h => by
    simp only [cellsWf, Bool.and_eq_true, decide_eq_true_eq, bne_iff_ne, ne_eq] at hl hm
    have hk : k = k' := by
      rcases Nat.lt_trichotomy k k' with hlt | heq | hgt
      · have := h k
        rw [cellsRead, if_pos rfl, cellsRead, if_neg (by omega), cellsRead_below hm.2 (by omega)] at this
        exact absurd this hl.1.2
      · exact heq
      · have := h k'
        rw [cellsRead, if_neg (by omega), cellsRead_below hl.2 (by omega), cellsRead, if_pos rfl] at this
        exact absurd this.symm hm.1.2
    subst hk
    have hb : b = b' := by have := h k; simpa [cellsRead] using this
    subst hb
    congr 1
    refine cells_ext hl.2 hm.2 fun a => ?_
    by_cases ha : k = a
    · subst ha; rw [cellsRead_below hl.2 (by omega), cellsRead_below hm.2 (by omega)]
    · have := h a
      simpa [cellsRead, ha] using this

/-- Equal memories are equal data. -/
theorem Mem.ext_read {m n : Mem} (hm : m.wf = true) (hn : n.wf = true) (h : ∀ a, m.read a = n.read a) : m = n := by
  cases m; cases n
  exact congrArg Mem.mk (cells_ext hm hn h)

/-- Every memory of the reset state has the canonical form. -/
theorem State.reset_memWf : State.reset.memWf = true := by decide

end Sys2Proof.Machine
end

