-- ==== Sys2Proof/Laws/State.lean ====
section
/-! SUPPORT. One lemma per field of the state for each named update: what it writes, and that it leaves the rest. -/

namespace Sys2Proof.Machine

open Sys2Proof

/-! ### tick -/

@[simp] theorem State.tick_now (dt : Nat) (s : State) : (s.tick dt).now = s.now + dt := rfl
@[simp] theorem State.tick_epochStart (dt : Nat) (s : State) : (s.tick dt).epochStart = s.epochStart := rfl
@[simp] theorem State.tick_fresh (dt : Nat) (s : State) : (s.tick dt).fresh = s.fresh := rfl
@[simp] theorem State.tick_host (dt : Nat) (s : State) : (s.tick dt).host = s.host := rfl
@[simp] theorem State.tick_dma (dt : Nat) (s : State) : (s.tick dt).dma = s.dma := rfl
@[simp] theorem State.tick_landings (dt : Nat) (s : State) : (s.tick dt).landings = s.landings := rfl
@[simp] theorem State.tick_sched (dt : Nat) (s : State) : (s.tick dt).sched = s.sched := rfl
@[simp] theorem State.tick_air (dt : Nat) (s : State) : (s.tick dt).air = s.air := rfl
@[simp] theorem State.tick_halls (dt : Nat) (s : State) : (s.tick dt).halls = s.halls := rfl
@[simp] theorem State.tick_faults (dt : Nat) (s : State) : (s.tick dt).faults = s.faults := rfl
@[simp] theorem State.tick_power (dt : Nat) (s : State) : (s.tick dt).power = s.power := rfl
@[simp] theorem State.tick_sec (dt : Nat) (s : State) : (s.tick dt).sec = s.sec := rfl
@[simp] theorem State.tick_life (dt : Nat) (s : State) : (s.tick dt).life = s.life := rfl
@[simp] theorem State.tick_timers (dt : Nat) (s : State) : (s.tick dt).timers = s.timers := rfl
@[simp] theorem State.tick_bist (dt : Nat) (s : State) : (s.tick dt).bist = s.bist := rfl
@[simp] theorem State.tick_dieTemp (dt : Nat) (s : State) : (s.tick dt).dieTemp = s.dieTemp := rfl
@[simp] theorem State.tick_lf (dt : Nat) (s : State) : (s.tick dt).lf = s.lf := rfl
@[simp] theorem State.tick_uwb (dt : Nat) (s : State) : (s.tick dt).uwb = s.uwb := rfl
@[simp] theorem State.tick_rng (dt : Nat) (s : State) : (s.tick dt).rng = s.rng := rfl
@[simp] theorem State.tick_uhf (dt : Nat) (s : State) : (s.tick dt).uhf = s.uhf := rfl
@[simp] theorem State.tick_nfc (dt : Nat) (s : State) : (s.tick dt).nfc = s.nfc := rfl
@[simp] theorem State.tick_tag (dt : Nat) (s : State) : (s.tick dt).tag = s.tag := rfl
@[simp] theorem State.tick_verdict (dt : Nat) (s : State) : (s.tick dt).verdict = s.verdict := rfl
@[simp] theorem State.tick_evd (dt : Nat) (s : State) : (s.tick dt).evd = s.evd := rfl
@[simp] theorem State.tick_ten (dt : Nat) (s : State) : (s.tick dt).ten = s.ten := rfl
@[simp] theorem State.tick_start (dt : Nat) (s : State) : (s.tick dt).start = s.start := rfl
@[simp] theorem State.tick_rel (dt : Nat) (s : State) : (s.tick dt).rel = s.rel := rfl
@[simp] theorem State.tick_gal (dt : Nat) (s : State) : (s.tick dt).gal = s.gal := rfl
@[simp] theorem State.tick_turn (dt : Nat) (s : State) : (s.tick dt).turn = s.turn := rfl
@[simp] theorem State.tick_seen (dt : Nat) (s : State) : (s.tick dt).seen = s.seen := rfl
@[simp] theorem State.tick_hushTill (dt : Nat) (s : State) : (s.tick dt).hushTill = s.hushTill := rfl
@[simp] theorem State.tick_pending (dt : Nat) (s : State) : (s.tick dt).pending = s.pending := rfl

/-! ### act -/

@[simp] theorem State.act_now (s : State) (k : Nat) : (s.act k).now = s.now := rfl
@[simp] theorem State.act_epochStart (s : State) (k : Nat) : (s.act k).epochStart = s.epochStart := rfl
@[simp] theorem State.act_fresh (s : State) (k : Nat) : (s.act k).fresh = s.fresh := rfl
@[simp] theorem State.act_host (s : State) (k : Nat) : (s.act k).host = s.host := rfl
@[simp] theorem State.act_dma (s : State) (k : Nat) : (s.act k).dma = s.dma := rfl
@[simp] theorem State.act_landings (s : State) (k : Nat) : (s.act k).landings = s.landings := rfl
@[simp] theorem State.act_sched (s : State) (k : Nat) : (s.act k).sched = s.sched := rfl
@[simp] theorem State.act_air (s : State) (k : Nat) : (s.act k).air = s.air := rfl
@[simp] theorem State.act_halls (s : State) (k : Nat) : (s.act k).halls = s.halls := rfl
@[simp] theorem State.act_faults (s : State) (k : Nat) : (s.act k).faults = s.faults := rfl
@[simp] theorem State.act_power (s : State) (k : Nat) : (s.act k).power = s.power := rfl
@[simp] theorem State.act_sec (s : State) (k : Nat) : (s.act k).sec = s.sec := rfl
@[simp] theorem State.act_life (s : State) (k : Nat) : (s.act k).life = s.life := rfl
@[simp] theorem State.act_timers (s : State) (k : Nat) : (s.act k).timers = s.timers := rfl
@[simp] theorem State.act_bist (s : State) (k : Nat) : (s.act k).bist = s.bist := rfl
@[simp] theorem State.act_dieTemp (s : State) (k : Nat) : (s.act k).dieTemp = s.dieTemp := rfl
@[simp] theorem State.act_lf (s : State) (k : Nat) : (s.act k).lf = s.lf := rfl
@[simp] theorem State.act_uwb (s : State) (k : Nat) : (s.act k).uwb = s.uwb := rfl
@[simp] theorem State.act_rng (s : State) (k : Nat) : (s.act k).rng = s.rng := rfl
@[simp] theorem State.act_uhf (s : State) (k : Nat) : (s.act k).uhf = s.uhf := rfl
@[simp] theorem State.act_nfc (s : State) (k : Nat) : (s.act k).nfc = s.nfc := rfl
@[simp] theorem State.act_tag (s : State) (k : Nat) : (s.act k).tag = s.tag := rfl
@[simp] theorem State.act_verdict (s : State) (k : Nat) : (s.act k).verdict = s.verdict := rfl
@[simp] theorem State.act_evd (s : State) (k : Nat) : (s.act k).evd = s.evd := rfl
@[simp] theorem State.act_ten (s : State) (k : Nat) : (s.act k).ten = s.ten := rfl
@[simp] theorem State.act_start (s : State) (k : Nat) : (s.act k).start = s.start := rfl
@[simp] theorem State.act_rel (s : State) (k : Nat) : (s.act k).rel = s.rel := rfl
@[simp] theorem State.act_gal (s : State) (k : Nat) : (s.act k).gal = s.gal := rfl
@[simp] theorem State.act_turn (s : State) (k : Nat) : (s.act k).turn = ⟨s.now / coreT, k⟩ := rfl
@[simp] theorem State.act_seen (s : State) (k : Nat) : (s.act k).seen = s.seen := rfl
@[simp] theorem State.act_hushTill (s : State) (k : Nat) : (s.act k).hushTill = s.hushTill := rfl
@[simp] theorem State.act_pending (s : State) (k : Nat) : (s.act k).pending = s.pending := rfl

/-! ### draw -/

@[simp] theorem State.draw_now (s : State) : (s.draw.1).now = s.now := rfl
@[simp] theorem State.draw_epochStart (s : State) : (s.draw.1).epochStart = s.epochStart := rfl
@[simp] theorem State.draw_fresh (s : State) : (s.draw.1).fresh = s.fresh + 1 := rfl
@[simp] theorem State.draw_host (s : State) : (s.draw.1).host = s.host := rfl
@[simp] theorem State.draw_dma (s : State) : (s.draw.1).dma = s.dma := rfl
@[simp] theorem State.draw_landings (s : State) : (s.draw.1).landings = s.landings := rfl
@[simp] theorem State.draw_sched (s : State) : (s.draw.1).sched = s.sched := rfl
@[simp] theorem State.draw_air (s : State) : (s.draw.1).air = s.air := rfl
@[simp] theorem State.draw_halls (s : State) : (s.draw.1).halls = s.halls := rfl
@[simp] theorem State.draw_faults (s : State) : (s.draw.1).faults = s.faults := rfl
@[simp] theorem State.draw_power (s : State) : (s.draw.1).power = s.power := rfl
@[simp] theorem State.draw_sec (s : State) : (s.draw.1).sec = s.sec := rfl
@[simp] theorem State.draw_life (s : State) : (s.draw.1).life = s.life := rfl
@[simp] theorem State.draw_timers (s : State) : (s.draw.1).timers = s.timers := rfl
@[simp] theorem State.draw_bist (s : State) : (s.draw.1).bist = s.bist := rfl
@[simp] theorem State.draw_dieTemp (s : State) : (s.draw.1).dieTemp = s.dieTemp := rfl
@[simp] theorem State.draw_lf (s : State) : (s.draw.1).lf = s.lf := rfl
@[simp] theorem State.draw_uwb (s : State) : (s.draw.1).uwb = s.uwb := rfl
@[simp] theorem State.draw_rng (s : State) : (s.draw.1).rng = s.rng := rfl
@[simp] theorem State.draw_uhf (s : State) : (s.draw.1).uhf = s.uhf := rfl
@[simp] theorem State.draw_nfc (s : State) : (s.draw.1).nfc = s.nfc := rfl
@[simp] theorem State.draw_tag (s : State) : (s.draw.1).tag = s.tag := rfl
@[simp] theorem State.draw_verdict (s : State) : (s.draw.1).verdict = s.verdict := rfl
@[simp] theorem State.draw_evd (s : State) : (s.draw.1).evd = s.evd := rfl
@[simp] theorem State.draw_ten (s : State) : (s.draw.1).ten = s.ten := rfl
@[simp] theorem State.draw_start (s : State) : (s.draw.1).start = s.start := rfl
@[simp] theorem State.draw_rel (s : State) : (s.draw.1).rel = s.rel := rfl
@[simp] theorem State.draw_gal (s : State) : (s.draw.1).gal = s.gal := rfl
@[simp] theorem State.draw_turn (s : State) : (s.draw.1).turn = s.turn := rfl
@[simp] theorem State.draw_seen (s : State) : (s.draw.1).seen = s.seen := rfl
@[simp] theorem State.draw_hushTill (s : State) : (s.draw.1).hushTill = s.hushTill := rfl
@[simp] theorem State.draw_pending (s : State) : (s.draw.1).pending = s.pending := rfl

/-! ### setLand -/

@[simp] theorem State.setLand_now (s : State) (l : Nat) (x : Landing) : (s.setLand l x).now = s.now := rfl
@[simp] theorem State.setLand_epochStart (s : State) (l : Nat) (x : Landing) : (s.setLand l x).epochStart = s.epochStart := rfl
@[simp] theorem State.setLand_fresh (s : State) (l : Nat) (x : Landing) : (s.setLand l x).fresh = s.fresh := rfl
@[simp] theorem State.setLand_host (s : State) (l : Nat) (x : Landing) : (s.setLand l x).host = s.host := rfl
@[simp] theorem State.setLand_dma (s : State) (l : Nat) (x : Landing) : (s.setLand l x).dma = s.dma := rfl
@[simp] theorem State.setLand_landings (s : State) (l : Nat) (x : Landing) : (s.setLand l x).landings = vset s.landings l x := rfl
@[simp] theorem State.setLand_sched (s : State) (l : Nat) (x : Landing) : (s.setLand l x).sched = s.sched := rfl
@[simp] theorem State.setLand_air (s : State) (l : Nat) (x : Landing) : (s.setLand l x).air = s.air := rfl
@[simp] theorem State.setLand_halls (s : State) (l : Nat) (x : Landing) : (s.setLand l x).halls = s.halls := rfl
@[simp] theorem State.setLand_faults (s : State) (l : Nat) (x : Landing) : (s.setLand l x).faults = s.faults := rfl
@[simp] theorem State.setLand_power (s : State) (l : Nat) (x : Landing) : (s.setLand l x).power = s.power := rfl
@[simp] theorem State.setLand_sec (s : State) (l : Nat) (x : Landing) : (s.setLand l x).sec = s.sec := rfl
@[simp] theorem State.setLand_life (s : State) (l : Nat) (x : Landing) : (s.setLand l x).life = s.life := rfl
@[simp] theorem State.setLand_timers (s : State) (l : Nat) (x : Landing) : (s.setLand l x).timers = s.timers := rfl
@[simp] theorem State.setLand_bist (s : State) (l : Nat) (x : Landing) : (s.setLand l x).bist = s.bist := rfl
@[simp] theorem State.setLand_dieTemp (s : State) (l : Nat) (x : Landing) : (s.setLand l x).dieTemp = s.dieTemp := rfl
@[simp] theorem State.setLand_lf (s : State) (l : Nat) (x : Landing) : (s.setLand l x).lf = s.lf := rfl
@[simp] theorem State.setLand_uwb (s : State) (l : Nat) (x : Landing) : (s.setLand l x).uwb = s.uwb := rfl
@[simp] theorem State.setLand_rng (s : State) (l : Nat) (x : Landing) : (s.setLand l x).rng = s.rng := rfl
@[simp] theorem State.setLand_uhf (s : State) (l : Nat) (x : Landing) : (s.setLand l x).uhf = s.uhf := rfl
@[simp] theorem State.setLand_nfc (s : State) (l : Nat) (x : Landing) : (s.setLand l x).nfc = s.nfc := rfl
@[simp] theorem State.setLand_tag (s : State) (l : Nat) (x : Landing) : (s.setLand l x).tag = s.tag := rfl
@[simp] theorem State.setLand_verdict (s : State) (l : Nat) (x : Landing) : (s.setLand l x).verdict = s.verdict := rfl
@[simp] theorem State.setLand_evd (s : State) (l : Nat) (x : Landing) : (s.setLand l x).evd = s.evd := rfl
@[simp] theorem State.setLand_ten (s : State) (l : Nat) (x : Landing) : (s.setLand l x).ten = s.ten := rfl
@[simp] theorem State.setLand_start (s : State) (l : Nat) (x : Landing) : (s.setLand l x).start = s.start := rfl
@[simp] theorem State.setLand_rel (s : State) (l : Nat) (x : Landing) : (s.setLand l x).rel = s.rel := rfl
@[simp] theorem State.setLand_gal (s : State) (l : Nat) (x : Landing) : (s.setLand l x).gal = s.gal := rfl
@[simp] theorem State.setLand_turn (s : State) (l : Nat) (x : Landing) : (s.setLand l x).turn = s.turn := rfl
@[simp] theorem State.setLand_seen (s : State) (l : Nat) (x : Landing) : (s.setLand l x).seen = s.seen := rfl
@[simp] theorem State.setLand_hushTill (s : State) (l : Nat) (x : Landing) : (s.setLand l x).hushTill = s.hushTill := rfl
@[simp] theorem State.setLand_pending (s : State) (l : Nat) (x : Landing) : (s.setLand l x).pending = s.pending := rfl

/-! ### modLand -/

@[simp] theorem State.modLand_now (s : State) (l : Nat) (f : Landing → Landing) : (s.modLand l f).now = s.now := rfl
@[simp] theorem State.modLand_epochStart (s : State) (l : Nat) (f : Landing → Landing) : (s.modLand l f).epochStart = s.epochStart := rfl
@[simp] theorem State.modLand_fresh (s : State) (l : Nat) (f : Landing → Landing) : (s.modLand l f).fresh = s.fresh := rfl
@[simp] theorem State.modLand_host (s : State) (l : Nat) (f : Landing → Landing) : (s.modLand l f).host = s.host := rfl
@[simp] theorem State.modLand_dma (s : State) (l : Nat) (f : Landing → Landing) : (s.modLand l f).dma = s.dma := rfl
@[simp] theorem State.modLand_landings (s : State) (l : Nat) (f : Landing → Landing) : (s.modLand l f).landings = vset s.landings l (f (s.land l)) := rfl
@[simp] theorem State.modLand_sched (s : State) (l : Nat) (f : Landing → Landing) : (s.modLand l f).sched = s.sched := rfl
@[simp] theorem State.modLand_air (s : State) (l : Nat) (f : Landing → Landing) : (s.modLand l f).air = s.air := rfl
@[simp] theorem State.modLand_halls (s : State) (l : Nat) (f : Landing → Landing) : (s.modLand l f).halls = s.halls := rfl
@[simp] theorem State.modLand_faults (s : State) (l : Nat) (f : Landing → Landing) : (s.modLand l f).faults = s.faults := rfl
@[simp] theorem State.modLand_power (s : State) (l : Nat) (f : Landing → Landing) : (s.modLand l f).power = s.power := rfl
@[simp] theorem State.modLand_sec (s : State) (l : Nat) (f : Landing → Landing) : (s.modLand l f).sec = s.sec := rfl
@[simp] theorem State.modLand_life (s : State) (l : Nat) (f : Landing → Landing) : (s.modLand l f).life = s.life := rfl
@[simp] theorem State.modLand_timers (s : State) (l : Nat) (f : Landing → Landing) : (s.modLand l f).timers = s.timers := rfl
@[simp] theorem State.modLand_bist (s : State) (l : Nat) (f : Landing → Landing) : (s.modLand l f).bist = s.bist := rfl
@[simp] theorem State.modLand_dieTemp (s : State) (l : Nat) (f : Landing → Landing) : (s.modLand l f).dieTemp = s.dieTemp := rfl
@[simp] theorem State.modLand_lf (s : State) (l : Nat) (f : Landing → Landing) : (s.modLand l f).lf = s.lf := rfl
@[simp] theorem State.modLand_uwb (s : State) (l : Nat) (f : Landing → Landing) : (s.modLand l f).uwb = s.uwb := rfl
@[simp] theorem State.modLand_rng (s : State) (l : Nat) (f : Landing → Landing) : (s.modLand l f).rng = s.rng := rfl
@[simp] theorem State.modLand_uhf (s : State) (l : Nat) (f : Landing → Landing) : (s.modLand l f).uhf = s.uhf := rfl
@[simp] theorem State.modLand_nfc (s : State) (l : Nat) (f : Landing → Landing) : (s.modLand l f).nfc = s.nfc := rfl
@[simp] theorem State.modLand_tag (s : State) (l : Nat) (f : Landing → Landing) : (s.modLand l f).tag = s.tag := rfl
@[simp] theorem State.modLand_verdict (s : State) (l : Nat) (f : Landing → Landing) : (s.modLand l f).verdict = s.verdict := rfl
@[simp] theorem State.modLand_evd (s : State) (l : Nat) (f : Landing → Landing) : (s.modLand l f).evd = s.evd := rfl
@[simp] theorem State.modLand_ten (s : State) (l : Nat) (f : Landing → Landing) : (s.modLand l f).ten = s.ten := rfl
@[simp] theorem State.modLand_start (s : State) (l : Nat) (f : Landing → Landing) : (s.modLand l f).start = s.start := rfl
@[simp] theorem State.modLand_rel (s : State) (l : Nat) (f : Landing → Landing) : (s.modLand l f).rel = s.rel := rfl
@[simp] theorem State.modLand_gal (s : State) (l : Nat) (f : Landing → Landing) : (s.modLand l f).gal = s.gal := rfl
@[simp] theorem State.modLand_turn (s : State) (l : Nat) (f : Landing → Landing) : (s.modLand l f).turn = s.turn := rfl
@[simp] theorem State.modLand_seen (s : State) (l : Nat) (f : Landing → Landing) : (s.modLand l f).seen = s.seen := rfl
@[simp] theorem State.modLand_hushTill (s : State) (l : Nat) (f : Landing → Landing) : (s.modLand l f).hushTill = s.hushTill := rfl
@[simp] theorem State.modLand_pending (s : State) (l : Nat) (f : Landing → Landing) : (s.modLand l f).pending = s.pending := rfl

/-! ### attn -/

@[simp] theorem State.attn_now (s : State) (m : Nat) : (s.attn m).now = s.now := rfl
@[simp] theorem State.attn_epochStart (s : State) (m : Nat) : (s.attn m).epochStart = s.epochStart := rfl
@[simp] theorem State.attn_fresh (s : State) (m : Nat) : (s.attn m).fresh = s.fresh := rfl
@[simp] theorem State.attn_host (s : State) (m : Nat) : (s.attn m).host = { s.host with attn := s.host.attn ||| BitVec.ofNat 8 m } := rfl
@[simp] theorem State.attn_dma (s : State) (m : Nat) : (s.attn m).dma = s.dma := rfl
@[simp] theorem State.attn_landings (s : State) (m : Nat) : (s.attn m).landings = s.landings := rfl
@[simp] theorem State.attn_sched (s : State) (m : Nat) : (s.attn m).sched = s.sched := rfl
@[simp] theorem State.attn_air (s : State) (m : Nat) : (s.attn m).air = s.air := rfl
@[simp] theorem State.attn_halls (s : State) (m : Nat) : (s.attn m).halls = s.halls := rfl
@[simp] theorem State.attn_faults (s : State) (m : Nat) : (s.attn m).faults = s.faults := rfl
@[simp] theorem State.attn_power (s : State) (m : Nat) : (s.attn m).power = s.power := rfl
@[simp] theorem State.attn_sec (s : State) (m : Nat) : (s.attn m).sec = s.sec := rfl
@[simp] theorem State.attn_life (s : State) (m : Nat) : (s.attn m).life = s.life := rfl
@[simp] theorem State.attn_timers (s : State) (m : Nat) : (s.attn m).timers = s.timers := rfl
@[simp] theorem State.attn_bist (s : State) (m : Nat) : (s.attn m).bist = s.bist := rfl
@[simp] theorem State.attn_dieTemp (s : State) (m : Nat) : (s.attn m).dieTemp = s.dieTemp := rfl
@[simp] theorem State.attn_lf (s : State) (m : Nat) : (s.attn m).lf = s.lf := rfl
@[simp] theorem State.attn_uwb (s : State) (m : Nat) : (s.attn m).uwb = s.uwb := rfl
@[simp] theorem State.attn_rng (s : State) (m : Nat) : (s.attn m).rng = s.rng := rfl
@[simp] theorem State.attn_uhf (s : State) (m : Nat) : (s.attn m).uhf = s.uhf := rfl
@[simp] theorem State.attn_nfc (s : State) (m : Nat) : (s.attn m).nfc = s.nfc := rfl
@[simp] theorem State.attn_tag (s : State) (m : Nat) : (s.attn m).tag = s.tag := rfl
@[simp] theorem State.attn_verdict (s : State) (m : Nat) : (s.attn m).verdict = s.verdict := rfl
@[simp] theorem State.attn_evd (s : State) (m : Nat) : (s.attn m).evd = s.evd := rfl
@[simp] theorem State.attn_ten (s : State) (m : Nat) : (s.attn m).ten = s.ten := rfl
@[simp] theorem State.attn_start (s : State) (m : Nat) : (s.attn m).start = s.start := rfl
@[simp] theorem State.attn_rel (s : State) (m : Nat) : (s.attn m).rel = s.rel := rfl
@[simp] theorem State.attn_gal (s : State) (m : Nat) : (s.attn m).gal = s.gal := rfl
@[simp] theorem State.attn_turn (s : State) (m : Nat) : (s.attn m).turn = s.turn := rfl
@[simp] theorem State.attn_seen (s : State) (m : Nat) : (s.attn m).seen = s.seen := rfl
@[simp] theorem State.attn_hushTill (s : State) (m : Nat) : (s.attn m).hushTill = s.hushTill := rfl
@[simp] theorem State.attn_pending (s : State) (m : Nat) : (s.attn m).pending = s.pending := rfl

/-! ### startItem -/

@[simp] theorem State.startItem_now (s : State) (k : ItemKey) : (s.startItem k).now = s.now := rfl
@[simp] theorem State.startItem_epochStart (s : State) (k : ItemKey) : (s.startItem k).epochStart = s.epochStart := rfl
@[simp] theorem State.startItem_fresh (s : State) (k : ItemKey) : (s.startItem k).fresh = s.fresh := rfl
@[simp] theorem State.startItem_dma (s : State) (k : ItemKey) : (s.startItem k).dma = s.dma := rfl
@[simp] theorem State.startItem_landings (s : State) (k : ItemKey) : (s.startItem k).landings = s.landings := rfl
@[simp] theorem State.startItem_sched (s : State) (k : ItemKey) : (s.startItem k).sched = s.sched := rfl
@[simp] theorem State.startItem_air (s : State) (k : ItemKey) : (s.startItem k).air = s.air := rfl
@[simp] theorem State.startItem_halls (s : State) (k : ItemKey) : (s.startItem k).halls = s.halls := rfl
@[simp] theorem State.startItem_faults (s : State) (k : ItemKey) : (s.startItem k).faults = s.faults := rfl
@[simp] theorem State.startItem_power (s : State) (k : ItemKey) : (s.startItem k).power = s.power := rfl
@[simp] theorem State.startItem_sec (s : State) (k : ItemKey) : (s.startItem k).sec = s.sec := rfl
@[simp] theorem State.startItem_life (s : State) (k : ItemKey) : (s.startItem k).life = s.life := rfl
@[simp] theorem State.startItem_timers (s : State) (k : ItemKey) : (s.startItem k).timers = s.timers := rfl
@[simp] theorem State.startItem_bist (s : State) (k : ItemKey) : (s.startItem k).bist = s.bist := rfl
@[simp] theorem State.startItem_dieTemp (s : State) (k : ItemKey) : (s.startItem k).dieTemp = s.dieTemp := rfl
@[simp] theorem State.startItem_lf (s : State) (k : ItemKey) : (s.startItem k).lf = s.lf := rfl
@[simp] theorem State.startItem_uwb (s : State) (k : ItemKey) : (s.startItem k).uwb = s.uwb := rfl
@[simp] theorem State.startItem_rng (s : State) (k : ItemKey) : (s.startItem k).rng = s.rng := rfl
@[simp] theorem State.startItem_uhf (s : State) (k : ItemKey) : (s.startItem k).uhf = s.uhf := rfl
@[simp] theorem State.startItem_nfc (s : State) (k : ItemKey) : (s.startItem k).nfc = s.nfc := rfl
@[simp] theorem State.startItem_tag (s : State) (k : ItemKey) : (s.startItem k).tag = s.tag := rfl
@[simp] theorem State.startItem_verdict (s : State) (k : ItemKey) : (s.startItem k).verdict = s.verdict := rfl
@[simp] theorem State.startItem_evd (s : State) (k : ItemKey) : (s.startItem k).evd = s.evd := rfl
@[simp] theorem State.startItem_ten (s : State) (k : ItemKey) : (s.startItem k).ten = s.ten := rfl
@[simp] theorem State.startItem_start (s : State) (k : ItemKey) : (s.startItem k).start = s.start := rfl
@[simp] theorem State.startItem_rel (s : State) (k : ItemKey) : (s.startItem k).rel = s.rel := rfl
@[simp] theorem State.startItem_gal (s : State) (k : ItemKey) : (s.startItem k).gal = s.gal := rfl
@[simp] theorem State.startItem_turn (s : State) (k : ItemKey) : (s.startItem k).turn = ⟨s.now / coreT, rankItem⟩ := rfl
@[simp] theorem State.startItem_seen (s : State) (k : ItemKey) : (s.startItem k).seen = s.seen := rfl
@[simp] theorem State.startItem_hushTill (s : State) (k : ItemKey) : (s.startItem k).hushTill = s.hushTill := rfl
@[simp] theorem State.startItem_pending (s : State) (k : ItemKey) : (s.startItem k).pending = s.pending := rfl

/-! ### setDom -/

@[simp] theorem State.setDom_now (s : State) (d : Nat) (x : Dom) : (s.setDom d x).now = s.now := rfl
@[simp] theorem State.setDom_epochStart (s : State) (d : Nat) (x : Dom) : (s.setDom d x).epochStart = s.epochStart := rfl
@[simp] theorem State.setDom_fresh (s : State) (d : Nat) (x : Dom) : (s.setDom d x).fresh = s.fresh := rfl
@[simp] theorem State.setDom_host (s : State) (d : Nat) (x : Dom) : (s.setDom d x).host = s.host := rfl
@[simp] theorem State.setDom_dma (s : State) (d : Nat) (x : Dom) : (s.setDom d x).dma = s.dma := rfl
@[simp] theorem State.setDom_landings (s : State) (d : Nat) (x : Dom) : (s.setDom d x).landings = s.landings := rfl
@[simp] theorem State.setDom_sched (s : State) (d : Nat) (x : Dom) : (s.setDom d x).sched = s.sched := rfl
@[simp] theorem State.setDom_air (s : State) (d : Nat) (x : Dom) : (s.setDom d x).air = s.air := rfl
@[simp] theorem State.setDom_halls (s : State) (d : Nat) (x : Dom) : (s.setDom d x).halls = s.halls := rfl
@[simp] theorem State.setDom_faults (s : State) (d : Nat) (x : Dom) : (s.setDom d x).faults = s.faults := rfl
@[simp] theorem State.setDom_power (s : State) (d : Nat) (x : Dom) : (s.setDom d x).power = { s.power with domains := vset s.power.domains d x } := rfl
@[simp] theorem State.setDom_sec (s : State) (d : Nat) (x : Dom) : (s.setDom d x).sec = s.sec := rfl
@[simp] theorem State.setDom_life (s : State) (d : Nat) (x : Dom) : (s.setDom d x).life = s.life := rfl
@[simp] theorem State.setDom_timers (s : State) (d : Nat) (x : Dom) : (s.setDom d x).timers = s.timers := rfl
@[simp] theorem State.setDom_bist (s : State) (d : Nat) (x : Dom) : (s.setDom d x).bist = s.bist := rfl
@[simp] theorem State.setDom_dieTemp (s : State) (d : Nat) (x : Dom) : (s.setDom d x).dieTemp = s.dieTemp := rfl
@[simp] theorem State.setDom_lf (s : State) (d : Nat) (x : Dom) : (s.setDom d x).lf = s.lf := rfl
@[simp] theorem State.setDom_uwb (s : State) (d : Nat) (x : Dom) : (s.setDom d x).uwb = s.uwb := rfl
@[simp] theorem State.setDom_rng (s : State) (d : Nat) (x : Dom) : (s.setDom d x).rng = s.rng := rfl
@[simp] theorem State.setDom_uhf (s : State) (d : Nat) (x : Dom) : (s.setDom d x).uhf = s.uhf := rfl
@[simp] theorem State.setDom_nfc (s : State) (d : Nat) (x : Dom) : (s.setDom d x).nfc = s.nfc := rfl
@[simp] theorem State.setDom_tag (s : State) (d : Nat) (x : Dom) : (s.setDom d x).tag = s.tag := rfl
@[simp] theorem State.setDom_verdict (s : State) (d : Nat) (x : Dom) : (s.setDom d x).verdict = s.verdict := rfl
@[simp] theorem State.setDom_evd (s : State) (d : Nat) (x : Dom) : (s.setDom d x).evd = s.evd := rfl
@[simp] theorem State.setDom_ten (s : State) (d : Nat) (x : Dom) : (s.setDom d x).ten = s.ten := rfl
@[simp] theorem State.setDom_start (s : State) (d : Nat) (x : Dom) : (s.setDom d x).start = s.start := rfl
@[simp] theorem State.setDom_rel (s : State) (d : Nat) (x : Dom) : (s.setDom d x).rel = s.rel := rfl
@[simp] theorem State.setDom_gal (s : State) (d : Nat) (x : Dom) : (s.setDom d x).gal = s.gal := rfl
@[simp] theorem State.setDom_turn (s : State) (d : Nat) (x : Dom) : (s.setDom d x).turn = s.turn := rfl
@[simp] theorem State.setDom_seen (s : State) (d : Nat) (x : Dom) : (s.setDom d x).seen = s.seen := rfl
@[simp] theorem State.setDom_hushTill (s : State) (d : Nat) (x : Dom) : (s.setDom d x).hushTill = s.hushTill := rfl
@[simp] theorem State.setDom_pending (s : State) (d : Nat) (x : Dom) : (s.setDom d x).pending = s.pending := rfl

/-! ### setPower -/

@[simp] theorem State.setPower_now (s : State) (f : Power → Power) : (s.setPower f).now = s.now := rfl
@[simp] theorem State.setPower_epochStart (s : State) (f : Power → Power) : (s.setPower f).epochStart = s.epochStart := rfl
@[simp] theorem State.setPower_fresh (s : State) (f : Power → Power) : (s.setPower f).fresh = s.fresh := rfl
@[simp] theorem State.setPower_host (s : State) (f : Power → Power) : (s.setPower f).host = s.host := rfl
@[simp] theorem State.setPower_dma (s : State) (f : Power → Power) : (s.setPower f).dma = s.dma := rfl
@[simp] theorem State.setPower_landings (s : State) (f : Power → Power) : (s.setPower f).landings = s.landings := rfl
@[simp] theorem State.setPower_sched (s : State) (f : Power → Power) : (s.setPower f).sched = s.sched := rfl
@[simp] theorem State.setPower_air (s : State) (f : Power → Power) : (s.setPower f).air = s.air := rfl
@[simp] theorem State.setPower_halls (s : State) (f : Power → Power) : (s.setPower f).halls = s.halls := rfl
@[simp] theorem State.setPower_faults (s : State) (f : Power → Power) : (s.setPower f).faults = s.faults := rfl
@[simp] theorem State.setPower_power (s : State) (f : Power → Power) : (s.setPower f).power = f s.power := rfl
@[simp] theorem State.setPower_sec (s : State) (f : Power → Power) : (s.setPower f).sec = s.sec := rfl
@[simp] theorem State.setPower_life (s : State) (f : Power → Power) : (s.setPower f).life = s.life := rfl
@[simp] theorem State.setPower_timers (s : State) (f : Power → Power) : (s.setPower f).timers = s.timers := rfl
@[simp] theorem State.setPower_bist (s : State) (f : Power → Power) : (s.setPower f).bist = s.bist := rfl
@[simp] theorem State.setPower_dieTemp (s : State) (f : Power → Power) : (s.setPower f).dieTemp = s.dieTemp := rfl
@[simp] theorem State.setPower_lf (s : State) (f : Power → Power) : (s.setPower f).lf = s.lf := rfl
@[simp] theorem State.setPower_uwb (s : State) (f : Power → Power) : (s.setPower f).uwb = s.uwb := rfl
@[simp] theorem State.setPower_rng (s : State) (f : Power → Power) : (s.setPower f).rng = s.rng := rfl
@[simp] theorem State.setPower_uhf (s : State) (f : Power → Power) : (s.setPower f).uhf = s.uhf := rfl
@[simp] theorem State.setPower_nfc (s : State) (f : Power → Power) : (s.setPower f).nfc = s.nfc := rfl
@[simp] theorem State.setPower_tag (s : State) (f : Power → Power) : (s.setPower f).tag = s.tag := rfl
@[simp] theorem State.setPower_verdict (s : State) (f : Power → Power) : (s.setPower f).verdict = s.verdict := rfl
@[simp] theorem State.setPower_evd (s : State) (f : Power → Power) : (s.setPower f).evd = s.evd := rfl
@[simp] theorem State.setPower_ten (s : State) (f : Power → Power) : (s.setPower f).ten = s.ten := rfl
@[simp] theorem State.setPower_start (s : State) (f : Power → Power) : (s.setPower f).start = s.start := rfl
@[simp] theorem State.setPower_rel (s : State) (f : Power → Power) : (s.setPower f).rel = s.rel := rfl
@[simp] theorem State.setPower_gal (s : State) (f : Power → Power) : (s.setPower f).gal = s.gal := rfl
@[simp] theorem State.setPower_turn (s : State) (f : Power → Power) : (s.setPower f).turn = s.turn := rfl
@[simp] theorem State.setPower_seen (s : State) (f : Power → Power) : (s.setPower f).seen = s.seen := rfl
@[simp] theorem State.setPower_hushTill (s : State) (f : Power → Power) : (s.setPower f).hushTill = s.hushTill := rfl
@[simp] theorem State.setPower_pending (s : State) (f : Power → Power) : (s.setPower f).pending = s.pending := rfl

/-! ### setSec -/

@[simp] theorem State.setSec_now (s : State) (f : Security → Security) : (s.setSec f).now = s.now := rfl
@[simp] theorem State.setSec_epochStart (s : State) (f : Security → Security) : (s.setSec f).epochStart = s.epochStart := rfl
@[simp] theorem State.setSec_fresh (s : State) (f : Security → Security) : (s.setSec f).fresh = s.fresh := rfl
@[simp] theorem State.setSec_host (s : State) (f : Security → Security) : (s.setSec f).host = s.host := rfl
@[simp] theorem State.setSec_dma (s : State) (f : Security → Security) : (s.setSec f).dma = s.dma := rfl
@[simp] theorem State.setSec_landings (s : State) (f : Security → Security) : (s.setSec f).landings = s.landings := rfl
@[simp] theorem State.setSec_sched (s : State) (f : Security → Security) : (s.setSec f).sched = s.sched := rfl
@[simp] theorem State.setSec_air (s : State) (f : Security → Security) : (s.setSec f).air = s.air := rfl
@[simp] theorem State.setSec_halls (s : State) (f : Security → Security) : (s.setSec f).halls = s.halls := rfl
@[simp] theorem State.setSec_faults (s : State) (f : Security → Security) : (s.setSec f).faults = s.faults := rfl
@[simp] theorem State.setSec_power (s : State) (f : Security → Security) : (s.setSec f).power = s.power := rfl
@[simp] theorem State.setSec_sec (s : State) (f : Security → Security) : (s.setSec f).sec = f s.sec := rfl
@[simp] theorem State.setSec_life (s : State) (f : Security → Security) : (s.setSec f).life = s.life := rfl
@[simp] theorem State.setSec_timers (s : State) (f : Security → Security) : (s.setSec f).timers = s.timers := rfl
@[simp] theorem State.setSec_bist (s : State) (f : Security → Security) : (s.setSec f).bist = s.bist := rfl
@[simp] theorem State.setSec_dieTemp (s : State) (f : Security → Security) : (s.setSec f).dieTemp = s.dieTemp := rfl
@[simp] theorem State.setSec_lf (s : State) (f : Security → Security) : (s.setSec f).lf = s.lf := rfl
@[simp] theorem State.setSec_uwb (s : State) (f : Security → Security) : (s.setSec f).uwb = s.uwb := rfl
@[simp] theorem State.setSec_rng (s : State) (f : Security → Security) : (s.setSec f).rng = s.rng := rfl
@[simp] theorem State.setSec_uhf (s : State) (f : Security → Security) : (s.setSec f).uhf = s.uhf := rfl
@[simp] theorem State.setSec_nfc (s : State) (f : Security → Security) : (s.setSec f).nfc = s.nfc := rfl
@[simp] theorem State.setSec_tag (s : State) (f : Security → Security) : (s.setSec f).tag = s.tag := rfl
@[simp] theorem State.setSec_verdict (s : State) (f : Security → Security) : (s.setSec f).verdict = s.verdict := rfl
@[simp] theorem State.setSec_evd (s : State) (f : Security → Security) : (s.setSec f).evd = s.evd := rfl
@[simp] theorem State.setSec_ten (s : State) (f : Security → Security) : (s.setSec f).ten = s.ten := rfl
@[simp] theorem State.setSec_start (s : State) (f : Security → Security) : (s.setSec f).start = s.start := rfl
@[simp] theorem State.setSec_rel (s : State) (f : Security → Security) : (s.setSec f).rel = s.rel := rfl
@[simp] theorem State.setSec_gal (s : State) (f : Security → Security) : (s.setSec f).gal = s.gal := rfl
@[simp] theorem State.setSec_turn (s : State) (f : Security → Security) : (s.setSec f).turn = s.turn := rfl
@[simp] theorem State.setSec_seen (s : State) (f : Security → Security) : (s.setSec f).seen = s.seen := rfl
@[simp] theorem State.setSec_hushTill (s : State) (f : Security → Security) : (s.setSec f).hushTill = s.hushTill := rfl
@[simp] theorem State.setSec_pending (s : State) (f : Security → Security) : (s.setSec f).pending = s.pending := rfl

/-! ### setRel -/

@[simp] theorem State.setRel_now (s : State) (f : Release → Release) : (s.setRel f).now = s.now := rfl
@[simp] theorem State.setRel_epochStart (s : State) (f : Release → Release) : (s.setRel f).epochStart = s.epochStart := rfl
@[simp] theorem State.setRel_fresh (s : State) (f : Release → Release) : (s.setRel f).fresh = s.fresh := rfl
@[simp] theorem State.setRel_host (s : State) (f : Release → Release) : (s.setRel f).host = s.host := rfl
@[simp] theorem State.setRel_dma (s : State) (f : Release → Release) : (s.setRel f).dma = s.dma := rfl
@[simp] theorem State.setRel_landings (s : State) (f : Release → Release) : (s.setRel f).landings = s.landings := rfl
@[simp] theorem State.setRel_sched (s : State) (f : Release → Release) : (s.setRel f).sched = s.sched := rfl
@[simp] theorem State.setRel_air (s : State) (f : Release → Release) : (s.setRel f).air = s.air := rfl
@[simp] theorem State.setRel_halls (s : State) (f : Release → Release) : (s.setRel f).halls = s.halls := rfl
@[simp] theorem State.setRel_faults (s : State) (f : Release → Release) : (s.setRel f).faults = s.faults := rfl
@[simp] theorem State.setRel_power (s : State) (f : Release → Release) : (s.setRel f).power = s.power := rfl
@[simp] theorem State.setRel_sec (s : State) (f : Release → Release) : (s.setRel f).sec = s.sec := rfl
@[simp] theorem State.setRel_life (s : State) (f : Release → Release) : (s.setRel f).life = s.life := rfl
@[simp] theorem State.setRel_timers (s : State) (f : Release → Release) : (s.setRel f).timers = s.timers := rfl
@[simp] theorem State.setRel_bist (s : State) (f : Release → Release) : (s.setRel f).bist = s.bist := rfl
@[simp] theorem State.setRel_dieTemp (s : State) (f : Release → Release) : (s.setRel f).dieTemp = s.dieTemp := rfl
@[simp] theorem State.setRel_lf (s : State) (f : Release → Release) : (s.setRel f).lf = s.lf := rfl
@[simp] theorem State.setRel_uwb (s : State) (f : Release → Release) : (s.setRel f).uwb = s.uwb := rfl
@[simp] theorem State.setRel_rng (s : State) (f : Release → Release) : (s.setRel f).rng = s.rng := rfl
@[simp] theorem State.setRel_uhf (s : State) (f : Release → Release) : (s.setRel f).uhf = s.uhf := rfl
@[simp] theorem State.setRel_nfc (s : State) (f : Release → Release) : (s.setRel f).nfc = s.nfc := rfl
@[simp] theorem State.setRel_tag (s : State) (f : Release → Release) : (s.setRel f).tag = s.tag := rfl
@[simp] theorem State.setRel_verdict (s : State) (f : Release → Release) : (s.setRel f).verdict = s.verdict := rfl
@[simp] theorem State.setRel_evd (s : State) (f : Release → Release) : (s.setRel f).evd = s.evd := rfl
@[simp] theorem State.setRel_ten (s : State) (f : Release → Release) : (s.setRel f).ten = s.ten := rfl
@[simp] theorem State.setRel_start (s : State) (f : Release → Release) : (s.setRel f).start = s.start := rfl
@[simp] theorem State.setRel_rel (s : State) (f : Release → Release) : (s.setRel f).rel = f s.rel := rfl
@[simp] theorem State.setRel_gal (s : State) (f : Release → Release) : (s.setRel f).gal = s.gal := rfl
@[simp] theorem State.setRel_turn (s : State) (f : Release → Release) : (s.setRel f).turn = s.turn := rfl
@[simp] theorem State.setRel_seen (s : State) (f : Release → Release) : (s.setRel f).seen = s.seen := rfl
@[simp] theorem State.setRel_hushTill (s : State) (f : Release → Release) : (s.setRel f).hushTill = s.hushTill := rfl
@[simp] theorem State.setRel_pending (s : State) (f : Release → Release) : (s.setRel f).pending = s.pending := rfl

/-! ### setStart -/

@[simp] theorem State.setStart_now (s : State) (f : Start → Start) : (s.setStart f).now = s.now := rfl
@[simp] theorem State.setStart_epochStart (s : State) (f : Start → Start) : (s.setStart f).epochStart = s.epochStart := rfl
@[simp] theorem State.setStart_fresh (s : State) (f : Start → Start) : (s.setStart f).fresh = s.fresh := rfl
@[simp] theorem State.setStart_host (s : State) (f : Start → Start) : (s.setStart f).host = s.host := rfl
@[simp] theorem State.setStart_dma (s : State) (f : Start → Start) : (s.setStart f).dma = s.dma := rfl
@[simp] theorem State.setStart_landings (s : State) (f : Start → Start) : (s.setStart f).landings = s.landings := rfl
@[simp] theorem State.setStart_sched (s : State) (f : Start → Start) : (s.setStart f).sched = s.sched := rfl
@[simp] theorem State.setStart_air (s : State) (f : Start → Start) : (s.setStart f).air = s.air := rfl
@[simp] theorem State.setStart_halls (s : State) (f : Start → Start) : (s.setStart f).halls = s.halls := rfl
@[simp] theorem State.setStart_faults (s : State) (f : Start → Start) : (s.setStart f).faults = s.faults := rfl
@[simp] theorem State.setStart_power (s : State) (f : Start → Start) : (s.setStart f).power = s.power := rfl
@[simp] theorem State.setStart_sec (s : State) (f : Start → Start) : (s.setStart f).sec = s.sec := rfl
@[simp] theorem State.setStart_life (s : State) (f : Start → Start) : (s.setStart f).life = s.life := rfl
@[simp] theorem State.setStart_timers (s : State) (f : Start → Start) : (s.setStart f).timers = s.timers := rfl
@[simp] theorem State.setStart_bist (s : State) (f : Start → Start) : (s.setStart f).bist = s.bist := rfl
@[simp] theorem State.setStart_dieTemp (s : State) (f : Start → Start) : (s.setStart f).dieTemp = s.dieTemp := rfl
@[simp] theorem State.setStart_lf (s : State) (f : Start → Start) : (s.setStart f).lf = s.lf := rfl
@[simp] theorem State.setStart_uwb (s : State) (f : Start → Start) : (s.setStart f).uwb = s.uwb := rfl
@[simp] theorem State.setStart_rng (s : State) (f : Start → Start) : (s.setStart f).rng = s.rng := rfl
@[simp] theorem State.setStart_uhf (s : State) (f : Start → Start) : (s.setStart f).uhf = s.uhf := rfl
@[simp] theorem State.setStart_nfc (s : State) (f : Start → Start) : (s.setStart f).nfc = s.nfc := rfl
@[simp] theorem State.setStart_tag (s : State) (f : Start → Start) : (s.setStart f).tag = s.tag := rfl
@[simp] theorem State.setStart_verdict (s : State) (f : Start → Start) : (s.setStart f).verdict = s.verdict := rfl
@[simp] theorem State.setStart_evd (s : State) (f : Start → Start) : (s.setStart f).evd = s.evd := rfl
@[simp] theorem State.setStart_ten (s : State) (f : Start → Start) : (s.setStart f).ten = s.ten := rfl
@[simp] theorem State.setStart_start (s : State) (f : Start → Start) : (s.setStart f).start = f s.start := rfl
@[simp] theorem State.setStart_rel (s : State) (f : Start → Start) : (s.setStart f).rel = s.rel := rfl
@[simp] theorem State.setStart_gal (s : State) (f : Start → Start) : (s.setStart f).gal = s.gal := rfl
@[simp] theorem State.setStart_turn (s : State) (f : Start → Start) : (s.setStart f).turn = s.turn := rfl
@[simp] theorem State.setStart_seen (s : State) (f : Start → Start) : (s.setStart f).seen = s.seen := rfl
@[simp] theorem State.setStart_hushTill (s : State) (f : Start → Start) : (s.setStart f).hushTill = s.hushTill := rfl
@[simp] theorem State.setStart_pending (s : State) (f : Start → Start) : (s.setStart f).pending = s.pending := rfl

/-! ### setGal -/

@[simp] theorem State.setGal_now (s : State) (g : Gal) : (s.setGal g).now = s.now := rfl
@[simp] theorem State.setGal_epochStart (s : State) (g : Gal) : (s.setGal g).epochStart = s.epochStart := rfl
@[simp] theorem State.setGal_fresh (s : State) (g : Gal) : (s.setGal g).fresh = s.fresh := rfl
@[simp] theorem State.setGal_host (s : State) (g : Gal) : (s.setGal g).host = s.host := rfl
@[simp] theorem State.setGal_dma (s : State) (g : Gal) : (s.setGal g).dma = s.dma := rfl
@[simp] theorem State.setGal_landings (s : State) (g : Gal) : (s.setGal g).landings = s.landings := rfl
@[simp] theorem State.setGal_sched (s : State) (g : Gal) : (s.setGal g).sched = s.sched := rfl
@[simp] theorem State.setGal_air (s : State) (g : Gal) : (s.setGal g).air = s.air := rfl
@[simp] theorem State.setGal_halls (s : State) (g : Gal) : (s.setGal g).halls = s.halls := rfl
@[simp] theorem State.setGal_faults (s : State) (g : Gal) : (s.setGal g).faults = s.faults := rfl
@[simp] theorem State.setGal_power (s : State) (g : Gal) : (s.setGal g).power = s.power := rfl
@[simp] theorem State.setGal_sec (s : State) (g : Gal) : (s.setGal g).sec = s.sec := rfl
@[simp] theorem State.setGal_life (s : State) (g : Gal) : (s.setGal g).life = s.life := rfl
@[simp] theorem State.setGal_timers (s : State) (g : Gal) : (s.setGal g).timers = s.timers := rfl
@[simp] theorem State.setGal_bist (s : State) (g : Gal) : (s.setGal g).bist = s.bist := rfl
@[simp] theorem State.setGal_dieTemp (s : State) (g : Gal) : (s.setGal g).dieTemp = s.dieTemp := rfl
@[simp] theorem State.setGal_lf (s : State) (g : Gal) : (s.setGal g).lf = s.lf := rfl
@[simp] theorem State.setGal_uwb (s : State) (g : Gal) : (s.setGal g).uwb = s.uwb := rfl
@[simp] theorem State.setGal_rng (s : State) (g : Gal) : (s.setGal g).rng = s.rng := rfl
@[simp] theorem State.setGal_uhf (s : State) (g : Gal) : (s.setGal g).uhf = s.uhf := rfl
@[simp] theorem State.setGal_nfc (s : State) (g : Gal) : (s.setGal g).nfc = s.nfc := rfl
@[simp] theorem State.setGal_tag (s : State) (g : Gal) : (s.setGal g).tag = s.tag := rfl
@[simp] theorem State.setGal_verdict (s : State) (g : Gal) : (s.setGal g).verdict = s.verdict := rfl
@[simp] theorem State.setGal_evd (s : State) (g : Gal) : (s.setGal g).evd = s.evd := rfl
@[simp] theorem State.setGal_ten (s : State) (g : Gal) : (s.setGal g).ten = s.ten := rfl
@[simp] theorem State.setGal_start (s : State) (g : Gal) : (s.setGal g).start = s.start := rfl
@[simp] theorem State.setGal_rel (s : State) (g : Gal) : (s.setGal g).rel = s.rel := rfl
@[simp] theorem State.setGal_gal (s : State) (g : Gal) : (s.setGal g).gal = g := rfl
@[simp] theorem State.setGal_turn (s : State) (g : Gal) : (s.setGal g).turn = s.turn := rfl
@[simp] theorem State.setGal_seen (s : State) (g : Gal) : (s.setGal g).seen = s.seen := rfl
@[simp] theorem State.setGal_hushTill (s : State) (g : Gal) : (s.setGal g).hushTill = s.hushTill := rfl
@[simp] theorem State.setGal_pending (s : State) (g : Gal) : (s.setGal g).pending = s.pending := rfl

/-! ### setLf -/

@[simp] theorem State.setLf_now (s : State) (f : Lf) : (s.setLf f).now = s.now := rfl
@[simp] theorem State.setLf_epochStart (s : State) (f : Lf) : (s.setLf f).epochStart = s.epochStart := rfl
@[simp] theorem State.setLf_fresh (s : State) (f : Lf) : (s.setLf f).fresh = s.fresh := rfl
@[simp] theorem State.setLf_host (s : State) (f : Lf) : (s.setLf f).host = s.host := rfl
@[simp] theorem State.setLf_dma (s : State) (f : Lf) : (s.setLf f).dma = s.dma := rfl
@[simp] theorem State.setLf_landings (s : State) (f : Lf) : (s.setLf f).landings = s.landings := rfl
@[simp] theorem State.setLf_sched (s : State) (f : Lf) : (s.setLf f).sched = s.sched := rfl
@[simp] theorem State.setLf_air (s : State) (f : Lf) : (s.setLf f).air = s.air := rfl
@[simp] theorem State.setLf_halls (s : State) (f : Lf) : (s.setLf f).halls = s.halls := rfl
@[simp] theorem State.setLf_faults (s : State) (f : Lf) : (s.setLf f).faults = s.faults := rfl
@[simp] theorem State.setLf_power (s : State) (f : Lf) : (s.setLf f).power = s.power := rfl
@[simp] theorem State.setLf_sec (s : State) (f : Lf) : (s.setLf f).sec = s.sec := rfl
@[simp] theorem State.setLf_life (s : State) (f : Lf) : (s.setLf f).life = s.life := rfl
@[simp] theorem State.setLf_timers (s : State) (f : Lf) : (s.setLf f).timers = s.timers := rfl
@[simp] theorem State.setLf_bist (s : State) (f : Lf) : (s.setLf f).bist = s.bist := rfl
@[simp] theorem State.setLf_dieTemp (s : State) (f : Lf) : (s.setLf f).dieTemp = s.dieTemp := rfl
@[simp] theorem State.setLf_lf (s : State) (f : Lf) : (s.setLf f).lf = f := rfl
@[simp] theorem State.setLf_uwb (s : State) (f : Lf) : (s.setLf f).uwb = s.uwb := rfl
@[simp] theorem State.setLf_rng (s : State) (f : Lf) : (s.setLf f).rng = s.rng := rfl
@[simp] theorem State.setLf_uhf (s : State) (f : Lf) : (s.setLf f).uhf = s.uhf := rfl
@[simp] theorem State.setLf_nfc (s : State) (f : Lf) : (s.setLf f).nfc = s.nfc := rfl
@[simp] theorem State.setLf_tag (s : State) (f : Lf) : (s.setLf f).tag = s.tag := rfl
@[simp] theorem State.setLf_verdict (s : State) (f : Lf) : (s.setLf f).verdict = s.verdict := rfl
@[simp] theorem State.setLf_evd (s : State) (f : Lf) : (s.setLf f).evd = s.evd := rfl
@[simp] theorem State.setLf_ten (s : State) (f : Lf) : (s.setLf f).ten = s.ten := rfl
@[simp] theorem State.setLf_start (s : State) (f : Lf) : (s.setLf f).start = s.start := rfl
@[simp] theorem State.setLf_rel (s : State) (f : Lf) : (s.setLf f).rel = s.rel := rfl
@[simp] theorem State.setLf_gal (s : State) (f : Lf) : (s.setLf f).gal = s.gal := rfl
@[simp] theorem State.setLf_turn (s : State) (f : Lf) : (s.setLf f).turn = s.turn := rfl
@[simp] theorem State.setLf_seen (s : State) (f : Lf) : (s.setLf f).seen = s.seen := rfl
@[simp] theorem State.setLf_hushTill (s : State) (f : Lf) : (s.setLf f).hushTill = s.hushTill := rfl
@[simp] theorem State.setLf_pending (s : State) (f : Lf) : (s.setLf f).pending = s.pending := rfl

/-! ### setUwb -/

@[simp] theorem State.setUwb_now (s : State) (u : Uwb) : (s.setUwb u).now = s.now := rfl
@[simp] theorem State.setUwb_epochStart (s : State) (u : Uwb) : (s.setUwb u).epochStart = s.epochStart := rfl
@[simp] theorem State.setUwb_fresh (s : State) (u : Uwb) : (s.setUwb u).fresh = s.fresh := rfl
@[simp] theorem State.setUwb_host (s : State) (u : Uwb) : (s.setUwb u).host = s.host := rfl
@[simp] theorem State.setUwb_dma (s : State) (u : Uwb) : (s.setUwb u).dma = s.dma := rfl
@[simp] theorem State.setUwb_landings (s : State) (u : Uwb) : (s.setUwb u).landings = s.landings := rfl
@[simp] theorem State.setUwb_sched (s : State) (u : Uwb) : (s.setUwb u).sched = s.sched := rfl
@[simp] theorem State.setUwb_air (s : State) (u : Uwb) : (s.setUwb u).air = s.air := rfl
@[simp] theorem State.setUwb_halls (s : State) (u : Uwb) : (s.setUwb u).halls = s.halls := rfl
@[simp] theorem State.setUwb_faults (s : State) (u : Uwb) : (s.setUwb u).faults = s.faults := rfl
@[simp] theorem State.setUwb_power (s : State) (u : Uwb) : (s.setUwb u).power = s.power := rfl
@[simp] theorem State.setUwb_sec (s : State) (u : Uwb) : (s.setUwb u).sec = s.sec := rfl
@[simp] theorem State.setUwb_life (s : State) (u : Uwb) : (s.setUwb u).life = s.life := rfl
@[simp] theorem State.setUwb_timers (s : State) (u : Uwb) : (s.setUwb u).timers = s.timers := rfl
@[simp] theorem State.setUwb_bist (s : State) (u : Uwb) : (s.setUwb u).bist = s.bist := rfl
@[simp] theorem State.setUwb_dieTemp (s : State) (u : Uwb) : (s.setUwb u).dieTemp = s.dieTemp := rfl
@[simp] theorem State.setUwb_lf (s : State) (u : Uwb) : (s.setUwb u).lf = s.lf := rfl
@[simp] theorem State.setUwb_uwb (s : State) (u : Uwb) : (s.setUwb u).uwb = u := rfl
@[simp] theorem State.setUwb_rng (s : State) (u : Uwb) : (s.setUwb u).rng = s.rng := rfl
@[simp] theorem State.setUwb_uhf (s : State) (u : Uwb) : (s.setUwb u).uhf = s.uhf := rfl
@[simp] theorem State.setUwb_nfc (s : State) (u : Uwb) : (s.setUwb u).nfc = s.nfc := rfl
@[simp] theorem State.setUwb_tag (s : State) (u : Uwb) : (s.setUwb u).tag = s.tag := rfl
@[simp] theorem State.setUwb_verdict (s : State) (u : Uwb) : (s.setUwb u).verdict = s.verdict := rfl
@[simp] theorem State.setUwb_evd (s : State) (u : Uwb) : (s.setUwb u).evd = s.evd := rfl
@[simp] theorem State.setUwb_ten (s : State) (u : Uwb) : (s.setUwb u).ten = s.ten := rfl
@[simp] theorem State.setUwb_start (s : State) (u : Uwb) : (s.setUwb u).start = s.start := rfl
@[simp] theorem State.setUwb_rel (s : State) (u : Uwb) : (s.setUwb u).rel = s.rel := rfl
@[simp] theorem State.setUwb_gal (s : State) (u : Uwb) : (s.setUwb u).gal = s.gal := rfl
@[simp] theorem State.setUwb_turn (s : State) (u : Uwb) : (s.setUwb u).turn = s.turn := rfl
@[simp] theorem State.setUwb_seen (s : State) (u : Uwb) : (s.setUwb u).seen = s.seen := rfl
@[simp] theorem State.setUwb_hushTill (s : State) (u : Uwb) : (s.setUwb u).hushTill = s.hushTill := rfl
@[simp] theorem State.setUwb_pending (s : State) (u : Uwb) : (s.setUwb u).pending = s.pending := rfl

/-! ### setRng -/

@[simp] theorem State.setRng_now (s : State) (r : Rng) : (s.setRng r).now = s.now := rfl
@[simp] theorem State.setRng_epochStart (s : State) (r : Rng) : (s.setRng r).epochStart = s.epochStart := rfl
@[simp] theorem State.setRng_fresh (s : State) (r : Rng) : (s.setRng r).fresh = s.fresh := rfl
@[simp] theorem State.setRng_host (s : State) (r : Rng) : (s.setRng r).host = s.host := rfl
@[simp] theorem State.setRng_dma (s : State) (r : Rng) : (s.setRng r).dma = s.dma := rfl
@[simp] theorem State.setRng_landings (s : State) (r : Rng) : (s.setRng r).landings = s.landings := rfl
@[simp] theorem State.setRng_sched (s : State) (r : Rng) : (s.setRng r).sched = s.sched := rfl
@[simp] theorem State.setRng_air (s : State) (r : Rng) : (s.setRng r).air = s.air := rfl
@[simp] theorem State.setRng_halls (s : State) (r : Rng) : (s.setRng r).halls = s.halls := rfl
@[simp] theorem State.setRng_faults (s : State) (r : Rng) : (s.setRng r).faults = s.faults := rfl
@[simp] theorem State.setRng_power (s : State) (r : Rng) : (s.setRng r).power = s.power := rfl
@[simp] theorem State.setRng_sec (s : State) (r : Rng) : (s.setRng r).sec = s.sec := rfl
@[simp] theorem State.setRng_life (s : State) (r : Rng) : (s.setRng r).life = s.life := rfl
@[simp] theorem State.setRng_timers (s : State) (r : Rng) : (s.setRng r).timers = s.timers := rfl
@[simp] theorem State.setRng_bist (s : State) (r : Rng) : (s.setRng r).bist = s.bist := rfl
@[simp] theorem State.setRng_dieTemp (s : State) (r : Rng) : (s.setRng r).dieTemp = s.dieTemp := rfl
@[simp] theorem State.setRng_lf (s : State) (r : Rng) : (s.setRng r).lf = s.lf := rfl
@[simp] theorem State.setRng_uwb (s : State) (r : Rng) : (s.setRng r).uwb = s.uwb := rfl
@[simp] theorem State.setRng_rng (s : State) (r : Rng) : (s.setRng r).rng = r := rfl
@[simp] theorem State.setRng_uhf (s : State) (r : Rng) : (s.setRng r).uhf = s.uhf := rfl
@[simp] theorem State.setRng_nfc (s : State) (r : Rng) : (s.setRng r).nfc = s.nfc := rfl
@[simp] theorem State.setRng_tag (s : State) (r : Rng) : (s.setRng r).tag = s.tag := rfl
@[simp] theorem State.setRng_verdict (s : State) (r : Rng) : (s.setRng r).verdict = s.verdict := rfl
@[simp] theorem State.setRng_evd (s : State) (r : Rng) : (s.setRng r).evd = s.evd := rfl
@[simp] theorem State.setRng_ten (s : State) (r : Rng) : (s.setRng r).ten = s.ten := rfl
@[simp] theorem State.setRng_start (s : State) (r : Rng) : (s.setRng r).start = s.start := rfl
@[simp] theorem State.setRng_rel (s : State) (r : Rng) : (s.setRng r).rel = s.rel := rfl
@[simp] theorem State.setRng_gal (s : State) (r : Rng) : (s.setRng r).gal = s.gal := rfl
@[simp] theorem State.setRng_turn (s : State) (r : Rng) : (s.setRng r).turn = s.turn := rfl
@[simp] theorem State.setRng_seen (s : State) (r : Rng) : (s.setRng r).seen = s.seen := rfl
@[simp] theorem State.setRng_hushTill (s : State) (r : Rng) : (s.setRng r).hushTill = s.hushTill := rfl
@[simp] theorem State.setRng_pending (s : State) (r : Rng) : (s.setRng r).pending = s.pending := rfl

/-! ### setUhf -/

@[simp] theorem State.setUhf_now (s : State) (u : Uhf) : (s.setUhf u).now = s.now := rfl
@[simp] theorem State.setUhf_epochStart (s : State) (u : Uhf) : (s.setUhf u).epochStart = s.epochStart := rfl
@[simp] theorem State.setUhf_fresh (s : State) (u : Uhf) : (s.setUhf u).fresh = s.fresh := rfl
@[simp] theorem State.setUhf_host (s : State) (u : Uhf) : (s.setUhf u).host = s.host := rfl
@[simp] theorem State.setUhf_dma (s : State) (u : Uhf) : (s.setUhf u).dma = s.dma := rfl
@[simp] theorem State.setUhf_landings (s : State) (u : Uhf) : (s.setUhf u).landings = s.landings := rfl
@[simp] theorem State.setUhf_sched (s : State) (u : Uhf) : (s.setUhf u).sched = s.sched := rfl
@[simp] theorem State.setUhf_air (s : State) (u : Uhf) : (s.setUhf u).air = s.air := rfl
@[simp] theorem State.setUhf_halls (s : State) (u : Uhf) : (s.setUhf u).halls = s.halls := rfl
@[simp] theorem State.setUhf_faults (s : State) (u : Uhf) : (s.setUhf u).faults = s.faults := rfl
@[simp] theorem State.setUhf_power (s : State) (u : Uhf) : (s.setUhf u).power = s.power := rfl
@[simp] theorem State.setUhf_sec (s : State) (u : Uhf) : (s.setUhf u).sec = s.sec := rfl
@[simp] theorem State.setUhf_life (s : State) (u : Uhf) : (s.setUhf u).life = s.life := rfl
@[simp] theorem State.setUhf_timers (s : State) (u : Uhf) : (s.setUhf u).timers = s.timers := rfl
@[simp] theorem State.setUhf_bist (s : State) (u : Uhf) : (s.setUhf u).bist = s.bist := rfl
@[simp] theorem State.setUhf_dieTemp (s : State) (u : Uhf) : (s.setUhf u).dieTemp = s.dieTemp := rfl
@[simp] theorem State.setUhf_lf (s : State) (u : Uhf) : (s.setUhf u).lf = s.lf := rfl
@[simp] theorem State.setUhf_uwb (s : State) (u : Uhf) : (s.setUhf u).uwb = s.uwb := rfl
@[simp] theorem State.setUhf_rng (s : State) (u : Uhf) : (s.setUhf u).rng = s.rng := rfl
@[simp] theorem State.setUhf_uhf (s : State) (u : Uhf) : (s.setUhf u).uhf = u := rfl
@[simp] theorem State.setUhf_nfc (s : State) (u : Uhf) : (s.setUhf u).nfc = s.nfc := rfl
@[simp] theorem State.setUhf_tag (s : State) (u : Uhf) : (s.setUhf u).tag = s.tag := rfl
@[simp] theorem State.setUhf_verdict (s : State) (u : Uhf) : (s.setUhf u).verdict = s.verdict := rfl
@[simp] theorem State.setUhf_evd (s : State) (u : Uhf) : (s.setUhf u).evd = s.evd := rfl
@[simp] theorem State.setUhf_ten (s : State) (u : Uhf) : (s.setUhf u).ten = s.ten := rfl
@[simp] theorem State.setUhf_start (s : State) (u : Uhf) : (s.setUhf u).start = s.start := rfl
@[simp] theorem State.setUhf_rel (s : State) (u : Uhf) : (s.setUhf u).rel = s.rel := rfl
@[simp] theorem State.setUhf_gal (s : State) (u : Uhf) : (s.setUhf u).gal = s.gal := rfl
@[simp] theorem State.setUhf_turn (s : State) (u : Uhf) : (s.setUhf u).turn = s.turn := rfl
@[simp] theorem State.setUhf_seen (s : State) (u : Uhf) : (s.setUhf u).seen = s.seen := rfl
@[simp] theorem State.setUhf_hushTill (s : State) (u : Uhf) : (s.setUhf u).hushTill = s.hushTill := rfl
@[simp] theorem State.setUhf_pending (s : State) (u : Uhf) : (s.setUhf u).pending = s.pending := rfl

/-! ### setNfc -/

@[simp] theorem State.setNfc_now (s : State) (r : Reader) : (s.setNfc r).now = s.now := rfl
@[simp] theorem State.setNfc_epochStart (s : State) (r : Reader) : (s.setNfc r).epochStart = s.epochStart := rfl
@[simp] theorem State.setNfc_fresh (s : State) (r : Reader) : (s.setNfc r).fresh = s.fresh := rfl
@[simp] theorem State.setNfc_host (s : State) (r : Reader) : (s.setNfc r).host = s.host := rfl
@[simp] theorem State.setNfc_dma (s : State) (r : Reader) : (s.setNfc r).dma = s.dma := rfl
@[simp] theorem State.setNfc_landings (s : State) (r : Reader) : (s.setNfc r).landings = s.landings := rfl
@[simp] theorem State.setNfc_sched (s : State) (r : Reader) : (s.setNfc r).sched = s.sched := rfl
@[simp] theorem State.setNfc_air (s : State) (r : Reader) : (s.setNfc r).air = s.air := rfl
@[simp] theorem State.setNfc_halls (s : State) (r : Reader) : (s.setNfc r).halls = s.halls := rfl
@[simp] theorem State.setNfc_faults (s : State) (r : Reader) : (s.setNfc r).faults = s.faults := rfl
@[simp] theorem State.setNfc_power (s : State) (r : Reader) : (s.setNfc r).power = s.power := rfl
@[simp] theorem State.setNfc_sec (s : State) (r : Reader) : (s.setNfc r).sec = s.sec := rfl
@[simp] theorem State.setNfc_life (s : State) (r : Reader) : (s.setNfc r).life = s.life := rfl
@[simp] theorem State.setNfc_timers (s : State) (r : Reader) : (s.setNfc r).timers = s.timers := rfl
@[simp] theorem State.setNfc_bist (s : State) (r : Reader) : (s.setNfc r).bist = s.bist := rfl
@[simp] theorem State.setNfc_dieTemp (s : State) (r : Reader) : (s.setNfc r).dieTemp = s.dieTemp := rfl
@[simp] theorem State.setNfc_lf (s : State) (r : Reader) : (s.setNfc r).lf = s.lf := rfl
@[simp] theorem State.setNfc_uwb (s : State) (r : Reader) : (s.setNfc r).uwb = s.uwb := rfl
@[simp] theorem State.setNfc_rng (s : State) (r : Reader) : (s.setNfc r).rng = s.rng := rfl
@[simp] theorem State.setNfc_uhf (s : State) (r : Reader) : (s.setNfc r).uhf = s.uhf := rfl
@[simp] theorem State.setNfc_nfc (s : State) (r : Reader) : (s.setNfc r).nfc = r := rfl
@[simp] theorem State.setNfc_tag (s : State) (r : Reader) : (s.setNfc r).tag = s.tag := rfl
@[simp] theorem State.setNfc_verdict (s : State) (r : Reader) : (s.setNfc r).verdict = s.verdict := rfl
@[simp] theorem State.setNfc_evd (s : State) (r : Reader) : (s.setNfc r).evd = s.evd := rfl
@[simp] theorem State.setNfc_ten (s : State) (r : Reader) : (s.setNfc r).ten = s.ten := rfl
@[simp] theorem State.setNfc_start (s : State) (r : Reader) : (s.setNfc r).start = s.start := rfl
@[simp] theorem State.setNfc_rel (s : State) (r : Reader) : (s.setNfc r).rel = s.rel := rfl
@[simp] theorem State.setNfc_gal (s : State) (r : Reader) : (s.setNfc r).gal = s.gal := rfl
@[simp] theorem State.setNfc_turn (s : State) (r : Reader) : (s.setNfc r).turn = s.turn := rfl
@[simp] theorem State.setNfc_seen (s : State) (r : Reader) : (s.setNfc r).seen = s.seen := rfl
@[simp] theorem State.setNfc_hushTill (s : State) (r : Reader) : (s.setNfc r).hushTill = s.hushTill := rfl
@[simp] theorem State.setNfc_pending (s : State) (r : Reader) : (s.setNfc r).pending = s.pending := rfl

/-! ### setTag -/

@[simp] theorem State.setTag_now (s : State) (t : Tag) : (s.setTag t).now = s.now := rfl
@[simp] theorem State.setTag_epochStart (s : State) (t : Tag) : (s.setTag t).epochStart = s.epochStart := rfl
@[simp] theorem State.setTag_fresh (s : State) (t : Tag) : (s.setTag t).fresh = s.fresh := rfl
@[simp] theorem State.setTag_host (s : State) (t : Tag) : (s.setTag t).host = s.host := rfl
@[simp] theorem State.setTag_dma (s : State) (t : Tag) : (s.setTag t).dma = s.dma := rfl
@[simp] theorem State.setTag_landings (s : State) (t : Tag) : (s.setTag t).landings = s.landings := rfl
@[simp] theorem State.setTag_sched (s : State) (t : Tag) : (s.setTag t).sched = s.sched := rfl
@[simp] theorem State.setTag_air (s : State) (t : Tag) : (s.setTag t).air = s.air := rfl
@[simp] theorem State.setTag_halls (s : State) (t : Tag) : (s.setTag t).halls = s.halls := rfl
@[simp] theorem State.setTag_faults (s : State) (t : Tag) : (s.setTag t).faults = s.faults := rfl
@[simp] theorem State.setTag_power (s : State) (t : Tag) : (s.setTag t).power = s.power := rfl
@[simp] theorem State.setTag_sec (s : State) (t : Tag) : (s.setTag t).sec = s.sec := rfl
@[simp] theorem State.setTag_life (s : State) (t : Tag) : (s.setTag t).life = s.life := rfl
@[simp] theorem State.setTag_timers (s : State) (t : Tag) : (s.setTag t).timers = s.timers := rfl
@[simp] theorem State.setTag_bist (s : State) (t : Tag) : (s.setTag t).bist = s.bist := rfl
@[simp] theorem State.setTag_dieTemp (s : State) (t : Tag) : (s.setTag t).dieTemp = s.dieTemp := rfl
@[simp] theorem State.setTag_lf (s : State) (t : Tag) : (s.setTag t).lf = s.lf := rfl
@[simp] theorem State.setTag_uwb (s : State) (t : Tag) : (s.setTag t).uwb = s.uwb := rfl
@[simp] theorem State.setTag_rng (s : State) (t : Tag) : (s.setTag t).rng = s.rng := rfl
@[simp] theorem State.setTag_uhf (s : State) (t : Tag) : (s.setTag t).uhf = s.uhf := rfl
@[simp] theorem State.setTag_nfc (s : State) (t : Tag) : (s.setTag t).nfc = s.nfc := rfl
@[simp] theorem State.setTag_tag (s : State) (t : Tag) : (s.setTag t).tag = t := rfl
@[simp] theorem State.setTag_verdict (s : State) (t : Tag) : (s.setTag t).verdict = s.verdict := rfl
@[simp] theorem State.setTag_evd (s : State) (t : Tag) : (s.setTag t).evd = s.evd := rfl
@[simp] theorem State.setTag_ten (s : State) (t : Tag) : (s.setTag t).ten = s.ten := rfl
@[simp] theorem State.setTag_start (s : State) (t : Tag) : (s.setTag t).start = s.start := rfl
@[simp] theorem State.setTag_rel (s : State) (t : Tag) : (s.setTag t).rel = s.rel := rfl
@[simp] theorem State.setTag_gal (s : State) (t : Tag) : (s.setTag t).gal = s.gal := rfl
@[simp] theorem State.setTag_turn (s : State) (t : Tag) : (s.setTag t).turn = s.turn := rfl
@[simp] theorem State.setTag_seen (s : State) (t : Tag) : (s.setTag t).seen = s.seen := rfl
@[simp] theorem State.setTag_hushTill (s : State) (t : Tag) : (s.setTag t).hushTill = s.hushTill := rfl
@[simp] theorem State.setTag_pending (s : State) (t : Tag) : (s.setTag t).pending = s.pending := rfl

/-! ### modTimer -/

@[simp] theorem State.modTimer_now (s : State) (k : Nat) (f : Timer → Timer) : (s.modTimer k f).now = s.now := rfl
@[simp] theorem State.modTimer_epochStart (s : State) (k : Nat) (f : Timer → Timer) : (s.modTimer k f).epochStart = s.epochStart := rfl
@[simp] theorem State.modTimer_fresh (s : State) (k : Nat) (f : Timer → Timer) : (s.modTimer k f).fresh = s.fresh := rfl
@[simp] theorem State.modTimer_host (s : State) (k : Nat) (f : Timer → Timer) : (s.modTimer k f).host = s.host := rfl
@[simp] theorem State.modTimer_dma (s : State) (k : Nat) (f : Timer → Timer) : (s.modTimer k f).dma = s.dma := rfl
@[simp] theorem State.modTimer_landings (s : State) (k : Nat) (f : Timer → Timer) : (s.modTimer k f).landings = s.landings := rfl
@[simp] theorem State.modTimer_sched (s : State) (k : Nat) (f : Timer → Timer) : (s.modTimer k f).sched = s.sched := rfl
@[simp] theorem State.modTimer_air (s : State) (k : Nat) (f : Timer → Timer) : (s.modTimer k f).air = s.air := rfl
@[simp] theorem State.modTimer_halls (s : State) (k : Nat) (f : Timer → Timer) : (s.modTimer k f).halls = s.halls := rfl
@[simp] theorem State.modTimer_faults (s : State) (k : Nat) (f : Timer → Timer) : (s.modTimer k f).faults = s.faults := rfl
@[simp] theorem State.modTimer_power (s : State) (k : Nat) (f : Timer → Timer) : (s.modTimer k f).power = s.power := rfl
@[simp] theorem State.modTimer_sec (s : State) (k : Nat) (f : Timer → Timer) : (s.modTimer k f).sec = s.sec := rfl
@[simp] theorem State.modTimer_life (s : State) (k : Nat) (f : Timer → Timer) : (s.modTimer k f).life = s.life := rfl
@[simp] theorem State.modTimer_timers (s : State) (k : Nat) (f : Timer → Timer) : (s.modTimer k f).timers = vset s.timers k (f (s.timer k)) := rfl
@[simp] theorem State.modTimer_bist (s : State) (k : Nat) (f : Timer → Timer) : (s.modTimer k f).bist = s.bist := rfl
@[simp] theorem State.modTimer_dieTemp (s : State) (k : Nat) (f : Timer → Timer) : (s.modTimer k f).dieTemp = s.dieTemp := rfl
@[simp] theorem State.modTimer_lf (s : State) (k : Nat) (f : Timer → Timer) : (s.modTimer k f).lf = s.lf := rfl
@[simp] theorem State.modTimer_uwb (s : State) (k : Nat) (f : Timer → Timer) : (s.modTimer k f).uwb = s.uwb := rfl
@[simp] theorem State.modTimer_rng (s : State) (k : Nat) (f : Timer → Timer) : (s.modTimer k f).rng = s.rng := rfl
@[simp] theorem State.modTimer_uhf (s : State) (k : Nat) (f : Timer → Timer) : (s.modTimer k f).uhf = s.uhf := rfl
@[simp] theorem State.modTimer_nfc (s : State) (k : Nat) (f : Timer → Timer) : (s.modTimer k f).nfc = s.nfc := rfl
@[simp] theorem State.modTimer_tag (s : State) (k : Nat) (f : Timer → Timer) : (s.modTimer k f).tag = s.tag := rfl
@[simp] theorem State.modTimer_verdict (s : State) (k : Nat) (f : Timer → Timer) : (s.modTimer k f).verdict = s.verdict := rfl
@[simp] theorem State.modTimer_evd (s : State) (k : Nat) (f : Timer → Timer) : (s.modTimer k f).evd = s.evd := rfl
@[simp] theorem State.modTimer_ten (s : State) (k : Nat) (f : Timer → Timer) : (s.modTimer k f).ten = s.ten := rfl
@[simp] theorem State.modTimer_start (s : State) (k : Nat) (f : Timer → Timer) : (s.modTimer k f).start = s.start := rfl
@[simp] theorem State.modTimer_rel (s : State) (k : Nat) (f : Timer → Timer) : (s.modTimer k f).rel = s.rel := rfl
@[simp] theorem State.modTimer_gal (s : State) (k : Nat) (f : Timer → Timer) : (s.modTimer k f).gal = s.gal := rfl
@[simp] theorem State.modTimer_turn (s : State) (k : Nat) (f : Timer → Timer) : (s.modTimer k f).turn = s.turn := rfl
@[simp] theorem State.modTimer_seen (s : State) (k : Nat) (f : Timer → Timer) : (s.modTimer k f).seen = s.seen := rfl
@[simp] theorem State.modTimer_hushTill (s : State) (k : Nat) (f : Timer → Timer) : (s.modTimer k f).hushTill = s.hushTill := rfl
@[simp] theorem State.modTimer_pending (s : State) (k : Nat) (f : Timer → Timer) : (s.modTimer k f).pending = s.pending := rfl

/-! ### modTenant -/

@[simp] theorem State.modTenant_now (s : State) (t : Nat) (f : Tenant → Tenant) : (s.modTenant t f).now = s.now := by unfold State.modTenant; split <;> rfl
@[simp] theorem State.modTenant_epochStart (s : State) (t : Nat) (f : Tenant → Tenant) : (s.modTenant t f).epochStart = s.epochStart := by unfold State.modTenant; split <;> rfl
@[simp] theorem State.modTenant_fresh (s : State) (t : Nat) (f : Tenant → Tenant) : (s.modTenant t f).fresh = s.fresh := by unfold State.modTenant; split <;> rfl
@[simp] theorem State.modTenant_host (s : State) (t : Nat) (f : Tenant → Tenant) : (s.modTenant t f).host = s.host := by unfold State.modTenant; split <;> rfl
@[simp] theorem State.modTenant_dma (s : State) (t : Nat) (f : Tenant → Tenant) : (s.modTenant t f).dma = s.dma := by unfold State.modTenant; split <;> rfl
@[simp] theorem State.modTenant_landings (s : State) (t : Nat) (f : Tenant → Tenant) : (s.modTenant t f).landings = s.landings := by unfold State.modTenant; split <;> rfl
@[simp] theorem State.modTenant_sched (s : State) (t : Nat) (f : Tenant → Tenant) : (s.modTenant t f).sched = s.sched := by unfold State.modTenant; split <;> rfl
@[simp] theorem State.modTenant_air (s : State) (t : Nat) (f : Tenant → Tenant) : (s.modTenant t f).air = s.air := by unfold State.modTenant; split <;> rfl
@[simp] theorem State.modTenant_halls (s : State) (t : Nat) (f : Tenant → Tenant) : (s.modTenant t f).halls = s.halls := by unfold State.modTenant; split <;> rfl
@[simp] theorem State.modTenant_faults (s : State) (t : Nat) (f : Tenant → Tenant) : (s.modTenant t f).faults = s.faults := by unfold State.modTenant; split <;> rfl
@[simp] theorem State.modTenant_power (s : State) (t : Nat) (f : Tenant → Tenant) : (s.modTenant t f).power = s.power := by unfold State.modTenant; split <;> rfl
@[simp] theorem State.modTenant_sec (s : State) (t : Nat) (f : Tenant → Tenant) : (s.modTenant t f).sec = s.sec := by unfold State.modTenant; split <;> rfl
@[simp] theorem State.modTenant_life (s : State) (t : Nat) (f : Tenant → Tenant) : (s.modTenant t f).life = s.life := by unfold State.modTenant; split <;> rfl
@[simp] theorem State.modTenant_timers (s : State) (t : Nat) (f : Tenant → Tenant) : (s.modTenant t f).timers = s.timers := by unfold State.modTenant; split <;> rfl
@[simp] theorem State.modTenant_bist (s : State) (t : Nat) (f : Tenant → Tenant) : (s.modTenant t f).bist = s.bist := by unfold State.modTenant; split <;> rfl
@[simp] theorem State.modTenant_dieTemp (s : State) (t : Nat) (f : Tenant → Tenant) : (s.modTenant t f).dieTemp = s.dieTemp := by unfold State.modTenant; split <;> rfl
@[simp] theorem State.modTenant_lf (s : State) (t : Nat) (f : Tenant → Tenant) : (s.modTenant t f).lf = s.lf := by unfold State.modTenant; split <;> rfl
@[simp] theorem State.modTenant_uwb (s : State) (t : Nat) (f : Tenant → Tenant) : (s.modTenant t f).uwb = s.uwb := by unfold State.modTenant; split <;> rfl
@[simp] theorem State.modTenant_rng (s : State) (t : Nat) (f : Tenant → Tenant) : (s.modTenant t f).rng = s.rng := by unfold State.modTenant; split <;> rfl
@[simp] theorem State.modTenant_uhf (s : State) (t : Nat) (f : Tenant → Tenant) : (s.modTenant t f).uhf = s.uhf := by unfold State.modTenant; split <;> rfl
@[simp] theorem State.modTenant_nfc (s : State) (t : Nat) (f : Tenant → Tenant) : (s.modTenant t f).nfc = s.nfc := by unfold State.modTenant; split <;> rfl
@[simp] theorem State.modTenant_tag (s : State) (t : Nat) (f : Tenant → Tenant) : (s.modTenant t f).tag = s.tag := by unfold State.modTenant; split <;> rfl
@[simp] theorem State.modTenant_verdict (s : State) (t : Nat) (f : Tenant → Tenant) : (s.modTenant t f).verdict = s.verdict := by unfold State.modTenant; split <;> rfl
@[simp] theorem State.modTenant_evd (s : State) (t : Nat) (f : Tenant → Tenant) : (s.modTenant t f).evd = s.evd := by unfold State.modTenant; split <;> rfl
@[simp] theorem State.modTenant_start (s : State) (t : Nat) (f : Tenant → Tenant) : (s.modTenant t f).start = s.start := by unfold State.modTenant; split <;> rfl
@[simp] theorem State.modTenant_rel (s : State) (t : Nat) (f : Tenant → Tenant) : (s.modTenant t f).rel = s.rel := by unfold State.modTenant; split <;> rfl
@[simp] theorem State.modTenant_gal (s : State) (t : Nat) (f : Tenant → Tenant) : (s.modTenant t f).gal = s.gal := by unfold State.modTenant; split <;> rfl
@[simp] theorem State.modTenant_turn (s : State) (t : Nat) (f : Tenant → Tenant) : (s.modTenant t f).turn = s.turn := by unfold State.modTenant; split <;> rfl
@[simp] theorem State.modTenant_seen (s : State) (t : Nat) (f : Tenant → Tenant) : (s.modTenant t f).seen = s.seen := by unfold State.modTenant; split <;> rfl
@[simp] theorem State.modTenant_hushTill (s : State) (t : Nat) (f : Tenant → Tenant) : (s.modTenant t f).hushTill = s.hushTill := by unfold State.modTenant; split <;> rfl
@[simp] theorem State.modTenant_pending (s : State) (t : Nat) (f : Tenant → Tenant) : (s.modTenant t f).pending = s.pending := by unfold State.modTenant; split <;> rfl

end Sys2Proof.Machine
end

