-- ==== Sys2Proof/Laws/Tables.lean ====
section
/-! SUPPORT. Fixed tables, sparse tables and registers: what a read gives after a write. -/

namespace Sys2Proof.Machine

open Sys2Proof

/-! ### Fixed tables -/

/-- Entry i after a write of entry j. -/
theorem vget_vset {α : Type} {n : Nat} (v : Vector α n) (i j : Nat) (x d : α) :
    vget (vset v j x) i d = if j = i ∧ j < n then x else vget v i d := by
  unfold vget vset
  by_cases hj : j = i
  · subst hj
    by_cases hn : j < n
    · simp [Vector.toList_setIfInBounds, hn]
    · simp [Vector.toList_setIfInBounds, hn]
  · simp [Vector.toList_setIfInBounds, hj]

/-- A written entry reads back. -/
theorem vget_vset_self {α : Type} {n : Nat} (v : Vector α n) {i : Nat} (x d : α) (h : i < n) : vget (vset v i x) i d = x := by
  simp [vget_vset, h]

/-- The other entries stay. -/
theorem vget_vset_ne {α : Type} {n : Nat} (v : Vector α n) {i j : Nat} (x d : α) (h : i ≠ j) : vget (vset v j x) i d = vget v i d := by
  simp [vget_vset, Ne.symm h]

/-- An entry of a table that is mapped. -/
theorem vget_map {α β : Type} {n : Nat} (v : Vector α n) (f : α → β) (i : Nat) (d : α) : vget (v.map f) i (f d) = f (vget v i d) := by
  unfold vget
  simp [Vector.toList_map, List.getD_eq_getElem?_getD, List.getElem?_map]

/-- An entry of a table given by a function. -/
theorem vget_ofFn {α : Type} {n : Nat} (f : Fin n → α) (d : α) {i : Nat} (h : i < n) : vget (Vector.ofFn f) i d = f ⟨i, h⟩ := by
  unfold vget
  simp [h]

/-! ### Sparse tables -/

/-- A key that was put is found. -/
theorem Tbl.find_put_self {α : Type} (i : Nat) (x : α) : ∀ t : Tbl α, Tbl.find (Tbl.put t i x) i = some x
  | [] => by simp [Tbl.put, Tbl.find]
  | (k, v) :: t => by
    unfold Tbl.put
    split
    · simp [Tbl.find]
    · split
      · simp [Tbl.find]
      · rw [Tbl.find, if_neg (by omega)]
        exact Tbl.find_put_self i x t

/-- Other keys stay when one is put. -/
theorem Tbl.find_put_ne {α : Type} {i j : Nat} (x : α) (h : j ≠ i) : ∀ t : Tbl α, Tbl.find (Tbl.put t i x) j = Tbl.find t j
  | [] => by simp [Tbl.put, Tbl.find, Ne.symm h]
  | (k, v) :: t => by
    unfold Tbl.put
    split
    · simp [Tbl.find, Ne.symm h]
    · split
      · subst_vars
        simp [Tbl.find, Ne.symm h]
      · simp only [Tbl.find]
        rw [Tbl.find_put_ne x h t]

/-- A deleted key is not found. -/
theorem Tbl.find_del_self {α : Type} (i : Nat) : ∀ t : Tbl α, Tbl.find (Tbl.del t i) i = none
  | [] => rfl
  | (k, v) :: t => by
    have ih := Tbl.find_del_self i t
    unfold Tbl.del at *
    by_cases h : k = i
    · simpa [h] using ih
    · simpa [h, Tbl.find] using ih

/-- Other keys stay when one is deleted. -/
theorem Tbl.find_del_ne {α : Type} {i j : Nat} (h : j ≠ i) : ∀ t : Tbl α, Tbl.find (Tbl.del t i) j = Tbl.find t j
  | [] => rfl
  | (k, v) :: t => by
    have ih := Tbl.find_del_ne h t
    unfold Tbl.del at *
    by_cases hk : k = i
    · subst hk
      simpa [Tbl.find, Ne.symm h] using ih
    · by_cases hj : k = j <;> simp_all [Tbl.find]

/-- Members of a list of numbers after an insertion. -/
theorem mem_insN (i j : Nat) : ∀ t : List Nat, j ∈ insN i t ↔ j = i ∨ j ∈ t
  | [] => by simp [insN]
  | k :: t => by
    unfold insN
    split
    · simp
    · split
      · subst_vars; simp
      · simp [mem_insN i j t]; tauto

/-! ### Landings and registers -/

/-- A landing that was replaced. -/
theorem State.land_setLand (s : State) {l : Nat} (x : Landing) (h : l < 192) : (s.setLand l x).land l = x := by
  simp [State.land, vget_vset_self, h]

/-- The other landings stay. -/
theorem State.land_setLand_ne (s : State) {l m : Nat} (x : Landing) (h : m ≠ l) : (s.setLand l x).land m = s.land m := by
  simp [State.land, vget_vset_ne _ _ _ h]

/-- g0 reads 0 and takes no write; another register reads what was written (R51). -/
theorem Landing.reg_setReg (x : Landing) {d : Nat} (n : Nat) (v : Word) (h : d < 16) :
    (x.setReg d v).reg n = if d = n ∧ n ≠ 0 then v else x.reg n := by
  unfold Landing.reg Landing.setReg
  by_cases hn : n = 0
  · simp [hn]
  · by_cases hd : d = 0
    · subst hd; simp [hn, Ne.symm hn]
    · by_cases e : d = n
      · subst e; simp [hd, vget_vset_self, h]
      · simp [hn, hd, e, vget_vset_ne _ _ _ (Ne.symm e)]

/-- A register write changes registers only. -/
theorem Landing.setReg_eq (x : Landing) (d : Nat) (v : Word) : x.setReg d v = { x with regs := (x.setReg d v).regs } := by
  unfold Landing.setReg; split <;> rfl

end Sys2Proof.Machine
end

