-- ==== Sys2Proof/Laws/Ops.lean ====
section
/-! SUPPORT. What each shared operation can change, said once: an equation whose right side names the fields it may write. -/

namespace Sys2Proof.Machine

open Sys2Proof

/-! ### Posting, recording -/

/-- The end of a HUSH changes the host link. -/
theorem State.hushCheck_eq (s : State) : s.hushCheck = { s with host := s.hushCheck.host } := by
  unfold State.hushCheck; split <;> rfl

/-- A deferred start that is posted without a step is logged: DEFER_LOG lies in the scheduler. -/
theorem State.deferPosted_eq (s : State) (k : ItemKey) : s.deferPosted k = { s with sched := (s.deferPosted k).sched } := by
  unfold State.deferPosted; split <;> rfl

/-- The same for several posted items. -/
theorem State.foldl_deferPosted_eq (ks : List ItemKey) (s : State) :
    ks.foldl State.deferPosted s = { s with sched := (ks.foldl State.deferPosted s).sched } := by
  induction ks generalizing s with
  | nil => rfl
  | cons k ks ih => rw [List.foldl_cons, ih, State.deferPosted_eq s k]

/-- Posting changes the host link, the holds of landings, and DEFER_LOG. -/
theorem State.flush_eq (s : State) :
    s.flush = { s with host := s.flush.host, landings := s.flush.landings, sched := s.flush.sched } := by
  unfold State.flush State.hushCheck; dsimp only; rw [State.foldl_deferPosted_eq]; split <;> split <;> rfl

/-- Deciding a completion changes the host link, the holds of landings, and DEFER_LOG. -/
theorem State.finish_eq (s : State) (k : ItemKey) (c : Code) (r : List Byte) :
    s.finish k c r = { s with host := (s.finish k c r).host, landings := (s.finish k c r).landings, sched := (s.finish k c r).sched } := by
  unfold State.finish; conv_lhs => rw [State.flush_eq]

/-- A fault record changes the fault unit and ATTN_CAUSE. -/
theorem State.recordFault_eq (s : State) (c : Cause) (sc : Scope) (d : List Byte) (fl : Nat) :
    s.recordFault c sc d fl = { s with faults := (s.recordFault c sc d fl).faults, host := (s.recordFault c sc d fl).host } := rfl

/-- A mark changes the map of units and ATTN_CAUSE. -/
theorem State.mark_eq (s : State) (m : Nat) : s.mark m = { s with bist := (s.mark m).bist, host := (s.mark m).host } := by
  unfold State.mark; split <;> rfl

/-- A hall write changes the hall memories. -/
theorem State.hallWrite_eq (s : State) (l h off : Nat) (bs : List Byte) :
    s.hallWrite l h off bs = { s with halls := (s.hallWrite l h off bs).halls } := by
  unfold State.hallWrite; split <;> rfl

/-! ### Steps -/

/-- Counting a step changes the landing, the scheduler and the place in the order of R556. -/
theorem State.countStep_eq (s : State) (l : Nat) :
    s.countStep l = { s with landings := (s.countStep l).landings, sched := (s.countStep l).sched, turn := (s.countStep l).turn } := by
  unfold State.countStep; dsimp only; split <;> rfl

/-- Entering a wait changes the landing and its pipe. -/
theorem State.enterWait_eq (s : State) (l : Nat) (w : Wait) :
    s.enterWait l w = { s with landings := vset s.landings l { s.land l with wait := w }, sched := (s.enterWait l w).sched } := rfl

/-- The landing waits, and no pipe serves it. -/
theorem State.enterWait_waits (s : State) {l : Nat} (w : Wait) (h : l < 192) : (s.enterWait l w).waits l w := by
  refine ⟨?_, ?_⟩
  · simp [State.enterWait, State.leavePipe, State.land, vget_vset_self, h]
  · intro p hp
    simp only [State.enterWait, State.leavePipe, Vector.toList_map, List.mem_map, State.modLand, State.setLand_sched] at hp
    obtain ⟨q, -, rfl⟩ := hp
    by_cases hq : q.serving = some l <;> simp [hq]

/-- Going past a step changes the landing. -/
theorem State.advance_eq (s : State) (l n : Nat) (f : Landing → Landing) :
    s.advance l n f = s.setLand l { f (s.land l) with pc := (s.land l).pc + n } := rfl

/-- A wait that ends with nothing asking for the end of the flight changes the landing. -/
theorem State.stepEnds_eq (s : State) (l : Nat) (f : Landing → Landing) (h : (f (s.land l)).endReq = none) :
    s.stepEnds l f = s.setLand l { f (s.land l) with wait := .none, pc := (f (s.land l)).pc + 1, readySince := s.now } := by
  unfold State.stepEnds; simp [h]

/-- A landing that can step exists. -/
theorem State.canStep_lt {s : State} {l : Nat} (h : s.canStep l = true) : l < 192 := by
  by_contra hl
  have : s.land l = Landing.free := by
    have : s.landings.toList[l]? = none := by simp; omega
    simp [State.land, vget, this]
  simp [State.canStep, Landing.runnable, Landing.busy, this, Landing.free] at h

/-- A step command whose step is about to execute, with a condition that passes, has that step's effect on the counted state. -/
theorem runStep_does {dt l : Nat} {k : Step} {s : State} {f : StepWord} (eff : StepWord → State → State)
    (h : (s.tick dt).doesStep l k f = true) : runStep dt l k s eff = .next (settle (eff f ((s.tick dt).countStep l))) := by
  simp only [State.doesStep, State.atStep, Bool.and_eq_true, beq_iff_eq] at h
  obtain ⟨⟨⟨⟨hl, hc⟩, hf⟩, hk⟩, hp⟩ := h
  have hlt := State.canStep_lt hc
  have hflags : (((s.tick dt).countStep l).land l).flags = ((s.tick dt).land l).flags := by
    unfold State.countStep
    dsimp only
    split <;> simp [State.land, State.setLand, State.deferLog, vget_vset_self, hlt]
  simp [runStep, occurWhen, occur, hl, hc, hf, hk, hflags, hp]

/-- A step command whose step is not the next one lets time pass. -/
theorem runStep_not {dt l : Nat} {k : Step} {s : State} (eff : StepWord → State → State)
    (h : ∀ f, (s.tick dt).atStep l k f = false) : runStep dt l k s eff = .next (settle (s.tick dt)) := by
  unfold runStep occurWhen occur
  by_cases hl : (s.tick dt).live = true
  · by_cases hc : (s.tick dt).canStep l = true
    · cases hf : (s.tick dt).fetch l with
      | none => simp [hl, hc, hf]
      | some f =>
        have := h f
        simp [State.atStep, hl, hc, hf] at this
        simp [hl, hc, hf, this]
    · simp [hl, hc]
  · simp [hl]

/-! ### Votes -/

/-- Evaluating the votes changes the power unit and the units that stop with a domain. -/
theorem State.evalVotes_eq (s : State) : s.evalVotes =
    { s with power := s.power.eval s.now s.bist.unus, lf := s.evalVotes.lf, uwb := s.evalVotes.uwb, uhf := s.evalVotes.uhf
             nfc := s.evalVotes.nfc, start := s.evalVotes.start, sec := s.evalVotes.sec } := rfl

/-- The status words that a command leaves join their history; nothing else changes with them. -/
theorem State.show_eq (s : State) : s.show = { s with seen := s.show.seen } := by
  unfold State.show; dsimp only; split
  · split <;> rfl
  · rfl

/-- The end of an item of the gallery changes the host link, the holds of landings, and DEFER_LOG. -/
theorem State.galItem_eq (s : State) (k : Option ItemKey) (c : Code) :
    s.galItem k c = { s with host := (s.galItem k c).host, landings := (s.galItem k c).landings, sched := (s.galItem k c).sched } := by
  unfold State.galItem
  cases k with
  | none => rfl
  | some k => dsimp only; conv_lhs => rw [State.finish_eq]

/-- The two shares of a key give the key back, whatever the random one holds (R358). -/
theorem State.shares_xor (s : State) (holder : Nat) (key : List Byte) :
    List.zipWith (· ^^^ ·) (s.shares holder key).1 (s.shares holder key).2 = key := by
  refine List.ext_getElem (by simp [State.shares, underStream]) fun i _ _ => ?_
  simp [State.shares, underStream, BitVec.xor_comm]

/-- SLOW counts a stay in LOBBY to within 0.5 % (R475, R552). -/
theorem slowCounts_bounds (t now : Nat) : (now - t) * 199 / 200 ≤ slowCounts t now ∧ slowCounts t now ≤ (now - t) * 201 / 200 := by
  unfold slowCounts
  generalize hr : (1000000 + max (-5000) (min 5000 (Config.slowDrift t))).toNat = r
  have h1 : 995000 ≤ r := by omega
  have h2 : r ≤ 1005000 := by omega
  constructor
  · have := Nat.mul_le_mul_left (now - t) h1; omega
  · have := Nat.mul_le_mul_left (now - t) h2; omega

end Sys2Proof.Machine
end

