-- ==== Sys2Proof/Laws/Settle.lean ====
section
/-! SUPPORT. The end of every command: what the votes may change, and that every command answers a settled next state. -/

namespace Sys2Proof.Machine

open Sys2Proof

/-- A gallery change adds ATTN_CAUSE CASCADE to it, at most. -/
theorem State.galDo_eq (s : State) (f : State → State) : s.galDo f = f s ∨ s.galDo f = (f s).attn attnCascade := by
  unfold State.galDo; dsimp only; split <;> simp

/-- Leaving the cascade changes the gallery unit, the reference clock, the alignment, and the items that waited. -/
theorem State.galAlone_only (s : State) :
    ∃ h l c g r p, s.galAlone = { s with host := h, landings := l, sched := c, gal := g, rng := r, power := p } := by
  have key : ∀ (t : State) (a b : Option ItemKey), ∃ h l c, (t.galItem a .cascadeAlone).galItem b .cascadeAlone =
      { t with host := h, landings := l, sched := c } := by
    intro t a b
    rw [State.galItem_eq (t.galItem a .cascadeAlone) b]
    generalize (State.galItem _ b _).host = h
    generalize (State.galItem _ b _).landings = l
    generalize (State.galItem _ b _).sched = c
    rw [State.galItem_eq t a]
    exact ⟨h, l, c, rfl⟩
  unfold State.galAlone
  obtain h | h := State.galDo_eq s _
  · rw [h]
    dsimp only
    obtain ⟨h, l, c, e⟩ := key _ _ _
    exact ⟨_, _, _, _, _, _, e⟩
  · rw [h]
    dsimp only
    obtain ⟨h, l, c, e⟩ := key _ _ _
    rw [e]
    exact ⟨_, _, _, _, _, _, rfl⟩

/-- What bringing the votes up to date may change. -/
theorem State.revotes_only (s : State) : ∃ p f u n, s.lfTakes.uwbMoves.followGrants.revote32.revoteUnits.revoteNvm =
    { s with power := p, lf := f, uwb := u, nfc := n } := by
  have h1 : ∀ s : State, ∃ f, s.lfTakes = { s with lf := f } := fun s => ⟨s.lf.due s.now, rfl⟩
  have h2 : ∀ s : State, ∃ u, s.uwbMoves = { s with uwb := u } := fun s => ⟨s.uwbDue, rfl⟩
  have h3 : ∀ s : State, ∃ u n, s.followGrants = { s with uwb := u, nfc := n } := fun s => by
    unfold State.followGrants; exact ⟨_, _, rfl⟩
  have h4 : ∀ s : State, ∃ p, s.revote32 = { s with power := p } := fun s => by unfold State.revote32; exact ⟨_, rfl⟩
  have h5 : ∀ s : State, ∃ p, s.revoteUnits = { s with power := p } := fun s => by unfold State.revoteUnits; exact ⟨_, rfl⟩
  have h6 : ∀ s : State, ∃ p, s.revoteNvm = { s with power := p } := fun s => by unfold State.revoteNvm; exact ⟨_, rfl⟩
  obtain ⟨f, e1⟩ := h1 s
  obtain ⟨u, e2⟩ := h2 { s with lf := f }
  obtain ⟨v, n, e3⟩ := h3 { s with lf := f, uwb := u }
  obtain ⟨p, e4⟩ := h4 { s with lf := f, uwb := v, nfc := n }
  obtain ⟨q, e5⟩ := h5 { s with power := p, lf := f, uwb := v, nfc := n }
  obtain ⟨r, e6⟩ := h6 { s with power := q, lf := f, uwb := v, nfc := n }
  exact ⟨r, f, v, n, by rw [e1, e2, e3, e4, e5, e6]⟩

/-- The masks of the voters of engines, DMA, BIST and the NVM controller once the votes are up to date (R488). -/
theorem State.unitVotes_eq (s : State) : let on (b : Bool) (m : Nat) : Nat := if b then m else 0
    s.revoteUnits.revoteNvm.power.votes =
      vset (vset (vset (vset (vset (vset (vset (vset (vset s.power.votes
        (voterAes + 0) (on (s.engineWork 0) (2 ^ (40 + 0 / 2)))) (voterAes + 1) (on (s.engineWork 1) (2 ^ (40 + 1 / 2))))
        (voterAes + 2) (on (s.engineWork 2) (2 ^ (40 + 2 / 2)))) (voterAes + 3) (on (s.engineWork 3) (2 ^ (40 + 3 / 2))))
        voterPka (on (s.engineWork 4 || s.engineWork 9) (2 ^ 42))) voterKdf (on (s.engineWork 5 || s.engineWork 10) (2 ^ 43)))
        voterDma (on (!s.dma.waiting.isEmpty || s.dma.chans.toList.any (·.active)) (2 ^ 49)))
        voterBist (on s.bist.running (bistDomains s.bist.scope))) voterNvm (on s.nvmWork (2 ^ 46)) := by
  intro on
  have hn : s.revoteUnits.nvmWork = s.nvmWork := by unfold State.nvmWork State.revoteUnits; rfl
  have h : s.revoteUnits.revoteNvm.power.votes = vset s.revoteUnits.power.votes voterNvm (on s.revoteUnits.nvmWork (2 ^ 46)) := by
    unfold State.revoteNvm; dsimp only [on]
  rw [h, hn]
  congr 1

/-- What the votes and the status words may change. -/
theorem State.evalShow_only (s : State) : ∃ p f u v n st sc w,
    s.evalVotes.show = { s with power := p, lf := f, uwb := u, uhf := v, nfc := n, start := st, sec := sc, seen := w } := by
  rw [State.show_eq, State.evalVotes_eq]
  exact ⟨_, _, _, _, _, _, _, _, rfl⟩

/-- A vote during preparation changes the power unit only. -/
theorem State.voteAborts_only (s : State) : ∃ p, s.voteAborts = { s with power := p } := by
  unfold State.voteAborts
  split
  · unfold State.abortEntry State.revoteNvm
    dsimp only
    split
    · exact ⟨_, rfl⟩
    · exact ⟨_, rfl⟩
  · exact ⟨_, rfl⟩

/-- Restoring grants changes the AIR arbiter, the landings that go on, and the reader's field. -/
theorem State.restore_only (s : State) : ∃ a l n, s.restore = { s with air := a, landings := l, nfc := n } := ⟨_, _, _, rfl⟩

/-- What settling a state may change. -/
theorem settle_only (s : State) : ∃ h l c g r p f u v n st sc a w,
    settle s = { s with host := h, landings := l, sched := c, gal := g, rng := r, power := p, lf := f, uwb := u, uhf := v, nfc := n
                        start := st, sec := sc, air := a, seen := w } := by
  have hg : ∃ h l c g r p, s.galLeave = { s with host := h, landings := l, sched := c, gal := g, rng := r, power := p } := by
    unfold State.galLeave
    split
    · exact State.galAlone_only s
    · exact ⟨_, _, _, _, _, _, rfl⟩
  obtain ⟨h, l, c, g, r, p, e⟩ := hg
  unfold settle
  split
  · rw [e]
    obtain ⟨a, l, n, e⟩ := State.restore_only { s with host := h, landings := l, sched := c, gal := g, rng := r, power := p }
    rw [e]
    obtain ⟨p, f, u, n, e⟩ := State.revotes_only
      { s with host := h, landings := l, sched := c, gal := g, rng := r, power := p, air := a, nfc := n }
    rw [e]
    obtain ⟨p, f, u, v, n, st, sc, w, e⟩ := State.evalShow_only
      { s with host := h, landings := l, sched := c, gal := g, rng := r, power := p, air := a, lf := f, uwb := u, nfc := n }
    rw [e]
    exact ⟨_, _, _, _, _, _, _, _, _, _, _, _, _, _, rfl⟩
  · split
    · obtain ⟨p, e⟩ := State.voteAborts_only s
      rw [e]
      obtain ⟨p, f, u, v, n, st, sc, w, e⟩ := State.evalShow_only { s with power := p }
      rw [e]
      exact ⟨_, _, _, _, _, _, _, _, _, _, _, _, _, _, rfl⟩
    · rw [State.show_eq]
      exact ⟨_, _, _, _, _, _, _, _, _, _, _, _, _, _, rfl⟩

@[simp] theorem settle_now (s : State) : (settle s).now = s.now := by obtain ⟨_, _, _, _, _, _, _, _, _, _, _, _, _, _, e⟩ := settle_only s; rw [e]
@[simp] theorem settle_epochStart (s : State) : (settle s).epochStart = s.epochStart := by obtain ⟨_, _, _, _, _, _, _, _, _, _, _, _, _, _, e⟩ := settle_only s; rw [e]
@[simp] theorem settle_fresh (s : State) : (settle s).fresh = s.fresh := by obtain ⟨_, _, _, _, _, _, _, _, _, _, _, _, _, _, e⟩ := settle_only s; rw [e]
@[simp] theorem settle_dma (s : State) : (settle s).dma = s.dma := by obtain ⟨_, _, _, _, _, _, _, _, _, _, _, _, _, _, e⟩ := settle_only s; rw [e]
@[simp] theorem settle_halls (s : State) : (settle s).halls = s.halls := by obtain ⟨_, _, _, _, _, _, _, _, _, _, _, _, _, _, e⟩ := settle_only s; rw [e]
@[simp] theorem settle_faults (s : State) : (settle s).faults = s.faults := by obtain ⟨_, _, _, _, _, _, _, _, _, _, _, _, _, _, e⟩ := settle_only s; rw [e]
@[simp] theorem settle_life (s : State) : (settle s).life = s.life := by obtain ⟨_, _, _, _, _, _, _, _, _, _, _, _, _, _, e⟩ := settle_only s; rw [e]
@[simp] theorem settle_timers (s : State) : (settle s).timers = s.timers := by obtain ⟨_, _, _, _, _, _, _, _, _, _, _, _, _, _, e⟩ := settle_only s; rw [e]
@[simp] theorem settle_bist (s : State) : (settle s).bist = s.bist := by obtain ⟨_, _, _, _, _, _, _, _, _, _, _, _, _, _, e⟩ := settle_only s; rw [e]
@[simp] theorem settle_dieTemp (s : State) : (settle s).dieTemp = s.dieTemp := by obtain ⟨_, _, _, _, _, _, _, _, _, _, _, _, _, _, e⟩ := settle_only s; rw [e]
@[simp] theorem settle_tag (s : State) : (settle s).tag = s.tag := by obtain ⟨_, _, _, _, _, _, _, _, _, _, _, _, _, _, e⟩ := settle_only s; rw [e]
@[simp] theorem settle_verdict (s : State) : (settle s).verdict = s.verdict := by obtain ⟨_, _, _, _, _, _, _, _, _, _, _, _, _, _, e⟩ := settle_only s; rw [e]
@[simp] theorem settle_evd (s : State) : (settle s).evd = s.evd := by obtain ⟨_, _, _, _, _, _, _, _, _, _, _, _, _, _, e⟩ := settle_only s; rw [e]
@[simp] theorem settle_ten (s : State) : (settle s).ten = s.ten := by obtain ⟨_, _, _, _, _, _, _, _, _, _, _, _, _, _, e⟩ := settle_only s; rw [e]
@[simp] theorem settle_rel (s : State) : (settle s).rel = s.rel := by obtain ⟨_, _, _, _, _, _, _, _, _, _, _, _, _, _, e⟩ := settle_only s; rw [e]
@[simp] theorem settle_turn (s : State) : (settle s).turn = s.turn := by obtain ⟨_, _, _, _, _, _, _, _, _, _, _, _, _, _, e⟩ := settle_only s; rw [e]
@[simp] theorem settle_hushTill (s : State) : (settle s).hushTill = s.hushTill := by obtain ⟨_, _, _, _, _, _, _, _, _, _, _, _, _, _, e⟩ := settle_only s; rw [e]
@[simp] theorem settle_pending (s : State) : (settle s).pending = s.pending := by obtain ⟨_, _, _, _, _, _, _, _, _, _, _, _, _, _, e⟩ := settle_only s; rw [e]

/-- A field step answers a settled next state. -/
theorem fieldStep_settles (dt l : Nat) (sp : FieldSpec) (s : State) (go : FieldJob → State → State) :
    ∃ t, fieldStep dt l sp s go = .next (settle t) := by
  unfold fieldStep
  split
  · exact ⟨_, rfl⟩
  · exact ⟨_, rfl⟩

theorem execStLftx_settles (dt l : Nat) (m : LfIssue) (s : State) :
    ∃ t, execStLftx dt l m s = .next (settle t) := by
  unfold execStLftx; exact fieldStep_settles ..
theorem execStLfrx_settles (dt l : Nat)  (s : State) : ∃ t, execStLfrx dt l s = .next (settle t) := by
  unfold execStLfrx; exact fieldStep_settles ..
theorem execStUwbpoll_settles (dt l : Nat) (temp : Int) (vdd bad : Nat) (s : State) : ∃ t, execStUwbpoll dt l temp vdd bad s = .next (settle t) := by
  unfold execStUwbpoll; exact fieldStep_settles ..
theorem execStUwbresp_settles (dt l : Nat) (temp : Int) (vdd bad : Nat) (s : State) : ∃ t, execStUwbresp dt l temp vdd bad s = .next (settle t) := by
  unfold execStUwbresp; exact fieldStep_settles ..
theorem execStUwbfinal_settles (dt l : Nat) (temp : Int) (vdd bad : Nat) (s : State) : ∃ t, execStUwbfinal dt l temp vdd bad s = .next (settle t) := by
  unfold execStUwbfinal; exact fieldStep_settles ..
theorem execStUhfrx_settles (dt l : Nat) (temp : Int) (s : State) : ∃ t, execStUhfrx dt l temp s = .next (settle t) := by
  unfold execStUhfrx; exact fieldStep_settles ..
theorem execStUhftx_settles (dt l : Nat) (temp : Int) (vdd : Nat) (s : State) : ∃ t, execStUhftx dt l temp vdd s = .next (settle t) := by
  unfold execStUhftx; exact fieldStep_settles ..
theorem execStNfcx_settles (dt l : Nat)  (s : State) : ∃ t, execStNfcx dt l s = .next (settle t) := by
  unfold execStNfcx; exact fieldStep_settles ..
theorem execStNfctree_settles (dt l : Nat)  (s : State) : ∃ t, execStNfctree dt l s = .next (settle t) := by
  unfold execStNfctree; exact fieldStep_settles ..

/-- Every command answers a next state, and it is settled. -/
theorem exec_settles (c : Instr) (s : State) : ∃ t, exec c s = .next (settle t) := by
  cases c
  case stLftx => exact execStLftx_settles ..
  case stLfrx => exact execStLfrx_settles ..
  case stUwbpoll => exact execStUwbpoll_settles ..
  case stUwbresp => exact execStUwbresp_settles ..
  case stUwbfinal => exact execStUwbfinal_settles ..
  case stUhfrx => exact execStUhfrx_settles ..
  case stUhftx => exact execStUhftx_settles ..
  case stNfcx => exact execStNfcx_settles ..
  case stNfctree => exact execStNfctree_settles ..
  all_goals first
    | exact ⟨_, rfl⟩
    | (simp only [exec, execFrRegRead, execFrCqRead, execFrHush, execFrWakeFrame, execFrFrameUnknownOp, shortFrame]
       split <;> first | exact ⟨_, rfl⟩ | (split <;> exact ⟨_, rfl⟩))

end Sys2Proof.Machine
end

