-- ==== Sys2Proof/WellFormed.lean ====
section
/-! DEFINITION. Well-formed commands: every operand that names a unit names one the part has, and frame fields have their widths. A command
that is not well formed does not occur; the meanings are total all the same (log 8). -/

namespace Sys2Proof

/-- A landing: L000 to L191 (R563). -/
def landOk (x : Nat) : Bool := decide (x < 192)

/-- A domain: D00 to D49 (R487). -/
def domainOk (x : Nat) : Bool := decide (x < 50)

/-- A coil: LF0 to LF7 (R140). -/
def coilOk (x : Nat) : Bool := decide (x < 8)

/-- A landing timer: LT0 to LT3 (R69). -/
def ltOk (x : Nat) : Bool := decide (x < 4)

/-- A node address: 0 to 7 (R436). -/
def nodeOk (x : Nat) : Bool := decide (x < 8)

/-- A pipe: 0 to 7 (R111). -/
def pipeOk (x : Nat) : Bool := decide (x < 8)

/-- A half of the flight engine: 0 or 1 (R114). -/
def halfOk (x : Nat) : Bool := decide (x < 2)

/-- A timer: TM0 to TM15 (R494). -/
def timerOk (x : Nat) : Bool := decide (x < 16)

/-- A calibration: 0 to 6 (R183). -/
def calOk (x : Nat) : Bool := decide (x < 7)

/-- A slot of the round: 0 to 39 (R445). -/
def slotOk (x : Nat) : Bool := decide (x < 40)

/-- A DMA channel: 0 to 7 (R135). -/
def chanOk (x : Nat) : Bool := decide (x < 8)

/-- A START channel: 0 for A, 1 for B (R327). -/
def startOk (x : Nat) : Bool := decide (x < 2)

/-- A byte of the command word, or a count of one byte (R13). -/
def byteOk (x : Nat) : Bool := decide (x < 256)

/-- HCSN falls before the 32nd edge (R12). -/
def edgesOk (e : Edges) : Bool := decide (e.mid ≤ e.fell)

/-- TARGET of a frame: 16 bits (R13). -/
def targetOk (x : Nat) : Bool := decide (x < 65536)

/-- Bits over beyond the whole bytes of a payload: 0 to 7 (R15). -/
def bitsOver (x : Nat) : Bool := decide (x < 8)

/-- A tenant: 0 to 1023 (R312). -/
def tenantOk (x : Nat) : Bool := decide (x < 1024)

/-- An engine of R344: bits 0 to 10. -/
def engineOk (x : Nat) : Bool := decide (x < 11)

/-- A rate lane of the UHF receiver: 0 to 4 (R240). -/
def laneOk (x : Nat) : Bool := decide (x < 5)

/-- A tamper source: 0 to 3 (R369). -/
def sourceOk (x : Nat) : Bool := decide (x < 4)

/-- What a field step measured: LFTX tells a phase of each of the eight coils. -/
def FieldMeas.ok : FieldMeas → Bool
  | .lftx phases => phases.length == 8
  | .none | .lfrx _ _ _ _ => true

/-- A well-formed command. -/
def Instr.wf : Instr → Bool
  | .itNop _ | .itSurvey _ | .itFlightLoad _ | .itFlightStart _ | .itFlightStop _
   | .itLandingPeek _ | .itHallRead _ | .itHallWrite _ | .itTenantEnrol _ | .itTenantSuspend _ | .itTenantRevoke _
   | .itTenantRead _ | .itKeyUpdate _ | .itLifeChange _ _ _ | .itUpdateBegin _ | .itUpdateChunk _ | .itUpdateVerify _ _
   | .itUpdateActivate _ | .itUpdateConfirm _ _ _ | .itVoteSet _ | .itTimerConfigure _ | .itTimerStart _ | .itTimerStop _
   | .itAtlasLoad _ | .itEvidenceRead _ | .itBistRun _ | .itCascadeStandalone _ | .itCascadeJoin _ | .itCascadeModeChange _
   | .itUnknownItem _ | .evDmaDescriptorStart _ | .evLfVlfLow _ _ | .evLfVlfRestored _ _ | .evLfOvertemp _ _
   | .evLfOvertempClear _ _ | .evLfNoiseTrip _ _ _ _ | .rgLfCarrierWrite _ _ | .rgLfRetune _ _ | .rgLfFaultClear _ _
   | .evSynthLockLost _ | .evSynthCalDone _ _ _ | .evCoexGntChange _ _ | .evCoexWaitLapse _ | .evUwbFrameRx _ _
   | .evUwbResponseTx _ _ | .evUwbWindowOpen _ _ | .evUwbFinalTx _ _ | .evUwbDisturbed _ _ _ _ | .evTscWrap _ | .rgRngTscLoRead _
   | .evUhfTelegramRx _ _ _ | .evUhfDisturbanceMark _ _ _ | .evUhfSynthCalDone _ _ _ | .evSniffPeriod _ | .evSniffListenEnd _
   | .evNfcExtListenEnd _ _ | .evNfcGuardEnd _ | .evNfcReplyRx _ _ | .evNfcDisturbed _ _ _ | .evTagFieldArrive _ _
   | .evTagFieldLoss _ | .evTagFieldAbsentTimeout _ | .evTagReqa _ | .evTagWupa _ | .evTagHlta _ | .evTagAnticollision _ _ _
   | .evTagSelect _ _ | .evTagGetInfo _ _ | .evTagRead _ _ | .evTagWrite _ _ | .evTagGetChallenge _ _ | .evTagAuth _ _
   | .evTagUnknownCmd _ | .evStoreBlockWriteDone _ | .evTagVddRise _ | .evTagVddFall _ | .evFieldWakeEnd _ | .rgNfcTagWcmd _ _
   | .rgNfcTagCtrl _ _ | .rgNfcTagJack _ _ | .evEvdPostMsLapse _ | .evEvdRearmLapse _ | .evStartDiscLimit _ _ _
   | .rgStartFaultClear _ _ | .rgTenTimeWrite _ _ | .rgTenLifeCfgWrite _ _ | .evLifeRecompute _ | .evLearnLockoutEnd _
   | .evLearnWindowAge _ | .evReleaseRepeat _ | .evCanFrameAck _ | .evCanAttemptFail _ _ | .evReleaseWindowLapse _
   | .evFreshReserveDone _ _ _ | .evRelHalfPeriod _ _ _ | .evCanbBusoff _ | .evCanbBusoffRecover _ | .evZapEraseDone _
   | .evEntropyBlock _ _ _ | .evMaskRekey _ | .evShareRefresh _ | .evScanEnable _ _ _ | .evPowerOnReset _ _ _ | .evBrownOut _ _ _
   | .evRstnReset _ _ _ _ | .evColdStartBistDone _ _ _ _ _ _ _ | .evOtpReread _ _ _ | .evActivateColdReset _
   | .evNvmOperationDone _ _ _ _ | .evFaultDetected _ _ _ _ _ | .evRecoveryEnd _ | .evRecoveryOverrun _ | .evSafeHold _ _
   | .evEventRecordWrite _ | .rgFltLatchedFree _ _ | .evGalRoundStart _ | .evGalBeaconRx _ _ | .evGalJoinTx _ | .evGalPrepareRx _ _
   | .evGalGrantRx _ _ | .evGalPartRx _ _ | .evGalResend _ _ | .evPartKeepExpire _ | .evBeaconLossExpire _ | .evGhushFall _
   | .evGhushRise _ | .evGhushHoldEnd _ | .rgGalCtrlResume _ _ | .evCascadeListenEnd _ | .evCascadeJoinTimeout _
   | .evModeChangeEnd _ | .evRefinQualifyChange _ _ | .rgPwrReq _ _ | .evPwrEntryDone _ | .evWakeTimerLapse _
   | .evWakeFieldDetect _ | .evWakeComplete _ _ | .evRootLockLost _ | .evSlowCalibrate _ _ | .evBistRunDone _ _ _ _ _ _ _ => true
  | .frStatus _ c | .frWakeFrame _ _ _ c => edgesOk c.e
  | .frRegRead _ target len c | .frCqRead _ target len c => edgesOk c.e && targetOk target && byteOk len
  | .frHush _ target len c => edgesOk c.e && targetOk target && byteOk len
  | .frRegWrite _ target len _ c | .frSubmit _ target len _ c | .frCqRelease _ target len _ c =>
    edgesOk c.e && targetOk target && byteOk len && bitsOver c.n
  | .frFrameUnknownOp _ c => edgesOk c.e && byteOk c.n
  | .stMov _ l | .stAdd _ l | .stSub _ l | .stMul _ l | .stAnd _ l | .stOr _ l | .stXor _ l | .stShl _ l | .stShr _ l | .stSar _ l
   | .stCmp _ l | .stTst _ l | .stAdc _ l | .stSbc _ l | .stBfx _ l | .stMhu _ l | .stLdw _ l | .stLdhu _ l | .stLdbu _ l
   | .stLdhs _ l | .stStw _ l | .stSth _ l | .stStb _ l | .stSwapw _ l | .stJmp _ l | .stBr _ l | .stCall _ l | .stRet _ l
   | .stWait _ l | .stYield _ l | .stEnd _ l | .stStepIllegal _ l | .stLtset _ l | .stLtread _ l | .stLtstop _ l | .stTmread _ l
   | .stAirClaim _ l | .stAirRelease _ l | .stLfrx _ l | .stUwbpoll _ l _ _ _ | .stUwbresp _ l _ _ _
   | .stUwbfinal _ l _ _ _ | .stUhfrx _ l _ | .stUhftx _ l _ _ | .stNfcx _ l | .stNfctree _ l | .stAesk _ l | .stAesx _ l
   | .stDerive _ l | .stDrbg _ l | .stMacv _ l | .stFuse _ l | .stJudge _ l | .stTload _ l | .stTpass _ l | .stTfail _ l
   | .stRelopen _ l | .stRelhold _ l | .stRelclose _ l | .stBanister _ l | .stNewel _ l | .stEvtrig _ l | .stGsend _ l
   | .stGwait _ l | .evAirGrant _ l | .evFieldWindowLapse _ l _ | .evCryptoDone _ l | .evVerdictDone _ l
   | .evTenantUnwrapDone _ l | .evNewelDurable _ l _ | .evTfailDurable _ l _ | .evBanisterClear _ l | .evGsendCredit _ l
   | .evGwaitEnd _ l | .evRelopenFirstFrame _ l | .evRelcloseDone _ l | .evRunlimitReached _ l | .evRelokExpire _ l
   | .evDrainHoldLapse _ l | .evScrubDone _ l | .evDeferredStartResume _ l | .evExchangeBoundary _ l | .evBudgetExhausted _ l
   | .evMinholdReached _ l | .evDrbgWaitLapse _ l => landOk l
  | .stLftx _ l m => landOk l && (List.range 8).all fun n => m.tunes.any fun t => t.coil == n
  | .evFieldStepDone _ l m => landOk l && m.ok
  | .evPipeDispatch _ p | .evQuantumExpire _ p => pipeOk p
  | .evLtExpire _ l n => landOk l && ltOk n
  | .evVoteHoldoffLapse _ d | .evDomainRiseTimeout _ d | .evDomainRiseDone _ d | .evDomainFallDone _ d => domainOk d
  | .evDmaGranuleDelivered _ ch _ _ | .evHallWriteGranule _ ch | .evOspiBlockChecked _ ch _ _ | .evDmaStall _ ch => chanOk ch
  | .evLfCoilShort _ n | .evCoilDumpDone _ n | .evCoilDumpTimeout _ n => coilOk n
  | .evBgCalSlice _ k _ _ | .evBgCalOverdue _ k => calOk k
  | .evUhfPreambleDetect _ lane _ | .evUhfPreambleLost _ lane _ => laneOk lane
  | .evStartEdge _ ch _ _ => startOk ch
  | .evTenantLockoutEnd _ t => tenantOk t
  | .evTamperQualified _ src => sourceOk src
  | .evEngineStall _ engine => engineOk engine
  | .evPipeStall _ half => halfOk half
  | .evGalSlotTx _ k => slotOk k
  | .evGalFrameRx _ slot _ _ _ => slotOk slot
  | .evGalResultRx _ src _ | .evGalModeReplyRx _ src _ | .evGalJoinRx _ src _ => nodeOk src
  | .evNodeLossExpire _ n => nodeOk n
  | .evTimerCompare _ k | .evTimerWrap _ k | .evTimerTrigger _ k => timerOk k

end Sys2Proof
end

