-- ==== Sys2Proof/Tests/Slice0.lean ====
section
/-! SUPPORT. Tests: ill-formed commands are refused; values that the spec writes out; for every statement with hypotheses, states and
operands that meet them. -/

namespace Sys2Proof.Tests

set_option Elab.async false

open Sys2Proof Sys2Proof.Machine

/-- Letting no time pass changes nothing, so a witness for the state itself is one for the state that a command of no time acts on. -/
theorem tick_zero (s : State) : s.tick 0 = s := rfl

/-- The turn of an event of the place k in the order of R556 is not over, the units act, and what a clause asks holds where the event acts. -/
abbrev Meets (ok : State → Prop) (s : State) (k : Nat := rankUnit) : Prop := (s.act k).live = true ∧ s.inTurn k = true ∧ ok (s.act k)

/-- The turn of an event of the place k is not over, and what a clause asks holds where it acts. -/
abbrev Holds (ok : State → Prop) (s : State) (k : Nat := rankUnit) : Prop := s.inTurn k = true ∧ ok (s.act k)

/-- An item offered alone: accepted, waiting, with its credit spent. -/
def offer (s : State) (r : ItemRec) : State :=
  { s with host := { s.host with items := [r], credits := vset s.host.credits 0 (vget s.host.credits 0 0 - 1) } }

/-- The same item with byte 3 set, which every item requires to be 0. -/
def spoil (r : ItemRec) : ItemRec := { r with raw := r.raw.set 3 1 }

/-- Item r is the next to start, of the kind, and passes its checks; spoilt, it is stopped by one. -/
abbrev Starts (p : ItemRec → Bool) (checks : State → ItemRec → List (Bool × Code)) (u : State) (r : ItemRec) : Prop :=
  (offer u r).opens r p = true ∧ ((offer u r).startItem r.key).itemCode r (checks ((offer u r).startItem r.key) r) = .ok ∧
  (offer u (spoil r)).opens (spoil r) p = true ∧
  ((offer u (spoil r)).startItem r.key).itemCode (spoil r) (checks ((offer u (spoil r)).startItem r.key) (spoil r)) ≠ .ok

/-- A part that has booted long ago, with every domain up. -/
def live0 : State := { State.reset with
  now := 10 ^ 15
  host := { State.reset.host with credits := Vector.replicate 4 64 }
  start := { State.reset.start with fellAt := none }
  power := { State.reset.power with mode := .awake, booting := none, domains := Vector.replicate 50 .up } }

/-- Landing 0 is in flight and waits with w; `none` waits for nothing. -/
def waiting (w : Wait) (s : State) : State :=
  s.setLand 0 { Landing.free with st := .busy, hallsBound := true, dataLen := 64, wait := w, startedAt := some 0 }

/-- Pipe p serves landing l, n steps into a turn of 16. -/
def serve (p l : Nat) (s : State) (n : Nat := 16) : State :=
  { s with sched := { s.sched with pipes := vset s.sched.pipes p ⟨some l, none, n, 16, 0, 0, 0⟩ } }

/-- A wait that is no ending one. -/
theorem not_ending (w : Wait) (h : (match w with | .ending _ => false | _ => true) = true) (c : Code) : w ≠ .ending c := by
  intro e
  subst e
  simp at h

/-- A grant of the UWB radio. -/
def grant0 : Grant := ⟨0, 2, 1, false, 100, 0, 0, 500, none, false, false, []⟩

/-- An exchange that is over. -/
def exch0 : Exchange := ⟨0, 0, false, 100, false, false⟩

/-- A field step of a kind, begun at t. -/
def job (k : FieldKind) (t : Nat) : FieldJob := ⟨k, 5, 0, List.replicate 32 0, [], t, 0, 16, some t, 0, none⟩

/-- A small image with a run limit of 10 ms. -/
def img (code : List Byte) : Image :=
  { slot := 1, code := code, init := [], external := false, poison := []
    hdr := { tenant := false, release := false, cascade := false, cir := false, codeLen := code.length, dataLen := 64, initLen := 0,
             entry := 0, shared := 255, runLimit := 10 } }

/-- Landing 0 is in flight at the first step of a code of one word w, and pipe 0 serves it. -/
def onStep (w : Nat) : State :=
  serve 0 0 (waiting .none { live0 with halls := { live0.halls with images := [(0, img (natLE 4 w))] } }) 15

/-- An item on SQ 0 with its code and PARAM bytes. -/
def item (code : Byte) (params : List Byte) : ItemRec := ⟨⟨0, 1⟩, padTo 32 ([code, 0, 0, 0] ++ List.replicate 8 0 ++ params), .waiting, 0, none, []⟩

/-- A part in BOUND. -/
def bound0 : State := { live0 with life := { live0.life with st := .bound } }

/-- A descriptor of 64 bytes from page 0 for no item that is out. -/
def desc0 : Desc := ⟨.item ⟨0, 1⟩, 0, 0, 0, .page 0, .stage, 0, 0, 64, 0, [], 0⟩

/-- A run of the UWB front-end, of a poll that asks for nothing more than its reply. -/
def wrun0 : UwbRun :=
  { step := .uwbpoll, land := 0, ch := 5, code := 9, kind := 0, lanes := 1, sp1 := false, key := [], out := [], chips := 100, session := 0
    round := 0, report := false, calWait := false, coexWait := false, coexSince := 0, readyAt := 0, window := none, searchFrom := 0
    txMark := none, meas := none, measured := false, antenna := false, pollMark := none, disturbed := false, markAt := 0, withdrawn := false
    lost := false, closed := false, offset := none, reserved := 0, gain := 0, target := 0, forcedUs := 0 }

/-- A received frame of one byte and the given check bytes. -/
def uwbRx0 (fcs : List Byte) : UwbRx :=
  { code := 9, sp1 := false, sfdOk := true, phrOk := true, psdu := [1] ++ fcs, rivals := [], eps := 0, floor := 0, power := 0, predict := 0
    stsNoise := 0, stsBack := 0, stsCir := [], ports := List.replicate 4 ⟨(255, 255), 0, 0, 0, false, 0, 0, 0, []⟩ }

/-- A search of the sub-gigahertz receiver over every lane. -/
def urun0 : UhfRun := ⟨0, false, 0, ⟨0, false, 31, 32, [], [], [], false, 0, none⟩, [], 0, 0, none⟩

/-- A run of the near-field reader that has sent its frame. -/
def nrun0 : NfcRun := ⟨0, .frame, 0, TreeWalk.start, 0, 0, 0⟩

/-- A run of the low-frequency field system: of LFTX or of LFRX, begun at t. -/
def lrun0 (tx : Bool) (t : Nat) : LfRun := ⟨tx, 0, List.replicate 16 0, [], 0, some t, 0, 0, [], 25, false, true, 0, []⟩

/-- A part in SERVICE. -/
def service0 : State := { live0 with life := { live0.life with st := .service } }

/-- An active tenant. -/
def tenant0 : Tenant := ⟨1, 1, 1, 0, 0, 7, 100, 0, 0, 0, 0, 0, 0, 0, 0, none, 0, 0, 0, 0, 0, 0, 0, 0, 0, []⟩

/-- A manifest that declares an image of n bytes. -/
def manifest (n : Nat) : List Byte := List.replicate 12 0 ++ natLE 4 n ++ List.replicate 240 0

/-- A session that landing 0 is about to open, with the drive of RELA and RELB. -/
def session0 : Session := ⟨0, 0, 40 * msT, 30000 * msT, 0, [], true, 0, 0, 0, none, 0, 0, 0, 0, 0⟩

/-- Block 0 of a field store: identity, the permissions of reads and writes, and the configuration byte. -/
def cfgBlock (cfg r w ar aw : Byte) : List Byte := padTo 32 [1, 2, 3, 4, r, w, ar, aw, cfg, 5, 3]

/-- A committed slot. -/
def slotOf (data : List Byte) : StoreSlot := ⟨data, 1, slotCrc data 1, 0xA5⟩

/-- A port in a field that can write, with that block 0. -/
def tagWith (b0 : List Byte) : Tag :=
  { live0.tag with field := true, vtagOk := true, vtagWrite := true, mode := .idle, slots := [(0, slotOf b0)] }

/-- The same with key 3 present and a fail limit. -/
def tagKey (limit : Byte) : Tag :=
  { tagWith [] with slots := [(0, slotOf ((cfgBlock 3 255 255 0 0).set 10 limit)), (10, slotOf (padTo 32 (List.replicate 28 0 ++ [1])))] }

/-- A write of block 38 in progress. -/
def storeWrite0 : StoreWrite := ⟨38, .bytes (List.replicate 32 1), false, 0, none, some 0, 0, List.replicate 32 1⟩

/-! ### An ill-formed command is refused by each check -/

theorem test_wf_byte : (Instr.frRegRead 0 0 256 ⟨⟨0, 0⟩, 0⟩).wf = false ∧ (Instr.frFrameUnknownOp 0 ⟨⟨0, 0⟩, 256⟩).wf = false := by decide

theorem test_wf_edges : (Instr.frStatus 0 ⟨⟨1, 2⟩, 0⟩).wf = false ∧ (Instr.frStatus 0 ⟨⟨2, 2⟩, 0⟩).wf = true := by decide

theorem test_wf_target : (Instr.frHush 0 65536 0 ⟨⟨0, 0⟩, 0, 0⟩).wf = false ∧ (Instr.frHush 0 65535 255 ⟨⟨0, 0⟩, 0, 0⟩).wf = true := by decide

theorem test_wf_bitsOver : (Instr.frSubmit 0 0 32 [] ⟨⟨0, 0⟩, 8⟩).wf = false ∧ (Instr.frSubmit 0 0 32 [] ⟨⟨0, 0⟩, 7⟩).wf = true := by decide

theorem test_wf_land : (Instr.stMov 0 192).wf = false ∧ (Instr.stMov 0 191).wf = true := by decide

theorem test_wf_pipe : (Instr.evPipeDispatch 0 8).wf = false ∧ (Instr.evPipeDispatch 0 7).wf = true := by decide

theorem test_wf_lt : (Instr.evLtExpire 0 0 4).wf = false ∧ (Instr.evLtExpire 0 191 3).wf = true := by decide

theorem test_wf_domain : (Instr.evDomainRiseDone 0 50).wf = false ∧ (Instr.evDomainRiseDone 0 49).wf = true := by decide

theorem test_wf_chan : (Instr.evDmaStall 0 8).wf = false ∧ (Instr.evDmaStall 0 7).wf = true := by decide

theorem test_wf_coil : (Instr.evLfCoilShort 0 8).wf = false ∧ (Instr.evLfCoilShort 0 7).wf = true := by decide

theorem test_wf_meas : (Instr.evFieldStepDone 0 0 (.lftx [0])).wf = false ∧
    (Instr.evFieldStepDone 0 0 (.lftx (List.replicate 8 0))).wf = true := by decide

theorem test_wf_cal : (Instr.evBgCalOverdue 0 7).wf = false ∧ (Instr.evBgCalOverdue 0 6).wf = true := by decide

theorem test_wf_lane : (Instr.evUhfPreambleLost 0 5 0).wf = false ∧ (Instr.evUhfPreambleLost 0 4 0).wf = true := by decide

theorem test_wf_start : (Instr.evStartEdge 0 2 true true).wf = false ∧ (Instr.evStartEdge 0 1 true true).wf = true := by decide

theorem test_wf_tenant : (Instr.evTenantLockoutEnd 0 1024).wf = false ∧ (Instr.evTenantLockoutEnd 0 1023).wf = true := by decide

theorem test_wf_source : (Instr.evTamperQualified 0 4).wf = false ∧ (Instr.evTamperQualified 0 3).wf = true := by decide

theorem test_wf_engine : (Instr.evEngineStall 0 11).wf = false ∧ (Instr.evEngineStall 0 10).wf = true := by decide

theorem test_wf_half : (Instr.evPipeStall 0 2).wf = false ∧ (Instr.evPipeStall 0 1).wf = true := by decide

theorem test_wf_slot : (Instr.evGalSlotTx 0 40).wf = false ∧ (Instr.evGalSlotTx 0 39).wf = true := by decide

theorem test_wf_node : (Instr.evNodeLossExpire 0 8).wf = false ∧ (Instr.evNodeLossExpire 0 7).wf = true := by decide

theorem test_wf_timer : (Instr.evTimerWrap 0 16).wf = false ∧ (Instr.evTimerWrap 0 15).wf = true := by decide

theorem test_wf_tunes : (Instr.stLftx 0 0 ⟨25, 25, []⟩).wf = false ∧
    (Instr.stLftx 0 0 ⟨25, 25, (List.range 8).map fun n => ⟨n, 32, 0, 0, 0⟩⟩).wf = true := by decide

/-! ### Values the spec writes out -/

/-- The digits "123456789". -/
def digits : List Byte := [0x31, 0x32, 0x33, 0x34, 0x35, 0x36, 0x37, 0x38, 0x39]

/-- Check value of the CRC-8 of the host link (R14). -/
theorem test_crc8_check : crc8 digits = 0x20 := by decide +kernel

/-- Check value of the CRC-16 of an LF frame (R158). -/
theorem test_lfCrc_check : lfCrc digits = 0x29B1 := by decide +kernel

/-- Check value of the FCS of a session frame, low byte first (chapter 06). -/
theorem test_uwbFcs_check : uwbFcs digits = [0x89, 0x21] := by decide +kernel

/-- Check value of the CRC-32 of the atlas (chapter 09). -/
theorem test_crc32_check : crc32 digits = 0xCBF43926 := by decide +kernel

/-- ADD g3, g1, #5 always is the word 0x07CC6005 (chapter 02, worked example). -/
theorem test_word_add : stepFields 0x07CC6005 = ⟨1, 15, 3, 1, 0x2005⟩ ∧ (stepFields 0x07CC6005).step = some .add := by decide +kernel

/-- Words of the passive-entry flight and the steps they stand for (chapter 02, worked flights). -/
theorem test_words_passive_entry :
    ([0x03D03000, 0xB7D50005, 0xCFD9C007, 0x7901A000, 0x5BC41008, 0x93E00000, 0xA4200010, 0x64000007, 0x2BC26003, 0xD3D80060,
      0xEFD82000, 0x97E00080, 0xB7C01005, 0x9BE00020, 0xA0200040, 0xE3C000A0, 0xE7C40003, 0x43E81238, 0xEFDA8000,
      0xF7D82000].map fun w => (stepFields w).step)
    = [.mov, .airClaim, .drbg, .end_, .stb, .lftx, .uhfrx, .br, .cmp, .macv, .tfail, .lfrx, .airRelease, .uwbpoll, .uwbfinal,
       .fuse, .judge, .ldw, .tpass, .newel].map some := by decide +kernel

/-- BOOST 7 and BRAKE 5 for Q 25, IFULL 4,000 mA and a setpoint of 160 (chapter 04, worked example). -/
theorem test_coil_durations : lfBoost false 100 4000 160 = 7 ∧ lfBrake false 100 4000 160 = 5 := by decide +kernel

/-- Durations of the session frames of chapter 06's worked exchange. -/
theorem test_frame_durations :
    [24, 32, 30].map (Rng.frameChips State.reset.rng 9 true) = [94944, 99040, 98016] := by decide +kernel

/-- The time of flight of chapter 06's worked exchange. -/
theorem test_double_sided :
    nearestDiv ((25001030 * 24001520 : Nat) - (24000000 * 25000000 : Nat) : Int) 98002550 = 640 := by decide +kernel

/-- A poll that reaches UA0 at -93.0 dBm, UA1 and UA2 at -87.5 dBm, with a fault on UA3, is taken from UA1 (chapter 05, worked example). -/
theorem test_data_port :
    let s : State := { live0 with uwb := { live0.uwb with fault := 8 } }
    let port (e : Int) : PortRx := ⟨(255, 255), e, 0, 0, false, 0, 0, 0, []⟩
    let rx : UwbRx := { uwbRx0 [] with ports := [port (-372), port (-350), port (-350), port (-300)] }
    s.uwbEligible rx = 7 ∧ s.uwbDataPort rx (s.uwbEligible rx) = (1, false) := by decide +kernel

/-- Block 3 of the atlas of chapter 09's worked verdict: header, then zones 1 to 3. -/
def doorBlock : List Byte :=
  let rng (n : Nat) (lo hi : Int) : List Byte := natLE n (unsgn (8 * n) lo) ++ natLE n (unsgn (8 * n) hi)
  let zone (t0 t1 : Int) (lo hi : List Byte) : List Byte :=
    padTo 34 ([1, 0] ++ rng 2 t0 t1) ++ rng 2 (-32768) 32767 ++ rng 2 (-32768) 32767 ++ rng 2 (-180) (-100)
    ++ padTo 8 lo ++ (hi ++ List.replicate 4 255) ++ [0, 0]
  padTo 64 ([0x01, 0x0F, 0, 0, 7, 2, 0, 2, 8, 0] ++ natLE 2 32 ++ natLE 2 100 ++ [6, 4, 24, 160, 96, 32, 128, 6, 24, 96, 48, 64, 80, 48,
    112, 128] ++ natLE 2 32 ++ natLE 2 213 ++ [12, 0] ++ natLE 2 40 ++ natLE 2 (unsgn 16 (-170)))
  ++ List.replicate 64 0
  ++ zone 170 600 [50, 78, 0, 55] [72, 100, 62, 80]
  ++ zone 170 600 [78, 50, 0, 55] [100, 72, 62, 80]
  ++ zone 250 800 [0, 0, 78, 40] [62, 62, 100, 70]
  ++ List.replicate 768 0

/-- Its captured inputs: ranging with time of flight t and an outcome; LF vectors; field; strength; motion age and flag. -/
def doorFuse (out : Byte) (t : Nat) (vs : List Int) (rssi : Int) (mage : Nat) : Tbl (List Byte) :=
  let at16 (o : Nat) (v : Int) (bs : List Byte) := patch bs o (natLE 2 (unsgn 16 v))
  let up (bs : List Byte) := patch bs 12 [36, 0, 0, 0, 0xE2, 1]
  let token := patch (up (List.replicate 64 0)) 18 (natLE 2 mage)
  let token := patch token 29 [0x44]
  let token := patch token 40 (vs.map fun v => BitVec.ofNat 8 (unsgn 8 v))
  let rng := patch (padTo 64 [out]) 20 (natLE 4 t ++ [2, 0x1B])
  let rng := patch (patch rng 32 [88]) 37 [104]
  [(0, at16 34 12 rng), (1, token), (2, at16 8 3 (at16 10 (-2) (at16 12 1 (padTo 64 [0, 0x20])))), (3, at16 10 rssi (padTo 64 [0])),
   (4, token)]

/-- T0042 of the example: MLIMIT 300. -/
def t42 : Tenant := { tenant0 with mlimit := 300 }

/-- The first verdict of the worked example: word 0x06E40002. -/
theorem test_verdict_inside :
    (judgeBlock doorBlock 0 (doorFuse 0 352 [90, -40, 20, 12, 5, -9, -4, 3, 0, 20, -15, 0] (-157) 5) (some t42) 0).word = 0x06E40002 := by
  decide +kernel

/-- The same with the ranging disturbed: word 0x00860102, reason 5. -/
theorem test_verdict_disturbed :
    let v := judgeBlock doorBlock 0 (doorFuse 0x51 352 [90, -40, 20, 12, 5, -9, -4, 3, 0, 20, -15, 0] (-157) 5) (some t42) 0
    v.word = 0x00860102 ∧ v.reason = 5 := by decide +kernel

/-! ### Witnesses of events, registers and items -/

/-- States and operands that meet what the clauses of AirtimeEvents ask, one conjunct a clause. -/
theorem wit_AirtimeEvents :
    (∃ (l d : Nat) (c : AirClaim), Meets (fun u => u.air.claims.find? (fun e => e.landing == l) = some c ∧ (u.land l).wait = .airClaim d ∧ (u.land l).endReq = none ∧
      l < 192 ∧ u.air.eligible u.now c = true ∧ u.airUp c.mask = true ∧ u.airReady c.mask = true) ({ waiting (.airClaim 5) live0 with air := { chainUs := 100, minHoldUs := 500, claims := [⟨0, 2, 0, 100, 0⟩], grants := [] } }))
    ∧ (∃ (l : Nat) (g : Grant), Meets (fun u => u.air.grants = [g] ∧ g.landing = l ∧ g.suspended = false ∧ g.budgetEnd ≤ u.now) ({ live0 with air := { chainUs := 100, minHoldUs := 500, claims := [], grants := [grant0] } }))
    ∧ (∃ (l : Nat) (g : Grant), Meets (fun u => u.air.grants = [g] ∧ g.landing = l ∧ g.suspended = false ∧ g.budgetEnd ≤ u.now) ({ live0 with air := { chainUs := 100, minHoldUs := 500, claims := [], grants := [{ grant0 with exch := some exch0 }] } }))
    ∧ (∃ (l : Nat) (g : Grant), Meets (fun u => u.air.grants = [g] ∧ g.landing = l ∧ g.suspended = false ∧ g.prio ≠ 0 ∧ g.heldSince + g.minHoldUs * usT ≤ u.now ∧
      u.air.wantedAbove g.mask g.prio = true) ({ live0 with air := { chainUs := 100, minHoldUs := 500, claims := [⟨1, 2, 0, 100, 0⟩], grants := [grant0] } }))
    ∧ (∃ (l : Nat) (g : Grant), Meets (fun u => u.air.grants = [g] ∧ g.landing = l ∧ g.suspended = false ∧ g.prio ≠ 0 ∧ g.heldSince + g.minHoldUs * usT ≤ u.now ∧
      u.air.wantedAbove g.mask g.prio = true) ({ live0 with air := { chainUs := 100, minHoldUs := 500, claims := [⟨1, 2, 0, 100, 0⟩], grants := [{ grant0 with exch := some exch0 }] } }))
    ∧ (∃ (l r : Nat) (g : Grant) (e : Exchange), Meets (fun u => u.air.grants = [g] ∧ g.landing = l ∧ r < 4 ∧ g.mask = 2 ^ r ∧ g.exch = some e ∧ e.over u.now = true ∧ g.lapsing = false ∧
      u.now < g.budgetEnd) ({ live0 with air := { chainUs := 100, minHoldUs := 500, claims := [], grants := [{ grant0 with budgetUs := 200000, heldSince := 10 ^ 15 - 10 ^ 9, exch := some exch0 }] } }))
    ∧ (∃ (l r : Nat) (g : Grant) (e : Exchange), Meets (fun u => (fun u => u.air.grants = [g] ∧ g.landing = l ∧ r < 4 ∧ g.mask = 2 ^ r ∧ g.exch = some e ∧ e.over u.now = true ∧ g.lapsing = false ∧
      u.now < g.budgetEnd) u ∧ ((g.preempted || g.held u.now) = true ∧ u.air.wantedAbove g.mask g.prio = true)) ({ live0 with air := { chainUs := 100, minHoldUs := 500, claims := [⟨1, 2, 0, 100, 0⟩], grants := [{ grant0 with budgetUs := 200000, heldSince := 10 ^ 15 - 10 ^ 9, exch := some exch0, preempted := true }] } })) :=
  ⟨⟨0, 5, ⟨0, 2, 0, 100, 0⟩, by decide +kernel⟩,
   ⟨0, grant0, by decide +kernel⟩,
   ⟨0, { grant0 with exch := some exch0 }, by decide +kernel⟩,
   ⟨0, grant0, by decide +kernel⟩,
   ⟨0, { grant0 with exch := some exch0 }, by decide +kernel⟩,
   ⟨0, 1, { grant0 with budgetUs := 200000, heldSince := 10 ^ 15 - 10 ^ 9, exch := some exch0 }, exch0, by decide +kernel⟩,
   ⟨0, 1, { grant0 with budgetUs := 200000, heldSince := 10 ^ 15 - 10 ^ 9, exch := some exch0, preempted := true }, exch0, by decide +kernel⟩⟩

/-- States and operands that meet what the clauses of PipeEvents ask, one conjunct a clause. -/
theorem wit_PipeEvents :
    (∃ (p l : Nat), Meets (fun u => u.freePipe = some p ∧ (u.pipe p).agedTurn u.sched.aging = false ∧ u.pick false = some l) (waiting .none live0))
    ∧ (∃ (p l v : Nat), Meets (fun u => u.freePipe = none ∧ u.pick false = some l ∧ u.victim (u.land l).prio = some p ∧ (u.pipe p).serving = some v ∧ p < 8 ∧
      (u.pipe p).turnStart < (u.land l).readySince ∧ (u.pipe p).agedTurn u.sched.aging = false) ((List.range 8).foldl (fun s p => (serve p (p + 1) s).setLand (p + 1) { Landing.free with st := .busy, prio := 3 }) ((waiting .none live0).setLand 0 { ((waiting .none live0).land 0) with readySince := 1 })))
    ∧ (∃ (p l : Nat), Meets (fun u => (u.pipe p).serving = some l ∧ (u.pipe p).quantum ≤ (u.pipe p).turnSteps) (serve 0 0 (waiting .none live0))) :=
  ⟨⟨0, 0, by decide +kernel⟩,
   ⟨0, 0, 1, by decide +kernel⟩,
   ⟨0, 0, by decide +kernel⟩⟩

/-- States and operands that meet what the clauses of RunLimit ask, one conjunct a clause. -/
theorem wit_RunLimit :
    (∃ (l t0 : Nat) (i : Image), Meets (fun u => l < 192 ∧ (u.land l).startedAt = some t0 ∧ u.imageOf l = some i ∧ (u.land l).busy = true ∧
      t0 + i.hdr.runLimit * msT ≤ u.now ∧ (u.land l).endReq = none ∧ (u.land l).becomesUnusable = false ∧
      ∀ c, (u.land l).wait ≠ .ending c) ((onStep 0).setLand 0 { ((onStep 0).land 0) with wait := .none }) rankFault)
    ∧ (∃ (l t0 : Nat) (i : Image), Meets (fun u => l < 192 ∧ (u.land l).startedAt = some t0 ∧ u.imageOf l = some i ∧ (u.land l).busy = true ∧
      t0 + i.hdr.runLimit * msT ≤ u.now ∧ (u.land l).endReq = none ∧ (u.land l).becomesUnusable = false ∧
      ∀ c, (u.land l).wait ≠ .ending c) ((onStep 0).setLand 0 { ((onStep 0).land 0) with wait := (.field (job .lfrx 0)) }) rankFault) :=
  ⟨⟨0, 0, img (natLE 4 0), ⟨by decide +kernel, by decide +kernel, by decide +kernel, by decide +kernel, by decide +kernel, by decide +kernel, by decide +kernel, by decide +kernel, by decide +kernel, not_ending _ (by decide +kernel)⟩⟩,
   ⟨0, 0, img (natLE 4 0), ⟨by decide +kernel, by decide +kernel, by decide +kernel, by decide +kernel, by decide +kernel, by decide +kernel, by decide +kernel, by decide +kernel, by decide +kernel, not_ending _ (by decide +kernel)⟩⟩⟩

/-- States and operands that meet what the clauses of LandingEvents ask, one conjunct a clause (part 1). -/
theorem wit_LandingEvents_part1 :
    (∃ (l n : Nat), Meets (fun u => l < 192 ∧ n < 4 ∧ (u.land l).busy = true ∧ (vget (u.land l).lts n LTimer.idle).running = true ∧
      (vget (u.land l).lts n LTimer.idle).deadline ≤ u.now ∧ (u.land l).endReq = none) ((waiting .none live0).setLand 0 { ((waiting .none live0).land 0) with lts := (Vector.replicate 4 ⟨true, false, 10 ^ 15, 0⟩) }))
    ∧ (∃ (l n : Nat), Meets (fun u => (fun u => l < 192 ∧ n < 4 ∧ (u.land l).busy = true ∧ (vget (u.land l).lts n LTimer.idle).running = true ∧
      (vget (u.land l).lts n LTimer.idle).deadline ≤ u.now ∧ (u.land l).endReq = none) u ∧ (∃ sel d, (u.land l).wait = .ltWait sel d ∧ sel.testBit n = true ∧ d ≠ 0 ∧ d < 16)) ((waiting .none live0).setLand 0 { ((waiting (.ltWait 8 15) live0).land 0) with lts := (Vector.replicate 4 ⟨true, false, 10 ^ 15, 0⟩) }))
    ∧ (∃ l, Meets (fun u => l < 192 ∧ (u.land l).relok = true ∧ (u.land l).relokAt + 500 * msT ≤ u.now) (live0.setLand 191 { Landing.free with st := .busy, relok := true }))
    ∧ (∃ (l h : Nat), Meets (fun u => l < 192 ∧ (u.land l).st = .hold ∧ (u.land l).holdUntil = some h ∧ h ≤ u.now) (live0.setLand 191 { Landing.free with st := .hold, holdUntil := some (10 ^ 15) }))
    ∧ (∃ l, Meets (fun u => (fun u => l < 192 ∧ (u.land l).st = .scrub ∧ u.host.items.any (fun r => r.namesLanding l) = false) u ∧ ((u.land l).pending = none)) (live0.setLand 191 { Landing.free with st := .scrub, dataBase := 64, dataLen := 64 }))
    ∧ (∃ l, Meets (fun u => (fun u => l < 192 ∧ (u.land l).st = .scrub ∧ u.host.items.any (fun r => r.namesLanding l) = false) u ∧ ((u.land l).pending.isSome = true)) (live0.setLand 191 { Landing.free with st := .scrub, pending := some ⟨⟨0, 1⟩, 1, 0, none, 0, 0, 0, 0, false⟩ }))
    ∧ (∃ (l : Nat) (r : StartReq), Meets (fun u => l < 192 ∧ (u.land l).st = .claimed ∧ (u.land l).pending = some r ∧ u.domUp (l / 8) = true ∧ (u.land l).hallsBound = false ∧
      u.startWaits l r = false) (live0.setLand 191 { Landing.free with st := .claimed, pending := some ⟨⟨0, 1⟩, 1, 0, none, 0, 0, 0, 0, false⟩ }))
    ∧ (∃ (l n : Nat) (r : StartReq), Meets (fun u => (u.land l).st = .claimed ∧ (u.land l).pending = some r ∧ u.domUp (l / 8) = true ∧ r.tenant = some n ∧
      u.tenantTurn l n = false) (let s := live0.setLand 191 { Landing.free with st := .claimed, pending := some ⟨⟨0, 1⟩, 1, 0, some 5, 0, 0, 0, 0, false⟩ }
    { s with ten := { s.ten with turns := [⟨3, 5, []⟩] } })) :=
  ⟨⟨0, 3, by decide +kernel⟩,
   ⟨0, 3, ⟨by decide +kernel, by decide +kernel, by decide +kernel, ⟨8, 15, by decide +kernel⟩⟩⟩,
   ⟨191, by decide +kernel⟩,
   ⟨191, 10 ^ 15, by decide +kernel⟩,
   ⟨191, by decide +kernel⟩,
   ⟨191, by decide +kernel⟩,
   ⟨191, ⟨⟨0, 1⟩, 1, 0, none, 0, 0, 0, 0, false⟩, by decide +kernel⟩,
   ⟨191, 5, ⟨⟨0, 1⟩, 1, 0, some 5, 0, 0, 0, 0, false⟩, by decide +kernel⟩⟩

/-- States and operands that meet what the clauses of LandingEvents ask, one conjunct a clause (part 2). -/
theorem wit_LandingEvents_part2 :
    (∃ l, Meets (fun u => l < 192 ∧ (u.land l).wait = .banister ∧ u.banisterClear l = true ∧ (u.land l).endReq = none) (waiting .banister live0))
    ∧ (∃ (l : Nat) (c : Code), Meets (fun u => (u.land l).wait = .ending c ∧ u.banisterClear l = true) (waiting (.ending .ok) live0)) :=
  ⟨⟨0, by decide +kernel⟩,
   ⟨0, .ok, by decide +kernel⟩⟩

/-- States and operands that meet what the clauses of LfEvents ask, one conjunct a clause (part 1). -/
theorem wit_LfEvents_part1 :
    (∃ n, Meets (fun u => n < 8 ∧ u.lfDue.lf.coilEn.testBit n = true) ({ live0 with lf := { live0.lf with coilEn := 128 } }) rankFault)
    ∧ (∃ (n t0 : Nat) (r : LfRun), Meets (fun u => let f := u.lfDue.lf
      n < 8 ∧ f.run = some r ∧ r.start = some t0 ∧ f.drives n u.now = true ∧
      f.frameAt r t0 + f.halfCycles (f.coil n).boost + f.cycles 8 ≤ u.now) ({ live0 with lf := { live0.lf with coilEn := 128, run := some ({ lrun0 true (10 ^ 15 - 5 * msT - 200 * usT) with sel := 128 }) } }) rankFault)
    ∧ (∃ mv, Meets (fun u => mv < 5500 ∧ u.lf.vlfLow = false) (live0))
    ∧ (∃ mv, Meets (fun _ => 5800 < mv) (live0))
    ∧ (∃ temp, Meets (fun u => 155 < temp ∧ u.lf.overtemp = false) (live0))
    ∧ (∃ temp, Meets (fun _ => temp < 140) (live0))
    ∧ (∃ n, Holds (fun u => n < 8 ∧ (u.lfDue.lf.coil n).dump.isSome = true) ({ live0 with lf := { live0.lf with coils := vset live0.lf.coils 7 { Coil.reset with dump := some 0 } } }))
    ∧ (∃ n b, Holds (fun u => n < 8 ∧ (u.lfDue.lf.coil n).dump = some b ∧ b + 400 * usT ≤ u.now) ({ live0 with lf := { live0.lf with coils := vset live0.lf.coils 7 { Coil.reset with dump := some (10 ^ 15 - 400 * usT) } } })) :=
  ⟨⟨7, by decide +kernel⟩,
   ⟨7, 10 ^ 15 - 5 * msT - 200 * usT, { lrun0 true (10 ^ 15 - 5 * msT - 200 * usT) with sel := 128 }, by decide +kernel⟩,
   ⟨5499, by decide +kernel⟩,
   ⟨5801, by decide +kernel⟩,
   ⟨156, by decide +kernel⟩,
   ⟨139, by decide +kernel⟩,
   ⟨7, by decide +kernel⟩,
   ⟨7, 10 ^ 15 - 400 * usT, by decide +kernel⟩⟩

/-- States and operands that meet what the clauses of LfEvents ask, one conjunct a clause (part 2). -/
theorem wit_LfEvents_part2 :
    (∃ (noise us coherent t0 : Nat) (r : LfRun) (j : FieldJob), Meets (fun u => u.lf.run = some r ∧ u.inField r.land j ∧ j.kind = .lftx ∧ r.tx = true ∧ r.start = some t0 ∧ j.srcs = 0 ∧
      u.now < u.lf.preEnd t0 ∧ u.lf.noiseThr < noise ∧ u.lf.noiseMin ≤ us ∧ coherent ≤ u.lf.ffThr) (let s := waiting (.field (job .lftx (10 ^ 15))) live0
    { s with lf := { s.lf with run := some (lrun0 true (10 ^ 15)) } }))
    ∧ (∃ (noise us t0 : Nat) (r : LfRun) (j : FieldJob), Meets (fun u => u.lfDue.lf.run = some r ∧ u.inField r.land j ∧ r.tx = true ∧ r.start = some t0 ∧ u.lf.preEnd t0 ≤ u.now ∧
      u.lf.noiseThr < noise ∧ u.lf.noiseMin ≤ us ∧ u.now ≤ u.lfDue.lf.monitorEnd r j t0) (let s := waiting (.field (job .lftx 0)) live0
    { s with lf := { s.lf with run := some ({ lrun0 true (10 ^ 15 - 5 * msT) with sel := 128 }) } }))
    ∧ (∃ v : Word, (live0).frameOpen = true ∧ (live0).frameActs.wordOk 0x1000 v = true)
    ∧ (∃ v : Word, (live0).frameOpen = true ∧ (live0).frameActs.wordOk 0x1000 v = true)
    ∧ (∃ v : Word, (live0).frameOpen = true ∧ (live0).frameActs.wordOk 0x1024 v = true)
    ∧ (∃ v : Word, (live0).frameOpen = true ∧ (live0).frameActs.wordOk 0x1018 v = true) :=
  ⟨⟨10000, 10000, 0, 10 ^ 15, lrun0 true (10 ^ 15), job .lftx (10 ^ 15), by simp only [State.inField]; decide +kernel⟩,
   ⟨10000, 10000, 10 ^ 15 - 5 * msT, { lrun0 true (10 ^ 15 - 5 * msT) with sel := 128 }, job .lftx 0, by simp only [State.inField]; decide +kernel⟩,
   ⟨0x03E66666, by decide +kernel⟩,
   ⟨0x03E66667, by decide +kernel⟩,
   ⟨0x81, by decide +kernel⟩,
   ⟨0x01010101, by decide +kernel⟩⟩

/-- States and operands that meet what the clauses of FieldStepsEnd ask, one conjunct a clause (part 1). -/
theorem wit_FieldStepsEnd_part1 :
    (∃ (l t0 : Nat) (r : LfRun) (j : FieldJob), Meets (fun u => u.inField l j ∧ j.kind = .lftx ∧ u.lfDue.lf.run = some r ∧ r.land = l ∧ r.tx = true ∧ r.start = some t0 ∧
      u.lfDue.lf.lastBrake r (u.lfDue.lf.frameAt r t0) ≤ u.now) (let s := waiting (.field (job .lftx 0)) live0
    { s with lf := { s.lf with run := some (lrun0 true 0) } }))
    ∧ (∃ (l t0 : Nat) (r : LfRun) (j : FieldJob), Meets (fun u => u.inField l j ∧ j.kind = .lfrx ∧ r.start = some t0 ∧ r.tx = false ∧ u.lf.run = some r ∧ r.land = l ∧
      t0 + j.window * usT ≤ u.now) (let s := waiting (.field (job .lfrx 0)) live0
    { s with lf := { s.lf with run := some (lrun0 false 0) } }))
    ∧ (∃ (l : Nat) (r : NfcRun) (j : FieldJob) (c : Code) (rest : List Byte), Meets (fun u => u.inField l j ∧ (j.kind = .nfcx ∨ j.kind = .nfctree) ∧ j.fin = some (c, rest) ∧ u.nfc.run = some r ∧ r.land = l) (let s := waiting (.field ({ job .nfcx 0 with fin := some (.ok, []) })) live0
    { s with nfc := { s.nfc with run := some (nrun0) } }))
    ∧ (∃ (l : Nat) (r : NfcRun) (j : FieldJob) (c : Code) (rest : List Byte), Meets (fun u => u.inField l j ∧ (j.kind = .nfcx ∨ j.kind = .nfctree) ∧ j.fin = some (c, rest) ∧ u.nfc.run = some r ∧ r.land = l) (let s := waiting (.field ({ job .nfctree 0 with fin := some (.ok, []) })) live0
    { s with nfc := { s.nfc with run := some (nrun0) } }))
    ∧ (∃ (l : Nat) (r : UhfRun) (j : FieldJob) (c : Code) (rest : List Byte), Meets (fun u => u.inField l j ∧ j.kind = .uhfrx ∧ j.fin = some (c, rest) ∧ u.uhf.run = some r ∧ r.land = l ∧ r.calWait = false) (let s := waiting (.field ({ job .uhfrx 0 with fin := some (.ok, []) })) live0
    { s with uhf := { s.uhf with run := some (urun0) } }))
    ∧ (∃ (l t0 : Nat) (r : UhfRun) (j : FieldJob) (c : Code) (rest : List Byte), Meets (fun u => u.inField l j ∧ j.kind = .uhftx ∧ j.fin = some (c, rest) ∧ u.uhf.run = some r ∧ r.land = l ∧ r.calWait = false ∧
      r.txAt = some t0 ∧ t0 + r.air ≤ u.now) (let s := waiting (.field ({ job .uhftx 0 with fin := some (.ok, []) })) live0
    { s with uhf := { s.uhf with run := some ({ urun0 with txAt := some 0 }) } }))
    ∧ (∃ (l : Nat) (r : UwbRun) (j : FieldJob) (rest : List Byte), Meets (fun u => u.inField l j ∧ j.kind = .uwbpoll ∧ j.fin = some (.ok, rest) ∧ j.srcs = 0 ∧ u.uwbNow.uwb.run = some r ∧ r.land = l ∧
      (r.closed = true → r.readyAt ≤ u.now) ∧ r.withdrawn = false ∧ r.lost = false ∧ u.cirMoving l = false) (let s := waiting (.field ({ job .uwbpoll 0 with fin := some (.ok, []) })) live0
    { s with uwb := { s.uwb with run := some ({ wrun0 with txMark := some 0, window := some 0 }) } }))
    ∧ (∃ (l : Nat) (r : UwbRun) (j : FieldJob) (rest : List Byte), Meets (fun u => u.inField l j ∧ j.kind = .uwbpoll ∧ j.fin = some (.ok, rest) ∧ j.srcs = 0 ∧ u.uwbNow.uwb.run = some r ∧ r.land = l ∧
      (r.closed = true → r.readyAt ≤ u.now) ∧ r.withdrawn = false ∧ r.lost = false ∧ u.cirMoving l = false) (let s := waiting (.field ({ job .uwbpoll 0 with fin := some (.ok, []) })) live0
    { s with uwb := { s.uwb with run := some ({ wrun0 with txMark := some 0, window := some 0, disturbed := true }) } })) :=
  ⟨⟨0, 0, lrun0 true 0, job .lftx 0, by simp only [State.inField]; decide +kernel⟩,
   ⟨0, 0, lrun0 false 0, job .lfrx 0, by simp only [State.inField]; decide +kernel⟩,
   ⟨0, nrun0, { job .nfcx 0 with fin := some (.ok, []) }, .ok, [], by simp only [State.inField]; decide +kernel⟩,
   ⟨0, nrun0, { job .nfctree 0 with fin := some (.ok, []) }, .ok, [], by simp only [State.inField]; decide +kernel⟩,
   ⟨0, urun0, { job .uhfrx 0 with fin := some (.ok, []) }, .ok, [], by simp only [State.inField]; decide +kernel⟩,
   ⟨0, 0, { urun0 with txAt := some 0 }, { job .uhftx 0 with fin := some (.ok, []) }, .ok, [], by simp only [State.inField]; decide +kernel⟩,
   ⟨0, { wrun0 with txMark := some 0, window := some 0 }, { job .uwbpoll 0 with fin := some (.ok, []) }, [], by simp only [State.inField]; decide +kernel⟩,
   ⟨0, { wrun0 with txMark := some 0, window := some 0, disturbed := true }, { job .uwbpoll 0 with fin := some (.ok, []) }, [], by simp only [State.inField]; decide +kernel⟩⟩

/-- States and operands that meet what the clauses of FieldStepsEnd ask, one conjunct a clause (part 2). -/
theorem wit_FieldStepsEnd_part2 :
    (∃ (l : Nat) (r : UhfRun) (j : FieldJob), Meets (fun u => u.inField l j ∧ j.kind = .uhfrx ∧ j.fin = none ∧ u.uhf.run = some r ∧ r.land = l ∧ j.issued + j.window * usT ≤ u.now) (let s := waiting (.field (job .uhfrx 0)) live0
    { s with uhf := { s.uhf with run := some (urun0) } }))
    ∧ (∃ (l : Nat) (r : NfcRun) (j : FieldJob), Meets (fun u => u.inField l j ∧ j.kind = .nfcx ∧ j.fin = none ∧ u.nfc.run = some r ∧ r.land = l ∧ r.phase = .frame ∧
      r.opens + j.window * usT ≤ u.now) (let s := waiting (.field (job .nfcx 0)) live0
    { s with nfc := { s.nfc with run := some (nrun0) } }))
    ∧ (∃ (l : Nat) (r : NfcRun) (j : FieldJob), Meets (fun u => u.inField l j ∧ j.kind = .nfctree ∧ j.fin = none ∧ u.nfc.run = some r ∧ r.land = l ∧ r.phase = .frame ∧
      (j.issued + j.window * usT ≤ min u.now r.exchAt ∨ (j.issued + j.window * usT ≤ r.frameAt ∧ r.frameAt ≤ u.now))) (let s := waiting (.field (job .nfctree 0)) live0
    { s with nfc := { s.nfc with run := some ({ nrun0 with frameAt := 10 ^ 15 }) } }))
    ∧ (∃ (l w : Nat) (r : UwbRun) (j : FieldJob), Meets (fun u => u.inField l j ∧ j.kind = .uwbpoll ∧ j.fin = none ∧ j.srcs = 0 ∧ u.uwbNow.uwb.run = some r ∧ r.land = l ∧
      r.window = some w ∧ r.withdrawn = false ∧ r.lost = false ∧ u.cirMoving l = false ∧ w + j.window * usT ≤ u.now) (let s := waiting (.field (job .uwbpoll 0)) live0
    { s with uwb := { s.uwb with run := some ({ wrun0 with txMark := some 0, window := some 0 }) } })) :=
  ⟨⟨0, urun0, job .uhfrx 0, by simp only [State.inField]; decide +kernel⟩,
   ⟨0, nrun0, job .nfcx 0, by simp only [State.inField]; decide +kernel⟩,
   ⟨0, { nrun0 with frameAt := 10 ^ 15 }, job .nfctree 0, by simp only [State.inField]; decide +kernel⟩,
   ⟨0, 0, { wrun0 with txMark := some 0, window := some 0 }, job .uwbpoll 0, by simp only [State.inField]; decide +kernel⟩⟩

/-- States and operands that meet what the clauses of UwbFrames ask, one conjunct a clause. -/
theorem wit_UwbFrames :
    (∃ (tx : TxMeas) (m : Nat) (r : UwbRun) (j : FieldJob), Meets (fun u => u.uwbMoves.uwb.run = some r ∧ u.inField r.land j ∧ j.kind = .uwbpoll ∧ r.step = .uwbpoll ∧ j.fin = none ∧ r.window = none ∧
      r.txMark = some m ∧ m + r.chips * chipT + 512 * chipT ≤ u.now ∧ r.closed = false ∧ r.withdrawn = false ∧ u.uwb.coex = false ∧
      r.antenna = false ∧ r.meas = none ∧ (r.measured = true ∨ tx.matched = true)) (let s := waiting (.field (job .uwbpoll 0)) live0
    { s with uwb := { s.uwb with run := some ({ wrun0 with txMark := some 0 }) } }))
    ∧ (∃ (m : Nat) (r : UwbRun) (j : FieldJob), Meets (fun u => u.uwbMoves.uwb.run = some r ∧ u.inField r.land j ∧ j.kind = .uwbfinal ∧ r.txMark = some m ∧ r.meas = none ∧
      r.measured = false ∧ r.closed = false) (let s := waiting (.field (job .uwbfinal 0)) live0
    { s with uwb := { s.uwb with run := some ({ wrun0 with step := .uwbfinal, txMark := some 0 }) } }))
    ∧ (∃ (m : Nat) (r : UwbRun) (j : FieldJob), Meets (fun u => u.uwbMoves.uwb.run = some r ∧ u.inField r.land j ∧ j.kind = .uwbfinal ∧ r.txMark = some m ∧ r.meas = none ∧
      r.measured = false ∧ r.closed = false) (let s := waiting (.field (job .uwbfinal 0)) live0
    { s with uwb := { s.uwb with run := some ({ wrun0 with step := .uwbfinal, txMark := some 0, report := true }) } }))
    ∧ (∃ (m : Nat) (r : UwbRun) (j : FieldJob), Meets (fun u => u.uwbMoves.uwb.run = some r ∧ u.inField r.land j ∧ j.kind = .uwbresp ∧ r.txMark = some m ∧ r.meas = none ∧
      r.measured = false ∧ r.closed = false) (let s := waiting (.field (job .uwbresp 0)) live0
    { s with uwb := { s.uwb with run := some ({ wrun0 with step := .uwbresp, window := some 0, pollMark := some 0, txMark := some 0 }) } }))
    ∧ (∃ (rx : UwbRx) (w n : Nat) (r : UwbRun) (j : FieldJob), let ok (u : State) : Prop := let first := u.now - u.rng.frameChips rx.code rx.sp1 rx.psdu.length * chipT; let sfd := first + u.rng.sfdChips rx.code * chipT; u.uwbMoves.uwb.run = some r ∧ u.inField r.land j ∧ j.kind = .uwbpoll ∧ j.fin = none ∧ r.closed = false ∧ r.withdrawn = false ∧ r.kind = 0 ∧ r.sp1 = false ∧ rx.sp1 = false ∧ r.window = some w ∧ w ≤ first ∧ sfd ≤ w + j.window * usT ∧ r.searchFrom ≤ sfd ∧ uwbLane rx.code = some n ∧ r.lanes.testBit n = true ∧ u.uwbEligible rx ≠ 0 ∧ u.uwbBeaten r rx.code sfd rx.rivals = false ∧ rx.sfdOk = true ∧ rx.phrOk = true ∧ 3 ≤ rx.psdu.length ∧ rx.psdu.length ≤ 127;
  Meets (fun u => ok u ∧ uwbFcs (rx.psdu.take (rx.psdu.length - 2)) = rx.psdu.drop (rx.psdu.length - 2)) (let s := waiting (.field ({ job .uwbpoll 0 with window := 65535 })) live0
    { s with uwb := { s.uwb with run := some ({ wrun0 with txMark := some 0, window := some (10 ^ 15 - 400000 * chipT) }) } }))
    ∧ (∃ (rx : UwbRx) (w n : Nat) (r : UwbRun) (j : FieldJob), let ok (u : State) : Prop := let first := u.now - u.rng.frameChips rx.code rx.sp1 rx.psdu.length * chipT; let sfd := first + u.rng.sfdChips rx.code * chipT; u.uwbMoves.uwb.run = some r ∧ u.inField r.land j ∧ j.kind = .uwbpoll ∧ j.fin = none ∧ r.closed = false ∧ r.withdrawn = false ∧ r.kind = 0 ∧ r.sp1 = false ∧ rx.sp1 = false ∧ r.window = some w ∧ w ≤ first ∧ sfd ≤ w + j.window * usT ∧ r.searchFrom ≤ sfd ∧ uwbLane rx.code = some n ∧ r.lanes.testBit n = true ∧ u.uwbEligible rx ≠ 0 ∧ u.uwbBeaten r rx.code sfd rx.rivals = false ∧ rx.sfdOk = true ∧ rx.phrOk = true ∧ 3 ≤ rx.psdu.length ∧ rx.psdu.length ≤ 127;
  Meets (fun u => ok u ∧ uwbFcs (rx.psdu.take (rx.psdu.length - 2)) ≠ rx.psdu.drop (rx.psdu.length - 2)) (let s := waiting (.field ({ job .uwbpoll 0 with window := 65535 })) live0
    { s with uwb := { s.uwb with run := some ({ wrun0 with txMark := some 0, window := some (10 ^ 15 - 400000 * chipT) }) } }))
    ∧ (∃ (us clip from_ : Nat) (r : UwbRun) (j : FieldJob), Meets (fun u => u.uwbMoves.uwb.run = some r ∧ u.inField r.land j ∧ j.kind = .uwbpoll ∧ j.srcs = 0 ∧ r.txMark = none ∧ r.window = none ∧
      r.pollMark = none ∧ r.disturbed = false ∧ r.lost = false ∧ u.uwbMoves.uwbSample r j = some from_ ∧ from_ + us * usT ≤ u.now ∧
      clip &&& u.uwbPorts ≠ 0 ∧ 1 ≤ us ∧ u.cirMoving r.land = false) (let s := waiting (.field (job .uwbpoll 0)) live0
    { s with uwb := { s.uwb with run := some ({ wrun0 with readyAt := 10 ^ 15 - 2 * usT }) } })) :=
  ⟨⟨⟨0, 0, false, true⟩, 0, { wrun0 with txMark := some 0 }, job .uwbpoll 0, by simp only [State.inField]; decide +kernel⟩,
   ⟨0, { wrun0 with step := .uwbfinal, txMark := some 0 }, job .uwbfinal 0, by simp only [State.inField]; decide +kernel⟩,
   ⟨0, { wrun0 with step := .uwbfinal, txMark := some 0, report := true }, job .uwbfinal 0, by simp only [State.inField]; decide +kernel⟩,
   ⟨0, { wrun0 with step := .uwbresp, window := some 0, pollMark := some 0, txMark := some 0 }, job .uwbresp 0, by simp only [State.inField]; decide +kernel⟩,
   ⟨uwbRx0 (uwbFcs [1]), (10 ^ 15 - 400000 * chipT), 0, { wrun0 with txMark := some 0, window := some (10 ^ 15 - 400000 * chipT) }, { job .uwbpoll 0 with window := 65535 }, by simp only [State.inField]; decide +kernel⟩,
   ⟨uwbRx0 [0, 0], (10 ^ 15 - 400000 * chipT), 0, { wrun0 with txMark := some 0, window := some (10 ^ 15 - 400000 * chipT) }, { job .uwbpoll 0 with window := 65535 }, by simp only [State.inField]; decide +kernel⟩,
   ⟨1, 1, 10 ^ 15 - 2 * usT, { wrun0 with readyAt := 10 ^ 15 - 2 * usT }, job .uwbpoll 0, by simp only [State.inField]; decide +kernel⟩⟩

/-- States and operands that meet what the clauses of UwbUpkeep ask, one conjunct a clause (part 1). -/
theorem wit_UwbUpkeep_part1 :
    (Meets (fun u => u.domUp 29 = true ∧ u.uwb.cal = none ∧ u.uwb.run = none ∧
      ∀ g ∈ u.air.grants, g.mask.testBit 1 = true → g.exch = none) (live0))
    ∧ (∃ (r : UwbRun) (j : FieldJob), Meets (fun u => u.domUp 29 = true ∧ u.uwb.cal = none ∧ u.uwbClosing.uwb.run = some r ∧ u.inField r.land j ∧ j.srcs = 0) (let s := waiting (.field (job .uwbpoll 0)) live0
    { s with uwb := { s.uwb with run := some ({ wrun0 with txMark := some 0, measured := true }) } }))
    ∧ (∃ (ch t0 : Nat), Meets (fun u => u.uwb.cal = some (ch, t0) ∧ t0 + 80 * usT ≤ u.now ∧ u.uwb.run = none ∧ u.uwb.rising = false) ({ live0 with uwb := { live0.uwb with cal := some (5, 0), rising := false } }))
    ∧ (∃ (ch t0 : Nat), Meets (fun u => u.uwb.cal = some (ch, t0) ∧ t0 + 80 * usT ≤ u.now ∧ u.uwb.rising = true) ({ live0 with uwb := { live0.uwb with cal := some (5, 0), rising := true } }))
    ∧ (∃ (ch t0 : Nat), Meets (fun u => u.uwb.cal = some (ch, t0) ∧ t0 + 80 * usT ≤ u.now ∧ u.uwb.calFails = 0) ({ live0 with uwb := { live0.uwb with cal := some (5, 0) } }))
    ∧ (∃ k, Meets (fun u => k ≤ 6 ∧ u.uwb.mode = .ready ∧ u.uwb.run = none ∧ u.uwb.slice = none) ({ live0 with uwb := { live0.uwb with mode := .ready } }))
    ∧ (∃ k t0, Meets (fun u => k ≤ 6 ∧ u.uwb.mode = .ready ∧ u.uwb.run = none ∧ u.uwb.slice = some (k, t0) ∧ t0 + uwbSliceUs k * usT ≤ u.now) ({ live0 with uwb := { live0.uwb with mode := .ready, slice := some (6, 0) } }))
    ∧ (∃ k, Meets (fun u => k < 7 ∧ u.domUp 29 = true ∧ vget u.uwb.calAt k 0 + 2 * uwbAgeMs k * msT ≤ u.now ∧ u.uwbMoves.uwb.run = none) (live0)) :=
  ⟨(by decide +kernel),
   ⟨{ wrun0 with txMark := some 0, measured := true }, job .uwbpoll 0, by simp only [State.inField]; decide +kernel⟩,
   ⟨5, 0, by decide +kernel⟩,
   ⟨5, 0, by decide +kernel⟩,
   ⟨5, 0, by decide +kernel⟩,
   ⟨6, by decide +kernel⟩,
   ⟨6, 0, by decide +kernel⟩,
   ⟨6, by decide +kernel⟩⟩

/-- States and operands that meet what the clauses of UwbUpkeep ask, one conjunct a clause (part 2). -/
theorem wit_UwbUpkeep_part2 :
    (∃ (k : Nat) (r : UwbRun) (j : FieldJob), Meets (fun u => k < 6 ∧ u.domUp 29 = true ∧ vget u.uwb.calAt k 0 + 2 * uwbAgeMs k * msT ≤ u.now ∧ u.uwbMoves.uwb.run = some r ∧
      u.inField r.land j ∧ r.waits = true) (let s := waiting (.field (job .uwbpoll 0)) live0
    { s with uwb := { s.uwb with run := some ({ wrun0 with readyAt := 10 ^ 15 }) } }))
    ∧ (∃ (level : Bool) (r : UwbRun) (j : FieldJob), Meets (fun u => u.uwb.coexCfg.testBit 31 = true ∧ u.uwb.coexCfg.testBit 30 ≠ level ∧ u.uwb.run = some r ∧ u.inField r.land j ∧
      r.closed = false ∧ r.withdrawn = false ∧ r.coexWait = true) (let s := waiting (.field (job .uwbpoll 0)) live0
    { s with uwb := { s.uwb with run := some ({ wrun0 with coexWait := true }), coexCfg := 2 ^ 31 } }))
    ∧ (∃ (level : Bool) (r : UwbRun) (j : FieldJob), Meets (fun u => u.uwb.coexCfg.testBit 31 = true ∧ u.uwb.coexCfg.testBit 30 ≠ level ∧ u.uwb.run = some r ∧ u.inField r.land j ∧
      r.closed = false ∧ r.withdrawn = false ∧ r.coexWait = true) (let s := waiting (.field (job .uwbpoll 0)) live0
    { s with uwb := { s.uwb with run := some ({ wrun0 with coexWait := true }), coexCfg := 2 ^ 31 + 2 ^ 30 } }))
    ∧ (∃ (r : UwbRun) (j : FieldJob), Meets (fun u => u.uwb.run = some r ∧ u.inField r.land j ∧ j.srcs = 0 ∧ r.disturbed = false ∧ r.coexWait = true ∧ r.lost = false ∧
      u.cirMoving r.land = false ∧ r.coexSince + u.uwb.coexCfg % 16384 * usT ≤ u.now) (let s := waiting (.field (job .uwbpoll 0)) live0
    { s with uwb := { s.uwb with run := some ({ wrun0 with coexWait := true }) } }))
    ∧ (Meets (fun u => u.domUp 30 = true) (live0)) :=
  ⟨⟨5, { wrun0 with readyAt := 10 ^ 15 }, job .uwbpoll 0, by simp only [State.inField]; decide +kernel⟩,
   ⟨true, { wrun0 with coexWait := true }, job .uwbpoll 0, by simp only [State.inField]; decide +kernel⟩,
   ⟨false, { wrun0 with coexWait := true }, job .uwbpoll 0, by simp only [State.inField]; decide +kernel⟩,
   ⟨{ wrun0 with coexWait := true }, job .uwbpoll 0, by simp only [State.inField]; decide +kernel⟩,
   (by decide +kernel)⟩

/-- States and operands that meet what the clauses of UhfEvents ask, one conjunct a clause (part 1). -/
theorem wit_UhfEvents_part1 :
    (∃ (lane : Nat) (err : Int) (f : UhfSearch), Holds (fun u => u.uhfSearch = some f ∧ u.uhfDetects = true ∧ f.rates.testBit lane = true ∧ err.natAbs ≤ 120) (let s := waiting (.field ({ job .uhfrx 0 with issued := 10 ^ 15 })) live0
    { s with uhf := { s.uhf with run := some (urun0) } }))
    ∧ (∃ (lane : Nat) (err : Int) (f : UhfSearch), Holds (fun u => u.uhfSearch = some f ∧ u.uhfDetects = true ∧ f.rates.testBit lane = true ∧ err.natAbs ≤ 120) (let s := waiting (.field ({ job .uhfrx 0 with issued := 10 ^ 15 })) live0
    { s with uhf := { s.uhf with run := some (urun0) } }))
    ∧ (∃ (lane : Nat) (err : Int) (f : UhfSearch), Holds (fun u => u.uhfSearch = some f ∧ u.uhfDetects = true ∧ f.rates.testBit lane = true ∧ 120 < err.natAbs) (let s := waiting (.field ({ job .uhfrx 0 with issued := 10 ^ 15 })) live0
    { s with uhf := { s.uhf with run := some (urun0) } }))
    ∧ (∃ (lane : Nat) (f : UhfSearch), Holds (fun u => u.uhfSearch = some f ∧ (Tbl.find f.holds lane).isSome = true ∧ u.searchStays = true) (let s := waiting (.field ({ job .uhfrx 0 with issued := 10 ^ 15 })) live0
    { s with uhf := { s.uhf with run := some ({ urun0 with search := { urun0.search with holds := [(0, 0)] } }) } }))
    ∧ (∃ (rx : UhfRx) (at0 : Nat) (f : UhfSearch), let taken (u : State) : Prop := u.uhfSearch = some f ∧ f.rates.testBit rx.lane = true ∧ Tbl.find f.holds rx.lane = some at0 ∧ f.takes rx = true ∧ f.rejects = [] ∧ at0 ≤ u.now - rx.sync ∧ f.searchFrom ≤ u.now - rx.sync ∧ u.uhfBeaten f rx = false;
  ∃ (r : UhfRun) (j : FieldJob), Holds (fun u => taken u ∧ u.uhf.run = some r ∧ u.inField r.land j ∧ rx.err.natAbs ≤ 120 ∧ uhfPasses f.longest rx = true) (let s := waiting (.field ({ job .uhfrx 0 with issued := 10 ^ 15 })) live0
    { s with uhf := { s.uhf with run := some ({ urun0 with search := { urun0.search with holds := [(0, 0)] } }) } }))
    ∧ (∃ (rx : UhfRx) (at0 : Nat) (f : UhfSearch), let taken (u : State) : Prop := u.uhfSearch = some f ∧ f.rates.testBit rx.lane = true ∧ Tbl.find f.holds rx.lane = some at0 ∧ f.takes rx = true ∧ f.rejects = [] ∧ at0 ≤ u.now - rx.sync ∧ f.searchFrom ≤ u.now - rx.sync ∧ u.uhfBeaten f rx = false;
  ∃ (r : UhfRun) (j : FieldJob), Holds (fun u => taken u ∧ u.uhf.run = some r ∧ u.inField r.land j ∧ rx.err.natAbs ≤ 120 ∧ uhfPasses f.longest rx = false) (let s := waiting (.field ({ job .uhfrx 0 with issued := 10 ^ 15 })) live0
    { s with uhf := { s.uhf with run := some ({ urun0 with search := { urun0.search with holds := [(0, 0)] } }) } }))
    ∧ (∃ (rx : UhfRx) (at0 : Nat) (f : UhfSearch), let taken (u : State) : Prop := u.uhfSearch = some f ∧ f.rates.testBit rx.lane = true ∧ Tbl.find f.holds rx.lane = some at0 ∧ f.takes rx = true ∧ f.rejects = [] ∧ at0 ≤ u.now - rx.sync ∧ f.searchFrom ≤ u.now - rx.sync ∧ u.uhfBeaten f rx = false;
  Holds (fun u => taken u ∧ 120 < rx.err.natAbs ∧ u.searchStays = true) (let s := waiting (.field ({ job .uhfrx 0 with issued := 10 ^ 15 })) live0
    { s with uhf := { s.uhf with run := some ({ urun0 with search := { urun0.search with holds := [(0, 0)] } }) } }))
    ∧ (∃ (power : Int) (runUs : Nat) (r : UhfRun) (j : FieldJob), Meets (fun u => u.uhf.run = some r ∧ u.inField r.land j ∧ j.kind = .uhfrx ∧ j.fin = none ∧ r.calWait = false ∧ r.search.holds = [] ∧
      r.search.holdEnd = none ∧ u.uhf.distThr < power ∧ u.now < r.readyAt + u.uhf.preWin * 4 * usT ∧ u.uhf.distMin ≤ runUs ∧
      r.readyAt + runUs * usT ≤ u.now ∧ u.now ≤ j.issued + j.window * usT) (let s := waiting (.field ({ job .uhfrx 0 with issued := 10 ^ 15 })) live0
    { s with uhf := { s.uhf with run := some ({ urun0 with readyAt := 10 ^ 15 - 64 * usT }) } })) :=
  ⟨⟨4, 120, urun0.search, by decide +kernel⟩,
   ⟨4, -120, urun0.search, by decide +kernel⟩,
   ⟨0, -121, urun0.search, by decide +kernel⟩,
   ⟨0, { urun0.search with holds := [(0, 0)] }, by decide +kernel⟩,
   ⟨⟨0, 0, [], some 4800, 0, 1, [7], lfCrc [1, 7], 0, 0⟩, 0, { urun0.search with holds := [(0, 0)] }, { urun0 with search := { urun0.search with holds := [(0, 0)] } }, { job .uhfrx 0 with issued := 10 ^ 15 }, by simp only [State.inField]; decide +kernel⟩,
   ⟨⟨0, 0, [], some 6240, 0, 0, [], 0, 0, 0⟩, 0, { urun0.search with holds := [(0, 0)] }, { urun0 with search := { urun0.search with holds := [(0, 0)] } }, { job .uhfrx 0 with issued := 10 ^ 15 }, by simp only [State.inField]; decide +kernel⟩,
   ⟨⟨0, 0, [], some 3360, 121, 1, [7], lfCrc [1, 7], 0, 0⟩, 0, { urun0.search with holds := [(0, 0)] }, by decide +kernel⟩,
   ⟨0, 64, { urun0 with readyAt := 10 ^ 15 - 64 * usT }, { job .uhfrx 0 with issued := 10 ^ 15 }, by simp only [State.inField]; decide +kernel⟩⟩

/-- States and operands that meet what the clauses of UhfEvents ask, one conjunct a clause (part 2). -/
theorem wit_UhfEvents_part2 :
    (∃ (b t0 : Nat), Meets (fun u => u.uhf.cal = some (b, t0) ∧ t0 + 60 * usT ≤ u.now) ({ live0 with uhf := { live0.uhf with cal := some (1, 0) } }))
    ∧ (∃ (b t0 : Nat) (n : Sniff), Holds (fun u => u.uhf.cal = some (b, t0) ∧ t0 + 60 * usT ≤ u.now ∧ u.uhf.run = none ∧ u.uhf.sniff = some n) ({ live0 with uhf := { live0.uhf with cal := some (1, 0), sniff := some ⟨none, urun0.search, 0, 0x006403E8⟩ } }))
    ∧ (Holds (fun u => u.power.mode = .lobby ∧ u.power.waking = false ∧ u.uhf.sniffCfg.testBit 31 = true ∧ u.uhf.sniff = none ∧ u.dom 33 = .down ∧
      u.uhf.sniffAt + bits u.uhf.sniffTime 31 16 * msT ≤ u.now) ({ live0 with power := { live0.power with mode := .lobby, domains := vset live0.power.domains 33 .down }, uhf := { live0.uhf with sniffCfg := 2 ^ 31 } }))
    ∧ (∃ (n : Sniff) (t0 : Nat), let lobby (u : State) : Prop := u.power.mode = .lobby ∧ u.power.waking = false ∧ u.uhf.sniff = some n ∧ n.since = some t0;
  Holds (fun u => lobby u ∧ n.search.holds = [] ∧ t0 + n.listenT ≤ u.now) ({ live0 with power := { live0.power with mode := .lobby }, uhf := { live0.uhf with sniff := some ⟨some 0, urun0.search, 0, 0x006403E8⟩ } }))
    ∧ (∃ (n : Sniff) (t0 : Nat) (synced : Option (Nat × Nat)), let lobby (u : State) : Prop := u.power.mode = .lobby ∧ u.power.waking = false ∧ u.uhf.sniff = some n ∧ n.since = some t0;
  ∃ lane at0, Holds (fun u => lobby u ∧ n.search.holds = [(lane, at0)] ∧ synced = none ∧ at0 + n.syncT ≤ u.now) ({ live0 with power := { live0.power with mode := .lobby }, uhf := { live0.uhf with sniff := some ⟨some 0, { urun0.search with holds := [(0, 0)] }, 0, 0x006403E8⟩ } }))
    ∧ (∃ (n : Sniff) (t0 : Nat) (synced : Option (Nat × Nat)), let lobby (u : State) : Prop := u.power.mode = .lobby ∧ u.power.waking = false ∧ u.uhf.sniff = some n ∧ n.since = some t0;
  ∃ lane at0 k, Holds (fun u => lobby u ∧ n.search.holds = [(lane, at0)] ∧ synced = some (lane, k) ∧ u.now - k ≤ at0 + n.syncT) ({ live0 with power := { live0.power with mode := .lobby }, uhf := { live0.uhf with sniff := some ⟨some 0, { urun0.search with holds := [(0, 0)] }, 0, 0x006403E8⟩ } })) :=
  ⟨⟨1, 0, by decide +kernel⟩,
   ⟨1, 0, ⟨none, urun0.search, 0, 0x006403E8⟩, by decide +kernel⟩,
   (by decide +kernel),
   ⟨⟨some 0, urun0.search, 0, 0x006403E8⟩, 0, by decide +kernel⟩,
   ⟨⟨some 0, { urun0.search with holds := [(0, 0)] }, 0, 0x006403E8⟩, 0, none, 0, 0, by decide +kernel⟩,
   ⟨⟨some 0, { urun0.search with holds := [(0, 0)] }, 0, 0x006403E8⟩, 0, some (0, 10 ^ 15), 0, 0, 10 ^ 15, by decide +kernel⟩⟩

/-- States and operands that meet what the clauses of NfcEvents ask, one conjunct a clause. -/
theorem wit_NfcEvents :
    (∃ (strength : Nat) (r : NfcRun) (j : FieldJob), let ok (u : State) : Prop := u.nfc.run = some r ∧ u.inField r.land j ∧ r.phase = .listen ∧ r.since + bits u.nfc.cfg 15 8 * 10 * usT ≤ u.now;
  Meets (fun u => ok u ∧ strength ≤ u.nfc.cfg % 256) (let s := waiting (.field (job .nfcx 0)) live0
    { s with nfc := { s.nfc with run := some ({ nrun0 with phase := .listen }) } }))
    ∧ (∃ (strength : Nat) (r : NfcRun) (j : FieldJob), let ok (u : State) : Prop := u.nfc.run = some r ∧ u.inField r.land j ∧ r.phase = .listen ∧ r.since + bits u.nfc.cfg 15 8 * 10 * usT ≤ u.now;
  Meets (fun u => ok u ∧ u.nfc.cfg % 256 < strength) (let s := waiting (.field (job .nfcx 0)) live0
    { s with nfc := { s.nfc with run := some ({ nrun0 with phase := .listen }) } }))
    ∧ (∃ (r : NfcRun) (j : FieldJob), Meets (fun u => u.nfc.run = some r ∧ u.inField r.land j ∧ r.phase = .guard ∧ r.since + bits u.nfc.cfg 23 16 * 100 * usT ≤ u.now) (let s := waiting (.field (job .nfcx 0)) live0
    { s with nfc := { s.nfc with run := some ({ nrun0 with phase := .guard }) } }))
    ∧ (∃ (rx : NfcRx) (r : NfcRun) (j : FieldJob), let ok (u : State) : Prop := u.nfc.run = some r ∧ u.inField r.land j ∧ r.phase = .frame ∧ j.kind = .nfcx ∧ j.fin = none ∧ rx.answered = true ∧ r.opens + rx.took ≤ u.now;
  Meets (fun u => ok u ∧ u.now ≤ r.opens + j.window * usT + rx.took) (let s := waiting (.field (job .nfcx 0)) live0
    { s with nfc := { s.nfc with run := some ({ nrun0 with opens := 10 ^ 15 }) } }))
    ∧ (∃ (rx : NfcRx) (r : NfcRun) (j : FieldJob), let ok (u : State) : Prop := u.nfc.run = some r ∧ u.inField r.land j ∧ r.phase = .frame ∧ j.kind = .nfcx ∧ j.fin = none ∧ rx.answered = true ∧ r.opens + rx.took ≤ u.now;
  Meets (fun u => ok u ∧ r.opens + j.window * usT + rx.took < u.now) (let s := waiting (.field (job .nfcx 0)) live0
    { s with nfc := { s.nfc with run := some (nrun0) } }))
    ∧ (∃ (rise us : Nat) (r : NfcRun) (j : FieldJob), Meets (fun u => u.nfc.run = some r ∧ u.inField r.land j ∧ u.nfcHeard r j us = true ∧ bits u.nfc.noiseCfg 15 8 ≤ rise ∧
      u.nfc.noiseCfg % 256 ≤ us) (let s := waiting (.field ({ job .nfcx 0 with window := 65535 })) live0
    { s with nfc := { s.nfc with run := some ({ nrun0 with opens := 10 ^ 15 - 300 * usT }) } })) :=
  ⟨⟨live0.nfc.cfg % 256, { nrun0 with phase := .listen }, job .nfcx 0, by simp only [State.inField]; decide +kernel⟩,
   ⟨live0.nfc.cfg % 256 + 1, { nrun0 with phase := .listen }, job .nfcx 0, by simp only [State.inField]; decide +kernel⟩,
   ⟨{ nrun0 with phase := .guard }, job .nfcx 0, by simp only [State.inField]; decide +kernel⟩,
   ⟨⟨true, [], [], true, 0⟩, { nrun0 with opens := 10 ^ 15 }, job .nfcx 0, by simp only [State.inField]; decide +kernel⟩,
   ⟨⟨true, [], [], true, 0⟩, nrun0, job .nfcx 0, by simp only [State.inField]; decide +kernel⟩,
   ⟨255, 255, { nrun0 with opens := 10 ^ 15 - 300 * usT }, { job .nfcx 0 with window := 65535 }, by simp only [State.inField]; decide +kernel⟩⟩

/-- States and operands that meet what the clauses of CompletionPosted ask, one conjunct a clause. -/
theorem wit_CompletionPosted : Starts (isCode 0x00) (fun _ r => [(r.reservedBad [], .badField)]) (bound0) (item 0x00 []) :=
  by decide +kernel

/-- States and operands that meet what the clauses of FlightItems ask, one conjunct a clause (part 1). -/
theorem wit_FlightItems_part1 :
    (Starts (isCode 0x10) (fun u r => [(r.reservedBad [(12, 2), (14, 1), (16, 4), (20, 2), (22, 1)] || decide (7 < r.p8 14) || decide (1 < r.p8 22), .badField),
      (decide (0x7F < r.p16 12), .badRef), (decide (r.p32 16 % 4 ≠ 0 ∨ r.p16 20 % 4 ≠ 0), .badAlign),
      (decide (r.p16 20 < 4 ∨ 2048 < r.p16 20), .badLength), (u.pageTaken r, .stateRefused), (u.slotBusy (r.p16 12), .stateRefused),
      (decide (r.p32 16 ≠ 0 ∧ r.p32 16 ≠ (u.heldBytes (r.p16 12)).length), .badRef)]) (bound0) (item 0x10 [0, 0, 7, 0, 0, 0, 0, 0, 4, 0]) ∧ (fun (u : State) (r : ItemRec) => u.loadedArea + r.p16 20 ≤ 65536) ((offer (bound0) (item 0x10 [0, 0, 7, 0, 0, 0, 0, 0, 4, 0])).startItem (item 0x10 [0, 0, 7, 0, 0, 0, 0, 0, 4, 0]).key) (item 0x10 [0, 0, 7, 0, 0, 0, 0, 0, 4, 0]))
    ∧ (Starts (isCode 0x10) (fun u r => [(r.reservedBad [(12, 2), (14, 1), (16, 4), (20, 2), (22, 1)] || decide (7 < r.p8 14) || decide (1 < r.p8 22), .badField),
      (decide (0x7F < r.p16 12), .badRef), (decide (r.p32 16 % 4 ≠ 0 ∨ r.p16 20 % 4 ≠ 0), .badAlign),
      (decide (r.p16 20 < 4 ∨ 2048 < r.p16 20), .badLength), (u.pageTaken r, .stateRefused), (u.slotBusy (r.p16 12), .stateRefused),
      (decide (r.p32 16 ≠ 0 ∧ r.p32 16 ≠ (u.heldBytes (r.p16 12)).length), .badRef)]) ({ bound0 with halls := { bound0.halls with held := [(1, List.replicate 65536 0)] } }) (item 0x10 [0, 0, 7, 0, 0, 0, 0, 0, 4, 0]) ∧ (fun (u : State) (r : ItemRec) => 65536 < u.loadedArea + r.p16 20) ((offer ({ bound0 with halls := { bound0.halls with held := [(1, List.replicate 65536 0)] } }) (item 0x10 [0, 0, 7, 0, 0, 0, 0, 0, 4, 0])).startItem (item 0x10 [0, 0, 7, 0, 0, 0, 0, 0, 4, 0]).key) (item 0x10 [0, 0, 7, 0, 0, 0, 0, 0, 4, 0]))
    ∧ (Starts (isCode 0x11) (fun _ r => [(r.reservedBad [(12, 5), (18, 14)] || decide (3 < r.p8 16), .badField),
      (decide (0xFF < r.p16 12 ∨ (0xBF < r.p16 14 ∧ r.p16 14 ≠ 0xFFFF) ∨ (0x3FF < r.p16 18 ∧ r.p16 18 ≠ 0xFFFF)), .badRef)]) (waiting .none bound0) (item 0x11 [1, 0, 0, 0, 3, 0, 255, 255, 0, 0, 0, 0, 0, 0, 0, 0, 0, 0, 0, 0]) ∧ (fun (u : State) (r : ItemRec) => u.claimCheck (r.p16 14) ≠ .ok) ((offer (waiting .none bound0) (item 0x11 [1, 0, 0, 0, 3, 0, 255, 255, 0, 0, 0, 0, 0, 0, 0, 0, 0, 0, 0, 0])).startItem (item 0x11 [1, 0, 0, 0, 3, 0, 255, 255, 0, 0, 0, 0, 0, 0, 0, 0, 0, 0, 0, 0]).key) (item 0x11 [1, 0, 0, 0, 3, 0, 255, 255, 0, 0, 0, 0, 0, 0, 0, 0, 0, 0, 0, 0]))
    ∧ (Starts (isCode 0x11) (fun _ r => [(r.reservedBad [(12, 5), (18, 14)] || decide (3 < r.p8 16), .badField),
      (decide (0xFF < r.p16 12 ∨ (0xBF < r.p16 14 ∧ r.p16 14 ≠ 0xFFFF) ∨ (0x3FF < r.p16 18 ∧ r.p16 18 ≠ 0xFFFF)), .badRef)]) (bound0) (item 0x11 [1, 0, 191, 0, 3, 0, 255, 255, 0, 0, 0, 0, 0, 0, 0, 0, 0, 0, 0, 0]) ∧ (fun (u : State) (r : ItemRec) => u.claimCheck (r.p16 14) = .ok) ((offer (bound0) (item 0x11 [1, 0, 191, 0, 3, 0, 255, 255, 0, 0, 0, 0, 0, 0, 0, 0, 0, 0, 0, 0])).startItem (item 0x11 [1, 0, 191, 0, 3, 0, 255, 255, 0, 0, 0, 0, 0, 0, 0, 0, 0, 0, 0, 0]).key) (item 0x11 [1, 0, 191, 0, 3, 0, 255, 255, 0, 0, 0, 0, 0, 0, 0, 0, 0, 0, 0, 0]))
    ∧ (Starts (isCode 0x11) (fun _ r => [(r.reservedBad [(12, 5), (18, 14)] || decide (3 < r.p8 16), .badField),
      (decide (0xFF < r.p16 12 ∨ (0xBF < r.p16 14 ∧ r.p16 14 ≠ 0xFFFF) ∨ (0x3FF < r.p16 18 ∧ r.p16 18 ≠ 0xFFFF)), .badRef)]) ({ bound0 with landings := Vector.replicate 192 { Landing.free with st := .busy } }) (item 0x11 [1, 0, 255, 255, 3, 0, 255, 255, 0, 0, 0, 0, 0, 0, 0, 0, 0, 0, 0, 0]) ∧ (fun (u : State) (_r : ItemRec) => u.noPipe = false ∧ u.anyFree = none) ((offer ({ bound0 with landings := Vector.replicate 192 { Landing.free with st := .busy } }) (item 0x11 [1, 0, 255, 255, 3, 0, 255, 255, 0, 0, 0, 0, 0, 0, 0, 0, 0, 0, 0, 0])).startItem (item 0x11 [1, 0, 255, 255, 3, 0, 255, 255, 0, 0, 0, 0, 0, 0, 0, 0, 0, 0, 0, 0]).key) (item 0x11 [1, 0, 255, 255, 3, 0, 255, 255, 0, 0, 0, 0, 0, 0, 0, 0, 0, 0, 0, 0]))
    ∧ (Starts (isCode 0x11) (fun _ r => [(r.reservedBad [(12, 5), (18, 14)] || decide (3 < r.p8 16), .badField),
      (decide (0xFF < r.p16 12 ∨ (0xBF < r.p16 14 ∧ r.p16 14 ≠ 0xFFFF) ∨ (0x3FF < r.p16 18 ∧ r.p16 18 ≠ 0xFFFF)), .badRef)]) (bound0) (item 0x11 [1, 0, 255, 255, 3, 0, 255, 255, 0, 0, 0, 0, 0, 0, 0, 0, 0, 0, 0, 0]) ∧ (fun (u : State) (_r : ItemRec) => u.noPipe = false ∧ u.anyFree = some 0) ((offer (bound0) (item 0x11 [1, 0, 255, 255, 3, 0, 255, 255, 0, 0, 0, 0, 0, 0, 0, 0, 0, 0, 0, 0])).startItem (item 0x11 [1, 0, 255, 255, 3, 0, 255, 255, 0, 0, 0, 0, 0, 0, 0, 0, 0, 0, 0, 0]).key) (item 0x11 [1, 0, 255, 255, 3, 0, 255, 255, 0, 0, 0, 0, 0, 0, 0, 0, 0, 0, 0, 0]))
    ∧ (Starts (isCode 0x12) (fun _ r => [(r.reservedBad [(12, 2)], .badField), (decide (0xBF < r.p16 12), .badRef)]) (bound0) (item 0x12 [191, 0]) ∧ (fun (u : State) (_r : ItemRec) => (u.land 191).st = .free) ((offer (bound0) (item 0x12 [191, 0])).startItem (item 0x12 [191, 0]).key) (item 0x12 [191, 0]))
    ∧ (Starts (isCode 0x12) (fun _ r => [(r.reservedBad [(12, 2)], .badField), (decide (0xBF < r.p16 12), .badRef)]) (bound0.setLand 191 { Landing.free with st := .hold }) (item 0x12 [191, 0])) :=
  ⟨(by decide +kernel),
   (by decide +kernel),
   (by decide +kernel),
   (by decide +kernel),
   (by decide +kernel),
   (by decide +kernel),
   (by decide +kernel),
   (by decide +kernel)⟩

/-- States and operands that meet what the clauses of FlightItems ask, one conjunct a clause (part 2). -/
theorem wit_FlightItems_part2 :
    (Starts (isCode 0x12) (fun _ r => [(r.reservedBad [(12, 2)], .badField), (decide (0xBF < r.p16 12), .badRef)]) (bound0.setLand 191 { Landing.free with st := .scrub }) (item 0x12 [191, 0]))
    ∧ (Starts (isCode 0x12) (fun _ r => [(r.reservedBad [(12, 2)], .badField), (decide (0xBF < r.p16 12), .badRef)]) (bound0.setLand 191 { Landing.free with st := .claimed, pending := some ⟨⟨0, 1⟩, 1, 0, none, 0, 0, 0, 0, false⟩ }) (item 0x12 [191, 0]))
    ∧ (Starts (isCode 0x12) (fun _ r => [(r.reservedBad [(12, 2)], .badField), (decide (0xBF < r.p16 12), .badRef)]) (bound0.setLand 191 { Landing.free with st := .busy }) (item 0x12 [191, 0]) ∧ (fun (u : State) (_r : ItemRec) => (u.land 191).wait = .none ∧ (u.land 191).becomesUnusable = false) ((offer (bound0.setLand 191 { Landing.free with st := .busy }) (item 0x12 [191, 0])).startItem (item 0x12 [191, 0]).key) (item 0x12 [191, 0]))
    ∧ (Starts (isCode 0x13) (fun u r => [(r.reservedBad [(12, 3), (16, 4)] || decide (7 < r.p8 14), .badField), (decide (0xBF < r.p16 12), .badRef),
      (decide (r.p16 18 < 1 ∨ 2048 < r.p16 18 ∨ 2048 < r.p16 16 + r.p16 18), .badLength), (u.pageTaken r, .stateRefused),
      (!(u.land (r.p16 12)).hasHalls, .badRef)]) (waiting .none bound0) (item 0x13 [0, 0, 7, 0, 0, 0, 0, 8]))
    ∧ (let checks (perm : Nat) (u : State) (r : ItemRec) : List (Bool × Code) := [(r.reservedBad [(12, 4), (16, 6)] || decide (3 < r.p8 14) || decide (7 < r.p8 15), .badField), (decide (0xBF < r.p16 12), .badRef), (decide (r.p16 20 < 1 ∨ 2048 < r.p16 20), .badLength), (u.pageTaken r, .stateRefused), (!(u.land (r.p16 12)).hasHalls, .badRef), (decide (u.hallLimit (r.p16 12) (r.p8 14) < r.p32 16 + r.p16 20), .badLength), (!(u.hallPerm (r.p16 12) (r.p8 14)).testBit perm, .stateRefused)];
  Starts (isCode 0x14) (checks permHr) (waiting .none bound0) (item 0x14 [0, 0, 1, 7, 0, 0, 0, 0, 64, 0]))
    ∧ (let checks (perm : Nat) (u : State) (r : ItemRec) : List (Bool × Code) := [(r.reservedBad [(12, 4), (16, 6)] || decide (3 < r.p8 14) || decide (7 < r.p8 15), .badField), (decide (0xBF < r.p16 12), .badRef), (decide (r.p16 20 < 1 ∨ 2048 < r.p16 20), .badLength), (u.pageTaken r, .stateRefused), (!(u.land (r.p16 12)).hasHalls, .badRef), (decide (u.hallLimit (r.p16 12) (r.p8 14) < r.p32 16 + r.p16 20), .badLength), (!(u.hallPerm (r.p16 12) (r.p8 14)).testBit perm, .stateRefused)];
  Starts (isCode 0x15) (checks permHw) (waiting .none { bound0 with halls := { bound0.halls with permData := 63 } }) (item 0x15 [0, 0, 1, 7, 63, 0, 0, 0, 1, 0]))
    ∧ (Starts (isCode 0x53) (fun u r => [(r.reservedBad [(12, 4)] || decide (7 < r.p8 14) || decide (1 < r.p8 15), .badField), (decide (0xFF < r.p16 12), .badRef),
      (u.pageTaken r, .stateRefused), (!u.evd.filled.contains (r.p16 12), .badRef),
      (r.p8 15 == 1 && (Tbl.find u.evd.captures (r.p16 12)).isNone, .badRef)]) ({ bound0 with evd := { bound0.evd with recs := [(255, [])], captures := [(255, [255])] } }) (item 0x53 [255, 0, 7, 1]))
    ∧ (Starts (isCode 0x23) (fun u r => [(r.reservedBad [(12, 3)] || decide (7 < r.p8 14), .badField), (decide (0x3FF < r.p16 12), .badRef),
      (u.pageTaken r, .stateRefused)]) (bound0) (item 0x23 [255, 3, 7])) :=
  ⟨(by decide +kernel),
   (by decide +kernel),
   (by decide +kernel),
   (by decide +kernel),
   (by decide +kernel),
   (by decide +kernel),
   (by decide +kernel),
   (by decide +kernel)⟩

/-- States and operands that meet what the clauses of KeyTenantItems ask, one conjunct a clause. -/
theorem wit_KeyTenantItems :
    (Starts (isCode 0x20) (fun u r => [(decide (0x3FF < r.p16 12 ∨ (0xBF < r.p16 16 ∧ r.p16 16 ≠ 0xFFFF)), .badRef),
      (r.reservedBad [(12, 7), (20, 2)] || decide (7 < r.p8 18) || decide (3 < r.p8 14) || decide (1 < r.p8 15), .badField),
      (decide (r.p16 20 ≠ 192), .badLength), (u.pageTaken r, .stateRefused), (u.ten.learnEnd.isSome, .lockedOut),
      ((u.tenant (r.p16 12)).any (fun x => !(x.st == 3 && u.life.st == .service)), .badRef)]) ({ live0 with life := { live0.life with st := .provisioned } }) (item 0x20 [255, 3, 3, 1, 255, 255, 7, 0, 192, 0]))
    ∧ (Starts (isCode 0x21) (fun u r => [(r.reservedBad [(12, 3)] || decide (1 < r.p8 14), .badField), (decide (0x3FF < r.p16 12), .badRef),
      ((u.tenant (r.p16 12)).all (fun x => x.st == 3), .badRef), (u.tenantInUse (r.p16 12), .stateRefused)]) ({ bound0 with ten := { bound0.ten with recs := [(1023, tenant0)] } }) (item 0x21 [255, 3, 0]) ∧ (fun (u : State) (r : ItemRec) => ∃ x, u.tenant (r.p16 12) = some x ∧ x.st ≠ 2) ((offer ({ bound0 with ten := { bound0.ten with recs := [(1023, tenant0)] } }) (item 0x21 [255, 3, 0])).startItem (item 0x21 [255, 3, 0]).key) (item 0x21 [255, 3, 0]))
    ∧ (Starts (isCode 0x21) (fun u r => [(r.reservedBad [(12, 3)] || decide (1 < r.p8 14), .badField), (decide (0x3FF < r.p16 12), .badRef),
      ((u.tenant (r.p16 12)).all (fun x => x.st == 3), .badRef), (u.tenantInUse (r.p16 12), .stateRefused)]) ({ bound0 with ten := { bound0.ten with recs := [(1023, tenant0)] } }) (item 0x21 [255, 3, 1]) ∧ (fun (u : State) (r : ItemRec) => ∃ x, u.tenant (r.p16 12) = some x ∧ x.st = 1) ((offer ({ bound0 with ten := { bound0.ten with recs := [(1023, tenant0)] } }) (item 0x21 [255, 3, 1])).startItem (item 0x21 [255, 3, 1]).key) (item 0x21 [255, 3, 1]))
    ∧ (Starts (isCode 0x22) (fun u r => [(r.reservedBad [(12, 2)], .badField), (decide (0x3FF < r.p16 12), .badRef),
      ((u.tenant (r.p16 12)).all (fun x => x.st == 3), .badRef), (u.tenantInUse (r.p16 12), .stateRefused)]) ({ service0 with ten := { service0.ten with recs := [(1023, tenant0)] } }) (item 0x22 [255, 3]))
    ∧ (Starts (isCode 0x30) (fun u r => [(u.pageTaken r, .stateRefused), (r.reservedBad [(12, 1), (14, 2)] || decide (7 < r.p8 12), .badField),
      (decide (r.p16 14 ≠ 0x110), .badLength), (u.sec.root.isNone, .entropyUnavailable)]) ({ bound0 with sec := { bound0.sec with root := some [] } }) (item 0x30 [7, 0, 16, 1])) :=
  ⟨(by decide +kernel),
   ⟨by decide +kernel, ⟨tenant0, by decide +kernel⟩⟩,
   ⟨by decide +kernel, ⟨tenant0, by decide +kernel⟩⟩,
   (by decide +kernel),
   (by decide +kernel)⟩

/-- States and operands that meet what the clauses of LifeUpdateItems ask, one conjunct a clause (part 1). -/
theorem wit_LifeUpdateItems_part1 :
    (Starts (isCode 0x31) (fun u r => [(u.pageTaken r, .stateRefused), (r.reservedBad [(12, 4)] || decide (7 < r.p8 13) || decide (5 < r.p8 12), .badField),
      (!(r.p16 14 == 128 || r.p16 14 == 384 || (r.p16 14 == 0 && u.life.st == .service && r.p8 12 == 2)), .badLength)]) (bound0) (item 0x31 [5, 7, 128, 0]))
    ∧ (Starts (isCode 0x31) (fun u r => [(u.pageTaken r, .stateRefused), (r.reservedBad [(12, 4)] || decide (7 < r.p8 13) || decide (5 < r.p8 12), .badField),
      (!(r.p16 14 == 128 || r.p16 14 == 384 || (r.p16 14 == 0 && u.life.st == .service && r.p8 12 == 2)), .badLength)]) (bound0) (item 0x31 [5, 7, 128, 1]))
    ∧ (Starts (isCode 0x31) (fun u r => [(u.pageTaken r, .stateRefused), (r.reservedBad [(12, 4)] || decide (7 < r.p8 13) || decide (5 < r.p8 12), .badField),
      (!(r.p16 14 == 128 || r.p16 14 == 384 || (r.p16 14 == 0 && u.life.st == .service && r.p8 12 == 2)), .badLength)]) (service0) (item 0x31 [2, 0, 0, 0]))
    ∧ (Starts (isCode 0x40) (fun u r => [(u.life.inTrial, .stateRefused), (u.pageTaken r, .stateRefused),
      (r.reservedBad [(12, 8)] || decide (1 < r.p8 12) || decide (7 < r.p8 13), .badField), (decide (r.p16 14 ≠ 256), .badLength)]) (bound0) (item 0x40 [0, 7, 0, 1]))
    ∧ (Starts (isCode 0x40) (fun u r => [(u.life.inTrial, .stateRefused), (u.pageTaken r, .stateRefused),
      (r.reservedBad [(12, 8)] || decide (1 < r.p8 12) || decide (7 < r.p8 13), .badField), (decide (r.p16 14 ≠ 256), .badLength)]) (bound0) (item 0x40 [1, 7, 0, 1]))
    ∧ (Starts (isCode 0x41) (fun u r =>
      let n := u.life.openBank.elim 0 fun b => (u.life.bank b).ilen
      [(u.life.openBank.isNone, .stateRefused), (r.reservedBad [(12, 1), (14, 6)] || decide (7 < r.p8 12), .badField),
       (decide (r.p16 14 < 1 ∨ 2048 < r.p16 14), .badLength), (u.pageTaken r, .stateRefused), (decide (r.p32 16 ≠ u.life.held), .badRef),
       (decide (n < r.p32 16 + r.p16 14 ∨ (r.p16 14 % 16 ≠ 0 ∧ r.p32 16 + r.p16 14 ≠ n)), .badLength)]) ({ bound0 with life := { bound0.life with banks := vset bound0.life.banks 1 (Bank.mk .downloading (manifest 16) Mem.empty false), openTarget := some 0, erasedTo := 0 } }) (item 0x41 [7, 0, 16, 0, 0, 0, 0, 0]))
    ∧ (Starts (isCode 0x41) (fun u r =>
      let n := u.life.openBank.elim 0 fun b => (u.life.bank b).ilen
      [(u.life.openBank.isNone, .stateRefused), (r.reservedBad [(12, 1), (14, 6)] || decide (7 < r.p8 12), .badField),
       (decide (r.p16 14 < 1 ∨ 2048 < r.p16 14), .badLength), (u.pageTaken r, .stateRefused), (decide (r.p32 16 ≠ u.life.held), .badRef),
       (decide (n < r.p32 16 + r.p16 14 ∨ (r.p16 14 % 16 ≠ 0 ∧ r.p32 16 + r.p16 14 ≠ n)), .badLength)]) ({ bound0 with life := { bound0.life with banks := vset bound0.life.banks 1 (Bank.mk .downloading (manifest 16) Mem.empty false), openTarget := some 0, erasedTo := 1 } }) (item 0x41 [7, 0, 16, 0, 0, 0, 0, 0]))
    ∧ (Starts (isCode 0x42) (fun u r => [(r.reservedBad [], .badField), (u.life.openBank.isNone, .stateRefused)]) ({ bound0 with life := { bound0.life with banks := vset bound0.life.banks 1 (Bank.mk .downloading (manifest 16) Mem.empty false), openTarget := some 0, bytes := 0 } }) (item 0x42 []) ∧ (fun (u : State) (_r : ItemRec) => u.life.openBank = some 1) ((offer ({ bound0 with life := { bound0.life with banks := vset bound0.life.banks 1 (Bank.mk .downloading (manifest 16) Mem.empty false), openTarget := some 0, bytes := 0 } }) (item 0x42 [])).startItem (item 0x42 []).key) (item 0x42 [])) :=
  ⟨(by decide +kernel),
   (by decide +kernel),
   (by decide +kernel),
   (by decide +kernel),
   (by decide +kernel),
   (by decide +kernel),
   (by decide +kernel),
   (by decide +kernel)⟩

/-- States and operands that meet what the clauses of LifeUpdateItems ask, one conjunct a clause (part 2). -/
theorem wit_LifeUpdateItems_part2 :
    (Starts (isCode 0x42) (fun u r => [(r.reservedBad [], .badField), (u.life.openBank.isNone, .stateRefused)]) ({ bound0 with life := { bound0.life with banks := vset bound0.life.banks 1 (Bank.mk .downloading (manifest 16) Mem.empty false), openTarget := some 0, bytes := 16 } }) (item 0x42 []) ∧ (fun (u : State) (_r : ItemRec) => u.life.openBank = some 1) ((offer ({ bound0 with life := { bound0.life with banks := vset bound0.life.banks 1 (Bank.mk .downloading (manifest 16) Mem.empty false), openTarget := some 0, bytes := 16 } }) (item 0x42 [])).startItem (item 0x42 []).key) (item 0x42 []))
    ∧ (Starts (isCode 0x43) (fun u r => [(r.reservedBad [(12, 1)] || decide (1 < r.p8 12), .badField), (u.life.readyBank.isNone, .stateRefused)]) ({ bound0 with life := { bound0.life with banks := vset bound0.life.banks 1 (Bank.mk .verified [] Mem.empty false), openTarget := some 0, lastVerifyOk := true } }) (item 0x43 [1]))
    ∧ (∃ (vdd : Nat) (temp : Int), Starts (isCode 0x44) (fun u r => [(r.reservedBad [], .badField), (u.life.trialTarget.isNone, .stateRefused),
      (decide (¬ (3000 ≤ vdd ∧ -20 ≤ temp ∧ temp ≤ 85)), .stateRefused)]) ({ bound0 with life := { bound0.life with banks := vset bound0.life.banks 0 (Bank.mk .trial [] Mem.empty false), runFw := 0 } }) (item 0x44 []))
    ∧ (Starts (isCode 0x52) (fun u r => [(r.reservedBad [(12, 1), (14, 7)] || decide (7 < r.p8 12) || decide (1 < r.p8 20), .badField),
      (decide (r.p16 14 < 1 ∨ 2048 < r.p16 14), .badLength), (u.pageTaken r, .stateRefused),
      (u.landings.toList.any Landing.busy, .stateRefused), (decide (r.p32 16 ≠ 0 ∧ r.p32 16 ≠ u.verdict.held), .badRef),
      (decide (131072 < r.p32 16 + r.p16 14), .noSpace)]) (bound0) (item 0x52 [7, 0, 0, 8, 0, 0, 0, 0, 1]))
    ∧ (Starts (isCode 0x52) (fun u r => [(r.reservedBad [(12, 1), (14, 7)] || decide (7 < r.p8 12) || decide (1 < r.p8 20), .badField),
      (decide (r.p16 14 < 1 ∨ 2048 < r.p16 14), .badLength), (u.pageTaken r, .stateRefused),
      (u.landings.toList.any Landing.busy, .stateRefused), (decide (r.p32 16 ≠ 0 ∧ r.p32 16 ≠ u.verdict.held), .badRef),
      (decide (131072 < r.p32 16 + r.p16 14), .noSpace)]) ({ bound0 with verdict := { bound0.verdict with held := 129024 } }) (item 0x52 [7, 0, 0, 8, 0, 248, 1, 0, 1]))
    ∧ (Starts (isCode 0x01) (fun u r => [(r.reservedBad [(12, 1)] || decide (7 < r.p8 12), .badField), (u.pageTaken r, .stateRefused)]) (bound0) (item 0x01 [7]) ∧ (fun (u : State) (_r : ItemRec) => u.ledgersBad = 0) ((offer (bound0) (item 0x01 [7])).startItem (item 0x01 [7]).key) (item 0x01 [7])) :=
  ⟨(by decide +kernel),
   (by decide +kernel),
   ⟨3000, -20, by decide +kernel⟩,
   (by decide +kernel),
   (by decide +kernel),
   (by decide +kernel)⟩

/-- States and operands that meet what the clauses of ControlItems ask, one conjunct a clause (part 1). -/
theorem wit_ControlItems_part1 :
    (Starts (isCode 0x50) (fun u r => [(r.reservedBad [(12, 1), (16, 8)] || decide (0x1F < r.p8 12) || decide (2 ^ 50 ≤ fieldLE r.raw 16 8), .badField),
      ((List.range 50).any (fun d => (fieldLE r.raw 16 8).testBit d && !(u.vote (r.p8 12)).testBit d && heldDown u.bist.unus d), .unitUnusable)]) (bound0) (item 0x50 [31, 0, 0, 0, 255, 255, 255, 255, 255, 255, 3]))
    ∧ (let name (r : ItemRec) : List (Bool × Code) := [(decide (15 < r.p8 12), .badField), (decide (r.p8 12 < 2), .badRef)];
  Starts (fun r => isCode 0x51 r && r.p8 13 != 1 && r.p8 13 != 2) (fun u r =>
       let x := u.timer (r.p8 12)
       [(decide (2 < r.p8 13), .badField)] ++ name r ++ [(r.reservedBad [(12, 3), (16, 14)] || !timerFieldsOk (r.p8 12) r, .badField),
        (x.running && !(x.source == r.p8 14 && x.prescale == r.p32 16 && x.trigSrc == r.p8 28 && x.trigMode == r.p8 29), .stateRefused)]) (bound0) (item 0x51 [2, 0, 0, 0, 0, 0, 2, 0, 1, 0, 0, 0, 0, 0, 0, 0, 255, 0]) ∧ (fun (u : State) (r : ItemRec) => (u.timer (r.p8 12)).running = false) ((offer (bound0) (item 0x51 [2, 0, 0, 0, 0, 0, 2, 0, 1, 0, 0, 0, 0, 0, 0, 0, 255, 0])).startItem (item 0x51 [2, 0, 0, 0, 0, 0, 2, 0, 1, 0, 0, 0, 0, 0, 0, 0, 255, 0]).key) (item 0x51 [2, 0, 0, 0, 0, 0, 2, 0, 1, 0, 0, 0, 0, 0, 0, 0, 255, 0]))
    ∧ (let name (r : ItemRec) : List (Bool × Code) := [(decide (15 < r.p8 12), .badField), (decide (r.p8 12 < 2), .badRef)];
  Starts (fun r => isCode 0x51 r && r.p8 13 != 1 && r.p8 13 != 2) (fun u r =>
       let x := u.timer (r.p8 12)
       [(decide (2 < r.p8 13), .badField)] ++ name r ++ [(r.reservedBad [(12, 3), (16, 14)] || !timerFieldsOk (r.p8 12) r, .badField),
        (x.running && !(x.source == r.p8 14 && x.prescale == r.p32 16 && x.trigSrc == r.p8 28 && x.trigMode == r.p8 29), .stateRefused)]) ({ bound0 with timers := vset bound0.timers 15 { Timer.reset 15 with running := true, source := 0, prescale := 0x20000, trigSrc := 255 } }) (item 0x51 [15, 0, 0, 0, 0, 0, 2, 0, 1, 0, 0, 0, 2, 0, 0, 0, 255, 0]) ∧ (fun (u : State) (r : ItemRec) => (u.timer (r.p8 12)).running = true ∧ (u.timer (r.p8 12)).cadence = true) ((offer ({ bound0 with timers := vset bound0.timers 15 { Timer.reset 15 with running := true, source := 0, prescale := 0x20000, trigSrc := 255 } }) (item 0x51 [15, 0, 0, 0, 0, 0, 2, 0, 1, 0, 0, 0, 2, 0, 0, 0, 255, 0])).startItem (item 0x51 [15, 0, 0, 0, 0, 0, 2, 0, 1, 0, 0, 0, 2, 0, 0, 0, 255, 0]).key) (item 0x51 [15, 0, 0, 0, 0, 0, 2, 0, 1, 0, 0, 0, 2, 0, 0, 0, 255, 0]))
    ∧ (let name (r : ItemRec) : List (Bool × Code) := [(decide (15 < r.p8 12), .badField), (decide (r.p8 12 < 2), .badRef)];
  Starts (fun r => isCode 0x51 r && r.p8 13 != 1 && r.p8 13 != 2) (fun u r =>
       let x := u.timer (r.p8 12)
       [(decide (2 < r.p8 13), .badField)] ++ name r ++ [(r.reservedBad [(12, 3), (16, 14)] || !timerFieldsOk (r.p8 12) r, .badField),
        (x.running && !(x.source == r.p8 14 && x.prescale == r.p32 16 && x.trigSrc == r.p8 28 && x.trigMode == r.p8 29), .stateRefused)]) ({ bound0 with timers := vset bound0.timers 7 { Timer.reset 7 with running := true, source := 0, prescale := 0x20000, trigSrc := 255 } }) (item 0x51 [7, 0, 0, 0, 0, 0, 2, 0, 1, 0, 0, 0, 0, 0, 0, 0, 255, 0]) ∧ (fun (u : State) (r : ItemRec) => (u.timer (r.p8 12)).running = true ∧ (u.timer (r.p8 12)).cadence = false) ((offer ({ bound0 with timers := vset bound0.timers 7 { Timer.reset 7 with running := true, source := 0, prescale := 0x20000, trigSrc := 255 } }) (item 0x51 [7, 0, 0, 0, 0, 0, 2, 0, 1, 0, 0, 0, 0, 0, 0, 0, 255, 0])).startItem (item 0x51 [7, 0, 0, 0, 0, 0, 2, 0, 1, 0, 0, 0, 0, 0, 0, 0, 255, 0]).key) (item 0x51 [7, 0, 0, 0, 0, 0, 2, 0, 1, 0, 0, 0, 0, 0, 0, 0, 255, 0]))
    ∧ (let name (r : ItemRec) : List (Bool × Code) := [(decide (15 < r.p8 12), .badField), (decide (r.p8 12 < 2), .badRef)];
  Starts (fun r => isCode 0x51 r && r.p8 13 == 1) (fun u r => name r ++ [(r.reservedBad [(12, 2)], .badField), (!(u.timer (r.p8 12)).configured, .stateRefused)]) ({ bound0 with timers := vset bound0.timers 15 { Timer.reset 15 with configured := true, running := false } }) (item 0x51 [15, 1]))
    ∧ (let name (r : ItemRec) : List (Bool × Code) := [(decide (15 < r.p8 12), .badField), (decide (r.p8 12 < 2), .badRef)];
  Starts (fun r => isCode 0x51 r && r.p8 13 == 1) (fun u r => name r ++ [(r.reservedBad [(12, 2)], .badField), (!(u.timer (r.p8 12)).configured, .stateRefused)]) ({ bound0 with timers := vset bound0.timers 15 { Timer.reset 15 with configured := true, running := true } }) (item 0x51 [15, 1]))
    ∧ (let name (r : ItemRec) : List (Bool × Code) := [(decide (15 < r.p8 12), .badField), (decide (r.p8 12 < 2), .badRef)];
  Starts (fun r => isCode 0x51 r && r.p8 13 == 2) (fun _ r => name r ++ [(r.reservedBad [(12, 2)], .badField)]) ({ bound0 with timers := vset bound0.timers 2 { Timer.reset 2 with configured := true, running := false } }) (item 0x51 [2, 2]))
    ∧ (let name (r : ItemRec) : List (Bool × Code) := [(decide (15 < r.p8 12), .badField), (decide (r.p8 12 < 2), .badRef)];
  Starts (fun r => isCode 0x51 r && r.p8 13 == 2) (fun _ r => name r ++ [(r.reservedBad [(12, 2)], .badField)]) ({ bound0 with timers := vset bound0.timers 2 { Timer.reset 2 with configured := true, running := true } }) (item 0x51 [2, 2])) :=
  ⟨(by decide +kernel),
   (by decide +kernel),
   (by decide +kernel),
   (by decide +kernel),
   (by decide +kernel),
   (by decide +kernel),
   (by decide +kernel),
   (by decide +kernel)⟩

/-- States and operands that meet what the clauses of ControlItems ask, one conjunct a clause (part 2). -/
theorem wit_ControlItems_part2 :
    (Starts (isCode 0x54) (fun u r => [(r.reservedBad [(12, 2)] || decide (r.p16 12 = 0 ∨ 255 < r.p16 12), .badField),
      (u.landings.toList.any Landing.busy, .stateRefused)]) (bound0) (item 0x54 [1, 0]))
    ∧ (Starts (isCode 0x54) (fun u r => [(r.reservedBad [(12, 2)] || decide (r.p16 12 = 0 ∨ 255 < r.p16 12), .badField),
      (u.landings.toList.any Landing.busy, .stateRefused)]) (bound0) (item 0x54 [255, 0]))
    ∧ (∃ (r : ItemRec), Meets (fun u => u.bist.running = true ∧ (u.host.items.find? fun q => q.code == 0x54 && q.phase == .running) = some r ∧ u.bist.scope = 0x80 ∧
      r.bgrp = 0 ∧ u.bist.unus = 0 ∧ (u.host.items.filter fun q => q.key == r.key) = [r]) ({ offer bound0 ({ (item 0x54 [0x80, 0]) with phase := .running }) with bist := { bound0.bist with running := true, scope := 0x80 } }))
    ∧ (Starts (fun r => isCode 0x55 r && r.p8 12 == 0) (fun _ r => [(r.reservedBad [(12, 1)], .badField)]) (bound0) (item 0x55 [0]))
    ∧ (Starts (fun r => isCode 0x55 r && r.p8 12 == 0) (fun _ r => [(r.reservedBad [(12, 1)], .badField)]) ({ bound0 with gal := { bound0.gal with role := .joined, addr := 7 } }) (item 0x55 [0]))
    ∧ (Starts (fun r => isCode 0x55 r && r.p8 12 == 1) (fun _ r => [(r.reservedBad [(12, 1)], .badField)]) (bound0) (item 0x55 [1]) ∧ (fun (u : State) (_r : ItemRec) => u.gal.addr = 0 ∧ u.gal.role = .standalone ∧ u.gal.joinItem = none) ((offer (bound0) (item 0x55 [1])).startItem (item 0x55 [1]).key) (item 0x55 [1]))
    ∧ (Starts (fun r => isCode 0x55 r && r.p8 12 == 1) (fun _ r => [(r.reservedBad [(12, 1)], .badField)]) ({ bound0 with gal := { bound0.gal with addr := 7 } }) (item 0x55 [1]) ∧ (fun (u : State) (_r : ItemRec) => u.gal.addr ≠ 0 ∧ u.gal.role = .standalone ∧ u.gal.joinItem = none) ((offer ({ bound0 with gal := { bound0.gal with addr := 7 } }) (item 0x55 [1])).startItem (item 0x55 [1]).key) (item 0x55 [1]))
    ∧ (Starts (fun r => isCode 0x55 r && decide (1 < r.p8 12)) (fun u r => [(r.reservedBad [(12, 4)] || decide (2 < r.p8 12) || r.pageBad, .badField), (decide (r.p16 14 ≠ 16), .badLength),
      (decide (u.gal.addr ≠ 0), .stateRefused), (u.pageTaken r, .stateRefused)]) (bound0) (item 0x55 [2, 7, 16, 0])) :=
  ⟨(by decide +kernel),
   (by decide +kernel),
   ⟨{ (item 0x54 [0x80, 0]) with phase := .running }, by decide +kernel⟩,
   (by decide +kernel),
   (by decide +kernel),
   (by decide +kernel),
   (by decide +kernel),
   (by decide +kernel)⟩

/-- States and operands that meet what the clauses of VerdictTenantEvents ask, one conjunct a clause (part 1). -/
theorem wit_VerdictTenantEvents_part1 :
    (∃ (l e : Nat) (j : CryptoJob), Meets (fun u => l < 192 ∧ (u.land l).wait = .crypto j ∧ j.engine = some e ∧ u.domUp (engineDomain e) = true ∧ (u.land l).endReq = none) (waiting (.crypto ({ CryptoJob.blank 5 1 with engine := some 3, handle := some (3, Handle.empty) })) live0))
    ∧ (∃ (l n dst t0 : Nat) (j : CryptoJob), Meets (fun u => l < 192 ∧ (u.land l).wait = .crypto j ∧ j.drbg = some (n, dst, t0) ∧ t0 + 150 * usT ≤ u.now ∧ j.writes = [] ∧
      j.handle = none ∧ (u.land l).endReq = none) (waiting (.crypto ({ CryptoJob.blank 5 1 with drbg := some (16, 0, 10 ^ 15 - 150 * usT) })) live0))
    ∧ (∃ (l d blk : Nat) (stale : Bool) (rest : List (Nat × Bool)), Meets (fun u => (fun u => l < 192 ∧ u.verdict.queue = (l, stale) :: rest ∧ (u.land l).wait = .judge d blk ∧ (u.land l).endReq = none) u ∧ (u.atlas = none)) (let s := waiting (.judge 5 255) live0
    { s with verdict := { s.verdict with queue := [(0, false)] } }))
    ∧ (∃ (l d n : Nat), Meets (fun u => l < 192 ∧ (u.land l).wait = .tload d n false ∧ u.tenantTurn l n = true ∧ (u.leaveTurn l).tloadCode l n = .ok) (let s := waiting (.tload 5 1023 false) live0
    { s with ten := { s.ten with recs := [(1023, { tenant0 with vuntil := 0xFFFFFFFF })] } }))
    ∧ (∃ (l d n : Nat), Meets (fun u => l < 192 ∧ (u.land l).wait = .tload d n true ∧ u.domUp 43 = true ∧ (u.land l).endReq = none) ((waiting (.tload 5 1023 true) live0).modLand 0 fun x => { x with tenant := some 1023 }))
    ∧ (∃ (l d : Nat) (g : Staged) (r : Tenant) (rest : List Nat), Meets (fun u => l < 192 ∧ (u.land l).wait = .newel d ∧ (u.land l).staged = some g ∧ u.ten.newels = l :: rest ∧ u.tenant g.tenant = some r ∧
      (u.land l).endReq = none) (let s := waiting (.newel 5) live0
    { (s.setLand 0 { s.land 0 with staged := some ⟨1023, 9, none, none, none⟩ }) with ten := { s.ten with recs := [(1023, tenant0)], newels := [0] } }))
    ∧ (∃ (l d n : Nat) (r : Tenant), Meets (fun u => (fun u => l < 192 ∧ (u.land l).wait = .tfail d ∧ (u.land l).tenant = some n ∧ u.tenant n = some r ∧ (u.land l).endReq = none) u ∧ (¬ (r.lockEnd.isSome = true ∨ u.lockLim ≤ min (r.cf + 1) 255))) (let s := waiting (.tfail 5) live0
    { (s.setLand 0 { s.land 0 with tenant := some 1023 }) with ten := { s.ten with recs := [(1023, tenant0)] } }))
    ∧ (∃ (l d n : Nat) (r : Tenant), Meets (fun u => (fun u => l < 192 ∧ (u.land l).wait = .tfail d ∧ (u.land l).tenant = some n ∧ u.tenant n = some r ∧ (u.land l).endReq = none) u ∧ (u.lockLim ≤ min (r.cf + 1) 255)) (let s := waiting (.tfail 5) live0
    { (s.setLand 0 { s.land 0 with tenant := some 1023 }) with ten := { s.ten with recs := [(1023, { tenant0 with cf := 255 })] } })) :=
  ⟨⟨0, 3, { CryptoJob.blank 5 1 with engine := some 3, handle := some (3, Handle.empty) }, by decide +kernel⟩,
   ⟨0, 16, 0, 10 ^ 15 - 150 * usT, { CryptoJob.blank 5 1 with drbg := some (16, 0, 10 ^ 15 - 150 * usT) }, by decide +kernel⟩,
   ⟨0, 5, 255, false, [], by decide +kernel⟩,
   ⟨0, 5, 1023, by decide +kernel⟩,
   ⟨0, 5, 1023, by decide +kernel⟩,
   ⟨0, 5, ⟨1023, 9, none, none, none⟩, tenant0, [], by decide +kernel⟩,
   ⟨0, 5, 1023, tenant0, by decide +kernel⟩,
   ⟨0, 5, 1023, { tenant0 with cf := 255 }, by decide +kernel⟩⟩

/-- States and operands that meet what the clauses of VerdictTenantEvents ask, one conjunct a clause (part 2). -/
theorem wit_VerdictTenantEvents_part2 :
    (∃ (n e : Nat) (r : Tenant), Meets (fun u => u.tenant n = some r ∧ r.lockEnd = some e ∧ e ≤ u.counting) ({ live0 with ten := { live0.ten with recs := [(1023, { tenant0 with lockEnd := some (10 ^ 15) })] } }))
    ∧ (∃ e, Meets (fun u => u.ten.learnEnd = some e ∧ e ≤ u.counting) ({ live0 with ten := { live0.ten with learnEnd := some (10 ^ 15) } }))
    ∧ (Meets (fun _ => True) (live0))
    ∧ (Meets (fun u => u.ten.time.isSome = true ∧ u.ten.lifeAt + 60 * secT ≤ u.counting) ({ live0 with ten := { live0.ten with time := some (0, 0), lifeAt := 10 ^ 15 - 60 * secT } }))
    ∧ (∃ c, Meets (fun u => u.evd.cap = some c ∧ c.since + bits u.evd.cfg1 15 0 * msT ≤ u.now) ({ live0 with evd := { live0.evd with cap := some ⟨0, [], [], [], [], 0, [], 0⟩ } }))
    ∧ (Meets (fun u => u.evd.mode = .rearm ∧ u.evd.pubAt + 2 * msT ≤ u.now) ({ live0 with evd := { live0.evd with mode := .rearm, pubAt := 10 ^ 15 - 2 * msT } }))
    ∧ (∃ v : Word, (service0).frameOpen = true ∧ (service0).frameActs.wordOk 0x3410 v = true)
    ∧ (∃ v : Word, (live0).frameOpen = true ∧ (live0).frameActs.wordOk 0x3410 v = true) :=
  ⟨⟨1023, 10 ^ 15, { tenant0 with lockEnd := some (10 ^ 15) }, by decide +kernel⟩,
   ⟨10 ^ 15, by decide +kernel⟩,
   (by decide +kernel),
   (by decide +kernel),
   ⟨⟨0, [], [], [], [], 0, [], 0⟩, by decide +kernel⟩,
   (by decide +kernel),
   ⟨0, by decide +kernel⟩,
   ⟨3600, by decide +kernel⟩⟩

/-- States and operands that meet what the clauses of VerdictTenantEvents ask, one conjunct a clause (part 3). -/
theorem wit_VerdictTenantEvents_part3 : ∃ v : Word, (live0).frameOpen = true ∧ (live0).frameActs.wordOk 0x341C v = true :=
  ⟨0x0101, by decide +kernel⟩

/-- States and operands that meet what the clauses of ReleaseEvents ask, one conjunct a clause (part 1). -/
theorem wit_ReleaseEvents_part1 :
    (∃ (l d base : Nat) (q : Session), Meets (fun u => l < 192 ∧ u.rel.session = some q ∧ q.land = l ∧ (u.land l).wait = .relOpen d base ∧ u.rel.covered = true ∧ u.rel.cur = none ∧
      u.rel.canb.transmits = true ∧ (u.land l).endReq = none) (let s := waiting (.relOpen 5 0) live0
    { s with rel := { s.rel with session := some session0, mark := 512, top := 768 } }))
    ∧ (∃ (l d : Nat), Meets (fun u => l < 192 ∧ (u.land l).wait = .relClose d ∧ u.rel.pattern = false ∧ u.rel.cur = none ∧ (u.land l).endReq = none) (waiting (.relClose 5) live0))
    ∧ (∃ (q : Session) (t0 : Nat), Meets (fun u => (fun u => u.rel.session = some q ∧ q.openAt = some t0 ∧ t0 + q.k * q.period ≤ u.now ∧ q.k * q.period < q.window ∧
      u.rel.canb.busOff = false) u ∧ (u.rel.covered = true ∧ u.rel.cur = none)) (let s := live0
    { s with rel := { s.rel with session := some ({ session0 with openAt := some 0 }), mark := 512 } }))
    ∧ (∃ (q : Session) (t0 : Nat), Meets (fun u => (fun u => u.rel.session = some q ∧ q.openAt = some t0 ∧ t0 + q.k * q.period ≤ u.now ∧ q.k * q.period < q.window ∧
      u.rel.canb.busOff = false) u ∧ (u.rel.covered = true ∧ u.rel.cur.isSome = true)) (let s := live0
    { s with rel := { s.rel with session := some ({ session0 with openAt := some 0 }), mark := 512, cur := some ⟨0, 0, true, false, 13, []⟩ } }))
    ∧ (∃ (q : Session) (t0 : Nat), Meets (fun u => (fun u => u.rel.session = some q ∧ q.openAt = some t0 ∧ t0 + q.k * q.period ≤ u.now ∧ q.k * q.period < q.window ∧
      u.rel.canb.busOff = false) u ∧ (u.rel.covered = false)) (let s := live0
    { s with rel := { s.rel with session := some ({ session0 with openAt := some 0 }), next := 256 } }))
    ∧ (Meets (fun u => u.rel.cur.isSome = true ∧ u.rel.canb.transmits = true ∧ u.domUp 47 = true ∧ u.rel.queued = none) (let s := live0
    { s with rel := { s.rel with cur := some ⟨0, 0, true, false, 13, []⟩ } }))
    ∧ (Meets (fun u => u.rel.cur.isSome = true ∧ u.rel.canb.transmits = true ∧ u.domUp 47 = true ∧ u.rel.queued = none) (let s := live0
    { s with rel := { s.rel with cur := some ⟨0, 0, true, false, 13, []⟩ } }))
    ∧ (∃ (q : Session) (t0 d : Nat), Meets (fun u => u.rel.session = some q ∧ q.openAt = some t0 ∧ t0 + q.window ≤ u.now ∧ q.land < 192 ∧ (u.land q.land).wait = .relHold d ∧
      (u.land q.land).endReq = none) (let s := waiting (.relHold 15) live0
    { s with rel := { s.rel with session := some ({ session0 with openAt := some 0 }) } })) :=
  ⟨⟨0, 5, 0, session0, by decide +kernel⟩,
   ⟨0, 5, by decide +kernel⟩,
   ⟨{ session0 with openAt := some 0 }, 0, by decide +kernel⟩,
   ⟨{ session0 with openAt := some 0 }, 0, by decide +kernel⟩,
   ⟨{ session0 with openAt := some 0 }, 0, by decide +kernel⟩,
   (by decide +kernel),
   (by decide +kernel),
   ⟨{ session0 with openAt := some 0 }, 0, 15, by decide +kernel⟩⟩

/-- States and operands that meet what the clauses of ReleaseEvents ask, one conjunct a clause (part 2). -/
theorem wit_ReleaseEvents_part2 :
    (Meets (fun u => u.rel.top - u.rel.mark < 64) (let s := live0
    { s with rel := { s.rel with top := 319 } }))
    ∧ (Meets (fun u => u.rel.session.isSome = true ∧ u.rel.covered = false ∧ u.rel.next < u.rel.top) (let s := live0
    { s with rel := { s.rel with session := some session0, top := 512 } }))
    ∧ (∃ readA readB, Meets (fun u => u.rel.pattern = true ∧ readA = u.rel.relA ∧ readB = u.rel.relB ∧ u.rel.halfAt + 500 * usT ≤ u.now) ({ live0 with rel := { live0.rel with pattern := true, relA := true, halfAt := 10 ^ 15 - 500 * usT } }))
    ∧ (∃ readA readB, Meets (fun u => (fun u => u.rel.pattern = true ∧ readA = u.rel.relA ∧ readB = u.rel.relB ∧ u.rel.halfAt + 500 * usT ≤ u.now) u ∧ (u.rel.stopping = true)) ({ live0 with rel := { live0.rel with pattern := true, relA := true, stopping := true, halfAt := 10 ^ 15 - 500 * usT } }))
    ∧ (∃ readA readB, Meets (fun u => u.rel.pattern = true ∧ (readA ≠ u.rel.relA ∨ readB ≠ u.rel.relB) ∧ u.rel.halfAt + 250 * usT ≤ u.now) ({ live0 with rel := { live0.rel with pattern := true, relA := true, halfAt := 10 ^ 15 - 250 * usT } }) rankFault)
    ∧ (Meets (fun u => u.rel.canb.busOff = false ∧ 256 ≤ u.rel.canb.tec ∧ u.domUp 47 = true) (let s := live0
    { s with rel := { s.rel with canb := { s.rel.canb with tec := 256 } } }) rankFault)
    ∧ (Meets (fun u => u.rel.canb.busOff = true ∧ u.rel.canb.offAt + u.rel.canb.bitTicks (128 * 11) ≤ u.now ∧ u.rel.queued = none) (let s := live0
    { s with rel := { s.rel with canb := { s.rel.canb with busOff := true } } }))
    ∧ (Meets (fun u => u.domUp 47 = true ∧ u.start.filtA = false ∧ u.start.filtB = false ∧ u.start.disc = none ∧
      u.start.mayChange 0 u.startSample = true ∧ u.relJustEnded none [0] = false) (live0)) :=
  ⟨(by decide +kernel),
   (by decide +kernel),
   ⟨true, false, by decide +kernel⟩,
   ⟨true, false, by decide +kernel⟩,
   ⟨true, true, by decide +kernel⟩,
   (by decide +kernel),
   (by decide +kernel),
   (by decide +kernel)⟩

/-- States and operands that meet what the clauses of ReleaseEvents ask, one conjunct a clause (part 3). -/
theorem wit_ReleaseEvents_part3 :
    (∃ (e : Nat), Meets (fun u => u.domUp 47 = true ∧ u.start.filtA = true ∧ u.start.filtB = false ∧ u.start.disc = some (Disc.mk e false) ∧
      u.startSample ≤ e + u.start.limit ∧ u.start.fault = false ∧ u.start.mayChange 1 u.startSample = true ∧
      u.relJustEnded none [0] = false) ({ live0 with start := { live0.start with filtA := true, disc := some ⟨(live0.startSample - live0.start.limit), false⟩ } }))
    ∧ (∃ (d : Disc), Meets (fun u => u.start.disc = some d ∧ u.domUp 47 = true ∧ d.e1 + u.start.limit + 1 ≤ u.startSample ∧ u.relJustEnded none [0] = false) ({ live0 with start := { live0.start with disc := some ⟨(live0.startSample - live0.start.limit - 1), true⟩ } }) rankFault)
    ∧ (∃ v : Word, (live0).frameOpen = true ∧ (live0).frameActs.wordOk 0x3508 v = true)
    ∧ (∃ v : Word, (live0).frameOpen = true ∧ (live0).frameActs.wordOk 0x3508 v = true) :=
  ⟨⟨(live0.startSample - live0.start.limit), by decide +kernel⟩,
   ⟨⟨(live0.startSample - live0.start.limit - 1), true⟩, by decide +kernel⟩,
   ⟨1, by decide +kernel⟩,
   ⟨0, by decide +kernel⟩⟩

/-- States and operands that meet what the clauses of TagEvents ask, one conjunct a clause (part 1). -/
theorem wit_TagEvents_part1 :
    (Holds (fun u => (fun _ => True) u ∧ (u.tag.field = false ∧ u.tag.fdWake = true ∧ u.nfc.fieldOn = false)) ({ live0 with tag := { tagWith (cfgBlock 0x03 0xFF 0xFF 0 0) with field := false } }))
    ∧ (Holds (fun _ => True) ({ live0 with tag := { tagWith (cfgBlock 0x03 0xFF 0xFF 0 0) with vdd := true } }))
    ∧ (Holds (fun _ => True) ({ live0 with tag := { tagWith (cfgBlock 0x03 0xFF 0xFF 0 0) with vdd := false } }))
    ∧ (Holds (fun u => u.tag.vdd = true ∧ u.tag.field = false ∧ u.tag.fieldLost + msT ≤ u.now) ({ live0 with tag := { tagWith (cfgBlock 0x03 0xFF 0xFF 0 0) with field := false, vdd := true, fieldLost := 10 ^ 15 - msT } }))
    ∧ (Holds (fun _ => True) (live0))
    ∧ (Holds (fun _ => True) ({ live0 with tag := { tagWith (cfgBlock 0x03 0xFF 0xFF 0 0) with vtagOk := true } }))
    ∧ (Holds (fun _ => True) ({ live0 with tag := { tagWith (cfgBlock 0x03 0xFF 0xFF 0 0) with vtagOk := false } }))
    ∧ (∃ e, Holds (fun u => u.tag.wakeEnd = some e ∧ e ≤ u.now) ({ live0 with tag := { tagWith (cfgBlock 0x03 0xFF 0xFF 0 0) with wakeEnd := some (10 ^ 15) } })) :=
  ⟨(by decide +kernel),
   (by decide +kernel),
   (by decide +kernel),
   (by decide +kernel),
   (by decide +kernel),
   (by decide +kernel),
   (by decide +kernel),
   ⟨10 ^ 15, by decide +kernel⟩⟩

/-- States and operands that meet what the clauses of TagEvents ask, one conjunct a clause (part 2). -/
theorem wit_TagEvents_part2 :
    (Holds (fun u => u.tag.hears = true ∧ u.tag.mode = .idle) ({ live0 with tag := { tagWith (cfgBlock 0x03 0xFF 0xFF 0 0) with mode := .idle } }))
    ∧ (Holds (fun u => u.tag.hears = true ∧ u.tag.mode = .halt) ({ live0 with tag := { tagWith (cfgBlock 0x03 0xFF 0xFF 0 0) with mode := .halt } }))
    ∧ (Holds (fun u => u.tag.hears = true ∧ (u.tag.mode = .idle ∨ u.tag.mode = .halt)) ({ live0 with tag := { tagWith (cfgBlock 0x03 0xFF 0xFF 0 0) with mode := .idle } }))
    ∧ (Holds (fun u => u.tag.hears = true ∧ (u.tag.mode = .idle ∨ u.tag.mode = .halt)) ({ live0 with tag := { tagWith (cfgBlock 0x03 0xFF 0xFF 0 0) with mode := .halt } }))
    ∧ (Holds (fun u => u.tag.hears = true ∧ u.tag.mode = .active) ({ live0 with tag := { tagWith (cfgBlock 0x03 0xFF 0xFF 0 0) with mode := .active } }))
    ∧ (∃ nbits known, Holds (fun u => u.tag.hears = true ∧ u.tag.mode = .ready ∧ nbits ≤ 32 ∧ leNat u.tag.uidBcc % 2 ^ nbits = known % 2 ^ nbits) ({ live0 with tag := { tagWith (cfgBlock 0x03 0xFF 0xFF 0 0) with mode := .ready } }))
    ∧ (∃ uid, Holds (fun u => (fun u => u.tag.hears = true ∧ u.tag.mode = .ready) u ∧ (uid = u.tag.uidBcc)) ({ live0 with tag := { tagWith (cfgBlock 0x03 0xFF 0xFF 0 0) with mode := .ready } }))
    ∧ (∃ uid, Holds (fun u => (fun u => u.tag.hears = true ∧ u.tag.mode = .ready) u ∧ (uid ≠ u.tag.uidBcc)) ({ live0 with tag := { tagWith (cfgBlock 0x03 0xFF 0xFF 0 0) with mode := .ready } })) :=
  ⟨(by decide +kernel),
   (by decide +kernel),
   (by decide +kernel),
   (by decide +kernel),
   (by decide +kernel),
   ⟨32, leNat (tagWith (cfgBlock 0x03 0xFF 0xFF 0 0)).uidBcc, by decide +kernel⟩,
   ⟨(tagWith (cfgBlock 0x03 0xFF 0xFF 0 0)).uidBcc, by decide +kernel⟩,
   ⟨[], by decide +kernel⟩⟩

/-- States and operands that meet what the clauses of TagEvents ask, one conjunct a clause (part 3). -/
theorem wit_TagEvents_part3 :
    (Holds (fun u => u.tag.served = true) ({ live0 with tag := { tagWith (cfgBlock 0x03 0xFF 0xFF 0 0) with mode := .active } }))
    ∧ (∃ (b : Byte), Holds (fun u => (fun u => u.tag.served = true) u ∧ (101 < b.toNat)) ({ live0 with tag := { tagWith (cfgBlock 3 255 255 0 0) with mode := .active } }))
    ∧ (∃ (b : Byte), Holds (fun u => (fun u => u.tag.served = true) u ∧ (b.toNat ≤ 101 ∧ u.tag.allows b.toNat 4 6 = false)) ({ live0 with tag := { tagWith (cfgBlock 3 0 255 0 0) with mode := .active } }))
    ∧ (∃ (b : Byte), Holds (fun u => (fun u => u.tag.served = true) u ∧ (u.tag.allows b.toNat 4 6 = true)) ({ live0 with tag := { tagWith (cfgBlock 3 255 255 0 0) with mode := .active } }))
    ∧ (∃ (b : Byte) (bs : List Byte), bs.length = 32 ∧ Holds (fun u => (fun u => u.tag.served = true) u ∧ (101 < b.toNat)) ({ live0 with tag := { tagWith (cfgBlock 3 255 255 0 0) with mode := .active, vdd := true, vtagWrite := true } }))
    ∧ (∃ (b : Byte) (bs : List Byte), bs.length = 32 ∧ Holds (fun u => (fun u => u.tag.served = true) u ∧ (b.toNat ≤ 101 ∧ u.tag.allows b.toNat 5 7 = false)) ({ live0 with tag := { tagWith (cfgBlock 3 255 0 0 0) with mode := .active, vdd := true, vtagWrite := true } }))
    ∧ (∃ (b : Byte) (bs : List Byte), bs.length = 32 ∧ Holds (fun u => (fun u => u.tag.served = true) u ∧ (u.tag.allows b.toNat 5 7 = true ∧ u.tag.canWrite = false)) ({ live0 with tag := { tagWith (cfgBlock 3 255 255 0 0) with mode := .active, vdd := false, vtagWrite := false } }))
    ∧ (∃ (b : Byte) (bs : List Byte), bs.length = 32 ∧ Holds (fun u => (fun u => u.tag.served = true) u ∧ (u.tag.allows b.toNat 5 7 = true ∧ u.tag.canWrite = true ∧ u.tag.path = [])) ({ live0 with tag := { tagWith (cfgBlock 3 255 255 0 0) with mode := .active, vdd := true, vtagWrite := true } })) :=
  ⟨(by decide +kernel),
   ⟨102, by decide +kernel⟩,
   ⟨101, by decide +kernel⟩,
   ⟨101, by decide +kernel⟩,
   ⟨102, List.replicate 32 1, ⟨rfl, by decide +kernel⟩⟩,
   ⟨38, List.replicate 32 1, ⟨rfl, by decide +kernel⟩⟩,
   ⟨38, List.replicate 32 1, ⟨rfl, by decide +kernel⟩⟩,
   ⟨38, List.replicate 32 1, ⟨rfl, by decide +kernel⟩⟩⟩

/-- States and operands that meet what the clauses of TagEvents ask, one conjunct a clause (part 4). -/
theorem wit_TagEvents_part4 :
    (∃ (k : Byte), Holds (fun u => (fun u => u.tag.served = true ∧ k.toNat ≤ 3) u ∧ (u.tag.keyPresent k.toNat = false)) ({ live0 with tag := { tagWith (cfgBlock 0x03 0xFF 0xFF 0 0) with mode := .active } }))
    ∧ (∃ (k : Byte), Holds (fun u => (fun u => u.tag.served = true ∧ k.toNat ≤ 3) u ∧ (u.tag.keyPresent k.toNat = true ∧ u.tag.failLimit ≤ u.tag.fails)) ({ live0 with tag := { tagKey 0 with mode := .active } }))
    ∧ (∃ (k : Byte), Holds (fun u => (fun u => u.tag.served = true ∧ k.toNat ≤ 3) u ∧ (u.tag.keyPresent k.toNat = true ∧ u.tag.fails < u.tag.failLimit ∧ u.tag.canWrite = true ∧ u.tag.path = [])) ({ live0 with tag := { tagKey 1 with mode := .active } }))
    ∧ (∃ (body : List Byte), body.length = 20 ∧ Holds (fun u => (fun u => u.tag.served = true) u ∧ (u.tag.chal = none)) ({ live0 with tag := { tagWith (cfgBlock 0x03 0xFF 0xFF 0 0) with mode := .active } }))
    ∧ (∃ (body : List Byte), body.length = 20 ∧ Holds (fun u => (fun u => u.tag.served = true) u ∧ (u.tag.chal.isSome = true ∧ u.tag.denied (leNat (body.take 4)) = false ∧ u.tag.canWrite = true ∧ u.tag.path = [])) ({ live0 with tag := { tagWith (cfgBlock 0x03 0xFF 0xFF 0 0) with mode := .active, chal := some ([], 0, 0) } }))
    ∧ (Holds (fun u => u.tag.hears = true ∧ u.tag.mode = .active) ({ live0 with tag := { tagWith (cfgBlock 0x03 0xFF 0xFF 0 0) with mode := .active } }))
    ∧ (∃ (w : StoreWrite) (bs : List Byte), Holds (fun u => u.tag.path = [w] ∧ w.wire = false ∧ u.tag.cmd = some .write ∧ u.tag.wire = [] ∧ u.tag.field = true ∧ u.tag.mute = false ∧
      w.slot = (if u.tag.selected w.block = some 0 then 1 else 0) ∧ bs.length = 32 ∧ u.tag.blockSeq w.block < 65536 ∧
      (u.tag.slot w.block w.slot).data = bs ∧ (u.tag.slot w.block w.slot).seq = (u.tag.blockSeq w.block + 1) % 65536) ({ live0 with tag := { tagWith (cfgBlock 0x03 0xFF 0xFF 0 0) with mode := .active, cmd := some .write, path := [storeWrite0], slots := (tagWith (cfgBlock 3 255 255 0 0)).slots ++ [(76, ⟨List.replicate 32 1, 1, slotCrc (List.replicate 32 1) 1, 0xFF⟩)] } }))
    ∧ (∃ (w : StoreWrite) (tmac : List Byte), Holds (fun u => u.tag.path = [w] ∧ w.wire = false ∧ u.tag.cmd = some (.authCount true tmac) ∧ u.tag.wire = [] ∧ u.tag.field = true ∧
      u.tag.mute = false) ({ live0 with tag := { tagWith (cfgBlock 0x03 0xFF 0xFF 0 0) with mode := .active, cmd := some (.authCount true []), path := [storeWrite0] } })) :=
  ⟨⟨0, by decide +kernel⟩,
   ⟨3, by decide +kernel⟩,
   ⟨3, by decide +kernel⟩,
   ⟨List.replicate 20 0, ⟨rfl, by decide +kernel⟩⟩,
   ⟨List.replicate 20 1, ⟨rfl, by decide +kernel⟩⟩,
   (by decide +kernel),
   ⟨storeWrite0, List.replicate 32 1, by decide +kernel⟩,
   ⟨storeWrite0, [], by decide +kernel⟩⟩

/-- States and operands that meet what the clauses of TagEvents ask, one conjunct a clause (part 5). -/
theorem wit_TagEvents_part5 :
    (∃ (w : StoreWrite) (k : Nat), Holds (fun u => u.tag.path = [w] ∧ w.wire = false ∧ u.tag.cmd = some (.challenge k) ∧ u.tag.wire = []) ({ live0 with tag := { tagWith (cfgBlock 0x03 0xFF 0xFF 0 0) with mode := .active, cmd := some (.challenge 3), path := [storeWrite0], mute := true } }))
    ∧ (∃ (w : StoreWrite) (k : Nat), Holds (fun u => u.tag.path = [w] ∧ w.wire = false ∧ u.tag.cmd = some (.challenge k) ∧ u.tag.wire = []) ({ live0 with tag := { tagWith (cfgBlock 0x03 0xFF 0xFF 0 0) with mode := .active, cmd := some (.challenge 3), path := [storeWrite0], mute := false } }))
    ∧ (let idle (u : State) : Prop := u.tag.cmd = none ∧ u.tag.path = [] ∧ u.tag.wire = [] ∧ u.tag.canWrite = true;
  ∃ v : Word, (live0).frameOpen = true ∧ (live0).frameActs.wordOk 0x2080 v = true ∧ (fun u _ => idle u) (live0).frameActs v)
    ∧ (let idle (u : State) : Prop := u.tag.cmd = none ∧ u.tag.path = [] ∧ u.tag.wire = [] ∧ u.tag.canWrite = true;
  ∃ v : Word, (live0).frameOpen = true ∧ (live0).frameActs.wordOk 0x2088 v = true ∧ (fun u _ => idle u) (live0).frameActs v)
    ∧ (let idle (u : State) : Prop := u.tag.cmd = none ∧ u.tag.path = [] ∧ u.tag.wire = [] ∧ u.tag.canWrite = true;
  ∃ v : Word, (live0).frameOpen = true ∧ (live0).frameActs.wordOk 0x208C v = true ∧ (fun u _ => idle u) (live0).frameActs v) :=
  ⟨⟨storeWrite0, 3, by decide +kernel⟩,
   ⟨storeWrite0, 3, by decide +kernel⟩,
   ⟨38, by decide +kernel⟩,
   ⟨1, by decide +kernel⟩,
   ⟨0, by decide +kernel⟩⟩

/-- States and operands that meet what the clauses of SecurityEvents ask, one conjunct a clause (part 1). -/
theorem wit_SecurityEvents_part1 :
    (∃ src, Holds (fun u => u.sec.scan = false ∧ u.power.mode = .awake ∧ u.power.entering = none ∧ src < 4 ∧ u.watched src = true ∧ u.tamperAction src = 1 ∧
      u.relJustEnded none [0, 1, 2, 3] = false) ({ live0 with sec := { live0.sec with tamperCfg := 0x55 } }) rankFault)
    ∧ (∃ src, Holds (fun u => u.sec.scan = false ∧ u.power.mode = .awake ∧ u.power.entering = none ∧ src < 4 ∧ u.watched src = true ∧ u.tamperAction src = 1 ∧
      u.relJustEnded none [0, 1, 2, 3] = false) ({ live0 with sec := { live0.sec with tamperCfg := 0x55 } }) rankFault)
    ∧ (∃ src, Holds (fun u => u.sec.scan = false ∧ u.power.mode = .awake ∧ u.power.entering = none ∧ src < 4 ∧ u.watched src = true ∧
      u.tamperAction src = 2 ∧ u.life.st ≠ .tampered ∧ u.sec.erasing = false ∧ u.relJustEnded none [0, 1, 2, 3] = false) ({ live0 with sec := { live0.sec with tamperCfg := 0xAA } }) rankFault)
    ∧ (∃ src, Holds (fun u => u.sec.scan = false ∧ u.power.mode = .awake ∧ u.power.entering = none ∧ src < 4 ∧ u.watched src = true ∧
      u.tamperAction src = 2 ∧ u.life.st ≠ .tampered ∧ u.sec.erasing = false ∧ u.relJustEnded none [0, 1, 2, 3] = false) ({ live0 with sec := { live0.sec with tamperCfg := 0xAA } }) rankFault)
    ∧ (Holds (fun u => u.sec.erasing = true ∧ u.domUp 46 = true ∧ u.sec.scan = false) ({ { live0 with sec := { live0.sec with erasing := true } } with faults := { live0.faults with mode := .halt } }))
    ∧ (Holds (fun u => u.sec.erasing = true ∧ u.domUp 46 = true ∧ u.sec.scan = false) ({ { live0 with sec := { live0.sec with erasing := true } } with faults := { live0.faults with mode := .normal } }))
    ∧ (∃ (raw : List Byte) (unbal : Nat), raw.length = 128 ∧ Holds (fun u => u.collecting = true ∧ u.sec.blockAt + 32 * usT ≤ u.now ∧ u.sec.ent = .running ∧ unbal % 16 = 0 ∧ (feedCells u.sec.cells raw).2 = false ∧
      u.sec.scrambleKey ≠ [] ∧ u.sec.maskKey ≠ [] ∧ u.sec.pool.length < 16 ∧ u.sec.root.isSome = true ∧ u.sec.drbgQueue = []) ({ live0 with sec := { live0.sec with ent := .running, scrambleKey := [1], maskKey := [1], root := some [] } }))
    ∧ (∃ (raw : List Byte) (unbal : Nat), raw.length = 128 ∧ Holds (fun u => u.collecting = true ∧ u.sec.blockAt + 32 * usT ≤ u.now ∧ u.sec.ent ≠ .running ∧ unbal % 16 = 0 ∧ (feedCells u.sec.cells raw).2 = false) ({ live0 with sec := { live0.sec with ent := .startUp, startPos := 0 } })) :=
  ⟨⟨0, by decide +kernel⟩,
   ⟨3, by decide +kernel⟩,
   ⟨0, by decide +kernel⟩,
   ⟨3, by decide +kernel⟩,
   (by decide +kernel),
   (by decide +kernel),
   ⟨List.replicate 128 0x69, 0, ⟨rfl, by decide +kernel⟩⟩,
   ⟨List.replicate 128 0x69, 0, ⟨rfl, by decide +kernel⟩⟩⟩

/-- States and operands that meet what the clauses of SecurityEvents ask, one conjunct a clause (part 2). -/
theorem wit_SecurityEvents_part2 :
    (∃ (raw : List Byte) (unbal : Nat), raw.length = 128 ∧ Holds (fun u => u.collecting = true ∧ u.sec.blockAt + 32 * usT ≤ u.now ∧ u.sec.ent ≠ .running ∧ unbal % 16 = 0 ∧ (feedCells u.sec.cells raw).2 = false) ({ live0 with sec := { live0.sec with ent := .startUp, startPos := 3 } }))
    ∧ (∃ (raw : List Byte) (unbal : Nat), raw.length = 128 ∧ let fails (u : State) : Prop := u.collecting = true ∧ u.sec.blockAt + 32 * usT ≤ u.now ∧ (unbal % 16 ≠ 0 ∨ (feedCells u.sec.cells raw).2 = true);
  Holds (fun u => fails u ∧ u.sec.consec < 7) ({ live0 with sec := { live0.sec with ent := .running, consec := 6 } }))
    ∧ (∃ (raw : List Byte) (unbal : Nat), raw.length = 128 ∧ let fails (u : State) : Prop := u.collecting = true ∧ u.sec.blockAt + 32 * usT ≤ u.now ∧ (unbal % 16 ≠ 0 ∨ (feedCells u.sec.cells raw).2 = true);
  Holds (fun u => fails u ∧ u.sec.consec < 7) ({ live0 with sec := { live0.sec with ent := .running, consec := 6 } }))
    ∧ (∃ (raw : List Byte) (unbal : Nat), raw.length = 128 ∧ let fails (u : State) : Prop := u.collecting = true ∧ u.sec.blockAt + 32 * usT ≤ u.now ∧ (unbal % 16 ≠ 0 ∨ (feedCells u.sec.cells raw).2 = true);
  Holds (fun u => fails u ∧ 7 ≤ u.sec.consec ∧ u.faults.mode = .normal) ({ live0 with sec := { live0.sec with ent := .running, consec := 7 } }) rankFault)
    ∧ (∃ (b : List Byte) (rest : List (List Byte)), Holds (fun u => u.sec.pool = b :: rest ∧ u.domUp 43 = true ∧ u.entropyOut = false ∧ u.sec.maskAt + 10 * msT ≤ u.now) ({ live0 with sec := { live0.sec with pool := [[]] } }))
    ∧ (Holds (fun u => u.domUp 43 = true) (live0))
    ∧ (Holds (fun u => u.power.mode = .awake ∧ u.life.st = .factory) (live0))
    ∧ (Holds (fun u => u.power.mode = .awake ∧ u.life.st = .factory) (live0)) :=
  ⟨⟨List.replicate 128 0x69, 0, ⟨rfl, by decide +kernel⟩⟩,
   ⟨List.replicate 128 0x69, 8, ⟨rfl, by decide +kernel⟩⟩,
   ⟨List.replicate 128 0, 0, ⟨rfl, by decide +kernel⟩⟩,
   ⟨List.replicate 128 0x69, 8, ⟨rfl, by decide +kernel⟩⟩,
   ⟨[], [], by decide +kernel⟩,
   (by decide +kernel),
   (by decide +kernel),
   (by decide +kernel)⟩

/-- States and operands that meet what the clauses of SecurityEvents ask, one conjunct a clause (part 3). -/
theorem wit_SecurityEvents_part3 :
    (Holds (fun u => u.life.st ≠ .factory ∧ (u.life.st ≠ .service ∨ u.life.scanUnlock = false)) (bound0))
    ∧ (Holds (fun u => u.life.st ≠ .factory ∧ (u.life.st ≠ .service ∨ u.life.scanUnlock = false)) (service0)) :=
  ⟨(by decide +kernel),
   (by decide +kernel)⟩

/-- States and operands that meet what the clauses of FaultEvents ask, one conjunct a clause (part 1). -/
theorem wit_FaultEvents_part1 :
    (Holds (fun u => u.power.mode = .awake ∧ u.sec.scan = false) (live0) rankFault)
    ∧ (∃ index, index < 8 ∧ Holds (fun u => u.power.mode = .awake ∧ u.sec.scan = false ∧ u.power.booting = none ∧ u.faults.mode = .normal) (live0) rankFault)
    ∧ (∃ (index : Nat) (r : Tenant), index < 1024 ∧ Holds (fun u => u.power.mode = .awake ∧ u.sec.scan = false ∧ u.tenant index = some r ∧ r.st ≠ 3) ({ live0 with ten := { live0.ten with recs := [(1023, tenant0)] } }) rankFault)
    ∧ (∃ e, Meets (fun u => u.overlong e = true ∧ u.faults.mode = .normal) (waiting (.crypto ({ CryptoJob.blank 5 1 with engine := some 10 })) { live0 with sec := { live0.sec with busy := [(10, 0)] } }) rankFault)
    ∧ (∃ h, h < 2 ∧ Meets (fun u => u.faults.mode = .normal ∧ ∃ i < 4, (u.pipe (4 * h + i)).serving.isSome = true ∧ (u.pipe (4 * h + i)).stepAt + 256 * coreT < u.now) (serve 7 0 live0) rankFault)
    ∧ (∃ (ch : Nat) (d : Desc), ch < 8 ∧ Meets (fun u => (u.dma.chan ch).active = true ∧ (u.dma.chan ch).desc = some d ∧ d.lastGranule + 100 * usT ≤ u.now ∧ u.stageHeld d = false ∧
      ch ∉ u.dma.stalled ∧ u.faults.mode = .normal) ({ live0 with dma := { Dma.reset with chans := vset Dma.reset.chans 7 ⟨true, false, false, 0, some ({ desc0 with lastGranule := 10 ^ 15 - 100 * usT })⟩, waiting := [] } }) rankFault)
    ∧ (Holds (fun u => u.faults.mode = .recovery ∧ u.workEnded = true ∧ u.now ≤ u.faults.restarted + 2000 * usT ∧ u.ledgersBad = 0 ∧
      u.gal.held = []) ({ live0 with faults := { live0.faults with mode := .recovery, restarted := 10 ^ 15 - 2000 * usT } }))
    ∧ (Holds (fun u => u.faults.mode = .recovery ∧ u.power.booting = none ∧ u.faults.restarted + 2000 * usT < u.now ∧ u.fewWarms) ({ live0 with faults := { live0.faults with mode := .recovery, restarted := 10 ^ 15 - 2000 * usT - 1 } }) rankFault) :=
  ⟨(by decide +kernel),
   ⟨7, ⟨by decide, by decide +kernel⟩⟩,
   ⟨1023, tenant0, ⟨by decide, by decide +kernel⟩⟩,
   ⟨10, by decide +kernel⟩,
   ⟨1, ⟨by decide, by decide +kernel⟩⟩,
   ⟨7, { desc0 with lastGranule := 10 ^ 15 - 100 * usT }, ⟨by decide, by decide +kernel⟩⟩,
   (by decide +kernel),
   (by simp only [State.fewWarms]; decide +kernel)⟩

/-- States and operands that meet what the clauses of FaultEvents ask, one conjunct a clause (part 2). -/
theorem wit_FaultEvents_part2 :
    (Holds (fun u => u.faults.mode = .warm ∧ u.coreUp = true) ({ live0 with faults := { live0.faults with mode := .warm } }))
    ∧ (∃ (e : EvPending) (rest : List EvPending), Holds (fun u => u.faults.evPending = e :: rest ∧ u.domUp 46 = true ∧ u.sec.scan = false) ({ live0 with faults := { live0.faults with evPending := [⟨1, 1, 0, 0, 0, []⟩] } }))
    ∧ (∃ v : Word, (live0).frameOpen = true ∧ (live0).frameActs.wordOk 0x480C v = true) :=
  ⟨(by decide +kernel),
   ⟨⟨1, 1, 0, 0, 0, []⟩, [], by decide +kernel⟩,
   ⟨0xFFFF, by decide +kernel⟩⟩

set_option maxRecDepth 1000000 in
/-- States and operands that meet what the clauses of PowerResetEvents ask, one conjunct a clause (part 1). -/
theorem wit_PowerResetEvents_part1 :
    (Holds (fun _ => True) (live0) rankReset)
    ∧ (Holds (fun _ => True) (live0) rankReset)
    ∧ (Holds (fun _ => True) (live0) rankReset)
    ∧ (Holds (fun u => u.power.mode = .awake ∧ u.sec.scan = false ∧ u.faults.mode ≠ .halt ∧ ∃ a ∈ u.host.activate, ∃ t0, a.due = some t0 ∧ t0 ≤ u.now) ({ live0 with host := { live0.host with activate := [⟨⟨0, 1⟩, some (10 ^ 15)⟩] } }) rankReset)
    ∧ (∃ (b : BootIn) (cause : Nat), Holds (fun u => u.power.booting = some cause ∧ u.coreUp = true ∧ u.power.mode = .awake ∧ u.sec.scan = false ∧ (u.boot b true).2 = false ∧
        (u.boot b true).1.wantsRoot = false) ({ { live0 with power := { live0.power with booting := some 1 } } with sec := { live0.sec with zapRecord := true } }))
    ∧ (∃ (b : BootIn) (cause : Nat), Holds (fun u => (fun u => u.power.booting = some cause ∧ u.coreUp = true ∧ u.power.mode = .awake ∧ u.sec.scan = false ∧ (u.boot b true).2 = false ∧
        (u.boot b true).1.wantsRoot = false) u ∧ (u.faults.haltDue = true)) ({ { live0 with power := { live0.power with booting := some 1 } } with faults := { live0.faults with haltDue := true }, sec := { live0.sec with zapRecord := true } }))
    ∧ (∃ b, Holds (fun u => u.power.waking = true ∧ u.coreUp = true ∧ (u.boot b false).2 = false) ({ { live0 with power := { live0.power with mode := .lobby, waking := true } } with sec := { live0.sec with zapRecord := true }, life := { live0.life with runLib := 4 } }))
    ∧ (∃ (temp : Int), Meets (fun u => (temp - u.life.readTemp).natAbs < 40) (live0)) :=
  ⟨(by decide +kernel),
   (by decide +kernel),
   (by decide +kernel),
   ⟨by decide +kernel, by decide +kernel, by decide +kernel, by decide +kernel, ⟨⟨0, 1⟩, some (10 ^ 15)⟩, by decide +kernel, 10 ^ 15, by decide +kernel⟩,
   ⟨⟨25, 3300, [], []⟩, 1, by decide +kernel⟩,
   ⟨⟨25, 3300, [], []⟩, 1, by decide +kernel⟩,
   ⟨⟨25, 3300, [], []⟩, by decide +kernel⟩,
   ⟨64, by decide +kernel⟩⟩

set_option maxRecDepth 1000000 in
/-- States and operands that meet what the clauses of PowerResetEvents ask, one conjunct a clause (part 2). -/
theorem wit_PowerResetEvents_part2 :
    (∃ (temp : Int), Meets (fun u => (temp - u.life.readTemp).natAbs < 40) (live0))
    ∧ (∃ (temp : Int), Meets (fun u => 40 ≤ (temp - u.life.readTemp).natAbs ∧ u.life.readIdentity.idFault = false ∧ u.life.readIdentity.trimFault = false) (live0))
    ∧ (∃ (temp : Int), Meets (fun u => 40 ≤ (temp - u.life.readTemp).natAbs ∧ u.life.readIdentity.idFault = false ∧ u.life.readIdentity.trimFault = false) (live0))
    ∧ (∃ (k : ItemKey) (phase : Nat) (data : List Byte) (rest : List NvmJob) (r : ItemRec), Meets (fun u => u.domUp 46 = true ∧ u.life.jobs = .commit k phase data :: rest ∧ u.jobOut (.commit k phase data) = none ∧
        u.item k = some r ∧ u.commitWaits r data = false) ({ offer live0 ({ item 0x30 [] with phase := .running }) with life := { live0.life with jobs := [.commit ⟨0, 1⟩ 0 []] } }))
    ∧ (∃ (k : ItemKey) (n : Nat) (rest : List NvmJob), let erases (u : State) : Prop := u.domUp 46 = true ∧ u.life.jobs = .erase k n :: rest ∧ (u.life.sector (u.life.phys n)).retired = false;
  Meets (fun u => erases u ∧ (u.life.sector (u.life.phys n)).intent = none) ({ live0 with life := { live0.life with jobs := [.erase ⟨0, 1⟩ 5, .erase ⟨0, 1⟩ 6], sectors := [] }, host := { live0.host with items := [{ item 0x52 [] with phase := .running }] } }))
    ∧ (∃ (k : ItemKey) (n : Nat) (rest : List NvmJob), let erases (u : State) : Prop := u.domUp 46 = true ∧ u.life.jobs = .erase k n :: rest ∧ (u.life.sector (u.life.phys n)).retired = false;
  ∃ r c, Meets (fun u => erases u ∧ (u.life.sector (u.life.phys n)).intent = some c ∧ c < 10000 ∧ u.item k = some r ∧ r.code = 0x52 ∧
        ∃ m, NvmJob.erase k m ∈ rest) ({ live0 with life := { live0.life with jobs := [.erase ⟨0, 1⟩ 5, .erase ⟨0, 1⟩ 6], sectors := [(5, { Sector.blank with intent := some 9999 })] }, host := { live0.host with items := [{ item 0x52 [] with phase := .running }] } }))
    ∧ (∃ v : Word, (live0).frameOpen = true ∧ (live0).frameActs.wordOk 0x5014 v = true)
    ∧ (∃ v : Word, (live0).frameOpen = true ∧ (live0).frameActs.wordOk 0x5014 v = true) :=
  ⟨⟨-14, by decide +kernel⟩,
   ⟨65, by decide +kernel⟩,
   ⟨-15, by decide +kernel⟩,
   ⟨⟨0, 1⟩, 0, [], [], { item 0x30 [] with phase := .running }, by decide +kernel⟩,
   ⟨⟨0, 1⟩, 5, [.erase ⟨0, 1⟩ 6], by decide +kernel⟩,
   ⟨⟨0, 1⟩, 5, [.erase ⟨0, 1⟩ 6], { item 0x52 [] with phase := .running }, 9999, ⟨by decide +kernel, by decide +kernel, ⟨by decide +kernel, by decide +kernel, by decide +kernel⟩, by decide +kernel, by decide +kernel, by decide +kernel, rfl, 6, by decide +kernel⟩⟩,
   ⟨0, by decide +kernel⟩,
   ⟨1, by decide +kernel⟩⟩

set_option maxRecDepth 1000000 in
/-- States and operands that meet what the clauses of PowerResetEvents ask, one conjunct a clause (part 3). -/
theorem wit_PowerResetEvents_part3 :
    (∃ m, Holds (fun u => u.power.entering = some m ∧ ∀ d < 50, u.dom d = .down) ({ live0 with power := { live0.power with entering := some .lobby, domains := Vector.replicate 50 .down } }))
    ∧ (∃ t0, Holds (fun u => u.power.mode = .lobby ∧ u.power.waking = false ∧ u.power.wakeCfg.testBit 9 = true ∧ u.power.wtimer ≠ 0 ∧
      u.power.slowSince = some t0 ∧ u.power.wtimer * msT * 200 ≤ (u.now - t0) * 199) ({ live0 with power := { live0.power with mode := .lobby, wakeCfg := 512, wtimer := 1, slowSince := some (10 ^ 15 - (msT * 200 + 198) / 199) } }))
    ∧ (Holds (fun u => u.tag.vdd = true ∧ u.power.wakeCfg.testBit 8 = true ∧ u.nfc.fieldOn = false ∧ u.power.mode ≠ .awake ∧ u.power.waking = false) ((let s := { live0 with power := { live0.power with mode := .vestibule, wakeCfg := 256 } }; { s with tag := { s.tag with vdd := true } } : State)))
    ∧ (Holds (fun u => u.tag.vdd = true ∧ u.power.wakeCfg.testBit 8 = true ∧ u.nfc.fieldOn = false ∧ u.power.mode = .awake ∧ u.power.entering.isSome = true) ((let s := { live0 with power := { live0.power with entering := some .lobby, wakeCfg := 256 } }; { s with tag := { s.tag with vdd := true } } : State)))
    ∧ (Holds (fun u => u.domUp 30 = true ∧ u.faults.mode = .normal ∧ u.power.booting = none ∧ u.fewWarms ∧ u.power.clockLost = false) (live0) rankFault)
    ∧ (Holds (fun u => u.domUp 30 = true ∧ u.power.clockLost = true) ({ live0 with power := { live0.power with clockLost := true } }) rankFault)
    ∧ (Meets (fun u => u.domUp 30 = true ∧ u.power.slowAt + 1000 * msT ≤ u.now) ({ live0 with power := { live0.power with slowAt := 10 ^ 15 - 1000 * msT } }))
    ∧ (Meets (fun u => u.domUp 30 = true ∧ u.power.slowAt + 1000 * msT ≤ u.now) ({ live0 with power := { live0.power with slowAt := 10 ^ 15 - 1000 * msT } })) :=
  ⟨⟨.lobby, by decide +kernel⟩,
   ⟨10 ^ 15 - (msT * 200 + 198) / 199, by decide +kernel⟩,
   (by decide +kernel),
   (by decide +kernel),
   (by simp only [State.fewWarms]; decide +kernel),
   (by decide +kernel),
   (by decide +kernel),
   (by decide +kernel)⟩

set_option maxRecDepth 1000000 in
/-- States and operands that meet what the clauses of PowerResetEvents ask, one conjunct a clause (part 4). -/
theorem wit_PowerResetEvents_part4 :
    (∃ q, Meets (fun u => u.gal.isSlave = true ∧ u.power.refQual ≠ q) ({ { live0 with gal := { live0.gal with addr := 7, role := .joined } } with power := { live0.power with refQual := true } }))
    ∧ (∃ q, Meets (fun u => u.gal.isSlave = true ∧ u.power.refQual ≠ q) ({ { live0 with gal := { live0.gal with addr := 7, role := .joined } } with power := { live0.power with refQual := false } }))
    ∧ (∃ (d t0 : Nat), Holds (fun u => (u.power.mode = .awake ∨ u.power.waking = true) ∧ d < 50 ∧ u.dom d = .rising t0 ∧ u.now ≤ t0 + 2 * riseUs d * usT ∧
      (d = 30 ∨ u.domUp 30 = true) ∧ u.power.voteWaits = [] ∧ u.sec.queue = []) ({ live0 with power := { live0.power with domains := vset live0.power.domains 29 (.rising (10 ^ 15 - 2 * riseUs 29 * usT)) } }))
    ∧ (∃ (d t0 : Nat), Holds (fun u => (u.power.mode = .awake ∨ u.power.waking = true) ∧ d < 50 ∧ u.dom d = .rising t0 ∧ u.now ≤ t0 + 2 * riseUs d * usT ∧
      (d = 30 ∨ u.domUp 30 = true) ∧ u.power.voteWaits = [] ∧ u.sec.queue = []) ({ live0 with power := { live0.power with domains := vset live0.power.domains 30 (.rising (10 ^ 15 - 2 * riseUs 30 * usT)) } }))
    ∧ (∃ (d t0 : Nat), Holds (fun u => (u.power.mode = .awake ∨ u.power.waking = true) ∧ d < 50 ∧ u.dom d = .rising t0 ∧ u.now ≤ t0 + 2 * riseUs d * usT ∧
      (d = 30 ∨ u.domUp 30 = true) ∧ u.power.voteWaits = [] ∧ u.sec.queue = []) ({ live0 with power := { live0.power with domains := vset live0.power.domains 33 (.rising (10 ^ 15 - 2 * riseUs 33 * usT)) } }))
    ∧ (∃ (d t0 : Nat), Holds (fun u => (u.power.mode = .awake ∨ u.power.waking = true) ∧ d < 50 ∧ u.dom d = .rising t0 ∧ u.now ≤ t0 + 2 * riseUs d * usT ∧
      (d = 30 ∨ u.domUp 30 = true) ∧ u.power.voteWaits = [] ∧ u.sec.queue = []) ({ live0 with power := { live0.power with domains := vset live0.power.domains 43 (.rising (10 ^ 15 - 2 * riseUs 43 * usT)) } }))
    ∧ (∃ (d t0 : Nat), Holds (fun u => (u.power.mode = .awake ∨ u.power.waking = true) ∧ d < 50 ∧ u.dom d = .rising t0 ∧ u.now ≤ t0 + 2 * riseUs d * usT ∧
      (d = 30 ∨ u.domUp 30 = true) ∧ u.power.voteWaits = [] ∧ u.sec.queue = []) ({ live0 with power := { live0.power with domains := vset live0.power.domains 49 (.rising (10 ^ 15 - 2 * riseUs 49 * usT)) } }))
    ∧ (∃ (d t0 : Nat), Holds (fun u => u.mayFall d = true ∧ u.dom d = .falling t0 none) ({ live0 with power := { live0.power with domains := vset live0.power.domains 49 (.falling 0 none) } })) :=
  ⟨⟨false, by decide +kernel⟩,
   ⟨true, by decide +kernel⟩,
   ⟨29, 10 ^ 15 - 2 * riseUs 29 * usT, by decide +kernel⟩,
   ⟨30, 10 ^ 15 - 2 * riseUs 30 * usT, by decide +kernel⟩,
   ⟨33, 10 ^ 15 - 2 * riseUs 33 * usT, by decide +kernel⟩,
   ⟨43, 10 ^ 15 - 2 * riseUs 43 * usT, by decide +kernel⟩,
   ⟨49, 10 ^ 15 - 2 * riseUs 49 * usT, by decide +kernel⟩,
   ⟨49, 0, by decide +kernel⟩⟩

set_option maxRecDepth 1000000 in
/-- States and operands that meet what the clauses of PowerResetEvents ask, one conjunct a clause (part 5). -/
theorem wit_PowerResetEvents_part5 :
    (∃ (d t0 t1 : Nat), Holds (fun u => d < 50 ∧ u.mayFall d = true ∧ u.dom d = .falling t0 (some t1)) ({ live0 with power := { live0.power with domains := vset live0.power.domains 49 (.falling 0 (some 0)) } }))
    ∧ (∃ (d t0 : Nat), Meets (fun u => Tbl.find u.power.holdoffs d = some t0 ∧ t0 ≤ u.now ∧ (u.vote voterSched).testBit d = true) ({ live0 with power := { live0.power with holdoffs := [(49, 10 ^ 15)], votes := vset live0.power.votes voterSched (2 ^ 49) } }))
    ∧ (∃ (d t0 : Nat), Holds (fun u => u.power.mode = .awake ∧ u.power.booting = none ∧ u.faults.mode = .normal ∧ d < 50 ∧ d ≠ 30 ∧ d ≠ 46 ∧ d ≠ 49 ∧
      u.dom d = .rising t0 ∧ t0 + 2 * riseUs d * usT < u.now) ({ live0 with power := { live0.power with domains := vset live0.power.domains 48 (.rising 0) } }) rankFault) :=
  ⟨⟨49, 0, 0, by decide +kernel⟩,
   ⟨49, 10 ^ 15, by decide +kernel⟩,
   ⟨48, 0, by decide +kernel⟩⟩

/-- States and operands that meet what the clauses of TimerEvents ask, one conjunct a clause. -/
theorem wit_TimerEvents :
    (∃ k, Meets (fun u => k < 16 ∧ (u.timer k).compare ≠ 0 ∧ (u.timer k).toCompare ≤ (u.timer k).toWrap ∧ u.reached k (u.timer k).toCompare = true) ({ live0 with timers := vset live0.timers 2 { Timer.reset 2 with running := true, source := 1, prescale := 0x10000, compare := 1, period := 2 } }))
    ∧ (∃ k, Meets (fun u => k < 16 ∧ (u.timer k).compare ≠ 0 ∧ (u.timer k).toCompare ≤ (u.timer k).toWrap ∧ u.reached k (u.timer k).toCompare = true) ({ live0 with timers := vset live0.timers 15 { Timer.reset 15 with running := true, source := 1, prescale := 0x10000, compare := 1, period := 2 } }))
    ∧ (∃ k, Meets (fun u => k < 16 ∧ ((u.timer k).compare = 0 ∨ (u.timer k).toWrap ≤ (u.timer k).toCompare) ∧ u.reached k (u.timer k).toWrap = true) ({ live0 with timers := vset live0.timers 15 { Timer.reset 15 with running := true, source := 1, prescale := 0x10000, compare := 0, period := 2, preloaded := true } }))
    ∧ (∃ k, Meets (fun u => k < 16 ∧ ((u.timer k).compare = 0 ∨ (u.timer k).toWrap ≤ (u.timer k).toCompare) ∧ u.reached k (u.timer k).toWrap = true) ({ live0 with timers := vset live0.timers 15 { Timer.reset 15 with running := true, source := 1, prescale := 0x10000, compare := 0, period := 2, preloaded := false } }))
    ∧ (∃ k due, Meets (fun u => k < 16 ∧ (u.timer k).trigDue = some due ∧ due ≤ u.now ∧ (u.timer k).trigSrc ≠ k) ({ live0 with timers := vset live0.timers 15 { Timer.reset 15 with running := true, trigSrc := 2, trigMode := 2, trigDue := some (10 ^ 15) } }))
    ∧ (∃ k due, Meets (fun u => k < 16 ∧ (u.timer k).trigDue = some due ∧ due ≤ u.now ∧ (u.timer k).trigSrc ≠ k) ({ live0 with timers := vset live0.timers 15 { Timer.reset 15 with running := true, trigSrc := 2, trigMode := 3, trigDue := some (10 ^ 15) } }))
    ∧ (∃ k due, Meets (fun u => k < 16 ∧ (u.timer k).trigDue = some due ∧ due ≤ u.now ∧ (u.timer k).trigSrc ≠ k) ({ live0 with timers := vset live0.timers 15 { Timer.reset 15 with running := false, trigSrc := 2, trigMode := 2, trigDue := some (10 ^ 15) } })) :=
  ⟨⟨2, by decide +kernel⟩,
   ⟨15, by decide +kernel⟩,
   ⟨15, by decide +kernel⟩,
   ⟨15, by decide +kernel⟩,
   ⟨15, 10 ^ 15, by decide +kernel⟩,
   ⟨15, 10 ^ 15, by decide +kernel⟩,
   ⟨15, 10 ^ 15, by decide +kernel⟩⟩

/-- States and operands that meet what the clauses of GalleryEvents ask, one conjunct a clause (part 1). -/
theorem wit_GalleryEvents_part1 :
    (Meets (fun u => u.gal.isMaster = true ∧ u.domUp 48 = true ∧ u.gal.edgeAt + msT ≤ u.now ∧ u.gal.leaving = false ∧ u.gal.change = none ∧
      (u.gal.synced = true → u.gal.ledger = true)) ({ live0 with gal := { live0.gal with role := .master, edgeAt := 10 ^ 15 - msT } }))
    ∧ (Meets (fun u => (fun u => u.gal.isMaster = true ∧ u.domUp 48 = true ∧ u.gal.edgeAt + msT ≤ u.now ∧ u.gal.leaving = false ∧ u.gal.change = none ∧
      (u.gal.synced = true → u.gal.ledger = true)) u ∧ (u.gal.synced = true)) ({ live0 with gal := { live0.gal with role := .master, edgeAt := 10 ^ 15 - msT, synced := true } }))
    ∧ (Meets (fun u => u.gal.isMaster = true ∧ u.domUp 48 = true ∧ u.gal.edgeAt + msT ≤ u.now ∧ u.gal.leaving = true ∧
      (u.gal.synced = true → u.gal.ledger = true)) ({ live0 with gal := { live0.gal with role := .master, edgeAt := 10 ^ 15 - msT, leaving := true } }))
    ∧ (Meets (fun u => u.gal.isMaster = true ∧ u.domUp 48 = true ∧ u.gal.edgeAt + msT ≤ u.now ∧ u.gal.synced = true ∧ u.gal.ledger = false ∧
      u.faults.mode = .normal ∧ u.fewWarms) ({ live0 with gal := { live0.gal with role := .master, edgeAt := 10 ^ 15 - msT, synced := true, nodes := vset live0.gal.nodes 7 { GalNode.blank with avail := 15 } } }))
    ∧ (∃ (b : List Byte), b.length = 64 ∧ byteAt b 0 = 0x10 ∧ Meets (fun u => u.domUp 48 = true ∧ u.gal.addr ≠ 0 ∧ u.gal.role ≠ .standalone ∧ u.gal.leaving = false ∧ u.gal.held = [] ∧
      (u.gal.synced = true → u.gal.ledger = true)) ({ live0 with gal := { live0.gal with role := .joined, addr := 7 } }))
    ∧ (∃ (b : List Byte), b.length = 64 ∧ byteAt b 0 = 0x10 ∧ Meets (fun u => (fun u => u.domUp 48 = true ∧ u.gal.addr ≠ 0 ∧ u.gal.role ≠ .standalone ∧ u.gal.leaving = false ∧ u.gal.held = [] ∧
      (u.gal.synced = true → u.gal.ledger = true)) u ∧ (u.gal.role = .noBeacon ∧ u.gal.pending = none)) ({ live0 with gal := { live0.gal with role := .noBeacon, addr := 7 } }))
    ∧ (∃ (b : List Byte), b.length = 64 ∧ byteAt b 0 = 0x10 ∧ Meets (fun u => u.domUp 48 = true ∧ u.gal.addr ≠ 0 ∧ u.gal.role ≠ .standalone ∧ u.gal.leaving = true ∧
      (u.gal.synced = true → u.gal.ledger = true)) ({ live0 with gal := { live0.gal with role := .joined, addr := 7, leaving := true } }))
    ∧ (∃ (b : List Byte), b.length = 64 ∧ byteAt b 0 = 0x10 ∧ Meets (fun u => u.domUp 48 = true ∧ u.gal.addr = 0 ∧ u.gal.listen.isSome = true) ({ live0 with gal := { live0.gal with listen := some 0 } })) :=
  ⟨(by decide +kernel),
   (by decide +kernel),
   (by decide +kernel),
   (by simp only [State.fewWarms]; decide +kernel),
   ⟨padTo 64 [0x10], ⟨rfl, rfl, by decide +kernel⟩⟩,
   ⟨padTo 64 [0x10], ⟨rfl, rfl, by decide +kernel⟩⟩,
   ⟨padTo 64 [0x10], ⟨rfl, rfl, by decide +kernel⟩⟩,
   ⟨padTo 64 [0x10], ⟨rfl, rfl, by decide +kernel⟩⟩⟩

/-- States and operands that meet what the clauses of GalleryEvents ask, one conjunct a clause (part 2). -/
theorem wit_GalleryEvents_part2 :
    (∃ k, Meets (fun u => (fun u => u.gal.isSlave = true ∧ u.domUp 48 = true ∧ u.unhushed = true ∧ u.inSlot k = true ∧ u.gal.owner k = some u.gal.addr ∧
      u.gal.role ≠ .noBeacon) u ∧ (u.slotErr k ≤ 400000 ∧ u.now + usT < u.gal.edgeAt + msT ∧ u.gal.edgeAt ≤ u.now ∧ u.gal.stopped = false ∧ u.gal.ghush = false ∧ u.gal.slaveUnits ≠ [])) ({ live0 with gal := { live0.gal with addr := 7, role := .joined, present := 2 ^ 7, calibrated := true, edgeAt := 10 ^ 15 - slotT, out := [⟨0, 1, List.replicate 64 0, none, false, 0, none, false⟩], mseq := 2 } }))
    ∧ (∃ k, Meets (fun u => (fun u => u.gal.isSlave = true ∧ u.domUp 48 = true ∧ u.unhushed = true ∧ u.inSlot k = true ∧ u.gal.owner k = some u.gal.addr ∧
      u.gal.role ≠ .noBeacon) u ∧ (u.slotErr k ≤ 400000 ∧ u.now + usT < u.gal.edgeAt + msT)) ({ live0 with gal := { live0.gal with addr := 7, role := .joined, present := 2 ^ 7, calibrated := true, edgeAt := 10 ^ 15 - slotT, stopped := true } }))
    ∧ (∃ k, Meets (fun u => (fun u => u.gal.isSlave = true ∧ u.domUp 48 = true ∧ u.unhushed = true ∧ u.inSlot k = true ∧ u.gal.owner k = some u.gal.addr ∧
      u.gal.role ≠ .noBeacon) u ∧ (400000 < u.slotErr k)) ({ live0 with gal := { live0.gal with addr := 7, role := .joined, present := 2 ^ 7, calibrated := true, edgeAt := 10 ^ 15 - slotT - 5000 * msT } }))
    ∧ (Meets (fun u => u.gal.isSlave = true ∧ u.domUp 48 = true ∧ u.gal.role = .joining ∧ u.gal.grantSeq = 0 ∧ u.gal.stopped = false ∧
      u.gal.ghush = false ∧ u.now + usT < u.gal.edgeAt + msT + slotT ∧ u.inSlot 39 = true ∧
      u.gal.round % 8 = u.gal.addr ∧ u.gal.synced = true ∧ u.slotErr 39 ≤ 400000) ({ live0 with gal := { live0.gal with addr := 7, role := .joining, synced := true, round := 7, calibrated := true, edgeAt := 10 ^ 15 - 39 * slotT } }))
    ∧ (∃ (slot bits guard : Nat) (f : List Byte), galFrameOk f = true ∧ bits ≤ 2776 ∧ guard = 0 ∧ 1 ≤ slot ∧ Meets (fun u => u.gal.isMaster = true ∧ u.domUp 48 = true ∧ u.gal.owner slot = some (byteAt f 0 % 8) ∧ 1 ≤ byteAt f 0 % 8 ∧
        1 ≤ (u.gal.node (byteAt f 0 % 8)).st ∧ (u.gal.node (byteAt f 0 % 8)).st ≤ 3) ({ live0 with gal := { live0.gal with role := .master, present := 2 ^ 7, nodes := vset live0.gal.nodes 7 { GalNode.blank with st := 2 } } }))
    ∧ (∃ (bits : Nat) (f : List Byte), galFrameOk f = true ∧ bits ≤ 2776 ∧ Meets (fun u => u.gal.isMaster = true ∧ u.domUp 48 = true ∧ 1 ≤ byteAt f 0 % 8 ∧ (u.gal.node (byteAt f 0 % 8)).st = 0) ({ live0 with gal := { live0.gal with role := .master } }))
    ∧ (∃ (slot bits : Nat) (f : List Byte), galFrameOk f = false ∧ bits ≤ 2776 ∧ 1 ≤ slot ∧ Meets (fun u => u.gal.role ≠ .standalone ∧ u.domUp 48 = true) ({ live0 with gal := { live0.gal with role := .master } }))
    ∧ (∃ (c : List Byte), c.length = 64 ∧ let takes (u : State) (n : Nat) : Prop := u.hearsCommands = true ∧ byteAt c 0 = n ∧ u.gal.held = [] ∧ u.gal.stopped = false ∧ u.faults.mode ≠ .recovery;
  Meets (fun u => (fun u => takes u 3 ∧ (byteAt c 1).testBit u.gal.addr = true ∧ u.gal.grantSeq ≠ 0 ∧ fieldLE c 4 4 = u.gal.nextSeq) u ∧ (u.prepareVerdict c = 0)) ({ live0 with gal := { live0.gal with addr := 7, role := .joined, edgeAt := 10 ^ 15 - msT + 1, grantSeq := 1, nextSeq := 2 } })) :=
  ⟨⟨1, by decide +kernel⟩,
   ⟨1, by decide +kernel⟩,
   ⟨1, by decide +kernel⟩,
   (by decide +kernel),
   ⟨38, 2776, 0, galFrame 7 0 0 0 0 [], ⟨by decide +kernel, by decide, rfl, by decide, by decide +kernel⟩⟩,
   ⟨2776, galFrame 7 0 0 0 0 [], ⟨by decide +kernel, by decide, by decide +kernel⟩⟩,
   ⟨38, 2776, [], ⟨by decide +kernel, by decide, by decide, by decide +kernel⟩⟩,
   ⟨padTo 64 [3, 128, 0, 0, 2, 0, 0, 0, 5, 0, 0, 0, 9, 0, 0, 0, 0, 0, 255, 255], ⟨rfl, by decide +kernel⟩⟩⟩

/-- States and operands that meet what the clauses of GalleryEvents ask, one conjunct a clause (part 3). -/
theorem wit_GalleryEvents_part3 :
    (∃ (c : List Byte), c.length = 64 ∧ let takes (u : State) (n : Nat) : Prop := u.hearsCommands = true ∧ byteAt c 0 = n ∧ u.gal.held = [] ∧ u.gal.stopped = false ∧ u.faults.mode ≠ .recovery;
  Meets (fun u => (fun u => takes u 3 ∧ (byteAt c 1).testBit u.gal.addr = true ∧ u.gal.grantSeq ≠ 0 ∧ fieldLE c 4 4 = u.gal.nextSeq) u ∧ (u.prepareVerdict c ≠ 0)) ({ live0 with gal := { live0.gal with addr := 7, role := .joined, edgeAt := 10 ^ 15 - msT + 1, grantSeq := 1, nextSeq := 2 } }))
    ∧ (∃ (c : List Byte), c.length = 64 ∧ let takes (u : State) (n : Nat) : Prop := u.hearsCommands = true ∧ byteAt c 0 = n ∧ u.gal.held = [] ∧ u.gal.stopped = false ∧ u.faults.mode ≠ .recovery;
  Meets (fun u => takes u 6 ∧ byteAt c 1 = u.gal.addr ∧ sliceP c 16 16 = u.devidBytes ∧ u.gal.grantSeq < fieldLE c 4 4) ({ live0 with gal := { live0.gal with addr := 7, role := .joined, edgeAt := 10 ^ 15 - msT + 1 } }))
    ∧ (∃ (c : List Byte), c.length = 64 ∧ let takes (u : State) (n : Nat) : Prop := u.hearsCommands = true ∧ byteAt c 0 = n ∧ u.gal.held = [] ∧ u.gal.stopped = false ∧ u.faults.mode ≠ .recovery;
  let part (u : State) : Prop := takes u 1 ∧ byteAt c 1 = u.gal.addr ∧ u.gal.grantSeq ≠ 0 ∧ fieldLE c 4 4 = u.gal.nextSeq;
  let old (u : State) := u.keptPart (fieldLE c 8 4) (fieldLE c 12 2);
  ∃ k, Meets (fun u => part u ∧ old u = some k ∧ k.running = true) ({ live0 with gal := { live0.gal with addr := 7, role := .joined, edgeAt := 10 ^ 15 - msT + 1, grantSeq := 1, nextSeq := 2, kept := [⟨0, 5, 9, padTo 64 [1, 7, 3, 1, 2, 0, 0, 0, 5, 0, 0, 0, 9, 0, 255, 255], 1, 0, true, padTo 64 [2, 0], 0⟩] } }))
    ∧ (∃ (c : List Byte), c.length = 64 ∧ let takes (u : State) (n : Nat) : Prop := u.hearsCommands = true ∧ byteAt c 0 = n ∧ u.gal.held = [] ∧ u.gal.stopped = false ∧ u.faults.mode ≠ .recovery;
  let part (u : State) : Prop := takes u 1 ∧ byteAt c 1 = u.gal.addr ∧ u.gal.grantSeq ≠ 0 ∧ fieldLE c 4 4 = u.gal.nextSeq;
  let old (u : State) := u.keptPart (fieldLE c 8 4) (fieldLE c 12 2);
  ∃ k, Meets (fun u => part u ∧ old u = some k ∧ k.running = false ∧ byteAt k.result 1 = 0) ({ live0 with gal := { live0.gal with addr := 7, role := .joined, edgeAt := 10 ^ 15 - msT + 1, grantSeq := 1, nextSeq := 2, kept := [⟨0, 5, 9, padTo 64 [1, 7, 3, 1, 2, 0, 0, 0, 5, 0, 0, 0, 9, 0, 255, 255], 1, 0, false, padTo 64 [2, 0], 10 ^ 15⟩] } }))
    ∧ (∃ (c : List Byte), c.length = 64 ∧ let takes (u : State) (n : Nat) : Prop := u.hearsCommands = true ∧ byteAt c 0 = n ∧ u.gal.held = [] ∧ u.gal.stopped = false ∧ u.faults.mode ≠ .recovery;
  let part (u : State) : Prop := takes u 1 ∧ byteAt c 1 = u.gal.addr ∧ u.gal.grantSeq ≠ 0 ∧ fieldLE c 4 4 = u.gal.nextSeq;
  let old (u : State) := u.keptPart (fieldLE c 8 4) (fieldLE c 12 2);
  Meets (fun u => part u ∧ old u = none ∧ u.lifeAllows 0x11 = false ∧
         ∀ k ∈ u.gal.kept, k.id ≠ u.gal.keptId) ({ { live0 with life := { live0.life with st := .retired } } with gal := { live0.gal with addr := 7, role := .joined, edgeAt := 10 ^ 15 - msT + 1, grantSeq := 1, nextSeq := 2 } }))
    ∧ (∃ (c : List Byte), c.length = 64 ∧ let takes (u : State) (n : Nat) : Prop := u.hearsCommands = true ∧ byteAt c 0 = n ∧ u.gal.held = [] ∧ u.gal.stopped = false ∧ u.faults.mode ≠ .recovery;
  let part (u : State) : Prop := takes u 1 ∧ byteAt c 1 = u.gal.addr ∧ u.gal.grantSeq ≠ 0 ∧ fieldLE c 4 4 = u.gal.nextSeq;
  let old (u : State) := u.keptPart (fieldLE c 8 4) (fieldLE c 12 2);
  ∃ l, Meets (fun u => part u ∧ old u = none ∧ u.lifeAllows 0x11 = true ∧ fieldLE c 14 2 = 0xFFFF ∧ u.noPipe = false ∧ u.anyFree = some l ∧
         l ∉ u.host.hushLandings ∧ u.domUp (l / 8) = false) ({ { bound0 with power := { bound0.power with domains := vset (Vector.replicate 50 .down) 48 .up } } with gal := { live0.gal with addr := 7, role := .joined, edgeAt := 10 ^ 15 - msT + 1, grantSeq := 1, nextSeq := 2 } }))
    ∧ (∃ (src : Nat) (m : List Byte), m.length = 64 ∧ let new (u : State) (n : Nat) : Prop := u.gal.isMaster = true ∧ byteAt m 0 = n ∧ 1 ≤ src ∧ src < 8 ∧ 1 ≤ (u.gal.node src).st ∧ (u.gal.node src).st ≤ 3 ∧ u.gal.nextMessage src (fieldLE m 4 2) = true;
  ∃ p, Meets (fun u => new u 2 ∧ u.gal.parts = [p] ∧ p.run = fieldLE m 8 4 ∧ p.part = fieldLE m 6 2 ∧ p.node = src ∧ p.result = none) ({ live0 with gal := { live0.gal with role := .master, nodes := vset live0.gal.nodes 7 { GalNode.blank with st := 2 }, parts := [⟨0, 5, 9, 7, none⟩] } }))
    ∧ (∃ (src : Nat) (m : List Byte), m.length = 64 ∧ let new (u : State) (n : Nat) : Prop := u.gal.isMaster = true ∧ byteAt m 0 = n ∧ 1 ≤ src ∧ src < 8 ∧ 1 ≤ (u.gal.node src).st ∧ (u.gal.node src).st ≤ 3 ∧ u.gal.nextMessage src (fieldLE m 4 2) = true;
  Meets (fun u => new u 2 ∧ u.gal.parts = []) ({ live0 with gal := { live0.gal with role := .master, nodes := vset live0.gal.nodes 7 { GalNode.blank with st := 2 } } })) :=
  ⟨⟨padTo 64 [3, 128, 0, 1, 2, 0, 0, 0, 5, 0, 0, 0, 9, 0, 0, 0, 0, 0, 255, 255], ⟨rfl, by decide +kernel⟩⟩,
   ⟨padTo 64 [6, 7, 0, 0, 1], ⟨rfl, by decide +kernel⟩⟩,
   ⟨padTo 64 [1, 7, 3, 1, 2, 0, 0, 0, 5, 0, 0, 0, 9, 0, 255, 255], rfl, ⟨0, 5, 9, padTo 64 [1, 7, 3, 1, 2, 0, 0, 0, 5, 0, 0, 0, 9, 0, 255, 255], 1, 0, true, padTo 64 [2, 0], 0⟩, by decide +kernel⟩,
   ⟨padTo 64 [1, 7, 3, 1, 2, 0, 0, 0, 5, 0, 0, 0, 9, 0, 255, 255], rfl, ⟨0, 5, 9, padTo 64 [1, 7, 3, 1, 2, 0, 0, 0, 5, 0, 0, 0, 9, 0, 255, 255], 1, 0, false, padTo 64 [2, 0], 10 ^ 15⟩, by decide +kernel⟩,
   ⟨padTo 64 [1, 7, 3, 1, 2, 0, 0, 0, 5, 0, 0, 0, 9, 0, 255, 255], ⟨rfl, by decide +kernel⟩⟩,
   ⟨padTo 64 [1, 7, 3, 1, 2, 0, 0, 0, 5, 0, 0, 0, 9, 0, 255, 255], rfl, 0, by decide +kernel⟩,
   ⟨7, padTo 64 [2, 0, 0, 0, 1, 0, 9, 0, 5], rfl, ⟨0, 5, 9, 7, none⟩, by decide +kernel⟩,
   ⟨7, padTo 64 [2, 0, 0, 0, 1, 0, 9, 0, 5], ⟨rfl, by decide +kernel⟩⟩⟩

/-- States and operands that meet what the clauses of GalleryEvents ask, one conjunct a clause (part 4). -/
theorem wit_GalleryEvents_part4 :
    (∃ (src : Nat) (m : List Byte), m.length = 64 ∧ let new (u : State) (n : Nat) : Prop := u.gal.isMaster = true ∧ byteAt m 0 = n ∧ 1 ≤ src ∧ src < 8 ∧ 1 ≤ (u.gal.node src).st ∧ (u.gal.node src).st ≤ 3 ∧ u.gal.nextMessage src (fieldLE m 4 2) = true;
  ∃ (c : ModeChange), Meets (fun u => new u 4 ∧ u.gal.change = some c ∧ c.pmode = fieldLE m 8 4 ∧ c.dest.testBit src = true ∧ c.target.isSome = true ∧
        c.done = none) ({ live0 with gal := { live0.gal with role := .master, nodes := vset live0.gal.nodes 7 { GalNode.blank with st := 2 }, change := some ⟨none, [], 5, 0, 2 ^ 7, some 9, 0, false, none, false⟩ } }))
    ∧ (∃ (src : Nat) (m : List Byte), m.length = 64 ∧ let new (u : State) (n : Nat) : Prop := u.gal.isMaster = true ∧ byteAt m 0 = n ∧ 1 ≤ src ∧ src < 8 ∧ 1 ≤ (u.gal.node src).st ∧ (u.gal.node src).st ≤ 3 ∧ u.gal.nextMessage src (fieldLE m 4 2) = true;
  ∃ (c : ModeChange), Meets (fun u => new u 4 ∧ u.gal.change = some c ∧ c.pmode = fieldLE m 8 4 ∧ c.dest.testBit src = true ∧ c.target.isSome = true ∧
        c.done = none) ({ live0 with gal := { live0.gal with role := .master, nodes := vset live0.gal.nodes 7 { GalNode.blank with st := 2 }, change := some ⟨none, [], 5, 0, 2 ^ 7, some 9, 0, false, none, false⟩ } }))
    ∧ (∃ (src : Nat) (m : List Byte), m.length = 64 ∧ 
  let joins (u : State) : Prop := u.gal.isMaster = true ∧ byteAt m 0 = 5 ∧ 1 ≤ src ∧ src < 8;
  Meets (fun u => joins u ∧ (u.gal.mode = 0 ∨ u.gal.members.testBit src = true) ∧ (u.gal.node src).st = 0) ({ live0 with gal := { live0.gal with role := .master } }))
    ∧ (∃ (src : Nat) (m : List Byte), m.length = 64 ∧ 
  let joins (u : State) : Prop := u.gal.isMaster = true ∧ byteAt m 0 = 5 ∧ 1 ≤ src ∧ src < 8;
  Meets (fun u => joins u ∧ (u.gal.mode = 0 ∨ u.gal.members.testBit src = true) ∧ (u.gal.node src).st = 0) ({ live0 with gal := { live0.gal with role := .master, mode := 5, members := 2 ^ 7 } }))
    ∧ (∃ (src : Nat) (m : List Byte), m.length = 64 ∧ 
  let joins (u : State) : Prop := u.gal.isMaster = true ∧ byteAt m 0 = 5 ∧ 1 ≤ src ∧ src < 8;
  Meets (fun u => joins u ∧ u.gal.mode ≠ 0 ∧ u.gal.members.testBit src = false) ({ live0 with gal := { live0.gal with role := .master, mode := 5 } }))
    ∧ (∃ (seq r : Nat) (o : GalOut), Meets (fun u => u.gal.out = [o] ∧ o.seq = seq ∧ o.gone = false ∧ o.sent = some r ∧ r + 2 ≤ u.gal.round) ({ live0 with gal := { live0.gal with role := .master, round := 7, out := [⟨3, 128, [], some 5, false, 0, none, false⟩] } }))
    ∧ (Meets (fun _ => True) (live0))
    ∧ (∃ n, Meets (fun u => u.gal.isMaster = true ∧ 1 ≤ n ∧ n < 8 ∧ 1 ≤ (u.gal.node n).st ∧ (u.gal.node n).st ≤ 3 ∧ u.gal.ghush = false ∧
      bits u.gal.cfg 15 8 ≤ u.silentRounds n) ({ live0 with gal := { live0.gal with role := .master, edgeAt := 10 ^ 15, nodes := vset live0.gal.nodes 7 { GalNode.blank with st := 3, silent := 8 } } })) :=
  ⟨⟨7, padTo 64 [4, 0, 0, 0, 1, 0, 0, 0, 5], rfl, ⟨none, [], 5, 0, 2 ^ 7, some 9, 0, false, none, false⟩, by decide +kernel⟩,
   ⟨7, padTo 64 [4, 1, 0, 0, 1, 0, 0, 0, 5], rfl, ⟨none, [], 5, 0, 2 ^ 7, some 9, 0, false, none, false⟩, by decide +kernel⟩,
   ⟨7, padTo 64 [5], ⟨rfl, by decide +kernel⟩⟩,
   ⟨7, padTo 64 [5], ⟨rfl, by decide +kernel⟩⟩,
   ⟨7, padTo 64 [5], ⟨rfl, by decide +kernel⟩⟩,
   ⟨3, 5, ⟨3, 128, [], some 5, false, 0, none, false⟩, by decide +kernel⟩,
   (by decide +kernel),
   ⟨7, by decide +kernel⟩⟩

/-- States and operands that meet what the clauses of GalleryEvents ask, one conjunct a clause (part 5). -/
theorem wit_GalleryEvents_part5 :
    (Meets (fun u => u.gal.isSlave = true ∧ u.gal.role ≠ .noBeacon ∧ u.gal.edgeAt + (bits u.gal.cfg 7 0 + 1) * msT ≤ u.now) ({ live0 with gal := { live0.gal with addr := 7, role := .joined, edgeAt := 0 } }))
    ∧ (Holds (fun _ => True) (live0))
    ∧ (Holds (fun _ => True) (live0))
    ∧ (∃ e, Meets (fun u => u.gal.babbleTill = some e ∧ e ≤ u.now) ({ live0 with gal := { live0.gal with babbleTill := some (10 ^ 15) } }))
    ∧ (∃ v : Word, ({ live0 with gal := { live0.gal with stopped := true } }).frameOpen = true ∧ ({ live0 with gal := { live0.gal with stopped := true } }).frameActs.wordOk 0x4C18 v = true ∧ (fun u v => v.toNat.testBit 0 = true → u.gal.stopped = true → u.gal.held = []) ({ live0 with gal := { live0.gal with stopped := true } }).frameActs v)
    ∧ (∃ v : Word, ({ live0 with gal := { live0.gal with stopped := true, role := .master } }).frameOpen = true ∧ ({ live0 with gal := { live0.gal with stopped := true, role := .master } }).frameActs.wordOk 0x4C18 v = true ∧ (fun u v => v.toNat.testBit 0 = true → u.gal.stopped = true → u.gal.held = []) ({ live0 with gal := { live0.gal with stopped := true, role := .master } }).frameActs v ∧ (fun (u : State) => u.gal.stopped = true ∧ u.gal.isMaster = true ∧ u.gal.addr = 0) ({ live0 with gal := { live0.gal with stopped := true, role := .master } }).frameActs)
    ∧ (∃ v : Word, ({ live0 with gal := { live0.gal with stopped := true, role := .joined, addr := 7 } }).frameOpen = true ∧ ({ live0 with gal := { live0.gal with stopped := true, role := .joined, addr := 7 } }).frameActs.wordOk 0x4C18 v = true ∧ (fun u v => v.toNat.testBit 0 = true → u.gal.stopped = true → u.gal.held = []) ({ live0 with gal := { live0.gal with stopped := true, role := .joined, addr := 7 } }).frameActs v ∧ (fun (u : State) => u.gal.stopped = true ∧ u.gal.isSlave = true ∧ u.gal.isMaster = false ∧ u.gal.held = []) ({ live0 with gal := { live0.gal with stopped := true, role := .joined, addr := 7 } }).frameActs)
    ∧ (∃ e, Meets (fun u => u.gal.listen = some e ∧ e + 4 * msT ≤ u.now ∧ u.domUp 48 = true ∧ u.gal.bsess < 65536) ({ live0 with gal := { live0.gal with listen := some (10 ^ 15 - 4 * msT) } })) :=
  ⟨(by decide +kernel),
   (by decide +kernel),
   (by decide +kernel),
   ⟨10 ^ 15, by decide +kernel⟩,
   ⟨0, by decide +kernel⟩,
   ⟨1, by decide +kernel⟩,
   ⟨1, by decide +kernel⟩,
   ⟨10 ^ 15 - 4 * msT, by decide +kernel⟩⟩

/-- States and operands that meet what the clauses of GalleryEvents ask, one conjunct a clause (part 6). -/
theorem wit_GalleryEvents_part6 :
    (∃ e, Meets (fun u => u.gal.joinAt = some e ∧ e + 64 * msT ≤ u.now ∧ u.gal.isSlave = true) ({ live0 with gal := { live0.gal with addr := 7, role := .joining, joinAt := some (10 ^ 15 - 64 * msT) } }))
    ∧ (∃ (c : ModeChange) (ok : Bool), Meets (fun u => u.gal.isMaster = true ∧ u.changeDue = true ∧ u.gal.change = some c ∧ c.done = some ok) ({ live0 with gal := { live0.gal with role := .master, nodes := vset live0.gal.nodes 7 { GalNode.blank with st := 2 }, round := 11, change := some ⟨none, [], 5, 0, 2 ^ 7, some 9, 0, false, some true, false⟩ } }))
    ∧ (∃ (c : ModeChange) (ok : Bool), Meets (fun u => u.gal.isMaster = true ∧ u.changeDue = true ∧ u.gal.change = some c ∧ c.done = some ok) ({ live0 with gal := { live0.gal with role := .master, nodes := vset live0.gal.nodes 7 { GalNode.blank with st := 2 }, round := 11, change := some ⟨some ⟨0, 1⟩, [], 5, 0, 2 ^ 7, some 9, 0, false, some true, false⟩ } }))
    ∧ (∃ (l d w till : Nat) (blk : List Byte), Meets (fun u => l < 192 ∧ (u.land l).wait = .gsend d blk ∧ Tbl.find u.gal.sends l = some (w, till) ∧ (u.land l).endReq = none ∧
      ((u.sendParts l blk w).2 = 0 ∨ till ≤ u.now)) (let s := waiting (.gsend 5 []) live0
    { s with gal := { s.gal with sends := [(0, (0, 10 ^ 15))] } }))
    ∧ (∃ (l d till : Nat) (blk : List Byte), Meets (fun u => l < 192 ∧ (u.land l).wait = .gwait d blk till ∧ (u.land l).endReq = none ∧ (u.partsOut l blk = false ∨ till ≤ u.now)) (waiting (.gwait 5 [] (10 ^ 15)) live0)) :=
  ⟨⟨10 ^ 15 - 64 * msT, by decide +kernel⟩,
   ⟨⟨none, [], 5, 0, 2 ^ 7, some 9, 0, false, some true, false⟩, true, by decide +kernel⟩,
   ⟨⟨some ⟨0, 1⟩, [], 5, 0, 2 ^ 7, some 9, 0, false, some true, false⟩, true, by decide +kernel⟩,
   ⟨0, 5, 0, 10 ^ 15, [], by decide +kernel⟩,
   ⟨0, 5, 10 ^ 15, [], by decide +kernel⟩⟩

/-! ### Steps -/

/-- A step word whose condition is ALWAYS. -/
def word (op d sr imm : Nat) : Nat := op * 2 ^ 26 + 15 * 2 ^ 22 + d * 2 ^ 18 + sr * 2 ^ 14 + imm

/-- Change landing 0. -/
def land0 (g : Landing → Landing) (s : State) : State := s.setLand 0 (g (s.land 0))

/-- Landing 0 is about to execute the step k, and ok holds of the state that has counted it. -/
def about (s : State) (k : Step) (ok : State → StepWord → Bool) : Bool :=
  match s.fetch 0 with | some f => s.doesStep 0 k f && ok (s.countStep 0) f | none => false

/-- Every step of the hypotheses `doesStep` comes about: SumSteps, LogicSteps, ShiftSteps, TimerSteps and all the others. -/
theorem wit_every_step : ([(word 0x00 1 0 5, Step.mov), (word 0x01 1 2 3, .add), (word 0x02 1 2 3, .sub), (word 0x03 1 2 3, .mul),
    (word 0x04 1 2 3, .and), (word 0x05 1 2 3, .or), (word 0x06 1 2 3, .xor), (word 0x07 1 2 3, .shl), (word 0x08 1 2 3, .shr),
    (word 0x09 1 2 3, .sar), (word 0x0A 0 2 3, .cmp), (word 0x0B 0 2 3, .tst), (word 0x0C 1 2 3, .adc), (word 0x0D 1 2 3, .sbc),
    (word 0x0E 1 2 3, .bfx), (word 0x0F 1 2 3, .mhu), (word 0x10 1 2 3, .ldw), (word 0x11 1 2 3, .ldhu), (word 0x12 1 2 3, .ldbu),
    (word 0x13 1 2 3, .ldhs), (word 0x14 1 2 3, .stw), (word 0x15 1 2 3, .sth), (word 0x16 1 2 3, .stb), (word 0x17 1 2 3, .swapw),
    (word 0x18 0 2 3, .jmp), (word 0x19 0 0 3, .br), (word 0x1A 0 2 3, .call), (word 0x1B 0 0 0, .ret), (word 0x1C 1 0 1, .wait),
    (word 0x1D 0 0 0, .yield), (word 0x1E 0 0 1, .end_), (word 0x20 0 2 3, .ltset), (word 0x21 1 0 3, .ltread), (word 0x22 0 0 3, .ltstop),
    (word 0x23 1 0 3, .tmread)].all fun p => about (onStep p.1) p.2 fun _ _ => true) = true := by decide +kernel

/-- LoadSteps: the last access inside the hall passes its check and the first past it does not; a misaligned one does not. -/
theorem wit_LoadSteps :
    let chk (imm n : Nat) (op : Nat) (k : Step) (e : Option StepFault) := about (onStep (word op 1 0 (0x1000 + imm))) k fun u f =>
      u.accessFault 0 (bits f.imm 13 12) (hallAddr f (u.land 0)) n permRd == e
    (chk 60 4 0x10 .ldw none && chk 64 4 0x10 .ldw (some .hallBound) && chk 58 4 0x10 .ldw (some .align) && chk 62 2 0x11 .ldhu none
      && chk 64 2 0x11 .ldhu (some .hallBound) && chk 63 1 0x12 .ldbu none && chk 64 1 0x12 .ldbu (some .hallBound)
      && chk 62 2 0x13 .ldhs none && chk 61 2 0x13 .ldhs (some .align)) = true := by decide +kernel

/-- StoreSteps: the same for stores, and SWAPW on the code hall. -/
theorem wit_StoreSteps :
    let chk (imm n perm : Nat) (op : Nat) (k : Step) (e : Option StepFault) := about (onStep (word op 1 0 imm)) k fun u f =>
      u.accessFault 0 (bits f.imm 13 12) (hallAddr f (u.land 0)) n perm == e
    let swap (imm : Nat) (e : Option StepFault) := about (onStep (word 0x17 1 0 imm)) .swapw fun u f =>
      (if u.hallLimit 0 (bits f.imm 13 12) < hallAddr f (u.land 0) + 4 then some .hallBound
       else if bits f.imm 13 12 = 0 ∨ bits f.imm 13 12 = 2 then some .hallPerm
       else u.accessFault 0 (bits f.imm 13 12) (hallAddr f (u.land 0)) 4 permSw) == e
    (chk 0x103C 4 permW 0x14 .stw none && chk 0x1040 4 permW 0x14 .stw (some .hallBound) && chk 0 4 permW 0x14 .stw (some .hallPerm)
      && chk 0x103E 2 permW 0x15 .sth none && chk 0x103F 1 permW 0x16 .stb none && chk 0x1040 1 permW 0x16 .stb (some .hallBound)
      && swap 0x103C none && swap 0 (some .hallPerm) && swap 0x1040 (some .hallBound)) = true := by decide +kernel

/-- HallWriteFrame: both halls that a store can reach. -/
theorem wit_HallWriteFrame : ((1 : Nat) = 1 ∨ (1 : Nat) = 3) ∧ ((3 : Nat) = 1 ∨ (3 : Nat) = 3) ∧ live0.memWf = true := by decide +kernel

/-- JumpSteps: the last step of the code is a target, the address after it is none. -/
theorem wit_JumpSteps :
    let two (w : Nat) (g : Landing → Landing) : State := land0 g
      { onStep w with halls := { live0.halls with images := [(0, img (natLE 4 w ++ natLE 4 w))] } }
    let jump (imm op : Nat) (k : Step) (e : Option StepFault) := about (two (word op 0 0 imm) id) k fun u f =>
      u.targetCheck 0 ((u.land 0).jumpTarget f : Nat) == e
    let br (imm : Nat) (e : Option StepFault) := about (two (word 0x19 0 0 imm) id) .br fun u f =>
      u.targetCheck 0 (((u.land 0).pc : Int) + (BitVec.ofNat 14 f.imm).toInt) == e
    let ret (v : Word) (e : Option StepFault) := about (two (word 0x1B 0 0 0) fun x => x.setReg 15 v) .ret fun u _ =>
      u.targetCheck 0 (((u.land 0).reg 15).toNat : Nat) == e
    (jump 1 0x18 .jmp none && jump 2 0x18 .jmp (some .pcRange) && jump 1 0x1A .call none && jump 2 0x1A .call (some .pcRange)
      && br 1 none && br 0x3FFF (some .pcRange) && ret 1 none && ret 2 (some .pcRange)) = true := by decide +kernel

/-- WaitYieldEndSteps: WAIT on landing timers with and without an expired one, WAIT on a timer, YIELD, END with a code that a step gives
and with one that no step gives. -/
theorem wit_WaitYieldEndSteps :
    let wait (imm : Nat) (lts : Vector LTimer 4) (ok : Nat → StepWord → Bool) :=
      about (land0 (fun x => { x with lts := lts }) (onStep (word 0x1C 1 0 imm))) .wait fun u f =>
        ok ((u.land 0).expiredMask u.now &&& bits f.imm 3 0) f
    let idle : Vector LTimer 4 := Vector.replicate 4 LTimer.idle
    let endCode (w : Nat) (b : Bool) := about (onStep w) .end_ fun u f =>
      (Code.ofNum (if bit f.imm 13 = 1 then ((u.land 0).reg f.s).toNat % 256 else f.imm % 256)).any Code.mayEnd == b
    (wait 8 (Vector.replicate 4 ⟨false, true, 0, 0⟩) (fun m f => bit f.imm 13 == 0 && m != 0)
      && wait 8 idle (fun m f => bit f.imm 13 == 0 && m == 0) && wait 0x200F idle (fun _ f => bit f.imm 13 == 1)
      && about (onStep (word 0x1D 0 0 0)) .yield (fun _ _ => true)
      && endCode (word 0x1E 0 0 0) true && endCode (word 0x1E 0 0 255) false) = true := by decide +kernel

/-- IllegalSteps: a word that is no step, and a step address past the code. -/
theorem wit_IllegalSteps :
    let illegal := onStep (word 0x3F 0 0 1)
    let past := land0 (fun x => { x with pc := 1 }) (onStep 0)
    illegal.live = true ∧ illegal.canStep 0 = true ∧ (illegal.fetch 0).any (fun f => f.step == none) = true ∧
    past.live = true ∧ past.canStep 0 = true ∧ past.fetch 0 = none := by decide +kernel

/-- StepFaultEffect: the highest landing. -/
theorem wit_StepFaultEffect : (191 : Nat) < 192 ∧ (live0.land 191).becomesUnusable = false := by decide +kernel

/-- StepCommon: a step whose condition is false, and a landing that holds another step. -/
theorem wit_StepCommon : ∃ f : StepWord, ∃ s : State, ∃ q : State,
    stepOf (.stAdd 0 0) = some (0, 0, .add) ∧ s.atStep 0 .add f = true ∧ condPasses f.cond (s.land 0).flags = false ∧
    (∀ g, q.atStep 0 .add g = false) ∧ (191 : Nat) < 192 :=
  ⟨stepFields (word 0x01 1 2 3 - 15 * 2 ^ 22), onStep (word 0x01 1 2 3 - 15 * 2 ^ 22), live0, by decide +kernel, by decide +kernel,
    by decide +kernel, fun g => by
      have h : live0.canStep 0 = false := by decide +kernel
      simp [State.atStep, h], by decide⟩

/-- AirSteps: a claim of nothing, a budget of 0 and one past the longest, a claim of what is held, of a unit that is out, and of a unit
that is free; and a release. -/
theorem wit_AirSteps :
    let claim (imm : Nat) (budget : Word) (g : List Grant) (unus : Nat) (ok : State → Nat → Nat → Bool) :=
      about { land0 (fun x => x.setReg 2 budget) (onStep (word 0x2D 1 2 imm)) with
          air := { live0.air with grants := g }, bist := { live0.bist with unus := unus } } .airClaim fun u f =>
        ok u (f.imm % 16) ((u.land 0).reg f.s).toNat
    let fits (m b : Nat) : Bool := m != 0 && decide (1 ≤ b) && decide (b ≤ 200000)
    (claim 0 1 [] 0 (fun _ m _ => m == 0) && claim 2 0 [] 0 (fun _ _ b => decide (b < 1))
      && claim 2 200001 [] 0 (fun _ _ b => decide (200000 < b))
      && claim 2 200000 [grant0] 0 (fun u m b => fits m b && u.air.heldBy 0 &&& m != 0)
      && claim 15 1 [] unitsMask (fun u m b => fits m b && (u.air.heldBy 0 &&& m == 0) && u.airUnusable m)
      && claim 15 200000 [] 0 (fun u m b => fits m b && (u.air.heldBy 0 &&& m == 0) && !u.airUnusable m)
      && about (onStep (word 0x2D 1 0 0x100F)) .airRelease fun _ _ => true) = true := by decide +kernel

/-- AirReleaseEffect: a landing that gives back one of two resources, beside another that keeps its own. -/
theorem wit_AirReleaseEffect : ∃ s : State, (∃ g ∈ s.air.grants, g.landing = 0) ∧
    (∃ g ∈ s.air.grants, g.landing ≠ 0 ∧ g.mask ≠ 0) ∧ (∃ g ∈ (s.airRelease 0 2).air.grants, g.landing = 0) :=
  ⟨{ live0 with air := { live0.air with grants := [{ grant0 with mask := 3 }, { grant0 with landing := 1, mask := 4 }] } },
    ⟨_, List.mem_cons_self, rfl⟩, by decide +kernel, by decide +kernel⟩

/-- Landing 0 executes a step word with a block at offset 0 of a data hall of 1,024 bytes. -/
def withBlock (w : Nat) (blk : List Byte) : State :=
  let s := land0 (fun x => { x with dataLen := 1024 }) (onStep w)
  { s with halls := { s.halls with pool := Mem.empty.writeN 0 blk } }

/-- The same with a grant of every resource of the air. -/
def granted (blk : List Byte) (w : Nat) : State :=
  let s := withBlock w blk
  { s with air := { s.air with grants := [{ grant0 with mask := 15 }] } }

/-- A field step about to execute, past its checks, with what its unit asks. -/
def begins (s : State) (sp : FieldSpec) (ok : State → FieldJob → Bool) : Bool :=
  about s sp.step fun u f => u.fieldMayRun 0 sp f { grant0 with mask := 15 } && ok u (u.jobAt 0 sp f)

/-- A block: its result area at offset 64, no key, and its own fields from byte 8. -/
def block (rest : List Byte) : List Byte := [64, 0, 0, 0, 0xFF, 0, 0, 0] ++ rest

/-- FieldStepsBegin: each field step with a block that its unit serves. -/
theorem wit_FieldStepsBegin :
    let lf (s : State) : State := { s with lf := { s.lf with coilEn := 1, reg0 := 0xFFFF, reg1 := 0xFFFFFFFF } }
    let uwb (s : State) : State := { s with uwb := { s.uwb with reg0 := 0x30000, reg1 := 0xFFFFFFFF } }
    let uhf (s : State) : State := { s with uhf := { s.uhf with reg0 := 0x0E0E0E0E, reg1 := 0xF000FFFF } }
    let poll (op : Nat) (k : Step) (j : FieldKind) (b : List Byte) := begins (uwb (granted (block b) (word op 1 0 0))) (uwbSpec k j) fun u j =>
      u.uwbChecks == 0 && u.uwbCheck 0 j == .ok
    (begins (lf (granted (block [1, 0, 1, 0, 32, 0, 1, 0]) (word 0x24 1 0 0))) lftxSpec (fun u j =>
        !u.marked unitLfRx && !(u.lfAt 25).lfBlocked j.blk && (u.lfAt 25).lfSelection j.blk != 0)
      && begins (granted (block [3]) (word 0x25 1 0 0)) lfrxSpec (fun u _ => !u.marked unitLfRx)
      && poll 0x26 .uwbpoll .uwbpoll [5, 9, 0, 0, 32, 0, 1, 0] && poll 0x27 .uwbresp .uwbresp [9, 255, 0, 0, 32, 0, 1, 0]
      && poll 0x28 .uwbfinal .uwbfinal [9, 12, 0, 1, 32, 0, 125, 0]
      && begins (granted (block [3, 1, 31, 48]) (word 0x29 1 0 0)) uhfrxSpec (fun u _ => !u.marked unitUhf)
      && begins (uhf (granted (block [3, 1, 4, 14, 32, 0, 48, 0]) (word 0x2A 1 0 0))) uhftxSpec
        (fun u j => !u.marked unitUhf && !u.uhfBlocked j.blk)
      && begins (granted (block [0, 0, 32, 0, 1, 0, 1, 0]) (word 0x2B 1 0 0)) nfcxSpec
        (fun u j => !u.marked unitNfc && nfcShort j.blk j.frame && byteAt j.blk 9 == 0)
      && begins (granted (block [8]) (word 0x2C 1 0 0)) nfctreeSpec (fun u _ => !u.marked unitNfc)) = true := by decide +kernel

/-- FieldStepWithoutGrant: with a claim earlier in the flight and without one. -/
theorem wit_FieldStepWithoutGrant :
    let at0 (claimed : Nat) := about (land0 (fun x => { x with claimedEver := claimed }) (withBlock (word 0x25 1 0 0) (block [3]))) .lfrx fun u f =>
      u.setUnits &&& FieldKind.lfrx.units == 0 && (u.fieldFault 0 lfrxSpec (hallAddr f (u.land 0))).isNone
      && (u.air.grantOf 0 FieldKind.lfrx.res).isNone && (u.land 0).endReq.isNone
      && (u.land 0).claimedEver.testBit FieldKind.lfrx.res == (claimed != 0)
    fieldSpecOf (.stLfrx 0 0) = some (0, 0, lfrxSpec) ∧ (at0 0 && at0 15) = true := ⟨rfl, by decide +kernel⟩

/-- A key for every engine and use. -/
def key0 : Handle := ⟨.vault 0, 4, 0x7FF, 15, false, List.replicate 32 1⟩

/-- AeskStep: a loaded and an empty vault slot; a tenant key that is there, one that is not, and no binding. -/
theorem wit_AeskStep :
    let aesk (imm st : Nat) (t : Option Nat) (ks : List (Option Handle)) (ok : State → Nat → Bool) :=
      about { land0 (fun x => { x with tenant := t, tenantKeys := ks }) (onStep (word 0x30 1 0 imm)) with
        sec := { live0.sec with vault := [(255, ⟨st, 0, 15, 15, false, []⟩)] } } .aesk fun u f => !u.zapped && ok u (f.imm % 256)
    (aesk 255 1 none [] (fun u n => (u.vaultSlot n).st == 1) && aesk 255 0 none [] (fun u n => (u.vaultSlot n).st != 1)
      && aesk 0x1000 0 none [] (fun u _ => (u.land 0).tenant.isNone)
      && aesk 0x1003 0 (some 5) (List.replicate 4 (some key0)) (fun u n => (u.land 0).tenant.isSome && ((u.land 0).tenantKeys.getD n none).isSome)
      && aesk 0x1003 0 (some 5) [] (fun u n => (u.land 0).tenant.isSome && ((u.land 0).tenantKeys.getD n none).isNone)) = true := by decide +kernel

/-- Landing 0 executes a keyed step with a block and one key in handle 3. -/
def keyed (op : Nat) (blk : List Byte) (h : Handle) : State :=
  land0 (fun x => { x with handles := vset x.handles 3 h }) (withBlock (word op 1 0 0) blk)

/-- A block of AESX in a mode. -/
def aesxBlock (mode : Byte) : List Byte := List.replicate 8 0 ++ [mode, 3, 64, 0, 80, 0, 16, 0, 96, 0, 112, 0, 1, 0, 128, 0]

/-- A block of MACV. -/
def macvBlock : List Byte := List.replicate 8 0 ++ [0, 3, 64, 0, 16, 0, 80, 0, 0, 0, 96, 0, 16]

/-- A block of DERIVE in a mode. -/
def deriveBlock (mode : Byte) : List Byte := List.replicate 8 0 ++ [mode, 3, 0, 7, 64, 0, 0, 0, 64, 0, 64, 0, 128, 0, 15, 1]

/-- KeyedSteps: AESX in its six modes, MACV. -/
theorem wit_KeyedSteps :
    let ok (op : Nat) (k : Step) (blk : List Byte) (bad : List Byte → Bool) (ranges : List Byte → List (Nat × Nat × Nat))
        (allowed : Handle → List Byte → Bool) := about (keyed op blk key0) k fun u f =>
      let b := u.hallRead 0 1 (hallAddr f (u.land 0)) 24
      let h := (u.land 0).handle (byteAt b 9)
      u.blockOk 0 (hallAddr f (u.land 0)) 24 bad ranges (allowed h b) (h.engines &&& 15)
    ((List.range 6).all (fun m => ok 0x31 .aesx (aesxBlock (BitVec.ofNat 8 m)) aesxBad aesxRanges fun h b =>
        byteAt b 8 == m && aesxAllowed h (byteAt b 8))
      && ok 0x34 .macv macvBlock macvBad macvRanges (fun h _ => macvAllowed h)) = true := by decide +kernel

/-- DeriveStep: the KDF, X25519 and P-256. -/
theorem wit_DeriveStep : ((List.range 3).all fun m =>
    about (keyed 0x32 (deriveBlock (BitVec.ofNat 8 m)) { key0 with ktype := if m = 2 then 2 else 4 }) .derive fun u f =>
      let b := u.hallRead 0 1 (hallAddr f (u.land 0)) 24
      byteAt b 8 == m && u.blockOk 0 (hallAddr f (u.land 0)) 24 deriveBad deriveRanges
        (deriveAllowed ((u.land 0).handle (byteAt b 9)) (byteAt b 8)) (2 ^ (if byteAt b 8 = 0 then 5 else 4))) = true := by decide +kernel

/-- KeyedStepsRefused: a bad block, a ZAP, and a handle without a key, for each step. -/
theorem wit_KeyedStepsRefused :
    let refused (op : Nat) (k : Step) (blk : List Byte) (bad : List Byte → Bool) (ranges : List Byte → List (Nat × Nat × Nat))
        (allowed : Landing → List Byte → Bool) :=
      let chk (s : State) (p : State → Option StepFault → List Byte → Bool) := about s k fun u f =>
        p u (u.blockFault 0 (hallAddr f (u.land 0)) 24 bad ranges) (u.hallRead 0 1 (hallAddr f (u.land 0)) 24)
      chk (keyed op (List.replicate 24 0xFF) key0) (fun _ e _ => e.isSome)
      && chk { keyed op blk key0 with life := { live0.life with st := .tampered } } (fun u e _ => e.isNone && u.zapped)
      && chk (keyed op blk Handle.empty) (fun u e b => e.isNone && !u.zapped && !allowed (u.land 0) b)
    (refused 0x31 .aesx (aesxBlock 0) aesxBad aesxRanges (fun x b => aesxAllowed (x.handle (byteAt b 9)) (byteAt b 8))
      && refused 0x34 .macv macvBlock macvBad macvRanges (fun x b => macvAllowed (x.handle (byteAt b 9)))
      && refused 0x32 .derive (deriveBlock 0) deriveBad deriveRanges (fun x b => deriveAllowed (x.handle (byteAt b 9)) (byteAt b 8))) = true := by
  decide +kernel

/-- DrbgStep: no binding, the alarm, an instance that needs no seed, and one that waits for its seed. -/
theorem wit_DrbgStep :
    let drbg (imm : Nat) (ent : EntState) (inst : Tbl DrbgInst) (ok : State → Option Nat → Bool) :=
      about { onStep (word 0x33 1 0 imm) with sec := { live0.sec with ent := ent, sysDrbg := inst } } .drbg fun u f =>
        let sys := if bit f.imm 13 = 1 then some (bits f.imm 11 8) else none
        !u.zapped && ok u sys && (sys.isNone || (u.rangeFault 0 1 0 (f.imm % 64 + 1) permW).isNone)
    (drbg 0 .running [] (fun u sys => sys.isNone && (u.land 0).tenant.isNone) && drbg 0x203F .alarm [] (fun u _ => u.noEntropy)
      && drbg 0x203F .running [(0, ⟨⟨[], 0⟩, [], 0, 10 ^ 15⟩)] (fun u sys => !u.noEntropy && !u.needsSeed 0 sys)
      && drbg 0x203F .running [] (fun u sys => !u.noEntropy && u.needsSeed 0 sys && decide (u.sec.pool.length < 3))) = true := by decide +kernel

/-- FuseJudgeSteps: FUSE of an area inside the hall and of one past it. -/
theorem wit_FuseJudgeSteps :
    let fuse (imm : Nat) (ok : Bool) := about (withBlock (word 0x38 0 0 imm) []) .fuse fun u f =>
      let a := (((u.land 0).reg f.s).toNat + 4 * (f.imm % 1024)) % 2 ^ 32
      let k := bits f.imm 13 10
      let n := u.fuseLen 0 k a
      (firstFault [u.rangeFault 0 1 a (if k = 4 then 20 else n) permRd, u.rangeFault 0 1 a n permRd]).isNone == ok
    (fuse (2 * 1024 + 252) true && fuse (2 * 1024 + 253) false && fuse (4 * 1024 + 251) true && fuse 240 true && fuse 241 false
      && about (onStep (word 0x39 1 0 255)) .judge fun _ _ => true) = true := by decide +kernel

/-- TenantSteps: TLOAD behind another landing, after a ZAP, of no tenant, of one with keys while WRAP fails its test, of one without keys
then, and of one with keys; TPASS without binding, without proof, with an old and a newer counter; TFAIL
without binding, after a disturbance, and otherwise; NEWEL with nothing staged and with a change. -/
theorem wit_TenantSteps :
    let ten (w : Nat) (k : Step) (g : Landing → Landing) (life : Life) (ok : State → Landing → StepWord → Bool) :=
      about { land0 g (onStep w) with ten := { live0.ten with recs := [(0, { tenant0 with vuntil := 0xFFFFFFFF })] },
                                      life := { live0.life with st := life } } k fun u f => ok u (u.land 0) f
    let tload (g : Landing → Landing) (life : Life) (ok : State → Nat → Bool) := ten (word 0x3A 1 2 0) .tload g life fun u x f =>
      ok u ((x.reg f.s).toNat % 65536)
    let tpass (g : Landing → Landing) (ok : State → Landing → Nat → Bool) := ten (word 0x3B 1 2 0) .tpass g .bound fun u x f =>
      ok u x (x.reg f.s).toNat
    let holds (c : Word) (x : Landing) : Landing := { x.setReg 2 c with tenant := some 0, proof := true }
    let mine (u : State) (t : Nat) : Bool := u.tenantTurn 0 t && !u.zapped
    (tload id .tampered (fun u t => u.tenantTurn 0 t && u.zapped)
      && tload id .bound (fun u t => !{ u with ten := { u.ten with turns := [⟨3, t, []⟩] } }.tenantTurn 0 t)
      && tload (fun x => x.setReg 2 1024) .bound (fun u t => mine u t && u.tenantCheck 0 t != .ok)
      && [(0x3C, 0x20, false), (0, 0x20, true), (0x3C, 0, true)].all (fun (keys, kat, ok) => about { land0 id (onStep (word 0x3A 1 2 0)) with
          ten := { live0.ten with recs := [(0, { tenant0 with vuntil := 0xFFFFFFFF, keys := keys })] }
          life := { live0.life with st := .bound }, sec := { live0.sec with katFail := kat } } .tload fun u _ =>
        mine u 0 && u.tenantCheck 0 0 == .ok && (u.tenant 0).any fun r => (r.keys == 0 || u.engineUsable 10) == ok)
      && tpass id (fun _ x _ => x.tenant.isNone) && tpass (fun x => { x with tenant := some 0 }) (fun _ x _ => x.tenant.isSome && !x.proof)
      && tpass (holds 7) (fun u x v => x.proof && (u.tenant 0).any fun r => decide (v ≤ r.counter))
      && tpass (holds 8) (fun u x v => x.proof && (u.tenant 0).any fun r => decide (r.counter < v))
      && ten (word 0x3B 1 0 0x2000) .tfail id .bound (fun _ x _ => x.tenant.isNone)
      && ten (word 0x3B 1 0 0x2000) .tfail (fun x => { x with tenant := some 0, flags := { x.flags with d := true } }) .bound
        (fun _ x _ => x.tenant.isSome && x.flags.d)
      && ten (word 0x3B 1 0 0x2000) .tfail (fun x => { x with tenant := some 0 }) .bound (fun _ x _ => x.tenant.isSome && !x.flags.d)
      && ten (word 0x3D 1 0 0x2000) .newel id .bound (fun _ x _ => x.staged.isNone)
      && ten (word 0x3D 1 0 0x2000) .newel (fun x => { x with staged := some ⟨0, 9, none, none, none⟩ }) .bound
        (fun _ x _ => x.staged.isSome)) = true := by decide +kernel

/-- Landing 0 executes a step word of a library image that may open a release session. -/
def relStep (w : Nat) (blk : List Byte) (g : Landing → Landing) : State :=
  let i := img (natLE 4 w)
  let s := land0 (fun (x : Landing) => g { x with slot := 0x80 }) (withBlock w blk)
  { s with halls := { s.halls with images := [(0, { i with slot := 0x80, hdr := { i.hdr with release := true } })] }
           life := { live0.life with st := .bound }, start := { live0.start with filtA := true, filtB := true }
           sec := { live0.sec with vault := [(7, ⟨1, 0, 64, 1, false, []⟩)] } }

/-- ReleaseSteps: the three steps without the privilege; RELOPEN with every condition and without RELOK; RELHOLD and RELCLOSE of the
landing's own session and without one. -/
theorem wit_ReleaseSteps :
    let blk : List Byte := [64, 0, 10, 0, 100, 0, 7, 1]
    let opened (ok : Bool) := about (relStep (word 0x3C 1 0 0) blk fun x => { x with relok := ok }) .relopen fun u f =>
      let base := hallAddr f (u.land 0)
      let b := u.hallRead 0 1 base 16
      let v := u.vaultSlot (byteAt b 6)
      u.relPrivilege 0 && (u.blockFault 0 base 16 relBad fun b => [(fieldLE b 0 2, 24, permW)]).isNone
        && (u.life.st == .bound || u.life.st == .service) && !u.marked unitCan && !u.sec.katFail.testBit 6 && (u.land 0).relok == ok
        && u.startRequest && !u.start.fault && u.rel.session.isNone && v.st == 1 && v.engines.testBit 6 && v.usage.testBit 0
    let own (imm : Nat) (k : Step) (q : Option Session) := about { relStep (word 0x3C 1 0 imm) [] id with
        rel := { live0.rel with session := q } } k fun u _ => u.relPrivilege 0 && u.rel.session == q
    let bare (imm : Nat) (k : Step) := about (onStep (word 0x3C 1 0 imm)) k fun u _ => !u.relPrivilege 0
    (opened true && opened false && own 0x1000 .relhold (some session0) && own 0x1000 .relhold none
      && own 0x2000 .relclose (some session0) && own 0x2000 .relclose none
      && bare 0 .relopen && bare 0x1000 .relhold && bare 0x2000 .relclose) = true := by decide +kernel

/-- OrderingSteps: BANISTER with nothing before it and with an open part before it; EVTRIG. -/
theorem wit_OrderingSteps :
    let ban (s : State) (b : Bool) := about s .banister fun u _ => (u.closeCapture 0).banisterClear 0 == b
    (ban (onStep (word 0x3D 0 0 0)) true
      && ban { onStep (word 0x3D 0 0 0) with gal := { live0.gal with out := [⟨1, 2, [], none, false, 0, some 0, false⟩] } } false
      && about (onStep (word 0x3E 1 0 255)) .evtrig fun _ _ => true) = true := by decide +kernel

/-- A block of GSEND and GWAIT for node 7. -/
def galBlock : List Byte := padTo 32 [64, 0, 0, 0, 0xFF, 0, 0, 0, 128, 0, 9, 0, 0x80, 0, 3]

/-- Landing 0 executes a gallery step of a library image. -/
def galStep (w : Nat) (blk : List Byte) (x : Gal) : State :=
  let i := img (natLE 4 w)
  let s := land0 (fun x => { x with slot := 0x80 }) (withBlock w blk)
  { s with halls := { s.halls with images := [(0, { i with slot := 0x80, hdr := { i.hdr with cascade := true } })] }, gal := x }

/-- GallerySteps: a bad block, a node alone, a part sent at once and one that waits for a credit; GWAIT likewise. -/
theorem wit_GallerySteps :
    let node (n : Nat) : Gal := { live0.gal with role := .master, nodes := vset live0.gal.nodes 7 { GalNode.blank with st := 2, avail := n } }
    let gal (imm : Nat) (k : Step) (blk : List Byte) (g : Gal) (ok : State → Nat → List Byte → Bool) := about (galStep (word 0x3E 1 0 imm) blk g) k
      fun u f => ok u (hallAddr f (u.land 0)) (u.hallRead 0 1 (hallAddr f (u.land 0)) 32)
    let send (blk : List Byte) (g : Gal) (ok : State → Nat → List Byte → Bool) := gal 0x1000 .gsend blk g ok
    let part : GalPart := ⟨0, 5, 9, 7, none⟩
    (send [] (node 1) (fun u b _ => (u.galFault 0 b).isSome)
      && send galBlock live0.gal (fun u b _ => (u.galFault 0 b).isNone && u.gsendCode 0 != .ok)
      && send galBlock (node 1) (fun u b k => (u.galFault 0 b).isNone && u.gsendCode 0 == .ok && ((u.dropParts 0 (fieldLE k 10 2) (byteAt k 8)).sendParts 0 k (byteAt k 8)).2 == 0)
      && send galBlock (node 0) (fun u b k => (u.galFault 0 b).isNone && u.gsendCode 0 == .ok && ((u.dropParts 0 (fieldLE k 10 2) (byteAt k 8)).sendParts 0 k (byteAt k 8)).2 != 0)
      && gal 0x2000 .gwait [] (node 1) (fun u b _ => (u.galFault 0 b).isSome)
      && gal 0x2000 .gwait galBlock { node 1 with parts := [part] } (fun u b k => (u.galFault 0 b).isNone && u.partsOut 0 k)
      && gal 0x2000 .gwait galBlock (node 1) (fun u b k => (u.galFault 0 b).isNone && !u.partsOut 0 k && (u.land 0).endReq.isNone)) = true := by
  decide +kernel

/-! ### Flights, hypotheses of whole-state clauses -/

/-- FlightEndClears and FlightStarts: an image that is published, a start whose checks pass. -/
theorem wit_Flights : ∃ (s : State) (r : StartReq) (i : Image), (191 : Nat) < 192 ∧ (s.land 191).becomesUnusable = false ∧ s.memWf = true ∧
    s.startCheck 191 r = .ok ∧ s.slotImage r.slot = some (0, i) ∧ i.slot < 0x80 ∧ r.tenant = none ∧ r.key.sq < 4 ∧
    i.init.length ≤ i.hdr.dataLen :=
  ⟨{ live0 with halls := { live0.halls with images := [(0, img [])], published := [(1, 0)] } }, ⟨⟨3, 1⟩, 1, 3, none, 1, 2, 3, 0, false⟩, img [],
    by decide +kernel⟩

/-- KeyTenantItems and LifeUpdateItems: a tenant that a committed record names, a key message whose counter is not above the stored one and
one whose counter is, and an open bank. -/
theorem wit_Committed :
    (∃ (s : State) (r : ItemRec), (s.tenant (r.p16 12)).isSome = true) ∧
    (∃ (s : State) (b : List Byte), fieldLE b 32 8 ≤ Tbl.get s.sec.counters (byteAt b 8) 0) ∧
    (∃ (s : State) (b : List Byte), Tbl.get s.sec.counters (byteAt b 8) 0 < fieldLE b 32 8) ∧
    ∃ (s : State) (b : Nat), s.life.openBank = some b ∧ b < 4 ∧ (s.life.bank b).image.wf = true :=
  ⟨⟨{ live0 with ten := { live0.ten with recs := [(1023, tenant0)] } }, item 0x21 [255, 3], by decide +kernel⟩,
    ⟨live0, [], by decide +kernel⟩, ⟨live0, List.replicate 40 1, by decide +kernel⟩,
    { live0 with life := { live0.life with banks := vset live0.life.banks 3 ⟨.downloading, [], Mem.empty, false⟩, openTarget := some 1 } }, 3,
    by decide +kernel⟩

/-- FaultEvents: a fault that is latched already, one that takes a free entry, and a full table. -/
theorem wit_FaultEvents_record :
    let latched : State := { live0 with faults := { live0.faults with latches := Vector.replicate 16 (some ⟨.sramUe, .device, 1, 0⟩) } }
    latched.faults.entryOf .sramUe .device = some 0 ∧ (vget latched.faults.latches 0 none).isSome = true ∧
    live0.faults.entryOf .sramUe .device = none ∧ live0.faults.freeEntry = some 0 ∧
    latched.faults.entryOf .ceRate .device = none ∧ latched.faults.freeEntry = none := by decide +kernel

/-- PowerResetEvents: a write of PWR_REQ that names a target, while a landing is in flight. -/
theorem wit_PowerResetEvents_refused :
    let s := waiting .none live0
    s.frameOpen = true ∧ s.badWords [(0x5014, (1 : Word).toNat)] = false ∧ s.sleepReason ≠ 0 := by decide +kernel

/-- UwbUpkeep and ReadFrames: a frame is open. -/
theorem wit_frameOpen : live0.frameOpen = true ∧ live0.linkUp = true ∧ live0.power.entering = none := by decide +kernel

/-- StepKeepsVotes: the state after reset has both, and its step answers. -/
theorem wit_StepKeepsVotes : State.reset.votesHonoured ∧ State.reset.unitVotesFollow ∧ step State.reset = .next State.reset := by
  refine ⟨fun _ d hd => ?_, ?_, rfl⟩
  · have h : ∀ d < 50, State.reset.dom d = .down := by decide +kernel
    rw [h d hd]
    trivial
  · simp only [State.unitVotesFollow]
    decide +kernel

/-! ### Frames of the host link -/

/-- ReadFrames: a read up to the last register, an unknown opcode, a wake frame to a part that sleeps. -/
theorem wit_ReadFrames :
    (0xFFFC : Nat) % 4 = 0 ∧ 0xFFFC + 4 * 1 ≤ 0x10000 ∧ (255 : Nat) < 256 ∧ 0xFC04 + 4 * 255 ≤ 0x10000 ∧
    (254 : Nat) ∉ [0x00, 0x01, 0x02, 0x10, 0x20, 0x21, 0xFF] ∧
    (let s : State := { live0 with power := { live0.power with mode := .lobby } }
     s.linkUp = false ∧ (BitVec.ofNat 8 (bits s.power.wakeCfg 6 0)).toNat = bits s.power.wakeCfg 6 0 ∧ s.power.waking = false) := by
  decide +kernel

/-- QueueAndRangeRules: the ranges of a register frame, a queue with an entry, and the two sides of HIRQN. -/
theorem wit_QueueAndRangeRules :
    let e : CqEntry := ⟨3, some ⟨3, 1⟩, List.replicate 16 0⟩
    let s : State := { live0 with host := { live0.host with cq := [e], attn := 0, mask := 0x100 } }
    s.frameOpen = true ∧ (0xFFFE : Nat) % 4 ≠ 0 ∧ (0x10000 < 0xFFFC + 4 * 2) ∧ (0xFFFC : Nat) % 4 = 0 ∧ s.host.wakeIrq = false ∧
    s.hirqLow = true ∧ live0.host.wakeIrq = false ∧ (∀ e ∈ s.host.cq, e.bytes.length = 16) ∧ (∀ e ∈ s.host.cq, e.sq < 4) ∧
    1 ≤ s.host.cq.length ∧ s.host.cq.length < 2 ∧ (255 : Nat) < 256 ∧ (63 : Nat) ≤ 63 := by decide +kernel

/-- WriteFrames: a good write, an illegal value, a run-time refusal, and a write during a warm reset. -/
theorem wit_WriteFrames :
    let ps (target : Nat) (d : List Byte) := placed target (payloadWords (d.length / 4) (framePayload 0x02 target (d.length / 4) d))
    let warm : State := { live0 with faults := { live0.faults with mode := .warm } }
    let flying := waiting .none { live0 with air := { live0.air with grants := [{ grant0 with mask := 1 }] } }
    live0.frameOpen = true ∧ live0.badWords (ps 0x104 [0, 0, 0, 0]) = false ∧
    ((ps 0x104 [0, 0, 0, 0]).any fun w => live0.regRefused w.1 w.2) = false ∧ (∀ w ∈ ps 0x104 [0, 0, 0, 0], w.1 ≠ 0x4024 ∧ w.1 ≠ 0x5014) ∧
    live0.badWords (ps 0x1000 [0, 0, 0, 0]) = true ∧
    flying.frameOpen = true ∧ flying.badWords (ps 0x1000 [0x66, 0x66, 0xE6, 0x03]) = false ∧
    ((ps 0x1000 [0x66, 0x66, 0xE6, 0x03]).any fun w => flying.regRefused w.1 w.2) = true ∧
    warm.linkUp = true ∧ warm.power.entering = none ∧ (0xFC : Nat) < 0x100 := by decide +kernel

/-- SubmitFrames: a frame whose item is known and one without a credit. -/
theorem wit_SubmitFrames :
    let d := (item 0x00 []).raw.take 8 ++ natLE 2 live0.host.epoch.toNat ++ List.replicate 22 0
    let s : State := { live0 with host := { live0.host with credits := Vector.replicate 4 0 } }
    live0.frameOpen = true ∧ (3 : Nat) < 4 ∧ d.length = 32 ∧ fieldLE d 4 4 = (vget live0.host.sqSeq 3 0).toNat ∧
    fieldLE d 8 2 = live0.host.epoch.toNat ∧ vget live0.host.credits 3 0 ≠ 0 ∧ s.frameOpen = true ∧ vget s.host.credits 3 0 = 0 ∧
    ¬ fieldLE (List.replicate 32 (1 : Byte)) 8 2 = live0.host.epoch.toNat := by decide +kernel

/-- HushFrames: a flight, a running descriptor, a target that names no scope, and a short frame. -/
theorem wit_HushFrames :
    let s := waiting .none { live0 with dma := { Dma.reset with chans := vset Dma.reset.chans 7 ⟨true, false, false, 0, some desc0⟩ } }
    s.frameOpen = true ∧ (s.land 0).busy = true ∧ (s.land 0).endReq = none ∧ (s.land 0).wait = .none ∧ (s.land 0).becomesUnusable = false ∧
    (∀ ch < 8, (s.dma.chan ch).active = true → (s.dma.chan ch).desc.isSome = true) ∧ (192 : Nat) ∉ [0xFF, 0x100, 0x200, 0xFFFF] ∧
    (8 : Nat) ≤ 23 ∧ (23 : Nat) < 24 := by decide +kernel

/-- CompletionPosted: an item alone in the part, and one whose code is not listed. -/
theorem wit_CompletionPosted_frame :
    let r := item 0x00 []
    let x := item 0xAA []
    let s := offer live0 r
    let t := offer live0 x
    (s.host.items.filter fun q => q.key == r.key) = [r] ∧ (∀ q ∈ s.host.items, q.phase.isEnded = false ∧ q.awaits ≠ some r.key) ∧ r.bgrp = 0 ∧
    t.live = true ∧ t.inTurn rankItem = true ∧ t.nextItem = some x ∧ x.code ∉ itemCodes := by decide +kernel

/-- AES under one key gives 16 bytes. -/
theorem enc_length (b : List Byte) : ((aesKey (List.replicate 16 1)).enc b).length = 16 := by
  have h : (aesRoundKey (aesKey (List.replicate 16 1)).sched (aesKey (List.replicate 16 1)).rounds).length = 16 := by decide +kernel
  simp only [AesKey.enc, toBytes, aesEncW, xorL, aesShift, List.length_map, List.length_zipWith, List.length_range, h]
  rfl

/-- A library whose fetch key is in vault slot 0, with a channel that fetches the initialisation of a data hall. -/
def fetching : State :=
  { live0 with
    dma := { Dma.reset with chans := vset Dma.reset.chans 7 ⟨true, false, false, 0, some { desc0 with job := .initFetch 0, srcKind := 4 }⟩ }
    life := { live0.life with ospiCfg := 0x80000000 }
    sec := { live0.sec with vault := [(0, ⟨1, 0, 512, 8, false, List.replicate 16 1⟩)] } }

/-- Channel 7 holds d. -/
def onChannel (s : State) (d : Desc) : State :=
  { s with dma := { Dma.reset with chans := vset Dma.reset.chans 7 ⟨true, false, false, 0, some d⟩ } }

/-- In its turn of place k the DMA engine moves the descriptor d on channel 7, and what a clause asks holds. -/
abbrev Moves (s : State) (d : Desc) (ok : State → Bool) (k : Nat := rankUnit) : Prop :=
  let u := s.act k
  s.inTurn k = true ∧ (u.live = true ∧ u.unhushed = true ∧ (u.dma.chan 7).active = true ∧ (u.dma.chan 7).desc = some d) ∧ ok u = true

/-- A descriptor whose source is a poisoned page. -/
def poisoned (s : State) : State := { s with host := { s.host with pagePoison := [0] } }

/-- DmaEvents: a start on the second channel. -/
theorem wit_DmaEvents_start :
    let s : State := { live0 with dma := { Dma.reset with chans := vset Dma.reset.chans 0 ⟨true, false, false, 0, none⟩, waiting := [desc0] } }
    Meets (fun u => u.unhushed = true ∧ u.bist.running = false ∧ u.domUp 49 = true ∧ u.freeChannel = some 1 ∧
      takeFirst u.descReady u.dma.waiting = some (desc0, [])) s := by decide +kernel

/-- DmaEvents: a granule that comes outside and inside the halls of a busy landing, and either of a poisoned source. -/
theorem wit_DmaEvents_granules :
    let d : Desc := { desc0 with dst := .hall 0 1 }
    let busy := waiting .none live0
    Moves (onChannel live0 desc0) desc0 (fun u => decide (desc0.srcKind ≠ 4) && !u.landsInFlight desc0 && !u.stageHeld desc0
        && u.dmaRead desc0 == some (List.replicate 32 0) && decide (desc0.done < desc0.len) && desc0.src == .page 0) ∧
      Moves (onChannel busy d) d (fun u => u.landsInFlight d && u.dmaRead d == some (List.replicate 32 0)) ∧
      Moves (poisoned (onChannel live0 desc0)) desc0 (fun u => !u.landsInFlight desc0 && !u.stageHeld desc0 && (u.dmaRead desc0).isNone) ∧
      Moves (poisoned (onChannel busy d)) d (fun u => decide (d.srcKind ≠ 4) && u.landsInFlight d && (u.dmaRead d).isNone) := by
  decide +kernel

/-- DmaEvents: an error of a source granule, of SRAM and of NVM, in its place among the faults, and a capture that fails. -/
theorem wit_DmaEvents_errors :
    let d : Desc := { desc0 with srcKind := 3, src := .bytes [1, 2, 3] }
    let e : Desc := { desc0 with job := .cir 0, dst := .page 7 }
    Moves (onChannel live0 desc0) desc0 (fun _ => decide (desc0.srcKind ≠ 4) && decide (desc0.srcKind ≠ 3)) rankFault ∧
      Moves (onChannel live0 d) d (fun _ => decide (d.srcKind ≠ 4) && d.srcKind == 3) rankFault ∧
      Moves (onChannel live0 e) e (fun _ => e.job == .cir 0 && e.dst == .page 7 && decide (e.done < e.len)) := by decide +kernel

/-- DmaEvents: a block of the external image that fails its check, without OSPI_CFG EN. -/
theorem wit_DmaEvents_badBlock :
    let d : Desc := { desc0 with job := .initFetch 0, srcKind := 4 }
    let s := onChannel live0 d
    Moves s d (fun _ => d.srcKind == 4 && d.job == .initFetch 0) ∧
      (s.act rankUnit).blockPasses (s.act rankUnit).libImage ((s.act rankUnit).fetchAt 0 d / 1024) [] [] = false := by
  refine ⟨by decide +kernel, ?_⟩
  have h : ((onChannel live0 { desc0 with job := .initFetch 0, srcKind := 4 }).act rankUnit).life.ospiCfg.toNat.testBit 31 = false := by
    decide +kernel
  rw [State.blockPasses, h, Bool.false_and]

/-- UwbFrames: the own frame of a poll and of a response that has come due, with and without the grant of COEX_GNT. -/
theorem wit_UwbFrames_moves :
    let ok (r : UwbRun) (p : Nat) (m : State → Nat) (cfg : Nat) : Bool :=
      let s : State := { live0 with uwb := { live0.uwb with run := some r, coexCfg := cfg } }
      !r.closed && !r.withdrawn && r.txMark.isNone && r.ready s.now && decide (m s ≤ s.now)
        && (r.step != .uwbresp || (r.pollMark == some p && r.window.isSome))
    let resp : UwbRun := { wrun0 with step := .uwbresp, window := some 0, pollMark := some 9 }
    ([0, 2 ^ 31, 2 ^ 31 + 2 ^ 30].all fun cfg => ok wrun0 0 (fun s => s.uwbStart wrun0) cfg
      && ok { wrun0 with step := .uwbfinal } 0 (fun s => s.uwbStart { wrun0 with step := .uwbfinal }) cfg
      && ok resp 9 (fun _ => 9 + 1024 * chipT) cfg) = true ∧
    ([0, 2 ^ 31, 2 ^ 31 + 2 ^ 30].map fun cfg =>
      let u : Uwb := { live0.uwb with coexCfg := cfg }
      (u.coex, u.granted)) = [(false, false), (true, false), (true, true)] := by decide +kernel

/-- TagEvents: each command that ends a session in ACTIVE. -/
theorem wit_TagEvents_10 : ∃ c : Nat → Instr,
    (c = .evTagReqa ∨ c = .evTagWupa ∨ c = (fun dt => .evTagSelect dt []) ∨ c = (fun dt => .evTagAnticollision dt 0 0)) ∧
    Holds (fun u => u.tag.hears = true ∧ u.tag.mode = .active) { live0 with tag := { tagWith (cfgBlock 0x03 0xFF 0xFF 0 0) with mode := .active } } :=
  ⟨.evTagReqa, .inl rfl, by decide +kernel⟩

/-- DmaEvents: a block of the external image that passes its check. -/
theorem wit_DmaEvents_block : ∃ tag : List Byte,
    Moves fetching { desc0 with job := .initFetch 0, srcKind := 4 } (fun _ => true) ∧
    let u := fetching.act rankUnit
    u.blockPasses u.libImage (u.fetchAt 0 { desc0 with job := .initFetch 0, srcKind := 4 } / 1024) [] tag = true := by
  refine ⟨aesCmac (List.replicate 16 1) (natLE 4 0 ++ natLE 4 0 ++ padTo 1024 []), by decide +kernel, ?_⟩
  have hk : (fetching.act rankUnit).fetchKey (dirSlot (fetching.act rankUnit).libImage) = some (List.replicate 16 1) := by decide +kernel
  have ho : (fetching.act rankUnit).life.ospiCfg.toNat.testBit 31 = true := by decide +kernel
  have hg : dirGen (fetching.act rankUnit).libImage = 0 := by decide +kernel
  have hf : (fetching.act rankUnit).fetchAt 0 { desc0 with job := .initFetch 0, srcKind := 4 } / 1024 = 0 := by decide +kernel
  have hp (x : List Byte) (h : x.length = 16) : padTo 16 x = x := by simp [padTo, sliceP, h, List.take_of_length_le (Nat.le_of_eq h)]
  dsimp only
  rw [State.blockPasses, hk, ho, hg, hf, hp (aesCmac _ _) (enc_length _)]
  simp

end Sys2Proof.Tests
end

namespace Sys2Proof.Machine

open Sys2Proof

/-! ### The block -/

/-- Settles O40: both clauses are the two branches of a step. -/
theorem stepRunsFront : Obligations.StepRunsFront :=
  ⟨fun _ _ => rfl, fun s h => by rw [step, h]⟩

/-- An entry of a table that holds one value throughout, read with that value as its default. -/
theorem vget_replicate {α : Type} (n i : Nat) (x : α) : vget (Vector.replicate n x) i x = x := by
  simp only [vget, Vector.toList_replicate, List.getD_eq_getElem?_getD, List.getElem?_replicate]
  split <;> rfl

/-- Before the boot of a power-on reset has run no domain is up, so none has a vote to honour. -/
theorem State.reset_votesHonoured : State.reset.votesHonoured := by
  intro _ d _
  have : State.reset.dom d = .down := by
    exact vget_replicate _ _ _
  rw [this]
  trivial

/-- A part whose boot has not ended has no acting units. -/
theorem State.live_eq_false_of_booting {s : State} (h : s.power.booting.isSome = true) : s.live = false := by
  cases hb : s.power.booting <;> simp_all [State.live, State.awake]

/-- Every landing is free after a reset. -/
theorem State.reset_land (l : Nat) : State.reset.land l = Landing.free := vget_replicate _ _ _

/-- Settles O41: the units do not act before the boot, and the rest is the reset state's own values. -/
theorem resetState : Obligations.ResetState := by
  unfold Obligations.ResetState
  refine ⟨State.reset_memWf, State.reset_votesHonoured, ?_, rfl, rfl, ?_, rfl, rfl, rfl, rfl, fun l _ => State.reset_land l,
    rfl, rfl, rfl, rfl, rfl, rfl, rfl⟩
  · intro h
    rw [State.live_eq_false_of_booting rfl] at h
    cases h
  · intro q hq
    interval_cases q <;> exact ⟨rfl, rfl⟩

/-! ### What every frame does -/

/-- How a frame ends: its outcome in LASTERR, and on HSDO as many bytes as were clocked (R12, R17). -/
def State.frameEnds (u : State) (e : Edges) (n : Nat) (r : State × Code × List Byte) : State :=
  { r.1 with host := { r.1.host with lastErr := r.2.1, hsdo := (u.statusBytes e ++ r.2.2).take n } }

/-- STATUS1 as the frame sent it. -/
def State.sentWord1 (u : State) (e : Edges) : Nat := (u.shownAt (u.now - e.mid)).word1

/-- With no entry in preparation a frame aborts none. -/
theorem State.abortEntry_of_none {s : State} (h : s.power.entering = none) (b v d : Nat) : s.abortEntry b v d = s := by
  simp [State.abortEntry, h]

/-- While frames take their normal effect they are not treated as in safe hold. -/
theorem State.frameOpen_iff {u : State} :
    u.frameOpen = true ↔ u.linkUp = true ∧ u.power.entering = none ∧ u.frameHold = false := by
  simp [State.frameOpen, and_assoc]

/-- A frame on a link that is served, with no entry to abort, takes its effect on the state in which it acts. -/
theorem hostFrame_acts {dt n : Nat} {e : Edges} {s : State} (hl : (s.tick dt).linkUp = true) (he : s.power.entering = none)
    (f : Bool → Nat → State → State × Code × List Byte) :
    hostFrame dt e n s f = .next (settle ((s.tick dt).frameEnds e n
      (f (s.tick dt).frameHold ((s.tick dt).sentWord1 e) (s.tick dt).frameActs))) := by
  have ha : (s.tick dt).frameActs.abortEntry 8 0xFE 30 = (s.tick dt).frameActs := State.abortEntry_of_none (s := (s.tick dt).frameActs) he ..
  simp only [hostFrame, occur, hl, ha]
  rfl

/-- As hostFrame_acts, for a frame that sends zeros after the status words. -/
theorem plainFrame_acts {dt n : Nat} {e : Edges} {s : State} (hl : (s.tick dt).linkUp = true) (he : s.power.entering = none)
    (f : Bool → State → State × Code) :
    plainFrame dt e n s f = .next (settle ((s.tick dt).frameEnds e n
      ((f (s.tick dt).frameHold (s.tick dt).frameActs).1, (f (s.tick dt).frameHold (s.tick dt).frameActs).2, List.replicate n 0))) :=
  hostFrame_acts hl he _

/-- A frame whose effect is at most to draw free values has only its outcome. -/
theorem framesOnly_frameEnds (u : State) (e : Edges) (n k : Nat) (c : Code) (bs : List Byte) :
    framesOnly u (u.frameEnds e n ({ u.frameActs with fresh := k }, c, bs)) c := rfl

/-- A frame whose effect is at most to draw free values is refused with its outcome. -/
theorem hostFrame_refused {i : Instr} {dt n : Nat} {e : Edges} {s : State} {f : Bool → Nat → State → State × Code × List Byte}
    (hi : exec i s = hostFrame dt e n s f) (hl : (s.tick dt).linkUp = true) (he : s.power.entering = none) {c : Code}
    (hf : ∀ w, ∃ k bs, f (s.tick dt).frameHold w (s.tick dt).frameActs = ({ (s.tick dt).frameActs with fresh := k }, c, bs)) :
    FrameRefused i (s.tick dt) s c := by
  obtain ⟨k, bs, h⟩ := hf ((s.tick dt).sentWord1 e)
  exact ⟨_, by rw [hi, hostFrame_acts hl he, h], framesOnly_frameEnds ..⟩

/-- The same for a frame that sends zeros after the status words. -/
theorem plainFrame_refused {i : Instr} {dt n : Nat} {e : Edges} {s : State} {f : Bool → State → State × Code}
    (hi : exec i s = plainFrame dt e n s f) (hl : (s.tick dt).linkUp = true) (he : s.power.entering = none) {c : Code}
    (hf : ∃ k, f (s.tick dt).frameHold (s.tick dt).frameActs = ({ (s.tick dt).frameActs with fresh := k }, c)) :
    FrameRefused i (s.tick dt) s c := by
  obtain ⟨k, h⟩ := hf
  exact hostFrame_refused hi hl he fun _ => ⟨k, _, by rw [h]⟩

/-! ### Bytes of a frame -/

@[simp] theorem natLE_length (n v : Nat) : (natLE n v).length = n := by
  induction n generalizing v with
  | zero => rfl
  | succ n ih => simp [natLE, ih]

@[simp] theorem natBE_length (n v : Nat) : (natBE n v).length = n := by simp [natBE]

/-- Two status words lead every frame (R12). -/
@[simp] theorem State.statusBytes_length (s : State) (e : Edges) : (s.statusBytes e).length = 8 := by simp [State.statusBytes]

/-- A frame whose edges are as many as its bytes sends them all. -/
theorem State.statusBytes_append_take (u : State) (e : Edges) {bs : List Byte} {n : Nat} (h : n = 8 + bs.length) :
    (u.statusBytes e ++ bs).take n = u.statusBytes e ++ bs := by
  rw [List.take_of_length_le]
  simp [h]

/-! ### Register reads -/

/-- What a register read leaves of the part: all of it but the latch of the ranging timer and the counter of free values (R235). -/
theorem State.regRead_only (s : State) (off : Nat) : ∃ k r, (s.regRead off).1 = { s with fresh := k, rng := r } := by
  unfold State.regRead
  split
  · exact ⟨_, _, rfl⟩
  · split
    · exact ⟨_, _, rfl⟩
    · exact ⟨_, _, rfl⟩

/-- The same for several words. -/
theorem State.readWords_only (s : State) (off n : Nat) : ∃ k r, (s.readWords off n).1 = { s with fresh := k, rng := r } := by
  induction n generalizing s off with
  | zero => exact ⟨_, _, rfl⟩
  | succ n ih =>
    obtain ⟨k, r, h⟩ := State.regRead_only s off
    obtain ⟨k', r', h'⟩ := ih (s.regRead off).1 (off + 4)
    exact ⟨k', r', by rw [State.readWords, h', h]⟩

/-- A word read is four bytes. -/
theorem State.readWords_length (s : State) (off n : Nat) : (s.readWords off n).2.length = 4 * n := by
  induction n generalizing s off with
  | zero => rfl
  | succ n ih => simp only [State.readWords, List.length_append, natLE_length, ih]; omega

/-- A word-aligned target and a length in range pass R25. -/
theorem rangeCheck_ok {target len : Nat} (ha : target % 4 = 0) (h1 : 1 ≤ len) (hr : target + 4 * len ≤ 0x10000) :
    rangeCheck target len = .ok := by
  simp only [rangeCheck]
  rw [if_neg (by omega), if_neg (by omega)]

theorem rangeCheck_badAlign {target len : Nat} (ha : target % 4 ≠ 0) : rangeCheck target len = .badAlign := if_pos ha

theorem rangeCheck_badLength {target len : Nat} (ha : target % 4 = 0) (hr : len = 0 ∨ 0x10000 < target + 4 * len) :
    rangeCheck target len = .badLength := by
  simp only [rangeCheck]
  rw [if_neg (by omega), if_pos hr]

/-- A read in range that clocks every word and the CRC sends them (R16, R25). -/
theorem readFrame_ok {w1 target len : Nat} (s : State) (h : rangeCheck target len = .ok) :
    readFrame w1 target len (72 + 32 * len) s = ((s.readWords target len).1, .ok,
      (s.readWords target len).2 ++ [crc8 (natBE 4 w1 ++ (s.readWords target len).2)]) := by
  have hn : min len ((72 + 32 * len - 64 + 31) / 32) = len := by omega
  simp only [readFrame, h, hn, if_true]
  rw [if_neg (by omega)]

/-- A read that is out of range or not aligned has that error and no effect (R25). -/
theorem readFrame_bad {w1 target len n : Nat} {c : Code} (s : State) (hn : 32 ≤ n) (h : rangeCheck target len = c) (hc : c ≠ .ok) :
    readFrame w1 target len n s = (s, c, []) := by
  subst h
  unfold readFrame
  rw [if_neg (by omega)]
  split
  · contradiction
  · rfl

theorem execFrRegRead_acts {dt target len n : Nat} {e : Edges} {s : State} (hl : (s.tick dt).linkUp = true) (he : s.power.entering = none)
    (hn : 8 ≤ n) (ht : target < 0x10000) (hb : len < 256) :
    exec (.frRegRead dt target len ⟨e, n⟩) s = .next (settle ((s.tick dt).frameEnds e (n / 8)
      (readFrame ((s.tick dt).sentWord1 e) target len n (s.tick dt).frameActs))) := by
  show execFrRegRead dt target len ⟨e, n⟩ s = _
  rw [execFrRegRead, if_neg (by simpa using hn), Nat.mod_eq_of_lt ht, Nat.mod_eq_of_lt hb]
  exact hostFrame_acts hl he _

/-- STATUS sends the status words and changes nothing else. -/
theorem statusFrame_sends {dt n : Nat} {e : Edges} {s : State} (hl : (s.tick dt).linkUp = true) :
    exec (.frStatus dt ⟨e, n⟩) s = .next (settle
      { (s.tick dt).frameActs with host := { s.host with wakeIrq := false, hsdo := ((s.tick dt).statusBytes e).take (n / 8) } }) := by
  show statusFrame dt e n s = _
  simp only [statusFrame, occur, hl]
  rfl

/-- REG_READ of a range sends the words and their CRC, and takes nothing from the host link, the landings and the halls. -/
theorem regRead_sends {dt target len : Nat} {e : Edges} {s : State} (hl : (s.tick dt).linkUp = true) (he : s.power.entering = none)
    (ha : target % 4 = 0) (h1 : 1 ≤ len) (hb : len < 256) (hr : target + 4 * len ≤ 0x10000) :
    let u := (s.tick dt).frameActs
    let d := (u.readWords target len).2
    ∃ t, exec (.frRegRead dt target len ⟨e, 72 + 32 * len⟩) s = .next (settle t) ∧
      t.host.hsdo = (s.tick dt).statusBytes e ++ d ++ [crc8 (natBE 4 ((s.tick dt).shownAt ((s.tick dt).now - e.mid)).word1 ++ d)] ∧
      t.host.lastErr = .ok ∧
      d.length = 4 * len ∧ t.landings = s.landings ∧ t.halls = s.halls ∧ t.host.items = s.host.items ∧ t.host.cq = s.host.cq ∧
      t.host.credits = s.host.credits ∧ t.host.attn = s.host.attn ∧ t.host.pages = s.host.pages := by
  intro u d
  have hd : d.length = 4 * len := State.readWords_length ..
  obtain ⟨k, r, hs⟩ := State.readWords_only u target len
  refine ⟨_, execFrRegRead_acts hl he (by omega) (by omega) hb, ?_⟩
  rw [readFrame_ok _ (rangeCheck_ok ha h1 hr), hs]
  refine ⟨?_, rfl, hd, rfl, rfl, rfl, rfl, rfl, rfl, rfl⟩
  rw [List.append_assoc]
  refine State.statusBytes_append_take _ _ ?_
  rw [List.length_append, List.length_singleton, hd]
  omega

/-- A frame with an OP that is not listed ends BAD_OPCODE. -/
theorem unknownOp_refused {dt op : Nat} {e : Edges} {s : State} (ho : (s.tick dt).frameOpen = true) (hb : op < 256)
    (hop : op ∉ [0x00, 0x01, 0x02, 0x10, 0x20, 0x21, 0xFF]) : FrameRefused (.frFrameUnknownOp dt ⟨e, op⟩) (s.tick dt) s .badOpcode := by
  obtain ⟨hl, he, -⟩ := State.frameOpen_iff.1 ho
  have hn : listedOp (op % 256) = false := by
    rw [Nat.mod_eq_of_lt hb]
    simpa [listedOp] using hop
  refine plainFrame_refused (f := fun _ s => (s, .badOpcode)) (e := e) (n := 4) ?_ hl he ⟨_, rfl⟩
  show execFrFrameUnknownOp dt ⟨e, op⟩ s = _
  rw [execFrFrameUnknownOp, hn, if_neg Bool.false_ne_true]

/-- On a served link a wake frame is a short frame of its first byte: not listed, it ends BAD_OPCODE (R485). -/
theorem wakeFrame_refused {dt : Nat} {e : Edges} {b0 b1 : Byte} {s : State} (ho : (s.tick dt).frameOpen = true)
    (hb : b0.toNat ∉ [0x00, 0x01, 0x02, 0x10, 0x20, 0x21, 0xFF]) :
    FrameRefused (.frWakeFrame dt b0 b1 ⟨e, 16⟩) (s.tick dt) s .badOpcode := by
  obtain ⟨hl, he, -⟩ := State.frameOpen_iff.1 ho
  simp only [List.mem_cons, List.not_mem_nil, or_false, not_or] at hb
  obtain ⟨h0, h1, h2, h10, h20, h21, hff⟩ := hb
  have hs : s.linkUp = true := hl
  refine plainFrame_refused (f := fun _ s => (s, .badOpcode)) (e := e) (n := 2) ?_ hl he ⟨_, rfl⟩
  show execFrWakeFrame dt b0 b1 ⟨e, 16⟩ s = _
  simp [execFrWakeFrame, hs, shortFrame, h0, h1, h2, h10, h20, h21, hff]

/-- A wake of a sleeping device that nothing else is waking. -/
theorem State.beginWake_wokeBy {u : State} (source : Nat) (hm : u.power.mode ≠ .awake) (hw : u.power.waking = false) :
    u.wokeBy (u.beginWake source) source := by
  unfold State.beginWake
  rw [if_neg hm, if_neg (by simp [hw])]
  refine ⟨rfl, rfl, vget_vset_self _ _ _ (by decide), rfl, rfl, rfl, rfl, ?_⟩
  cases hn : u.uhf.sniff with
  | none => rfl
  | some n => cases hh : n.search.holds.isEmpty <;> simp [Option.filter, hn, hh]

/-- WAKE_ADDR and its complement wake a sleeping device (R484, R485). -/
theorem wakeFrame_wakes {dt : Nat} {e : Edges} {b0 b1 : Byte} {s : State} (hl : (s.tick dt).linkUp = false)
    (h0 : b0.toNat = bits s.power.wakeCfg 6 0) (h1 : b1 = ~~~b0) (hw : s.power.waking = false) :
    ∃ t, exec (.frWakeFrame dt b0 b1 ⟨e, 16⟩) s = .next (settle t) ∧ (s.tick dt).wokeBy t 0 := by
  have hs : s.linkUp = false := hl
  refine ⟨(s.tick dt).beginWake 0, ?_, State.beginWake_wokeBy 0 (by simpa [State.linkUp] using hl) hw⟩
  show execFrWakeFrame dt b0 b1 ⟨e, 16⟩ s = _
  rw [execFrWakeFrame, hs, if_neg Bool.false_ne_true, occur, if_pos ⟨rfl, h0, h1⟩]

/-- Settles O43, a lemma for each kind of frame. -/
theorem readFrames : Obligations.ReadFrames :=
  ⟨fun _ _ _ _ hl => statusFrame_sends hl,
   fun _ _ _ _ _ hl he ha h1 hb hr => regRead_sends hl he ha h1 hb hr,
   fun _ _ _ _ ho hb hop => unknownOp_refused ho hb hop,
   fun _ _ _ _ _ ho hb => wakeFrame_refused ho hb,
   fun _ _ _ _ _ hl h0 h1 hw => wakeFrame_wakes hl h0 h1 hw⟩

/-! ### Range and alignment -/

/-- A read that is out of range or not aligned is refused (R25). -/
theorem regRead_refused {dt target len n : Nat} {e : Edges} {s : State} {c : Code} (ho : (s.tick dt).frameOpen = true)
    (ht : target < 0x10000) (hb : len < 256) (hn : 32 ≤ n) (h : rangeCheck target len = c) (hc : c ≠ .ok) :
    FrameRefused (.frRegRead dt target len ⟨e, n⟩) (s.tick dt) s c := by
  obtain ⟨hl, he, -⟩ := State.frameOpen_iff.1 ho
  refine ⟨_, execFrRegRead_acts hl he (by omega) ht hb, ?_⟩
  rw [readFrame_bad _ hn h hc]
  exact framesOnly_frameEnds ..

/-- The right CRC after n bytes passes the checks of R14 and R15. -/
theorem frameCheck_framePayload {op target len n : Nat} {d : List Byte} (hd : d.length = n) :
    frameCheck op target len n (framePayload op target len d) 0 = .ok := by
  simp [frameCheck, framePayload, ← hd]

/-- A payload of another length, or with bits over (R15). -/
theorem frameCheck_badLength {op target len n x : Nat} {p : List Byte} (h : p.length ≠ n + 1 ∨ x ≠ 0) :
    frameCheck op target len n p x = .badLength := if_pos h

/-- A payload of the right length is judged by its last byte (R14). -/
theorem frameCheck_append {op target len n : Nat} {d : List Byte} {c : Byte} (hd : d.length = n) :
    frameCheck op target len n (d ++ [c]) 0 = if c = crc8 (cmdBytes op target len ++ d) then .ok else .badCrc := by
  subst hd
  by_cases h : crc8 (cmdBytes op target len ++ d) = c
  · simp [frameCheck, h]
  · simp [frameCheck, h, Ne.symm h]

/-- A register write as a frame of its own effect. -/
theorem exec_regWrite {dt target len : Nat} {p : List Byte} {c : Clocked} {s : State} (ht : target < 0x10000) (hb : len < 256) :
    exec (.frRegWrite dt target len p c) s = plainFrame dt c.e (4 + p.length) s fun h s => writeFrame h target len p c.n s := by
  show execFrRegWrite dt target len p c s = _
  rw [execFrRegWrite, Nat.mod_eq_of_lt ht, Nat.mod_eq_of_lt hb]

/-- A write that is out of range or not aligned is refused (R25). -/
theorem regWrite_refused {dt target len : Nat} {e : Edges} {d : List Byte} {s : State} {c : Code} (ho : (s.tick dt).frameOpen = true)
    (ht : target < 0x10000) (hb : len < 256) (hd : d.length = 4 * len) (h : rangeCheck target len = c) (hc : c ≠ .ok) :
    FrameRefused (.frRegWrite dt target len (framePayload 0x02 target len d) ⟨e, 0⟩) (s.tick dt) s c := by
  obtain ⟨hl, he, -⟩ := State.frameOpen_iff.1 ho
  refine plainFrame_refused (exec_regWrite ht hb) hl he ⟨(s.tick dt).frameActs.fresh, ?_⟩
  simp only [writeFrame, frameCheck_framePayload hd]
  subst h
  split
  · contradiction
  · rfl

/-! ### HIRQN and the completion queue -/

/-- HIRQN is low while an unmasked cause stands, or an unmasked completion waits (R28). -/
theorem State.hirqLow_iff {s : State} (h : s.host.wakeIrq = false) : s.hirqLow = true ↔
    (s.host.attn &&& s.host.mask.setWidth 8) ≠ 0 ∨ (s.host.mask.getLsbD 8 = true ∧ s.host.pendingCount ≠ 0) := by
  simp [State.hirqLow, h, HostLink.pendingCount]

/-- Entry i from the head, with the zeros past the last, is 16 bytes. -/
theorem HostLink.entryBytes_length {h : HostLink} (hw : ∀ e ∈ h.cq, e.bytes.length = 16) (i : Nat) : (h.entryBytes i).length = 16 := by
  unfold HostLink.entryBytes
  split
  · next e he => exact hw e (List.mem_of_getElem? he)
  · simp

/-- CQ_READ sends k entries from the one that TARGET names (R34). -/
theorem cqRead_sends {dt target k : Nat} {e : Edges} {s : State} (ho : (s.tick dt).frameOpen = true) (ht : target < 256)
    (h1 : 1 ≤ k) (h63 : k ≤ 63) (hw : ∀ e ∈ s.host.cq, e.bytes.length = 16) :
    let d := (List.range k).flatMap fun i => s.host.entryBytes (target + i)
    ∃ t, exec (.frCqRead dt target (4 * k) ⟨e, 72 + 128 * k⟩) s = .next (settle t) ∧ framesOnly (s.tick dt) t .ok ∧
      t.host.hsdo = (s.tick dt).statusBytes e ++ d ++ [crc8 (natBE 4 ((s.tick dt).shownAt ((s.tick dt).now - e.mid)).word1 ++ d)] := by
  intro d
  obtain ⟨hl, he, -⟩ := State.frameOpen_iff.1 ho
  have hd : d.length = 16 * k := by simp [d, HostLink.entryBytes_length hw, Nat.mul_comm]
  have hr : cqReadFrame ((s.tick dt).sentWord1 e) target (4 * k) (72 + 128 * k) (s.tick dt).frameActs =
      ((s.tick dt).frameActs, .ok, d ++ [crc8 (natBE 4 ((s.tick dt).sentWord1 e) ++ d)]) := by
    rw [cqReadFrame, if_neg (by omega), if_neg (by omega), if_neg (by omega), Nat.mul_div_cancel_left k (by decide)]
    rfl
  refine ⟨_, ?_, framesOnly_frameEnds _ e ((72 + 128 * k) / 8) (s.tick dt).frameActs.fresh _ (d ++ [crc8 (natBE 4 ((s.tick dt).sentWord1 e) ++ d)]), ?_⟩
  · show execFrCqRead dt target (4 * k) ⟨e, 72 + 128 * k⟩ s = _
    rw [execFrCqRead, if_neg (by simp only; omega), Nat.mod_eq_of_lt (by omega : target < 65536),
      Nat.mod_eq_of_lt (by omega : 4 * k < 256), hostFrame_acts hl he, hr]
  · rw [List.append_assoc]
    refine State.statusBytes_append_take _ _ ?_
    rw [List.length_append, List.length_singleton, hd]
    omega

/-- A release as a frame of its own effect. -/
theorem exec_cqRelease {dt n : Nat} {p : List Byte} {c : Clocked} {s : State} (hn : n < 0x10000) :
    exec (.frCqRelease dt n 0 p c) s = plainFrame dt c.e (4 + p.length) s fun _ s => releaseFrame n 0 p c.n s := by
  show execFrCqRelease dt n 0 p c s = _
  rw [execFrCqRelease, Nat.mod_eq_of_lt hn]

/-- What the host link counts of a queue's ledger (R30): all but the credit of an epoch-close record to come. -/
def HostLink.creditSum (h : HostLink) (q : Nat) : Nat := vget h.credits q 0 + h.accepted q + h.unreleased q

theorem State.creditLedger_iff (s : State) (q : Nat) :
    s.creditLedger q ↔ s.host.creditSum q + (if q = 0 ∧ s.power.booting.isSome then 1 else 0) = 64 := Iff.rfl

/-- A state whose host link keeps the sum, in the same boot, keeps the credit ledger. -/
theorem State.creditLedger_of_creditSum_eq {s t : State} {q : Nat} (hh : t.host.creditSum q = s.host.creditSum q)
    (hb : t.power.booting = s.power.booting) (h : s.creditLedger q) : t.creditLedger q := by
  rw [State.creditLedger_iff, hh, hb]
  exact h

/-- Releasing one entry returns its credit: the sum stays. -/
theorem HostLink.creditSum_releaseOne (h : HostLink) (now q : Nat) (hs : ∀ e ∈ h.cq, e.sq < 4) : (h.releaseOne now).creditSum q = h.creditSum q := by
  cases hc : h.cq with
  | nil => simp [HostLink.releaseOne, hc]
  | cons x l =>
    have hx : x.sq < 4 := hs x (by simp [hc])
    simp only [HostLink.releaseOne, hc, HostLink.creditSum, HostLink.accepted, HostLink.unreleased, vget_vset, hx, and_true]
    by_cases hq : x.sq = q <;> simp [hq]
    omega

/-- What the release of up to as many entries as there are leaves of the host link (R34). -/
theorem HostLink.release_spec (now : Nat) (n : Nat) (h : HostLink) (hn : n ≤ h.cq.length) (hs : ∀ e ∈ h.cq, e.sq < 4) :
    (HostLink.release now n h).cq = h.cq.drop n ∧ (1 ≤ n → (HostLink.release now n h).cqHead = (h.cqHead + n) % 256) ∧
    (HostLink.release now n h).items = h.items ∧ ∀ q, (HostLink.release now n h).creditSum q = h.creditSum q := by
  induction n generalizing h with
  | zero => simp [HostLink.release]
  | succ n ih =>
    cases hc : h.cq with
    | nil => simp [hc] at hn
    | cons x l =>
      have hcq : (h.releaseOne now).cq = l := by simp [HostLink.releaseOne, hc]
      have hhead : (h.releaseOne now).cqHead = (h.cqHead + 1) % 256 := by simp [HostLink.releaseOne, hc]
      have hit : (h.releaseOne now).items = h.items := by simp [HostLink.releaseOne, hc]
      obtain ⟨i1, i2, i3, i4⟩ := ih (h.releaseOne now) (by rw [hcq]; simpa [hc] using hn)
        (fun e he => hs e (by rw [hc]; exact List.mem_cons_of_mem _ (hcq ▸ he)))
      refine ⟨by rw [HostLink.release, i1, hcq]; rfl, fun _ => ?_, by rw [HostLink.release, i3, hit],
        fun q => by rw [HostLink.release, i4, HostLink.creditSum_releaseOne h now q hs]⟩
      rw [HostLink.release]
      cases n with
      | zero => rw [HostLink.release, hhead]
      | succ n => rw [i2 (by omega), hhead]; omega

/-- A release with the right CRC: none, or more entries than there are, is refused (R34). -/
theorem releaseFrame_framePayload (n : Nat) (u : State) : releaseFrame n 0 (framePayload 0x21 n 0 []) 0 u =
    if n = 0 ∨ u.host.cq.length < n then (u, .badRef) else ({ u with host := HostLink.release u.now n u.host }, .ok) := by
  simp only [releaseFrame, frameCheck_framePayload (show ([] : List Byte).length = 0 from rfl)]
  rfl

theorem cqRelease_refused {dt n : Nat} {e : Edges} {s : State} (ho : (s.tick dt).frameOpen = true) (hn : n < 0x10000)
    (h : n = 0 ∨ s.host.cq.length < n) : FrameRefused (.frCqRelease dt n 0 (framePayload 0x21 n 0 []) ⟨e, 0⟩) (s.tick dt) s .badRef := by
  obtain ⟨hl, he, -⟩ := State.frameOpen_iff.1 ho
  exact plainFrame_refused (exec_cqRelease hn) hl he ⟨_, (releaseFrame_framePayload n _).trans (if_pos h)⟩

/-- A release of entries that are there drops them from the head, and their credits return (R30, R34). -/
theorem cqRelease_releases {dt n : Nat} {e : Edges} {s : State} (ho : (s.tick dt).frameOpen = true) (hn : n < 0x10000)
    (h1 : 1 ≤ n) (hle : n ≤ s.host.cq.length) (hs : ∀ e ∈ s.host.cq, e.sq < 4) :
    ∃ t, exec (.frCqRelease dt n 0 (framePayload 0x21 n 0 []) ⟨e, 0⟩) s = .next (settle t) ∧ t.host.lastErr = .ok ∧
      t.host.cq = s.host.cq.drop n ∧ t.host.cqHead = (s.host.cqHead + n) % 256 ∧ t.host.items = s.host.items ∧
      (∀ q < 4, s.creditLedger q → t.creditLedger q) ∧ t.landings = s.landings := by
  obtain ⟨hl, he, -⟩ := State.frameOpen_iff.1 ho
  have hno : ¬(n = 0 ∨ (s.tick dt).frameActs.host.cq.length < n) := fun h => h.elim (by omega) (Nat.not_lt.2 hle)
  obtain ⟨c1, c2, c3, c4⟩ := HostLink.release_spec (s.tick dt).now n (s.tick dt).frameActs.host hle hs
  refine ⟨_, by rw [exec_cqRelease hn]; exact plainFrame_acts hl he _, ?_⟩
  rw [releaseFrame_framePayload, if_neg hno]
  exact ⟨rfl, c1, c2 h1, c3, fun q _ hc => State.creditLedger_of_creditSum_eq (s := s) (c4 q) rfl hc, rfl⟩

/-- Settles O44, a lemma for each kind of frame. -/
theorem queueAndRangeRules : Obligations.QueueAndRangeRules :=
  ⟨fun _ _ _ _ _ _ ho ht hb hn =>
     ⟨fun ha => regRead_refused ho ht hb hn (rangeCheck_badAlign ha) (by decide),
      fun ha hr => regRead_refused ho ht hb hn (rangeCheck_badLength ha hr) (by decide)⟩,
   fun _ _ _ _ _ _ ho ht hb hd =>
     ⟨fun ha => regWrite_refused ho ht hb hd (rangeCheck_badAlign ha) (by decide),
      fun ha hr => regWrite_refused ho ht hb hd (rangeCheck_badLength ha hr) (by decide)⟩,
   fun _ h => State.hirqLow_iff h,
   fun _ _ => rfl,
   fun _ _ _ _ _ ho ht h1 h63 hw => cqRead_sends ho ht h1 h63 hw,
   fun _ _ _ _ ho hn => ⟨cqRelease_refused ho hn, fun h1 hle hs => cqRelease_releases ho hn h1 hle hs⟩⟩

/-! ### REG_WRITE -/

/-- Whether or not a word of a write looks at the raw tamper conditions, at most a free value is drawn. -/
theorem State.regWrite_draws {s : State} {off : Nat} {ws : List Nat} {c : Code}
    (h : (if s.badWords (placed off ws) then (s, Code.badField)
      else if (placed off ws).any fun p => s.regRefused p.1 p.2 then (s.requestRefused (placed off ws), .stateRefused)
      else ({ (placed off ws).foldl (fun s p => s.regPut p.1 p.2) s with
        host := ((placed off ws).foldl (fun s p => s.regPut p.1 p.2) s).host.coverPages off (4 * ws.length) }, .ok)) = (s, c)) :
    ∃ k, s.regWrite off ws = ({ s with fresh := k }, c) := by
  simp only [State.regWrite, h]
  split
  · exact ⟨_, rfl⟩
  · exact ⟨_, rfl⟩

/-- A word with an RO field or an illegal value stops the write (R26). -/
theorem State.regWrite_badField {s : State} {off : Nat} {ws : List Nat} (h : s.badWords (placed off ws) = true) :
    ∃ k, s.regWrite off ws = ({ s with fresh := k }, .badField) :=
  State.regWrite_draws (if_pos h)

/-- A run-time refusal stops the write; only that of PWR_REQ leaves a trace (R26, R478). -/
theorem State.regWrite_stateRefused {s : State} {off : Nat} {ws : List Nat} (hb : s.badWords (placed off ws) = false)
    (hp : ∀ w ∈ placed off ws, w.1 ≠ 0x5014) (hr : ((placed off ws).any fun w => s.regRefused w.1 w.2) = true) :
    ∃ k, s.regWrite off ws = ({ s with fresh := k }, .stateRefused) := by
  have hq : s.requestRefused (placed off ws) = s := by
    have hn : (placed off ws).find? (fun p => p.1 == 0x5014) = none := by simpa using hp
    rw [State.requestRefused, hn]
  exact State.regWrite_draws (by rw [hb, if_neg Bool.false_ne_true, if_pos hr, hq])

/-- A write that nothing stops acts word by word (R26). -/
theorem State.regWrite_ok {s : State} {off : Nat} {ws : List Nat} (hb : s.badWords (placed off ws) = false)
    (hr : ((placed off ws).any fun w => s.regRefused w.1 w.2) = false) (ht : ∀ w ∈ placed off ws, w.1 ≠ 0x4024) :
    let t := (placed off ws).foldl (fun s w => s.regPut w.1 w.2) s
    s.regWrite off ws = ({ t with host := t.host.coverPages off (4 * ws.length) }, .ok) := by
  have hn : ((placed off ws).any fun p => p.1 == 0x4024) = false := by simpa using ht
  simp only [State.regWrite, hb, hr, hn, Bool.false_eq_true, if_false]

@[simp] theorem payloadWords_length (n : Nat) (p : List Byte) : (payloadWords n p).length = n := by simp [payloadWords]

/-- A write of the right length, CRC, alignment and range is judged by its words; in a warm reset or fault halt by its
place first (R26, R424). -/
theorem writeFrame_framePayload {hold : Bool} {target len : Nat} {d : List Byte} (s : State) (hd : d.length = 4 * len)
    (hr : rangeCheck target len = .ok) : writeFrame hold target len (framePayload 0x02 target len d) 0 s =
      if hold && !holdWritable target len then (s, .stateRefused)
      else s.regWrite target (payloadWords len (framePayload 0x02 target len d)) := by
  simp only [writeFrame, frameCheck_framePayload hd, hr]

/-- A write whose frame fails a check is refused with that check's code. -/
theorem writeFrame_of_frameCheck {hold : Bool} {target len x : Nat} {p : List Byte} {c : Code} (s : State)
    (h : frameCheck 0x02 target len (4 * len) p x = c) (hc : c ≠ .ok) : writeFrame hold target len p x s = (s, c) := by
  subst h
  unfold writeFrame
  split
  · contradiction
  · rfl

/-- A target below 0x100 or an end above 0x108 is not a write of ATTN_CAUSE and HIRQ_MASK only. -/
theorem holdWritable_eq_false {target len : Nat} (h : target < 0x100 ∨ 0x108 < target + 4 * len) : holdWritable target len = false := by
  simp only [holdWritable, Bool.and_eq_false_iff, decide_eq_false_iff_not]
  omega

/-- Settles O45: the frame's checks one after the other, then the words. -/
theorem writeFrames : Obligations.WriteFrames := by
  unfold Obligations.WriteFrames
  intro dt target len e d s ha h1 hb hrange u i p ps
  have ht : target < 0x10000 := by omega
  have hr := rangeCheck_ok ha h1 hrange
  have open_ok {c : Code} (hu : u.frameOpen = true) (hd : d.length = 4 * len)
      (h : ∃ k, u.frameActs.regWrite target (payloadWords len p) = ({ u.frameActs with fresh := k }, c)) :
      FrameRefused (i p 0) u s c := by
    obtain ⟨hl, he, hh⟩ := State.frameOpen_iff.1 hu
    obtain ⟨k, h⟩ := h
    refine plainFrame_refused (exec_regWrite ht hb) hl he ⟨k, ?_⟩
    rw [writeFrame_framePayload _ hd hr, hh, Bool.false_and, if_neg Bool.false_ne_true]
    exact h
  have check_fails {q : List Byte} {x : Nat} {c : Code} (hu : u.frameOpen = true) (hc : c ≠ .ok)
      (h : frameCheck 0x02 target len (4 * len) q x = c) : FrameRefused (i q x) u s c := by
    obtain ⟨hl, he, -⟩ := State.frameOpen_iff.1 hu
    exact plainFrame_refused (exec_regWrite ht hb) hl he ⟨_, writeFrame_of_frameCheck _ h hc⟩
  refine ⟨fun hu q x hq => check_fails hu (by decide) (frameCheck_badLength hq), fun hd => ⟨?_, ?_, ?_, ?_, ?_⟩⟩
  · intro hu c hc
    exact check_fails hu (by decide) ((frameCheck_append hd).trans (if_neg hc))
  · intro v hu hbad
    exact open_ok hu hd (State.regWrite_badField hbad)
  · intro v hu hbad hp href
    exact open_ok hu hd (State.regWrite_stateRefused hbad hp href)
  · intro v hu hbad href htam t
    obtain ⟨hl, he, hh⟩ := State.frameOpen_iff.1 hu
    have hw : writeFrame u.frameHold target len p 0 u.frameActs =
        ({ t with host := t.host.coverPages target (4 * len) }, .ok) := by
      rw [writeFrame_framePayload _ hd hr, hh, Bool.false_and, if_neg Bool.false_ne_true]
      simpa only [payloadWords_length] using State.regWrite_ok hbad href htam
    refine ⟨(u.statusBytes e ++ List.replicate (4 + p.length) 0).take (4 + p.length), ?_⟩
    rw [exec_regWrite ht hb, plainFrame_acts hl he, hw]
    rfl
  · intro hl he hm hout
    have hh : u.frameHold = true := by rcases hm with hm | hm <;> simp [State.frameHold, hm]
    refine plainFrame_refused (exec_regWrite ht hb) hl he ⟨u.frameActs.fresh, ?_⟩
    rw [writeFrame_framePayload _ hd hr, hh, holdWritable_eq_false hout]
    rfl

/-! ### SUBMIT -/

/-- A submission as a frame of its own effect. -/
theorem exec_submit {dt q len : Nat} {p : List Byte} {c : Clocked} {s : State} (hq : q < 4) (hb : len < 256) :
    exec (.frSubmit dt q len p c) s = plainFrame dt c.e (4 + p.length) s fun h s => submitFrame h q len p c.n s := by
  show execFrSubmit dt q len p c s = _
  rw [execFrSubmit, Nat.mod_eq_of_lt (by omega : q < 65536), Nat.mod_eq_of_lt hb]

/-- A submission of 32 bytes and a CRC byte on a queue that exists, with what it is checked against in order (R31; log 49). -/
theorem submitFrame_append {q len : Nat} {d : List Byte} {c : Byte} (s : State) (hq : q < 4) (hd : d.length = 32) :
    submitFrame false q len (d ++ [c]) 0 s =
      if c ≠ crc8 (cmdBytes 0x10 q len ++ d) then (s, .badCrc)
      else if len ≠ 8 then (s, .badLength)
      else if vget s.host.credits q 0 = 0 then (s, .noCredit)
      else if fieldLE d 4 4 ≠ (vget s.host.sqSeq q 0).toNat ∨ fieldLE d 8 2 ≠ s.host.epoch.toNat then (s, .badRef)
      else (s.accept q d, .ok) := by
  have ht : (d ++ [c]).take 32 = d := by rw [← hd, List.take_left']; rfl
  unfold submitFrame
  rw [frameCheck_append hd]
  by_cases hc : c = crc8 (cmdBytes 0x10 q len ++ d)
  · simp only [if_pos hc, ht, if_neg (not_not.2 hc), if_neg (by omega : ¬4 ≤ q), Bool.false_eq_true, if_false]
  · simp only [if_neg hc, if_pos hc]

/-- What the acceptance of an item leaves: one item more, the next SEQ, one credit less, the ledgers as they were (R30, R31). -/
theorem State.accept_spec (s : State) {q : Nat} (raw : List Byte) (hq : q < 4) (hc : vget s.host.credits q 0 ≠ 0) :
    (∃ r, (s.accept q raw).host.items = s.host.items ++ [r] ∧ r.key = ⟨q, vget s.host.sqSeq q 0⟩ ∧ r.raw = raw ∧ r.phase = .waiting) ∧
    vget (s.accept q raw).host.sqSeq q 0 = vget s.host.sqSeq q 0 + 1 ∧
    vget (s.accept q raw).host.credits q 0 = vget s.host.credits q 0 - 1 ∧
    (∀ k, k ≠ q → vget (s.accept q raw).host.sqSeq k 0 = vget s.host.sqSeq k 0 ∧
      vget (s.accept q raw).host.credits k 0 = vget s.host.credits k 0) ∧
    ∀ k, (s.accept q raw).host.creditSum k = s.host.creditSum k := by
  refine ⟨⟨_, rfl, rfl, rfl, rfl⟩, vget_vset_self _ _ _ hq, vget_vset_self _ _ _ hq,
    fun k hk => ⟨vget_vset_ne _ _ _ hk, vget_vset_ne _ _ _ hk⟩, fun k => ?_⟩
  simp only [HostLink.creditSum, HostLink.accepted, HostLink.unreleased, State.accept, vget_vset, List.filter_append, List.length_append]
  by_cases hk : q = k
  · subst hk
    simp [hq]
    omega
  · simp [hk]

/-- Settles O46: the checks one after the other, then the acceptance. -/
theorem submitFrames : Obligations.SubmitFrames := by
  unfold Obligations.SubmitFrames
  intro dt q len e d c s ho hq hb hd i good seq known
  obtain ⟨hl, he, hh⟩ := State.frameOpen_iff.1 ho
  have hf := submitFrame_append (len := len) (c := c) (s.tick dt).frameActs hq hd
  have refused {k : Code} (h : submitFrame false q len (d ++ [c]) 0 (s.tick dt).frameActs = ((s.tick dt).frameActs, k)) :
      FrameRefused i (s.tick dt) s k :=
    plainFrame_refused (exec_submit hq hb) hl he ⟨_, by rw [hh]; exact h⟩
  refine ⟨fun hc => refused (hf.trans (if_pos hc)), fun hc h8 => refused ?_, fun hc h8 h0 => refused ?_,
    fun hc h8 h0 hk => refused ?_, fun hc h8 h0 hk => ?_⟩
  · rw [hf, if_neg (not_not.2 hc), if_pos h8]
  · rw [hf, if_neg (not_not.2 hc), if_neg (not_not.2 h8)]
    exact if_pos h0
  · rw [hf, if_neg (not_not.2 hc), if_neg (not_not.2 h8)]
    exact (if_neg h0).trans (if_pos (not_and_or.1 hk))
  · have ha : submitFrame false q len (d ++ [c]) 0 (s.tick dt).frameActs = ((s.tick dt).frameActs.accept q d, .ok) := by
      rw [hf, if_neg (not_not.2 hc), if_neg (not_not.2 h8)]
      exact (if_neg h0).trans (if_neg (not_or.2 ⟨not_not.2 hk.1, not_not.2 hk.2⟩))
    obtain ⟨⟨r, a1, a2, a3, a4⟩, a5, a6, a7, a8⟩ := State.accept_spec (s.tick dt).frameActs d hq h0
    refine ⟨_, r, by rw [exec_submit hq hb, plainFrame_acts hl he], ?_⟩
    rw [hh, ha]
    exact ⟨rfl, a1, a2, a3, a4, a5, a6, rfl, fun k _ hk => a7 k hk,
      fun k _ hc => State.creditLedger_of_creditSum_eq (s := s) (a8 k) rfl hc, rfl⟩

/-! ### Updates that write one unit -/

theorem State.closeCap_eq (s : State) (r : Nat) : s.closeCap r = { s with evd := (s.closeCap r).evd } := by
  unfold State.closeCap; split <;> rfl

theorem State.ringRec_eq (s : State) (k : Nat) (l : Option Nat) (b : List Byte) :
    s.ringRec k l b = { s with evd := (s.ringRec k l b).evd } := by
  unfold State.ringRec; split
  · rfl
  · split <;> rfl

/-- A record changes the recorder. -/
theorem State.evdRecord_eq (s : State) (k : Nat) (l : Option Nat) (b : List Byte) :
    s.evdRecord k l b = { s with evd := (s.evdRecord k l b).evd } := by
  unfold State.evdRecord
  split
  · split
    · dsimp only
      split
      · rw [State.closeCap_eq]; rfl
      · rfl
    · rw [State.ringRec_eq, State.closeCap_eq]
  · rw [State.ringRec_eq]

/-- A banister changes the recorder. -/
theorem State.evdBanister_eq (s : State) (l : Nat) : s.evdBanister l = { s with evd := (s.evdBanister l).evd } := by
  unfold State.evdBanister
  split
  · split
    · rw [State.closeCap_eq]
    · rfl
  · rfl

theorem State.galEnding_eq (s : State) (l : Nat) : s.galEnding l = { s with gal := (s.galEnding l).gal } := by
  unfold State.galEnding; split <;> rfl

theorem State.canaStatus_eq (s : State) (q : Session) (r : Option Nat) : s.canaStatus q r = { s with rel := (s.canaStatus q r).rel } := by
  unfold State.canaStatus; split <;> rfl

/-- An amended end of a session changes the release unit, the recorder and a hall. -/
theorem State.relAmend_only (s : State) (l : Option Nat) (r : Nat) : ∃ a b c, s.relAmend l r = { s with rel := a, evd := b, halls := c } := by
  unfold State.relAmend
  split
  · split
    · dsimp only
      split <;> split
      · rw [State.hallWrite_eq, State.canaStatus_eq]; exact ⟨_, _, _, rfl⟩
      · rw [State.canaStatus_eq]; exact ⟨_, _, _, rfl⟩
      · rw [State.hallWrite_eq]; exact ⟨_, _, _, rfl⟩
      · exact ⟨_, _, _, rfl⟩
    · exact ⟨_, _, _, rfl⟩
  · exact ⟨_, _, _, rfl⟩

/-- The end of a session changes the release unit, the recorder, a hall, and that its landing holds a session. -/
theorem State.relEnd_only (s : State) (l r : Nat) : ∃ a b c, ∃ f : Landing → Landing, (∀ x, ∃ g, f x = { x with relSession := g }) ∧
    s.relEnd l r = { s with rel := a, evd := b, halls := c, landings := (s.modLand l f).landings } := by
  have same : (s.modLand l id).landings = s.landings := by
    ext i hi
    simp only [State.modLand, State.setLand, State.land, id, vset, vget, Vector.getElem_setIfInBounds]
    split
    · next h => subst h; simp [hi]
    · rfl
  have told (v : State) (q : Session) : ∃ a b, (if q.openAt.isSome then
      if (v.canaStatus q (some r)).evd.src 3 then (v.canaStatus q (some r)).evdRecord 4 (some l) (relEndBody q r)
      else v.canaStatus q (some r) else v) = { v with rel := a, evd := b } := by
    split
    · split
      · rw [State.evdRecord_eq, State.canaStatus_eq]; exact ⟨_, _, rfl⟩
      · rw [State.canaStatus_eq]; exact ⟨_, _, rfl⟩
    · exact ⟨_, _, rfl⟩
  unfold State.relEnd
  cases s.rel.session with
  | none =>
    obtain ⟨a, b, c, h⟩ := State.relAmend_only s (some l) r
    exact ⟨a, b, c, id, fun x => ⟨x.relSession, rfl⟩, by rw [same]; exact h⟩
  | some q =>
    by_cases hq : q.land = l
    · dsimp only
      rw [if_pos hq]
      obtain ⟨a, b, h⟩ := told _ q
      exact ⟨a, b, _, fun x => { x with relSession := false }, fun x => ⟨_, rfl⟩, h⟩
    · exact ⟨_, _, _, id, fun x => ⟨x.relSession, rfl⟩, by rw [same]; exact if_neg hq⟩

/-! ### What the landings keep -/

/-- The landing keeps its state, and whether it becomes unusable at the end of its flight. -/
def Landing.sameLife (x y : Landing) : Prop := y.st = x.st ∧ y.becomesUnusable = x.becomesUnusable

/-- Every landing keeps them. -/
def State.keepsLife (s t : State) : Prop := ∀ m, (s.land m).sameLife (t.land m)

theorem Landing.sameLife_rfl (x : Landing) : x.sameLife x := ⟨rfl, rfl⟩

theorem Landing.sameLife.trans {x y z : Landing} (h : x.sameLife y) (h' : y.sameLife z) : x.sameLife z :=
  ⟨h'.1.trans h.1, h'.2.trans h.2⟩

theorem State.keepsLife.trans {s t u : State} (h : s.keepsLife t) (h' : t.keepsLife u) : s.keepsLife u := fun m => (h m).trans (h' m)

theorem State.keepsLife_of_landings {s t : State} (h : t.landings = s.landings) : s.keepsLife t := fun m => by
  rw [State.land, State.land, h]; exact Landing.sameLife_rfl _

/-- A landing after one was replaced. -/
theorem State.land_setLand_eq (s : State) (l m : Nat) (x : Landing) : (s.setLand l x).land m = if l = m ∧ l < 192 then x else s.land m :=
  vget_vset ..

theorem State.keepsLife_modLand (s : State) (l : Nat) {f : Landing → Landing} (hf : ∀ x, Landing.sameLife x (f x)) : s.keepsLife (s.modLand l f) := by
  intro m
  rw [State.modLand, State.land_setLand_eq]
  split
  · next h => rw [← h.1]; exact hf _
  · exact Landing.sameLife_rfl _

theorem State.keepsLife_map (s : State) {f : Landing → Landing} (h0 : f Landing.free = Landing.free) (hf : ∀ x, Landing.sameLife x (f x)) :
    s.keepsLife { s with landings := s.landings.map f } := by
  intro m
  show (s.land m).sameLife (vget (s.landings.map f) m Landing.free)
  have := vget_map s.landings f m Landing.free
  rw [h0] at this
  rw [this]
  exact hf _

theorem Landing.startHold_sameLife (now : Nat) (ks : List ItemKey) (x : Landing) : x.sameLife (x.startHold now ks) := by
  simp only [Landing.startHold, Landing.sameLife, apply_ite Landing.st, apply_ite Landing.becomesUnusable, ite_self, and_self]

theorem Landing.startHold_free (now : Nat) (ks : List ItemKey) : Landing.free.startHold now ks = Landing.free := rfl

/-- Posting starts holds. -/
theorem State.keepsLife_flush (s : State) : s.keepsLife s.flush := by
  unfold State.flush
  dsimp only
  rw [State.foldl_deferPosted_eq, State.hushCheck_eq]
  split
  · exact State.keepsLife_of_landings rfl
  · exact State.keepsLife_map s (f := Landing.startHold _ _) (Landing.startHold_free ..) (Landing.startHold_sameLife _ _)

theorem State.keepsLife_finish (s : State) (k : ItemKey) (c : Code) (r : List Byte) : s.keepsLife (s.finish k c r) :=
  State.keepsLife_flush _

theorem Landing.resume_sameLife (now mask : Nat) (x : Landing) : x.sameLife (x.resume now mask) := by
  unfold Landing.resume
  split
  · split <;> exact ⟨rfl, rfl⟩
  · exact ⟨rfl, rfl⟩

/-- Restoring grants lets landings go on. -/
theorem State.keepsLife_restore (s : State) : s.keepsLife s.restore := by
  have key : ∀ (es : List (Nat × Nat)) (v : Vector Landing 192) (m : Nat), (vget v m Landing.free).sameLife
      (vget (es.foldl (fun v e => vset v e.1 (Landing.resume s.now e.2 (vget v e.1 Landing.free))) v) m Landing.free) := by
    intro es
    induction es with
    | nil => exact fun v m => Landing.sameLife_rfl _
    | cons e es ih =>
      refine fun v m => Landing.sameLife.trans ?_ (ih _ m)
      rw [vget_vset]
      split
      · next h => rw [← h.1]; exact Landing.resume_sameLife ..
      · exact Landing.sameLife_rfl _
  exact key _ s.landings

/-- Taking airtime away notes what was used. -/
theorem State.keepsLife_airRelease (s : State) (l mask : Nat) : s.keepsLife (s.airRelease l mask) := by
  have key : ∀ (gs : List Grant) (s : State), s.keepsLife
      (gs.foldl (fun s g => s.modLand l (Landing.noteReleased (g.ticks s.now / usT) (g.mask &&& mask))) s) := by
    intro gs
    induction gs with
    | nil => exact fun s => State.keepsLife_of_landings rfl
    | cons g gs ih =>
      exact fun s => (State.keepsLife_modLand s l (f := Landing.noteReleased _ _) fun x => ⟨rfl, rfl⟩).trans (ih _)
  unfold State.airRelease
  exact State.keepsLife.trans (key _ s) (State.keepsLife_restore _)

theorem State.keepsLife_airDrop (s : State) (l : Nat) : s.keepsLife (s.airDrop l) :=
  (State.keepsLife_of_landings rfl : s.keepsLife { s with air := _ }).trans (State.keepsLife_airRelease _ l 15)

theorem State.keepsLife_relEnd (s : State) (l r : Nat) : s.keepsLife (s.relEnd l r) := by
  obtain ⟨a, b, c, f, hf, h⟩ := State.relEnd_only s l r
  rw [h]
  refine State.keepsLife_modLand s l fun x => ?_
  obtain ⟨g, hg⟩ := hf x
  rw [hg]
  exact ⟨rfl, rfl⟩

/-- What a flight leaves on the gallery bus gives its landing a hold, at most. -/
theorem State.keepsLife_partEnded (s : State) (l : Nat) (c : Code) : s.keepsLife (s.partEnded l c) := by
  have held : s.keepsLife (s.modLand l fun x => { x with holdUntil := some (s.now + x.holdUs * msT / 1000) }) :=
    State.keepsLife_modLand s l (f := fun x => { x with holdUntil := some (s.now + x.holdUs * msT / 1000) }) fun x => ⟨rfl, rfl⟩
  unfold State.partEnded
  extract_lets g g' x
  split
  · exact State.keepsLife_of_landings rfl
  · split
    · exact held
    · exact held.trans (State.keepsLife_flush _)

theorem State.keepsLife_deferEntry (s : State) (l : Nat) (k : ItemKey) (t : Nat) : s.keepsLife (s.deferEntry l k t) := by
  unfold State.deferEntry
  split <;> exact State.keepsLife_of_landings rfl

/-- A flight that has ended drains: its landing holds, unless it becomes unusable (R63, R103). -/
theorem State.finishEnd_holds (s : State) {l : Nat} (c : Code) (hl : l < 192) (hu : (s.land l).becomesUnusable = false) :
    ((s.finishEnd l c).land l).st = .hold := by
  have hx : (((s.relEnd l 3).airDrop l).land l).becomesUnusable = false :=
    ((State.keepsLife_relEnd s l 3).trans (State.keepsLife_airDrop _ l) l).2.trans hu
  have ended (t : State) (y : Landing) (h : y.st = .hold) : (((t.setLand l y).partEnded l c).land l).st = .hold := by
    rw [(State.keepsLife_partEnded _ l c l).1, State.land_setLand _ _ hl, h]
  unfold State.finishEnd
  extract_lets v1 v2 x _ _ _ v3 _ v4 _ y v5 _ v6 _ v7
  have h7 : (v7.land l).st = .hold := by
    have h6 : v6 = v5 := if_neg (by rw [show x.becomesUnusable = false from hx]; exact Bool.false_ne_true)
    have h5 : (v5.land l).st = .hold := ended v4 y rfl
    have h76 : v7.landings = v6.landings := rfl
    rw [State.land, h76, h6]
    exact h5
  split
  · exact h7
  · next k _ =>
    have deferred (b : Bool) : ((if b then v7.deferEntry l k x.itemSince else v7).land l).st = .hold := by
      split
      · exact (State.keepsLife_deferEntry v7 l k _ l).1.trans h7
      · exact h7
    exact (State.keepsLife_finish _ _ _ _ l).1.trans (deferred _)

/-- No pipe serves the landing. -/
def State.offPipes (s : State) (l : Nat) : Prop := ∀ p ∈ s.sched.pipes.toList, p.serving ≠ some l

theorem State.leavePipe_offPipes (s : State) (l : Nat) : (s.leavePipe l).offPipes l := by
  intro p hp
  simp only [State.leavePipe, Vector.toList_map, List.mem_map] at hp
  obtain ⟨q, -, rfl⟩ := hp
  by_cases hq : q.serving = some l <;> simp [hq]

/-- The end of a flight begins: the landing waits at its banister, or its flight has ended (R63). -/
theorem State.endFlight_ends (s : State) {l : Nat} (c : Code) (hl : l < 192) (hu : (s.land l).becomesUnusable = false) :
    ((s.endFlight l c).land l).wait = .ending c ∨ ((s.endFlight l c).land l).st = .hold := by
  have h1 : (((s.closeCapture l).galEnding l).leaveTurn l).landings = s.landings := by
    rw [State.closeCapture, State.evdBanister_eq, State.galEnding_eq]
    rfl
  have h2 : (((s.closeCapture l).galEnding l).leaveTurn l).land l = s.land l := congrArg (vget · l Landing.free) h1
  unfold State.endFlight
  dsimp only
  split
  · refine .inr (State.finishEnd_holds _ c hl ?_)
    show (State.land (State.setLand _ _ _) l).becomesUnusable = _
    rw [State.land_setLand _ _ hl]
    exact (congrArg Landing.becomesUnusable h2).trans hu
  · refine .inl ?_
    show (State.land (State.setLand _ _ _) l).wait = _
    rw [State.land_setLand _ _ hl]

/-- A flight in no wait that is stopped ends, and leaves its pipe (R61, R63). -/
theorem State.stopFlight_ends (s : State) {l : Nat} (c : Code) (hl : l < 192) (hw : (s.land l).wait = .none)
    (hu : (s.land l).becomesUnusable = false) :
    (((s.stopFlight l c none).land l).wait = .ending c ∨ ((s.stopFlight l c none).land l).st = .hold) ∧
    (s.stopFlight l c none).offPipes l := by
  have h : s.endFromOutside l c none = s.endFlight l c := by
    unfold State.endFromOutside
    rw [hw]
  rw [State.stopFlight, h]
  exact ⟨State.endFlight_ends s c hl hu, State.leavePipe_offPipes _ l⟩

/-! ### HUSH of the DMA engine -/

theorem State.dmaPoison_dma (s : State) (d : Desc) : (s.dmaPoison d).dma = s.dma := by
  unfold State.dmaPoison
  split
  · rfl
  · dsimp only
    split
    · rfl
    · unfold State.setHallPoison; split <;> rfl
    · rfl

theorem State.partRefused_dma (s : State) (id : Nat) (c : Code) : (s.partRefused id c).dma = s.dma := by
  unfold State.partRefused
  split <;> rfl

theorem State.deferEntry_dma (s : State) (l : Nat) (k : ItemKey) (t : Nat) : (s.deferEntry l k t).dma = s.dma := by
  unfold State.deferEntry
  split <;> rfl

@[simp] theorem State.finish_dma (s : State) (k : ItemKey) (c : Code) (r : List Byte) : (s.finish k c r).dma = s.dma := by
  rw [State.finish_eq]

/-- A start that fails takes its initialisation fetch with it, and nothing else of the DMA engine. -/
theorem State.startFails_dma (s : State) (l : Nat) (r : StartReq) (c : Code) : (s.startFails l r c).dma = s.dma.dropInit l := by
  unfold State.startFails
  extract_lets _ v1 _ v2 v3
  have h3 : v3.dma = s.dma.dropInit l := by
    show (if r.deferred then v2.deferEntry l r.key r.since else v2).dma = _
    split
    · exact State.deferEntry_dma ..
    · rfl
  split
  · rw [State.partRefused_dma, h3]
  · rw [State.finish_dma, h3]

/-- What the failure of a descriptor does to the DMA engine: at most it drops the fetch of a start. -/
theorem State.jobFails_dma (s : State) (d : Desc) (c : Code) :
    (s.jobFails d c).dma = s.dma ∨ ∃ l, (s.jobFails d c).dma = s.dma.dropInit l := by
  unfold State.jobFails
  split
  · refine .inl ?_
    unfold State.itemFails
    split
    · rfl
    · split <;> exact State.finish_dma ..
  · split
    · exact .inr ⟨_, State.startFails_dma ..⟩
    · exact .inl rfl
  · exact .inl rfl
  · exact .inl rfl

/-- A channel forgets the initialisation fetch of a landing. -/
def Chan.dropInit (l : Nat) (c : Chan) : Chan :=
  match c.desc with
  | some e => if c.active && e.job == DmaJob.initFetch l then { c with active := false, failed := true } else c
  | none => c

theorem Chan.dropInit_spec (l : Nat) (c : Chan) :
    (c.dropInit l).desc = c.desc ∧ ((c.dropInit l).active = true → c.active = true) := by
  unfold Chan.dropInit
  split
  · split
    · exact ⟨rfl, fun h => nomatch h⟩
    · exact ⟨rfl, id⟩
  · exact ⟨rfl, id⟩

theorem Dma.chan_dropInit (d : Dma) (l ch : Nat) : (d.dropInit l).chan ch = (d.chan ch).dropInit l :=
  vget_map d.chans (Chan.dropInit l) ch Chan.reset

/-- No descriptor waits, every channel that moves something has its descriptor, and those of a list move nothing. -/
def Dma.drained (d : Dma) (idle : List Nat) : Prop :=
  d.waiting = [] ∧ ∀ ch < 8, (d.chan ch).active = true → (d.chan ch).desc.isSome = true ∧ ch ∉ idle

theorem Dma.drained.dropInit {d : Dma} {idle : List Nat} (h : d.drained idle) (l : Nat) : (d.dropInit l).drained idle := by
  refine ⟨by rw [Dma.dropInit, h.1]; rfl, fun ch hc ha => ?_⟩
  obtain ⟨hd, hact⟩ := Chan.dropInit_spec l (d.chan ch)
  rw [Dma.chan_dropInit] at ha ⊢
  rw [hd]
  exact h.2 ch hc (hact ha)

/-- One channel more has stopped. -/
theorem Dma.drained.stop {d : Dma} {idle : List Nat} (h : d.drained idle) {ch : Nat} (hc : ch < 8) {c : Chan} (ha : c.active = false) :
    Dma.drained { d with chans := vset d.chans ch c } (ch :: idle) := by
  refine ⟨h.1, fun k hk hak => ?_⟩
  have hv : Dma.chan { d with chans := vset d.chans ch c } k = if ch = k ∧ ch < 8 then c else d.chan k := vget_vset ..
  by_cases e : ch = k
  · rw [hv, if_pos ⟨e, hc⟩, ha] at hak
    cases hak
  · rw [hv, if_neg fun x => e x.1] at hak ⊢
    obtain ⟨hd, hn⟩ := h.2 k hk hak
    exact ⟨hd, by simpa [Ne.symm e] using hn⟩

theorem State.jobFails_drained {s : State} {idle : List Nat} (h : s.dma.drained idle) (d : Desc) (c : Code) :
    (s.jobFails d c).dma.drained idle := by
  obtain e | ⟨l, e⟩ := State.jobFails_dma s d c
  · rw [e]; exact h
  · rw [e]; exact h.dropInit l

/-- A descriptor that a HUSH fails on a channel: its destination is poisoned, the channel stops, its job fails (R131, R134). -/
theorem State.failDesc_eq {s : State} {ch : Nat} {d : Desc} (ha : (s.dma.chan ch).active = true) (hd : (s.dma.chan ch).desc = some d)
    (c : Code) : s.failDesc ch 5 c = State.jobFails { s.dmaPoison d with
        dma := { s.dma with
          chans := vset s.dma.chans ch { s.dma.chan ch with active := false, doneFlag := false, failed := true, cause := 5 } } } d c := by
  unfold State.failDesc
  simp only [ha, hd, State.dmaPoison_dma]

/-- A HUSH fails the descriptor of a channel, if there is one: the channel moves nothing then. -/
theorem State.failWhere_step {s : State} {idle : List Nat} (h : s.dma.drained idle) {ch : Nat} (hc : ch < 8) (c : Code) :
    (match (s.dma.chan ch).active, (s.dma.chan ch).desc with
      | true, some _ => s.failDesc ch 5 c
      | _, _ => s).dma.drained (ch :: idle) := by
  cases ha : (s.dma.chan ch).active with
  | false =>
    refine ⟨h.1, fun k hk hak => ⟨(h.2 k hk hak).1, fun hm => ?_⟩⟩
    obtain rfl | hm := List.mem_cons.1 hm
    · rw [ha] at hak; cases hak
    · exact (h.2 k hk hak).2 hm
  | true =>
    obtain ⟨hd, -⟩ := h.2 ch hc ha
    obtain ⟨d, hd⟩ := Option.isSome_iff_exists.1 hd
    rw [hd]
    show (s.failDesc ch 5 c).dma.drained _
    rw [State.failDesc_eq ha hd]
    exact State.jobFails_drained (s := { s.dmaPoison d with dma := _ }) (h.stop hc rfl) d c

/-- A HUSH of the channels of a list stops them. -/
theorem State.failWhere_drained (c : Code) : ∀ (chs : List Nat) (s : State) (idle : List Nat), (∀ ch ∈ chs, ch < 8) → s.dma.drained idle →
    (chs.foldl (fun s ch => match (s.dma.chan ch).active, (s.dma.chan ch).desc with
      | true, some _ => s.failDesc ch 5 c
      | _, _ => s) s).dma.drained (chs.reverse ++ idle)
  | [], _, _, _, h => h
  | ch :: chs, s, idle, hb, h => by
    rw [List.reverse_cons, List.append_assoc]
    exact State.failWhere_drained c chs _ _ (fun k hk => hb k (by simp [hk])) (State.failWhere_step h (hb ch (by simp)) c)

/-- A HUSH of the DMA engine leaves no descriptor, running or waiting (R134). -/
theorem State.hushDma_stops (s : State) (h : ∀ ch < 8, (s.dma.chan ch).active = true → (s.dma.chan ch).desc.isSome = true) :
    s.hushDma.dma.waiting = [] ∧ ∀ ch < 8, (s.hushDma.dma.chan ch).active = false := by
  have start : Dma.drained { s.dma with waiting := [] } [] := ⟨rfl, fun ch hc ha => ⟨h ch hc ha, by simp⟩⟩
  have running := State.failWhere_drained .failedHush (List.range 8) { s with dma := { s.dma with waiting := [] } } []
    (by simp) start
  have waiting : ∀ (w : List Desc) (t : State), t.dma.drained ((List.range 8).reverse ++ []) →
      (w.foldl (fun s d => (s.dmaPoison d).jobFails d .failedHush) t).dma.drained ((List.range 8).reverse ++ []) := by
    intro w
    induction w with
    | nil => exact fun t ht => ht
    | cons d w ih => exact fun t ht => ih _ (State.jobFails_drained (by rw [State.dmaPoison_dma]; exact ht) d _)
  obtain ⟨hw, hi⟩ := waiting s.dma.waiting _ running
  exact ⟨hw, fun ch hc => Bool.eq_false_iff.2 fun ha => (hi ch hc ha).2 (by simpa using hc)⟩

/-! ### HUSH frames -/

/-- The effect of a HUSH frame that names a scope, where frames take their normal effect. -/
theorem hushFrame_ok {pause target n : Nat} (s : State) (hn : 24 ≤ n) (h : hushScopeOk target = true) :
    hushFrame false pause target n s = (State.hush { s with hushTill := max s.hushTill (s.now + pause) } target, .ok) := by
  rw [hushFrame, if_neg (by omega : ¬n < 24)]
  simp only [h, Bool.not_true, Bool.false_eq_true, if_false]

theorem exec_hush {dt target len n : Nat} {e : Edges} {pause : Nat} {s : State} (hn : 8 ≤ n) (ht : target < 0x10000) :
    exec (.frHush dt target len ⟨e, pause, n⟩) s = plainFrame dt e (n / 8) s fun h s => hushFrame h pause target n s := by
  show execFrHush dt target len ⟨e, pause, n⟩ s = _
  rw [execFrHush, if_neg (by simpa using hn), Nat.mod_eq_of_lt ht]

/-- A HUSH of a landing whose flight runs a step stops that flight, and nothing else. -/
theorem State.hush_landing {s : State} {l : Nat} (hl : l < 192) (hs : (s.land l).stoppable = true) :
    ∃ h : HostLink, s.hush l = (State.stopFlight { s with host := h } l .failedHush none).hushCheck := by
  have h1 : hushLands l = [l] := by rw [hushLands, if_pos hl]
  refine ⟨{ s.host with hushLive := true, hushItems := s.host.hushItems ++ s.hushKeys l [l]
                        hushLandings := s.host.hushLandings ++ [l] }, ?_⟩
  unfold State.hush
  simp only [h1, List.filter_cons, hs, if_true, List.filter_nil, List.foldl_cons, List.foldl_nil]
  rw [if_neg (by omega), if_neg (by omega)]

/-- A HUSH of the DMA engine is that of its descriptors. -/
theorem State.hush_dma (s : State) : ∃ h : HostLink, s.hush 0x100 = (State.hushDma { s with host := h }).hushCheck :=
  ⟨{ s.host with hushLive := true, hushItems := s.host.hushItems ++ s.hushKeys 0x100 [], hushLandings := s.host.hushLandings ++ [] }, rfl⟩

/-- Frames of one effect differ in what they send only. -/
theorem plainFrame_alike (dt n n' : Nat) (e : Edges) (s : State) {f f' : Bool → State → State × Code} (h : ∀ hold u, f hold u = f' hold u) :
    ∃ t t', plainFrame dt e n s f = .next (settle t) ∧ plainFrame dt e n' s f' = .next (settle t') ∧
      ({ t with host := { t.host with hsdo := [] } } : State) = { t' with host := { t'.host with hsdo := [] } } := by
  obtain rfl : f = f' := funext fun hold => funext fun u => h hold u
  refine ⟨_, _, rfl, rfl, ?_⟩
  dsimp only
  split
  · rfl
  · rfl

/-- Settles O47, scope by scope. -/
theorem hushFrames : Obligations.HushFrames := by
  unfold Obligations.HushFrames
  refine ⟨?_, ?_, ?_, ?_⟩
  · intro dt pause l len n e s ho hl hn hb hr hw hu
    obtain ⟨hlink, he, hh⟩ := State.frameOpen_iff.1 ho
    let u : State := { (s.tick dt).frameActs with hushTill := max s.hushTill (s.now + dt + pause) }
    have hs : (u.land l).stoppable = true := by
      show (s.land l).stoppable = true
      simp [Landing.stoppable, hb, hr, hw]
    obtain ⟨h, eq⟩ := State.hush_landing (s := u) hl hs
    have hf : hushFrame false pause l n (s.tick dt).frameActs = ((State.stopFlight { u with host := h } l .failedHush none).hushCheck, .ok) := by
      rw [hushFrame_ok _ hn (by simp [hushScopeOk, hl]), ← eq]
      rfl
    obtain ⟨ends, off⟩ := State.stopFlight_ends { u with host := h } .failedHush hl hw hu
    refine ⟨_, by rw [exec_hush (by omega) (by omega), plainFrame_acts hlink he], ?_⟩
    rw [hh, hf, State.hushCheck_eq]
    exact ⟨rfl, ends, off⟩
  · intro dt pause len n e s ho hn hd
    obtain ⟨hlink, he, hh⟩ := State.frameOpen_iff.1 ho
    let u : State := { (s.tick dt).frameActs with hushTill := max s.hushTill (s.now + dt + pause) }
    refine ⟨_, by rw [exec_hush (by omega) (by omega), plainFrame_acts hlink he], ?_⟩
    rw [hh, hushFrame_ok _ hn rfl]
    obtain ⟨h, eq⟩ := State.hush_dma u
    have stops := State.hushDma_stops { u with host := h } hd
    refine ⟨rfl, ?_⟩
    show (u.hush 0x100).dma.waiting = [] ∧ ∀ ch < 8, ((u.hush 0x100).dma.chan ch).active = false
    rw [eq, State.hushCheck_eq]
    exact stops
  · intro dt pause target len n e s ho hn ht hl hno
    obtain ⟨hlink, he, hh⟩ := State.frameOpen_iff.1 ho
    simp only [List.mem_cons, List.not_mem_nil, or_false, not_or] at hno
    obtain ⟨h1, h2, h3, h4⟩ := hno
    have hf : hushFrame false pause target n (s.tick dt).frameActs =
        ({ (s.tick dt).frameActs with hushTill := max s.hushTill (s.now + dt + pause) }, .badField) := by
      have hs : hushScopeOk target = false := by simp [hushScopeOk, h1, h2, h3, h4]; omega
      rw [hushFrame, if_neg (by omega : ¬n < 24)]
      simp only [hs, Bool.not_false, if_true]
      rfl
    refine ⟨_, by rw [exec_hush (by omega) ht, plainFrame_acts hlink he], ?_⟩
    rw [hh, hf]
    rfl
  · intro dt pause target len n e s h8 h24
    obtain ⟨t, t', h, h', same⟩ := plainFrame_alike dt (n / 8) (32 / 8) e s (f := fun h s => hushFrame h pause (target % 65536) n s)
      (f' := fun h s => hushFrame h pause 0xFFFF 32 s) fun _ _ => by
        rw [hushFrame, if_pos h24, hushFrame, if_neg (by decide : ¬(32 < 24))]
    refine ⟨t, t', ?_, (exec_hush (by decide) (by decide)).trans h', same⟩
    rw [← h]
    show execFrHush dt target len ⟨e, pause, n⟩ s = _
    rw [execFrHush, if_neg (by simpa using h8)]
/-! ### Completions -/

@[simp] theorem State.hushCheck_items (s : State) : s.hushCheck.host.items = s.host.items := by unfold State.hushCheck; split <;> rfl
@[simp] theorem State.hushCheck_cq (s : State) : s.hushCheck.host.cq = s.host.cq := by unfold State.hushCheck; split <;> rfl
@[simp] theorem State.hushCheck_credits (s : State) : s.hushCheck.host.credits = s.host.credits := by unfold State.hushCheck; split <;> rfl

theorem State.hushCheck_host_congr {s t : State} (h : s.host = t.host) : s.hushCheck.host = t.hushCheck.host := by
  unfold State.hushCheck State.attn
  rw [h]
  split
  · rfl
  · exact h

/-- The host link after posting: what was posted, and at the end of a HUSH its marks (R23). -/
theorem State.flush_host (s : State) :
    s.flush.host = (State.hushCheck { s with host := (HostLink.flush (2 * s.host.items.length + 1) s.host).1 }).host := by
  unfold State.flush
  dsimp only
  refine State.hushCheck_host_congr ?_
  rw [State.foldl_deferPosted_eq]
  split <;> rfl

/-- While no completion is decided none may be posted. -/
theorem firstPostable_none {before items : List ItemRec} (h : ∀ q ∈ items, q.phase.isEnded = false) : firstPostable before items = none := by
  induction items generalizing before with
  | nil => rfl
  | cons q t ih =>
    rw [firstPostable, h q (by simp)]
    exact ih fun x hx => h x (by simp [hx])

/-- What the decision of item k makes of a record. -/
def ItemRec.decided (k : ItemKey) (code : Code) (res : List Byte) (q : ItemRec) : ItemRec :=
  if q.key == k && !q.phase.isEnded then { q with phase := .ended code res } else q

theorem ItemRec.decided_of_ne {k : ItemKey} {q : ItemRec} (h : q.key ≠ k) (code : Code) (res : List Byte) : q.decided k code res = q := by
  simp [ItemRec.decided, h]

/-- The one completion that is decided, outside a banister group, is the one to post (R33). -/
theorem firstPostable_decided {r : ItemRec} {code : Code} {res : List Byte} (hb : r.bgrp = 0) :
    ∀ {items before : List ItemRec}, (items.filter fun q => q.key == r.key) = [r] → (∀ q ∈ items, q.phase.isEnded = false) →
      firstPostable before (items.map (ItemRec.decided r.key code res)) = some { r with phase := .ended code res }
  | [], _, hf, _ => by simp at hf
  | q :: t, before, hf, he => by
    by_cases hq : q.key = r.key
    · have hqr : q = r := by
        rw [List.filter_cons, if_pos (by simp [hq])] at hf
        exact List.head_eq_of_cons_eq hf
      subst hqr
      have hd : q.decided q.key code res = { q with phase := .ended code res } := by simp [ItemRec.decided, he q (by simp)]
      have hg : ({ q with phase := .ended code res } : ItemRec).bgrp = 0 := hb
      rw [List.map_cons, hd, firstPostable]
      simp [hg, ItemPhase.isEnded]
    · rw [List.map_cons, ItemRec.decided_of_ne hq, firstPostable, he q (by simp)]
      rw [List.filter_cons, if_neg (by simp [hq])] at hf
      exact firstPostable_decided hb hf fun x hx => he x (by simp [hx])

/-- The other records are left as they are by the decision and the posting of one that nobody awaits. -/
theorem items_after_post {items : List ItemRec} {r : ItemRec} (code : Code) (res : List Byte) (ha : ∀ q ∈ items, q.awaits ≠ some r.key) :
    (((items.map (ItemRec.decided r.key code res)).filter fun q => q.key != r.key).map fun q =>
      if q.awaits == some r.key then { q with phase := .ended .ok q.memo, awaits := none } else q) =
    items.filter fun q => q.key != r.key := by
  induction items with
  | nil => rfl
  | cons q t ih =>
    have iht := ih fun x hx => ha x (by simp [hx])
    by_cases hq : q.key = r.key
    · have hd : (q.decided r.key code res).key = r.key := by unfold ItemRec.decided; split <;> exact hq
      simpa [hd, hq] using iht
    · simpa [ItemRec.decided_of_ne hq, hq, ha q (by simp)] using iht

/-- The records of a queue, with one of all items set apart. -/
theorem accepted_split {items : List ItemRec} {r : ItemRec} (hf : (items.filter fun q => q.key == r.key) = [r]) (n : Nat) :
    (items.filter fun q => q.key.sq == n).length =
      ((items.filter fun q => q.key != r.key).filter fun q => q.key.sq == n).length + if r.key.sq = n then 1 else 0 := by
  have h := List.length_eq_length_filter_add (l := items.filter fun q => q.key.sq == n) fun q => q.key == r.key
  have comm (p q : ItemRec → Bool) : (items.filter p).filter q = (items.filter q).filter p := by
    simp [List.filter_filter, Bool.and_comm]
  rw [comm, comm _ fun q => !(q.key == r.key), hf] at h
  rw [h, Nat.add_comm]
  congr 1
  by_cases hn : r.key.sq = n <;> simp [hn]

/-- What the completion of an item leaves that nothing makes wait: its entry in the queue, the item gone, the sums as they were (R30, R32,
R33, R36). -/
theorem State.finish_posts {s : State} {r : ItemRec} (code : Code) (res : List Byte)
    (hf : (s.host.items.filter fun q => q.key == r.key) = [r])
    (hw : ∀ q ∈ s.host.items, q.phase.isEnded = false ∧ q.awaits ≠ some r.key) (hb : r.bgrp = 0) :
    let t := s.finish r.key code res
    t.host.cq = s.host.cq ++ [⟨r.key.sq, some r.key, completionBytes r code res⟩] ∧
    t.host.items = s.host.items.filter (fun q => q.key != r.key) ∧ t.host.credits = s.host.credits ∧
    ∀ q, t.host.creditSum q = s.host.creditSum q := by
  intro t
  have hlen : (s.host.decide r.key code res).items.length = s.host.items.length := List.length_map _
  obtain ⟨n, hn⟩ : ∃ n, s.host.items.length = n + 1 := by
    cases hi : s.host.items with
    | nil => simp [hi] at hf
    | cons q l => exact ⟨_, rfl⟩
  have hfirst : firstPostable [] (s.host.decide r.key code res).items = some { r with phase := .ended code res } :=
    firstPostable_decided hb hf fun q hq => (hw q hq).1
  have hpost := items_after_post code res fun q hq => (hw q hq).2
  have hitems : ((s.host.decide r.key code res).post { r with phase := .ended code res } code res).items =
      s.host.items.filter fun q => q.key != r.key := hpost
  have hflush : (HostLink.flush (2 * (s.host.decide r.key code res).items.length + 1) (s.host.decide r.key code res)).1 =
      (s.host.decide r.key code res).post { r with phase := .ended code res } code res := by
    have hnone : firstPostable [] ((s.host.decide r.key code res).post { r with phase := .ended code res } code res).items = none :=
      firstPostable_none (by rw [hitems]; exact fun q hq => (hw q (List.mem_of_mem_filter hq)).1)
    rw [hlen, hn, show 2 * (n + 1) + 1 = (2 * n + 1) + 1 + 1 by omega, HostLink.flush, hfirst]
    dsimp only
    rw [HostLink.flush, hnone]
  have hhost : t.host = (State.hushCheck { s with
      host := (s.host.decide r.key code res).post { r with phase := .ended code res } code res }).host := by
    show (State.flush _).host = _
    rw [State.flush_host]
    exact congrArg (fun h => (State.hushCheck { s with host := h }).host) hflush
  have hcq : t.host.cq = s.host.cq ++ [⟨r.key.sq, some r.key, completionBytes r code res⟩] := by
    rw [hhost, State.hushCheck_cq]; rfl
  have hit : t.host.items = s.host.items.filter fun q => q.key != r.key := by rw [hhost, State.hushCheck_items]; exact hitems
  have hcr : t.host.credits = s.host.credits := by rw [hhost, State.hushCheck_credits]; rfl
  refine ⟨hcq, hit, hcr, fun q => ?_⟩
  rw [HostLink.creditSum, HostLink.creditSum, HostLink.accepted, HostLink.accepted, HostLink.unreleased, HostLink.unreleased,
    hcq, hit, hcr, accepted_split hf q, List.filter_append, List.length_append]
  by_cases hq : r.key.sq = q <;> simp [hq]
  omega

/-! ### The start of an item -/

/-- An item starts: it is stopped by the gate that all items share, or by its first check that fails, or has its effect. -/
theorem itemDoes_of_itemStart {c : Nat → Instr} {p : ItemRec → Bool} {checks : State → ItemRec → List (Bool × Code)}
    {eff : State → ItemRec → State → Prop} {f : ItemRec → State → State} (hc : ∀ dt s, exec (c dt) s = itemStart dt s p f)
    (hf : ∀ u r, u.live = true → p r = true → (firstCode (checks u r) ≠ .ok → f r u = u.finish r.key (firstCode (checks u r)) []) ∧
      (firstCode (checks u r) = .ok → eff u r (f r u))) : ItemDoes c p checks eff := by
  intro dt s r ho u
  simp only [State.opens, Bool.and_eq_true, beq_iff_eq] at ho
  obtain ⟨⟨⟨hlive, hturn⟩, hnext⟩, hp⟩ := ho
  have hx : exec (c dt) s = .next (settle (match u.itemGate r with | .ok => f r u | c => u.finish r.key c [])) := by
    rw [hc, itemStart, occurWhen, occur, hlive, hturn]
    simp only [Bool.and_self, if_true, hnext, hp, Bool.not_true, Bool.false_eq_true, if_false]
    rfl
  obtain ⟨hbad, hgood⟩ := hf u r hlive hp
  rw [hx, State.itemCode]
  cases hg : u.itemGate r
  case ok => exact ⟨fun h => by rw [hbad h], fun h => ⟨_, rfl, hgood h⟩⟩
  all_goals exact ⟨fun _ => rfl, fun h => nomatch h⟩

/-- The checks of one list stop an item with the first code that fails. -/
theorem State.orElseDo_of_bad (u : State) (r : ItemRec) {checks : List (Bool × Code)} (f : State → State) (h : firstCode checks ≠ .ok) :
    u.orElseDo r checks f = u.finish r.key (firstCode checks) [] := by
  unfold State.orElseDo
  split
  · contradiction
  · rfl

theorem State.orElseDo_of_ok (u : State) (r : ItemRec) {checks : List (Bool × Code)} (f : State → State) (h : firstCode checks = .ok) :
    u.orElseDo r checks f = f u := by
  rw [State.orElseDo, h]

/-- An item whose checks all stand in one list. -/
theorem itemDoes_of_orElseDo {c : Nat → Instr} {p : ItemRec → Bool} {checks model : State → ItemRec → List (Bool × Code)}
    {eff : State → ItemRec → State → Prop} {x : Nat → State → Host.Outcome State Fault Refusal} {go : ItemRec → State → State → State}
    (hc : ∀ dt s, x dt s = itemStart dt s p fun r s => s.orElseDo r (model s r) (go r s)) (hx : ∀ dt s, exec (c dt) s = x dt s)
    (hm : ∀ u r, p r = true → model u r = checks u r)
    (hg : ∀ u r, u.live = true → p r = true → firstCode (checks u r) = .ok → eff u r (go r u u)) : ItemDoes c p checks eff := by
  refine itemDoes_of_itemStart (fun dt s => (hx dt s).trans (hc dt s)) fun u r hl hp => ?_
  rw [hm u r hp]
  refine ⟨State.orElseDo_of_bad u r _, fun h => ?_⟩
  rw [State.orElseDo_of_ok u r _ h]
  exact hg u r hl hp h

theorem nop_does : ItemDoes .itNop (isCode 0x00) (fun _ r => [(r.reservedBad [], .badField)]) (fun u r t => t = u.finish r.key .ok []) := by
  refine itemDoes_of_itemStart (f := fun r s => s.finish r.key (if r.reservedBad [] then .badField else .ok) []) (fun _ _ => rfl)
    fun u r _ _ => ?_
  cases r.reservedBad [] <;> simp [firstCode]

/-- An item with a code that is not listed ends BAD_OPCODE (R38). -/
theorem unknownItem_ends {dt : Nat} {s : State} {r : ItemRec} (hlive : (s.tick dt).live = true) (hturn : (s.tick dt).inTurn rankItem = true)
    (hnext : (s.tick dt).nextItem = some r) (hcode : r.code ∉ itemCodes) :
    exec (.itUnknownItem dt) s = .next (settle (((s.tick dt).startItem r.key).finish r.key .badOpcode [])) := by
  show execItUnknownItem dt s = _
  have hn : itemCodes.contains r.code = false := by simpa using hcode
  rw [execItUnknownItem, occurWhen, occur, hlive, hturn]
  simp only [Bool.and_self, if_true, hnext, hn, Bool.false_eq_true, if_false]

/-- Settles O48: the posting of a decided item, and the two items that end with no check of their own. -/
theorem completionPosted : Obligations.CompletionPosted := by
  refine ⟨fun s r code res hf hw hb => ?_, nop_does, fun dt s r hlive hturn hnext hcode => unknownItem_ends hlive hturn hnext hcode⟩
  obtain ⟨hcq, hit, hcr, hsum⟩ := State.finish_posts code res hf hw hb
  refine ⟨hcq, hit, hcr, fun q => State.creditLedger_of_creditSum_eq (hsum q) ?_, ?_, ?_⟩
  · rw [State.finish_eq]
  · rw [State.finish_eq]
  · rw [State.finish_eq]

/-! ### Items: pages and descriptors -/

/-- The page of an item whose code has a page byte (R38). -/
theorem ItemRec.page_of_code {r : ItemRec} {k b : Nat} (h : isCode k r = true) (hk : k ≠ 0x55) (hb : pageByte k = some b) :
    r.page = some (r.p8 b) := by
  have hc : r.code = k := by simpa [isCode] using h
  rw [ItemRec.page, if_neg (fun x => hk (hc ▸ x.1)), hc, hb]
  rfl

theorem ItemRec.pageBad_of_code {r : ItemRec} {k b : Nat} (h : isCode k r = true) (hk : k ≠ 0x55) (hb : pageByte k = some b) :
    r.pageBad = decide (7 < r.p8 b) := by
  rw [ItemRec.pageBad, ItemRec.page_of_code h hk hb]

/-- The descriptor of an item joins the queue of the DMA engine. -/
theorem State.queuesMove_moveItem (u : State) (r : ItemRec) (sk dk : Nat) (src : DmaSrc) (dst : DmaDst) (so d len : Nat) :
    u.queuesMove (u.moveItem r sk dk src dst so d len) r src dst so d len :=
  ⟨_, rfl, rfl, rfl, rfl, rfl, rfl, rfl, rfl⟩

theorem State.queuesMove_fromPage (u : State) {r : ItemRec} {p : Nat} (h : r.page = some p) (dk n : Nat) :
    u.queuesMove (u.fromPage r dk n) r (.page p) .stage 0 0 n := by
  rw [State.fromPage, h]
  exact State.queuesMove_moveItem ..

theorem State.queuesMove_toPage (u : State) {r : ItemRec} {p : Nat} (h : r.page = some p) (kind : Nat) (bs : List Byte) :
    u.queuesMove (u.toPage r kind bs) r (.bytes bs) (.page p) 0 0 bs.length := by
  rw [State.toPage, h]
  exact State.queuesMove_moveItem ..

/-- A check list that fails nowhere fails at none of its entries. -/
theorem firstCode_ok_cons {b : Bool} {c : Code} {t : List (Bool × Code)} (hc : c ≠ .ok) (h : firstCode ((b, c) :: t) = .ok) :
    b = false ∧ firstCode t = .ok := by
  rw [firstCode] at h
  split at h
  · exact absurd h hc
  · exact ⟨by simpa using ‹¬b = true›, h⟩

/-! ### Flights -/

theorem flightLoad_does : ItemDoes .itFlightLoad (isCode 0x10)
    (fun u r => [(r.reservedBad [(12, 2), (14, 1), (16, 4), (20, 2), (22, 1)] || decide (7 < r.p8 14) || decide (1 < r.p8 22), .badField),
      (decide (0x7F < r.p16 12), .badRef), (decide (r.p32 16 % 4 ≠ 0 ∨ r.p16 20 % 4 ≠ 0), .badAlign),
      (decide (r.p16 20 < 4 ∨ 2048 < r.p16 20), .badLength), (u.pageTaken r, .stateRefused), (u.slotBusy (r.p16 12), .stateRefused),
      (decide (r.p32 16 ≠ 0 ∧ r.p32 16 ≠ (u.heldBytes (r.p16 12)).length), .badRef)])
    (fun u r t =>
      let v : State := { u with halls := { u.halls with held := if r.p32 16 = 0 then Tbl.del u.halls.held (r.p16 12) else u.halls.held } }
      (65536 < v.loadedArea + v.loadsMoving r.key + r.p16 20 → t = u.finish r.key .noSpace []) ∧
      (v.loadedArea + v.loadsMoving r.key + r.p16 20 ≤ 65536 → v.queuesMove t r (.page (r.p8 14)) .stage 0 0 (r.p16 20))) := by
  refine itemDoes_of_orElseDo execItFlightLoad.eq_1 (fun _ _ => rfl) (fun u r hp => ?_) fun u r _ hp _ => ?_
  · simp [ItemRec.pageBad_of_code hp (by decide) rfl, bne, beq_eq_decide]
  · intro v
    have hv : (if r.p32 16 = 0 then ({ u with halls := { u.halls with held := Tbl.del u.halls.held (r.p16 12) } } : State) else u) = v := by
      show _ = ({ u with halls := { u.halls with held := if r.p32 16 = 0 then Tbl.del u.halls.held (r.p16 12) else u.halls.held } } : State)
      split <;> rfl
    rw [hv]
    refine ⟨fun h => if_pos h, fun h => ?_⟩
    rw [if_neg (Nat.not_lt.2 h)]
    exact State.queuesMove_fromPage v (ItemRec.page_of_code hp (by decide) rfl) 6 _

/-- What the search for a free landing tests, by number. -/
theorem State.freeIn_eq (u : State) (p : Nat → Bool) :
    u.freeIn p = ((List.range 192).find? fun m => (u.land m).st == .free && p (m / 8)) := by
  have h : u.landings.toList.zipIdx = (List.range 192).map fun m => (u.land m, m) := by
    refine List.ext_getElem (by simp) fun i h1 h2 => ?_
    have hi : i < 192 := by simpa using h2
    simp [State.land, vget, hi]
  rw [State.freeIn, h, List.find?_map, Option.map_map]
  exact Option.map_id_apply

/-- The lowest free landing whose bank meets a test. -/
theorem State.freeIn_some {u : State} {p : Nat → Bool} {l : Nat} (h : u.freeIn p = some l) :
    l < 192 ∧ (u.land l).st = .free ∧ p (l / 8) = true ∧ ∀ m < l, (u.land m).st = .free → p (m / 8) = false := by
  rw [State.freeIn_eq, List.find?_range_eq_some] at h
  obtain ⟨hl, hmem, hlow⟩ := h
  simp only [Bool.and_eq_true, beq_iff_eq] at hl
  refine ⟨by simpa using hmem, hl.1, hl.2, fun m hm hs => ?_⟩
  have := hlow m hm
  simpa [hs] using this

theorem State.freeIn_none {u : State} {p : Nat → Bool} (h : u.freeIn p = none) :
    ∀ m < 192, (u.land m).st = .free → p (m / 8) = false := by
  rw [State.freeIn_eq, List.find?_range_eq_none] at h
  intro m hm hs
  have := h m hm
  simpa [hs] using this

/-- The landing that 0xFFFF takes (R100). -/
theorem State.anyFree_some {u : State} {l : Nat} (h : u.anyFree = some l) : (u.land l).st = .free ∧
    (u.domUp (l / 8) = true ∨ ∀ m < 192, (u.land m).st = .free → u.domUp (m / 8) = false) ∧
    (∀ m < l, (u.land m).st = .free → u.domUp (m / 8) = false ∧ u.domUp (l / 8) = true) := by
  unfold State.anyFree at h
  cases hu : u.freeIn u.domUp with
  | some k =>
    rw [hu] at h
    obtain rfl : k = l := Option.some.inj h
    obtain ⟨-, hf, hd, hlow⟩ := State.freeIn_some hu
    exact ⟨hf, .inl hd, fun m hm hs => ⟨hlow m hm hs, hd⟩⟩
  | none =>
    rw [hu] at h
    obtain ⟨-, hf, -, hlow⟩ := State.freeIn_some (p := fun _ => true) h
    exact ⟨hf, .inr (State.freeIn_none hu), fun m hm hs => absurd (hlow m hm hs) (by decide)⟩

/-- What FLIGHT_START makes of the answer of the claim. -/
def startAnswer (r : ItemRec) : State × Code → State
  | (s, .ok) => s
  | (s, c) => s.finish r.key c []

theorem startAnswer_bad (v : State) (r : ItemRec) {c : Code} (h : c ≠ .ok) : startAnswer r (v, c) = v.finish r.key c [] := by
  unfold startAnswer
  split
  · exact absurd (Prod.mk.inj ‹_›).2 h
  · obtain ⟨rfl, rfl⟩ := Prod.mk.inj ‹_›
    rfl

/-- A start of a named landing: the code of its check, or the claim (R43, R102). -/
theorem State.startAnswer_named {u : State} {n : Nat} (hn : n ≠ 0xFFFF) (r : ItemRec) (q : StartReq) :
    (u.claimCheck n ≠ .ok → startAnswer r (u.tryStart n q) = u.finish r.key (u.claimCheck n) []) ∧
    (u.claimCheck n = .ok → startAnswer r (u.tryStart n q) = u.claimStart n q) := by
  unfold State.tryStart
  rw [if_neg hn]
  split
  · simp [*, startAnswer]
  · next h => exact ⟨startAnswer_bad u r, fun hc => absurd hc h⟩

/-- A start of any free landing (R100). -/
theorem State.startAnswer_any {u : State} (hp : u.noPipe = false) (r : ItemRec) (q : StartReq) :
    (u.anyFree = none → startAnswer r (u.tryStart 0xFFFF q) = u.finish r.key .noLanding []) ∧
    ∀ l, u.anyFree = some l → l ∉ u.host.hushLandings → startAnswer r (u.tryStart 0xFFFF q) = u.claimStart l q := by
  unfold State.tryStart
  rw [if_pos rfl, hp]
  refine ⟨fun h => ?_, fun l h hl => ?_⟩
  · rw [h]
    rfl
  · have hc : u.host.hushLandings.contains l = false := by simpa using hl
    rw [h]
    simp only [hc, Bool.false_eq_true, if_false, startAnswer]

theorem flightStart_does : ItemDoes .itFlightStart (isCode 0x11)
    (fun _ r => [(r.reservedBad [(12, 5), (18, 14)] || decide (3 < r.p8 16), .badField),
      (decide (0xFF < r.p16 12 ∨ (0xBF < r.p16 14 ∧ r.p16 14 ≠ 0xFFFF) ∨ (0x3FF < r.p16 18 ∧ r.p16 18 ≠ 0xFFFF)), .badRef)])
    (fun u r t =>
      let n := r.p16 14
      let w (o : Nat) : Word := BitVec.ofNat 32 (r.p32 o)
      let q := StartReq.mk r.key (r.p16 12) (r.p8 16) (if r.p16 18 = 0xFFFF then none else some (r.p16 18)) (w 20) (w 24) (w 28) u.now false
      (n ≠ 0xFFFF → u.claimCheck n ≠ .ok → t = u.finish r.key (u.claimCheck n) []) ∧
      (n ≠ 0xFFFF → u.claimCheck n = .ok → t = u.claimStart n q) ∧
      (n = 0xFFFF → u.noPipe = false → u.anyFree = none → t = u.finish r.key .noLanding []) ∧
      (∀ l, n = 0xFFFF → u.noPipe = false → u.anyFree = some l → l ∉ u.host.hushLandings → t = u.claimStart l q ∧ (u.land l).st = .free ∧
        (u.domUp (l / 8) = true ∨ ∀ m < 192, (u.land m).st = .free → u.domUp (m / 8) = false) ∧
        (∀ m < l, (u.land m).st = .free → u.domUp (m / 8) = false ∧ u.domUp (l / 8) = true))) := by
  refine itemDoes_of_orElseDo execItFlightStart.eq_1 (fun _ _ => rfl) (fun u r hp => ?_) fun u r _ hp _ => ?_
  · simp [bne, beq_eq_decide, Bool.or_assoc]
  · intro n w q
    show (_ → _ → startAnswer r (u.tryStart n q) = _) ∧ (_ → _ → startAnswer r (u.tryStart n q) = _) ∧
      (_ → _ → _ → startAnswer r (u.tryStart n q) = _) ∧ ∀ l, _ → _ → _ → _ → startAnswer r (u.tryStart n q) = _ ∧ _
    refine ⟨fun hn => (State.startAnswer_named hn r q).1, fun hn => (State.startAnswer_named hn r q).2, fun hn hpipe => ?_,
      fun l hn hpipe hf hl => ⟨?_, State.anyFree_some hf⟩⟩
    · rw [hn]
      exact (State.startAnswer_any hpipe r q).1
    · rw [hn]
      exact (State.startAnswer_any hpipe r q).2 l hf hl

/-! FLIGHT_STOP by the state of its landing (R104). -/

section
variable (u : State) (k : ItemKey) {l : Nat}

theorem State.stopLanding_none (h : (u.land l).st = .free ∨ (u.land l).st = .unusable) : u.stopLanding k l = u.finish k .badRef [] := by
  unfold State.stopLanding
  rcases h with h | h <;> simp only [h]

theorem State.stopLanding_hold (h : (u.land l).st = .hold) : u.stopLanding k l =
    (u.setLand l { u.land l with st := .scrub }).finish k .ok (natLE 4 (u.land l).stopPc) := by
  unfold State.stopLanding
  simp only [h]

theorem State.stopLanding_scrub (h : (u.land l).st = .scrub) (hn : (u.land l).pending = none) :
    u.stopLanding k l = u.finish k .ok (natLE 4 (u.land l).stopPc) := by
  unfold State.stopLanding
  simp only [h, hn]

theorem State.stopLanding_claim (h : (u.land l).st = .claimed ∨ ((u.land l).st = .scrub ∧ (u.land l).pending.isSome = true)) :
    u.stopLanding k l = u.stopStart k ((u.land l).pending.map (·.key)) fun v => v.cancelStart l .failedHush := by
  unfold State.stopLanding
  rcases h with h | ⟨h, hs⟩
  · simp only [h]
  · obtain ⟨q, hq⟩ := Option.isSome_iff_exists.1 hs
    simp only [h, hq]

theorem State.stopLanding_starting {q : StartReq} (h : (u.land l).st = .busy) (hw : (u.land l).wait = .starting q) :
    u.stopLanding k l = u.stopStart k (some q.key) fun v => v.startFails l q .failedHush := by
  unfold State.stopLanding
  simp only [h, hw]

theorem State.stopLanding_busy (hl : l < 192) (h : (u.land l).st = .busy) (hw : (u.land l).wait = .none)
    (hu : (u.land l).becomesUnusable = false) :
    (((u.stopLanding k l).land l).wait = .ending .failedHush ∨ ((u.stopLanding k l).land l).st = .hold) ∧
      ∀ p ∈ (u.stopLanding k l).sched.pipes.toList, p.serving ≠ some l := by
  let v : State := { u with host := { u.host with items := u.host.items.map fun (r : ItemRec) =>
    if r.key == k then { r with awaits := (u.land l).item, memo := natLE 4 (u.land l).pc } else r } }
  have hv : u.stopLanding k l = v.stopFlight l .failedHush none := by
    unfold State.stopLanding
    simp only [h, hw]
    rfl
  rw [hv]
  exact State.stopFlight_ends v .failedHush hl hw hu

end

theorem flightStop_does : ItemDoes .itFlightStop (isCode 0x12)
    (fun _ r => [(r.reservedBad [(12, 2)], .badField), (decide (0xBF < r.p16 12), .badRef)])
    (fun u r t =>
      let l := r.p16 12
      let x := u.land l
      (x.st = .free ∨ x.st = .unusable → t = u.finish r.key .badRef []) ∧
      (x.st = .hold → t = (u.setLand l { x with st := .scrub }).finish r.key .ok (natLE 4 x.stopPc)) ∧
      (x.st = .scrub → x.pending = none → t = u.finish r.key .ok (natLE 4 x.stopPc)) ∧
      (x.st = .claimed ∨ (x.st = .scrub ∧ x.pending.isSome = true) →
        t = u.stopStart r.key (x.pending.map (·.key)) fun v => v.cancelStart l .failedHush) ∧
      (∀ q, x.st = .busy → x.wait = .starting q → t = u.stopStart r.key (some q.key) fun v => v.startFails l q .failedHush) ∧
      (x.st = .busy → x.wait = .none → x.becomesUnusable = false →
        ((t.land l).wait = .ending .failedHush ∨ (t.land l).st = .hold) ∧ (∀ p ∈ t.sched.pipes.toList, p.serving ≠ some l))) := by
  refine itemDoes_of_orElseDo execItFlightStop.eq_1 (fun _ _ => rfl) (fun _ _ _ => rfl) fun u r _ hp hok => ?_
  intro l x
  have hl : l < 192 := by
    have := (firstCode_ok_cons (by decide) (firstCode_ok_cons (by decide) hok).2).1
    have := of_decide_eq_false this
    omega
  exact ⟨State.stopLanding_none u r.key, State.stopLanding_hold u r.key, State.stopLanding_scrub u r.key, State.stopLanding_claim u r.key,
    fun q => State.stopLanding_starting u r.key, State.stopLanding_busy u r.key hl⟩

/-! ### Reading what a landing and the part hold -/

theorem landingPeek_does : ItemDoes .itLandingPeek (isCode 0x13)
    (fun u r => [(r.reservedBad [(12, 3), (16, 4)] || decide (7 < r.p8 14), .badField), (decide (0xBF < r.p16 12), .badRef),
      (decide (r.p16 18 < 1 ∨ 2048 < r.p16 18 ∨ 2048 < r.p16 16 + r.p16 18), .badLength), (u.pageTaken r, .stateRefused),
      (!(u.land (r.p16 12)).hasHalls, .badRef)])
    (fun u r t => u.queuesMove t r (.bytes (u.context (r.p16 12))) (.page (r.p8 14)) (r.p16 16) 0 (r.p16 18)) := by
  refine itemDoes_of_orElseDo execItLandingPeek.eq_1 (fun _ _ => rfl) (fun u r hp => ?_) fun u r _ _ _ => State.queuesMove_moveItem ..
  simp [ItemRec.pageBad_of_code hp (by decide) rfl, Bool.or_assoc]

/-- The checks of HALL_READ and HALL_WRITE, whose page is byte 15 (R565). -/
theorem State.hallItemChecks_eq {u : State} {r : ItemRec} {k : Nat} (hp : isCode k r = true) (hk : k ≠ 0x55) (hb : pageByte k = some 15)
    (perm : Nat) : u.hallItemChecks r perm =
      [(r.reservedBad [(12, 4), (16, 6)] || decide (3 < r.p8 14) || decide (7 < r.p8 15), .badField), (decide (0xBF < r.p16 12), .badRef),
       (decide (r.p16 20 < 1 ∨ 2048 < r.p16 20), .badLength), (u.pageTaken r, .stateRefused), (!(u.land (r.p16 12)).hasHalls, .badRef),
       (decide (u.hallLimit (r.p16 12) (r.p8 14) < r.p32 16 + r.p16 20), .badLength),
       (!(u.hallPerm (r.p16 12) (r.p8 14)).testBit perm, .stateRefused)] := by
  simp [State.hallItemChecks, ItemRec.pageBad_of_code hp hk hb]

theorem evidenceRead_does : ItemDoes .itEvidenceRead (isCode 0x53)
    (fun u r => [(r.reservedBad [(12, 4)] || decide (7 < r.p8 14) || decide (1 < r.p8 15), .badField), (decide (0xFF < r.p16 12), .badRef),
      (u.pageTaken r, .stateRefused), (!u.evd.filled.contains (r.p16 12), .badRef),
      (r.p8 15 == 1 && (Tbl.find u.evd.captures (r.p16 12)).isNone, .badRef)])
    (fun u r t => u.queuesMove t r (.bytes (padTo 1024 (Tbl.get u.evd.recs (r.p16 12) []))) (.page (r.p8 14)) 0 0 1024) := by
  refine itemDoes_of_orElseDo execItEvidenceRead.eq_1 (fun _ _ => rfl) (fun u r hp => ?_) fun u r _ _ _ => State.queuesMove_moveItem ..
  rw [ItemRec.pageBad_of_code hp (by decide) rfl]

theorem sliceP_length (bs : List Byte) (o n : Nat) : (sliceP bs o n).length = n := by
  simp [sliceP]

/-- A tenant record has 96 bytes, also of a slot that is empty (R312). -/
theorem State.tenantRecord_length (u : State) (n : Nat) : (u.tenantRecord n).length = 96 := by
  unfold State.tenantRecord
  exact sliceP_length _ 0 96

theorem tenantRead_does : ItemDoes .itTenantRead (isCode 0x23)
    (fun u r => [(r.reservedBad [(12, 3)] || decide (7 < r.p8 14), .badField), (decide (0x3FF < r.p16 12), .badRef),
      (u.pageTaken r, .stateRefused)])
    (fun u r t => u.queuesMove t r (.bytes (u.tenantRecord (r.p16 12))) (.page (r.p8 14)) 0 0 96) := by
  refine itemDoes_of_orElseDo execItTenantRead.eq_1 (fun _ _ => rfl) (fun u r hp => ?_) fun u r _ hp _ => ?_
  · rw [ItemRec.pageBad_of_code hp (by decide) rfl]
  · have h := State.queuesMove_toPage u (ItemRec.page_of_code hp (by decide) rfl) 8 (u.tenantRecord (r.p16 12))
    rwa [State.tenantRecord_length] at h

/-- Settles O49, item by item: the checks of the statement are the model's, and each effect follows from what the item does. -/
theorem flightItems : Obligations.FlightItems :=
  ⟨flightLoad_does, flightStart_does, flightStop_does, landingPeek_does,
    ⟨itemDoes_of_orElseDo execItHallRead.eq_1 (fun _ _ => rfl) (fun _ _ hp => State.hallItemChecks_eq hp (by decide) rfl permHr)
        fun _ _ _ _ _ => State.queuesMove_moveItem ..,
      itemDoes_of_orElseDo execItHallWrite.eq_1 (fun _ _ => rfl) (fun _ _ hp => State.hallItemChecks_eq hp (by decide) rfl permHw)
        fun _ _ _ _ _ => State.queuesMove_moveItem ..⟩,
    evidenceRead_does, tenantRead_does⟩
/-! ### The life cycle and the update items -/

theorem lifeChange_does (vdd : Nat) (temp : Int) : ItemDoes (fun dt => .itLifeChange dt vdd temp) (isCode 0x31)
    (fun u r => [(u.pageTaken r, .stateRefused), (r.reservedBad [(12, 4)] || decide (7 < r.p8 13) || decide (5 < r.p8 12), .badField),
      (!(r.p16 14 == 128 || r.p16 14 == 384 || (r.p16 14 == 0 && u.life.st == .service && r.p8 12 == 2)), .badLength)])
    (fun u r t => (r.p16 14 = 0 → u.queuesCommit t r []) ∧
      (r.p16 14 ≠ 0 → (u.kept r (decide (3000 ≤ vdd ∧ -20 ≤ temp ∧ temp ≤ 85))).queuesMove t r (.page (r.p8 13)) .stage 0 0 (r.p16 14))) := by
  refine itemDoes_of_orElseDo (fun dt s => execItLifeChange.eq_1 dt vdd temp s) (fun _ _ => rfl) (fun u r hp => ?_) fun u r _ hp _ => ?_
  · rw [ItemRec.pageBad_of_code hp (by decide) rfl]
  · have hf : fuseConditions vdd temp = decide (3000 ≤ vdd ∧ -20 ≤ temp ∧ temp ≤ 85) := by simp [fuseConditions, Bool.and_assoc]
    refine ⟨fun h => if_pos h, fun h => ?_⟩
    simp only [if_neg h]
    rw [hf]
    exact State.queuesMove_fromPage _ (ItemRec.page_of_code hp (by decide) rfl) 6 _

theorem updateBegin_does : ItemDoes .itUpdateBegin (isCode 0x40)
    (fun u r => [(u.life.inTrial, .stateRefused), (u.pageTaken r, .stateRefused),
      (r.reservedBad [(12, 8)] || decide (1 < r.p8 12) || decide (7 < r.p8 13), .badField), (decide (r.p16 14 ≠ 256), .badLength)])
    (fun u r t => u.queuesMove t r (.page (r.p8 13)) .stage 0 0 256) := by
  refine itemDoes_of_orElseDo execItUpdateBegin.eq_1 (fun _ _ => rfl) (fun u r hp => ?_) fun u r _ hp _ =>
    State.queuesMove_fromPage u (ItemRec.page_of_code hp (by decide) rfl) 6 _
  simp [ItemRec.pageBad_of_code hp (by decide) rfl, bne, beq_eq_decide]

/-- A chunk whose sectors are erased moves at once; otherwise the erase of each sector it reaches joins the queue (R397). -/
theorem updateChunk_does : ItemDoes .itUpdateChunk (isCode 0x41)
    (fun u r =>
      let n := u.life.openBank.elim 0 fun b => (u.life.bank b).ilen
      [(u.life.openBank.isNone, .stateRefused), (r.reservedBad [(12, 1), (14, 6)] || decide (7 < r.p8 12), .badField),
       (decide (r.p16 14 < 1 ∨ 2048 < r.p16 14), .badLength), (u.pageTaken r, .stateRefused), (decide (r.p32 16 ≠ u.life.held), .badRef),
       (decide (n < r.p32 16 + r.p16 14 ∨ (r.p16 14 % 16 ≠ 0 ∧ r.p32 16 + r.p16 14 ≠ n)), .badLength)])
    (fun u r t =>
      let hi := (r.p32 16 + r.p16 14 - 1) / 4096
      (hi < u.life.erasedTo → u.queuesMove t r (.page (r.p8 12)) .stage 0
        (4096 * bankSector (u.life.openBank.getD 0) + r.p32 16) (r.p16 14)) ∧
      (u.life.erasedTo ≤ hi → t = { u with life := { u.life with jobs := u.life.jobs ++
        ((List.range (hi + 1 - u.life.erasedTo)).map fun i => .erase r.key (bankSector (u.life.openBank.getD 0) + u.life.erasedTo + i)) } })) := by
  refine itemDoes_of_orElseDo execItUpdateChunk.eq_1 (fun _ _ => rfl) (fun u r hp => ?_) fun u r _ hp hok => ?_
  · cases h : u.life.openBank with
    | none => simp [ItemRec.pageBad_of_code hp (by decide) rfl, bne, beq_eq_decide]
    | some b =>
      simp [ItemRec.pageBad_of_code hp (by decide) rfl, bne, beq_eq_decide]
      refine Bool.eq_iff_iff.2 (Iff.trans ?_ decide_eq_true_iff.symm)
      simp
  · obtain ⟨b, hb⟩ : ∃ b, u.life.openBank = some b := by
      have := (firstCode_ok_cons (by decide) hok).1
      simpa [Option.isSome_iff_exists] using this
    intro hi
    rw [hb]
    refine ⟨fun h => ?_, fun h => if_neg (Nat.not_lt.2 h)⟩
    have ht : (if hi < u.life.erasedTo then u.chunkMove r b else u.queueJobs ((List.range (hi + 1 - u.life.erasedTo)).map fun i =>
      .erase r.key (bankSector b + u.life.erasedTo + i))) = u.chunkMove r b := if_pos h
    show u.queuesMove (if hi < u.life.erasedTo then _ else _) _ _ _ _ _ _
    rw [ht]
    exact State.queuesMove_moveItem ..

/-- The three ends of the check of a firmware image (R399): too few bytes, a wrong digest, its durable record. -/
theorem updateVerify_does (ext : List Byte) : ItemDoes (fun dt => .itUpdateVerify dt ext) (isCode 0x42)
    (fun u r => [(r.reservedBad [], .badField), (u.life.openBank.isNone, .stateRefused)])
    (fun u r t => ∀ b, u.life.openBank = some b →
      let k := u.life.bank b
      let v : State := { u with life := { u.life with lastVerifyOk := false } }
      (u.life.bytes ≠ k.ilen → t = v.finish r.key .badLength []) ∧
      (u.life.bytes = k.ilen → sha384 (k.image.readN 0 k.ilen) ≠ k.digest →
        t = ({ v with life := v.life.closeUpdate } : State).finish r.key .imageSigFail []) ∧
      (u.life.bytes = k.ilen → sha384 (k.image.readN 0 k.ilen) = k.digest → b < 2 → v.queuesCommit t r [])) := by
  refine itemDoes_of_orElseDo (fun dt s => execItUpdateVerify.eq_1 dt ext s) (fun _ _ => rfl) (fun _ _ _ => rfl) fun u r _ _ _ b hb => ?_
  intro k v
  rw [hb]
  refine ⟨fun h => if_pos h, fun h hd => ?_, fun h hd hlt => ?_⟩
  · refine (if_neg (not_not_intro h)).trans ?_
    have hd' : (sha384 (k.image.readN 0 k.ilen) != k.digest) = true := by simpa using hd
    simp only [k] at hd'
    simp only [hd', if_true]
    rfl
  · refine (if_neg (not_not_intro h)).trans ?_
    have hd' : (sha384 (k.image.readN 0 k.ilen) != k.digest) = false := by simpa using hd
    simp only [k] at hd'
    simp only [hd', Bool.false_eq_true, if_false, if_pos hlt]
    rfl

theorem updateActivate_does : ItemDoes .itUpdateActivate (isCode 0x43)
    (fun u r => [(r.reservedBad [(12, 1)] || decide (1 < r.p8 12), .badField), (u.life.readyBank.isNone, .stateRefused)])
    (fun u r t => u.queuesCommit t r []) :=
  itemDoes_of_orElseDo execItUpdateActivate.eq_1 (fun _ _ => rfl) (fun _ _ _ => rfl) fun _ _ _ _ _ => rfl

theorem updateConfirm_does (vdd : Nat) (temp : Int) : ItemDoes (fun dt => .itUpdateConfirm dt vdd temp) (isCode 0x44)
    (fun u r => [(r.reservedBad [], .badField), (u.life.trialTarget.isNone, .stateRefused),
      (decide (¬ (3000 ≤ vdd ∧ -20 ≤ temp ∧ temp ≤ 85)), .stateRefused)])
    (fun u r t => u.queuesCommit t r []) := by
  refine itemDoes_of_orElseDo (fun dt s => execItUpdateConfirm.eq_1 dt vdd temp s) (fun _ _ => rfl) (fun u r _ => ?_) fun _ _ _ _ _ => rfl
  have hf : (!fuseConditions vdd temp) = decide (¬ (3000 ≤ vdd ∧ -20 ≤ temp ∧ temp ≤ 85)) := by
    rw [decide_not]
    simp [fuseConditions, Bool.and_assoc]
  rw [hf]

/-! ### The atlas and the snapshot -/

theorem atlasLoad_does : ItemDoes .itAtlasLoad (isCode 0x52)
    (fun u r => [(r.reservedBad [(12, 1), (14, 7)] || decide (7 < r.p8 12) || decide (1 < r.p8 20), .badField),
      (decide (r.p16 14 < 1 ∨ 2048 < r.p16 14), .badLength), (u.pageTaken r, .stateRefused),
      (u.landings.toList.any Landing.busy, .stateRefused), (decide (r.p32 16 ≠ 0 ∧ r.p32 16 ≠ u.verdict.held), .badRef),
      (decide (131072 < r.p32 16 + r.p16 14), .noSpace)])
    (fun u r t =>
      (r.p32 16 ≠ 0 → u.queuesMove t r (.page (r.p8 12)) .stage 0 (4096 * atlasSector u.verdict.stageHalf + r.p32 16) (r.p16 14)) ∧
      (r.p32 16 = 0 → t = { u with verdict := { u.verdict with held := 0 }, life := { u.life with jobs := u.life.jobs ++
        ((List.range 32).map fun i => .erase r.key (atlasSector u.verdict.stageHalf + i)) } })) := by
  refine itemDoes_of_orElseDo execItAtlasLoad.eq_1 (fun _ _ => rfl) (fun u r hp => ?_) fun u r _ hp _ => ?_
  · simp [ItemRec.pageBad_of_code hp (by decide) rfl, bne, beq_eq_decide]
  · refine ⟨fun h => ?_, fun h => ?_⟩
    · rw [if_neg h]
      exact State.queuesMove_moveItem ..
    · rw [if_pos h]
      rfl

/-- A check of the ledgers that finds none bad (R432). -/
theorem State.checkLedgers_of_good {u : State} (h : u.ledgersBad = 0) : u.checkLedgers =
    { u with faults := { u.faults with checks := (u.faults.checks + 1) % 65536, failed := 0 } } := by
  unfold State.checkLedgers State.ledgerCheck
  rw [h]
  rfl

theorem survey_does : ItemDoes .itSurvey (isCode 0x01)
    (fun u r => [(r.reservedBad [(12, 1)] || decide (7 < r.p8 12), .badField), (u.pageTaken r, .stateRefused)])
    (fun u r t => u.ledgersBad = 0 →
      let v : State := { u with faults := { u.faults with checks := (u.faults.checks + 1) % 65536, failed := 0 } }
      v.queuesMove t r (.bytes v.survey) (.page (r.p8 12)) 0 0 2048) := by
  refine itemDoes_of_orElseDo execItSurvey.eq_1 (fun _ _ => rfl) (fun u r hp => ?_) fun u r hlive hp _ hgood => ?_
  · rw [ItemRec.pageBad_of_code hp (by decide) rfl]
  · intro v
    have hv : u.checkLedgers = v := State.checkLedgers_of_good hgood
    have hl : v.live = true := hlive
    have h := State.queuesMove_toPage v (ItemRec.page_of_code hp (by decide) rfl) 8 v.survey
    rw [show v.survey.length = 2048 from sliceP_length _ 0 2048] at h
    show v.queuesMove (if u.checkLedgers.live then u.checkLedgers.toPage r 8 u.checkLedgers.survey else u.checkLedgers) _ _ _ _ _ _
    rw [hv, if_pos hl]
    exact h

/-! ### The bytes of a chunk -/

theorem Mem.readN_length (m : Mem) (a n : Nat) : (m.readN a n).length = n := by
  induction n generalizing a with
  | zero => rfl
  | succ n ih => rw [Mem.readN, List.length_cons, ih]

theorem Mem.readN_getElem (m : Mem) : ∀ (a n i : Nat) (h : i < (m.readN a n).length), (m.readN a n)[i] = m.read (a + i)
  | _, n + 1, 0, _ => rfl
  | a, n + 1, i + 1, h => by
    rw [show a + (i + 1) = a + 1 + i by omega]
    exact Mem.readN_getElem m (a + 1) n i (by simpa [Mem.readN] using h)

/-- What was written is read back. -/
theorem Mem.readN_writeN {m : Mem} (h : m.wf = true) (a : Nat) (bs : List Byte) : (m.writeN a bs).readN a bs.length = bs :=
  List.ext_getElem (Mem.readN_length ..) fun i hi hb => by rw [Mem.readN_getElem, Mem.read_writeN_inside bs a i h hb]

theorem LifeCycle.bank_modBank (c : LifeCycle) {b : Nat} (f : Bank → Bank) (hb : b < 4) : (c.modBank b f).bank b = f (c.bank b) :=
  vget_vset_self _ _ _ hb

theorem LifeCycle.bank_modBank_ne (c : LifeCycle) {a b : Nat} (f : Bank → Bank) (h : a ≠ b) : (c.modBank b f).bank a = c.bank a :=
  vget_vset_ne _ _ _ h

/-- What a journalled chunk leaves in its bank (R397 step 3). -/
theorem State.chunkCommitted_does {s : State} {r : ItemRec} {bs : List Byte} {b : Nat} (ho : s.life.openBank = some b) (hb : b < 4)
    (hw : (s.life.bank b).image.wf = true) :
    let t := s.chunkCommitted r bs
    t.life.bytes = r.p32 16 + bs.length ∧ t.life.held = r.p32 16 + bs.length ∧ (t.life.bank b).image.readN (r.p32 16) bs.length = bs ∧
    ((t.life.bank b).st = if r.p32 16 + bs.length = (s.life.bank b).ilen then .downloaded else (s.life.bank b).st) ∧
    ∀ a, a ≠ b → t.life.bank a = s.life.bank a := by
  intro t
  let n := r.p32 16 + bs.length
  let c := s.life.modBank b fun k => { k with image := k.image.writeN (r.p32 16) bs, st := if n = k.ilen then .downloaded else k.st }
  have ht : t.life = { c with bytes := n, held := n } := by
    show (s.chunkCommitted r bs).life = _
    unfold State.chunkCommitted
    rw [ho]
    exact congrArg State.life (State.finish_eq _ _ _ _)
  have hbank : t.life.bank b = { s.life.bank b with
      image := (s.life.bank b).image.writeN (r.p32 16) bs, st := if n = (s.life.bank b).ilen then .downloaded else (s.life.bank b).st } := by
    rw [ht]
    show c.bank b = _
    rw [LifeCycle.bank_modBank s.life _ hb]
  refine ⟨by rw [ht], by rw [ht], ?_, by rw [hbank], fun a ha => ?_⟩
  · rw [hbank]
    exact Mem.readN_writeN hw _ bs
  · rw [ht]
    show c.bank a = _
    rw [LifeCycle.bank_modBank_ne s.life _ ha]

/-- Settles O51, item by item, and the bytes that a chunk leaves in its bank. -/
theorem lifeUpdateItems : Obligations.LifeUpdateItems :=
  ⟨lifeChange_does, updateBegin_does, updateChunk_does, updateVerify_does, updateActivate_does, updateConfirm_does, atlasLoad_does,
    survey_does, fun _ _ _ _ ho hb hw => State.chunkCommitted_does ho hb hw⟩

/-! ### The core of the state

What a reset and a recovery must find again, whatever the work that they end does: time, EPOCH, the credits, the marks, the power unit, and
the fault unit but for what a record of a fault writes. -/

/-- The fault unit without what a record writes (R415, R416). -/
def Faults.base (f : Faults) : Faults :=
  { f with latches := Vector.replicate 16 none, overflow := 0, lastCause := 0, lastScope := 0, evPending := [] }

/-- What the end of work leaves as it is. -/
structure Core where
  now : Nat
  epoch : BitVec 16
  credits : Vector Nat 4
  unus : Nat
  power : Power
  faults : Faults

def State.core (s : State) : Core := ⟨s.now, s.host.epoch, s.host.credits, s.bist.unus, s.power, s.faults.base⟩

theorem State.core_now {s t : State} (h : t.core = s.core) : t.now = s.now := congrArg Core.now h
theorem State.core_epoch {s t : State} (h : t.core = s.core) : t.host.epoch = s.host.epoch := congrArg Core.epoch h
theorem State.core_credits {s t : State} (h : t.core = s.core) : t.host.credits = s.host.credits := congrArg Core.credits h
theorem State.core_unus {s t : State} (h : t.core = s.core) : t.bist.unus = s.bist.unus := congrArg Core.unus h
theorem State.core_power {s t : State} (h : t.core = s.core) : t.power = s.power := congrArg Core.power h
theorem State.core_base {s t : State} (h : t.core = s.core) : t.faults.base = s.faults.base := congrArg Core.faults h

/-- Operations that each keep the core keep it one after the other. -/
theorem State.foldl_core {α : Type} {f : State → α → State} (h : ∀ s a, (f s a).core = s.core) (as : List α) (s : State) :
    (as.foldl f s).core = s.core := by
  induction as generalizing s with
  | nil => rfl
  | cons a as ih => rw [List.foldl_cons, ih, h]

theorem State.ite_core {c : Prop} [Decidable c] {s t u : State} (h : t.core = s.core) (h' : u.core = s.core) : (if c then t else u).core = s.core := by
  split <;> assumption

/-! #### The host link -/

theorem HostLink.flush_keeps (n : Nat) (h : HostLink) : (h.flush n).1.epoch = h.epoch ∧ (h.flush n).1.credits = h.credits := by
  induction n generalizing h with
  | zero => exact ⟨rfl, rfl⟩
  | succ n ih =>
    rw [HostLink.flush]
    split
    · exact ⟨rfl, rfl⟩
    · split
      · exact ih _
      · exact ⟨rfl, rfl⟩

@[simp] theorem State.hushCheck_epoch (s : State) : s.hushCheck.host.epoch = s.host.epoch := by unfold State.hushCheck; split <;> rfl

@[simp] theorem State.flush_core (s : State) : s.flush.core = s.core := by
  have he : s.flush.host.epoch = s.host.epoch := by
    rw [State.flush_host, State.hushCheck_epoch]
    exact (HostLink.flush_keeps _ _).1
  have hc : s.flush.host.credits = s.host.credits := by
    rw [State.flush_host, State.hushCheck_credits]
    exact (HostLink.flush_keeps _ _).2
  rw [State.flush_eq, State.core, he, hc]
  rfl

@[simp] theorem State.finish_core (s : State) (k : ItemKey) (c : Code) (r : List Byte) : (s.finish k c r).core = s.core :=
  State.flush_core _

@[simp] theorem State.attn_core (s : State) (m : Nat) : (s.attn m).core = s.core := rfl

@[simp] theorem State.recordFault_core (s : State) (c : Cause) (sc : Scope) (d : List Byte) (fl : Nat) : (s.recordFault c sc d fl).core = s.core := rfl

/-- A fault that is only recorded (R413). -/
theorem State.raise_of_record (s : State) {c : Cause} (sc : Scope) (d : List Byte) (hb : ∀ s : State, s.bankRepeat c sc = (c, sc))
    (hh : ∀ s : State, s.handlingOf c sc = .record) (hn : s.noteFault c sc = s) (hc : c ≠ .bankRepeat) : s.raise c sc d = s.recordFault c sc d := by
  unfold State.raise State.raiseAt
  rw [hb]
  dsimp only
  rw [hh, hn, if_neg hc, if_pos (.inr (.inr rfl))]

/-! #### Landings, air, evidence and the gallery -/

@[simp] theorem State.hallWrite_core (s : State) (l h off : Nat) (bs : List Byte) : (s.hallWrite l h off bs).core = s.core := by
  rw [State.hallWrite_eq]; rfl

@[simp] theorem State.setLand_core (s : State) (l : Nat) (x : Landing) : (s.setLand l x).core = s.core := rfl
@[simp] theorem State.modLand_core (s : State) (l : Nat) (f : Landing → Landing) : (s.modLand l f).core = s.core := rfl
@[simp] theorem State.leavePipe_core (s : State) (l : Nat) : (s.leavePipe l).core = s.core := rfl
@[simp] theorem State.leaveTurn_core (s : State) (l : Nat) : (s.leaveTurn l).core = s.core := rfl
@[simp] theorem State.setSec_core (s : State) (f : Security → Security) : (s.setSec f).core = s.core := rfl
@[simp] theorem State.setLf_core (s : State) (f : Lf) : (s.setLf f).core = s.core := rfl
@[simp] theorem State.setUwb_core (s : State) (f : Uwb) : (s.setUwb f).core = s.core := rfl
@[simp] theorem State.setTag_core (s : State) (t : Tag) : (s.setTag t).core = s.core := rfl
@[simp] theorem State.setRel_core (s : State) (f : Release → Release) : (s.setRel f).core = s.core := rfl
@[simp] theorem State.draw_core (s : State) : s.draw.1.core = s.core := rfl

@[simp] theorem State.evdRecord_core (s : State) (k : Nat) (l : Option Nat) (b : List Byte) : (s.evdRecord k l b).core = s.core := by
  rw [State.evdRecord_eq]; rfl

@[simp] theorem State.closeCapture_core (s : State) (l : Nat) : (s.closeCapture l).core = s.core := by
  rw [State.closeCapture, State.evdBanister_eq]; rfl

@[simp] theorem State.galEnding_core (s : State) (l : Nat) : (s.galEnding l).core = s.core := by rw [State.galEnding_eq]; rfl

@[simp] theorem State.relAmend_core (s : State) (l : Option Nat) (r : Nat) : (s.relAmend l r).core = s.core := by
  obtain ⟨a, b, c, h⟩ := State.relAmend_only s l r
  rw [h]; rfl

@[simp] theorem State.relEnd_core (s : State) (l r : Nat) : (s.relEnd l r).core = s.core := by
  obtain ⟨a, b, c, f, -, h⟩ := State.relEnd_only s l r
  rw [h]; rfl

@[simp] theorem State.restore_core (s : State) : s.restore.core = s.core := rfl

@[simp] theorem State.airRelease_core (s : State) (l mask : Nat) : (s.airRelease l mask).core = s.core := by
  unfold State.airRelease
  refine Eq.trans (b := State.core (List.foldl _ s _)) rfl ?_
  exact State.foldl_core (fun _ _ => State.modLand_core ..) _ s

@[simp] theorem State.airDrop_core (s : State) (l : Nat) : (s.airDrop l).core = s.core := State.airRelease_core _ _ _

@[simp] theorem State.boundary_core (s : State) (l r : Nat) : (s.boundary l r).core = s.core := by
  unfold State.boundary
  split
  · rfl
  · split
    · exact State.airRelease_core ..
    · split <;> rfl

@[simp] theorem State.airStepEnd_core (s : State) (l : Nat) (j : FieldJob) (c : Code) : (s.airStepEnd l j c).core = s.core := by
  unfold State.airStepEnd
  extract_lets r v
  split
  · split
    · split
      · exact State.boundary_core v l r
      · rfl
    · rfl
  · rfl

@[simp] theorem State.partEnded_core (s : State) (l : Nat) (c : Code) : (s.partEnded l c).core = s.core := by
  unfold State.partEnded
  extract_lets g g' x
  split
  · rfl
  · split
    · rfl
    · exact State.flush_core _

@[simp] theorem State.deferEntry_core (s : State) (l : Nat) (k : ItemKey) (t : Nat) : (s.deferEntry l k t).core = s.core := by
  unfold State.deferEntry; split <;> rfl

@[simp] theorem State.partRefused_core (s : State) (id : Nat) (c : Code) : (s.partRefused id c).core = s.core := by
  unfold State.partRefused; split <;> rfl

/-! #### The end of a flight, a step, a start -/

@[simp] theorem State.finishEnd_core (s : State) (l : Nat) (c : Code) : (s.finishEnd l c).core = s.core := by
  unfold State.finishEnd
  extract_lets v1 v2 x _ _ _ v3 _ v4 _ y v5 _ v6 _ v7
  have h2 : v2.core = s.core := (State.airDrop_core v1 l).trans (State.relEnd_core s l 3)
  clear_value v2
  have h4 : (v4.setLand l y).core = v2.core := rfl
  have h5 : v5.core = s.core := (State.partEnded_core _ l c).trans (h4.trans h2)
  clear_value v5
  have h6 : v6.core = v5.core := by
    show State.core (if x.becomesUnusable then v5.setLand l _ else v5) = _
    exact State.ite_core rfl rfl
  have h7 : v7.core = s.core := h6.trans h5
  split
  · exact h7
  · exact (State.finish_core ..).trans (State.ite_core ((State.deferEntry_core ..).trans h7) h7)

@[simp] theorem State.endFlight_core (s : State) (l : Nat) (c : Code) : (s.endFlight l c).core = s.core := by
  have h : (((s.closeCapture l).galEnding l).leaveTurn l).core = s.core := by simp
  unfold State.endFlight
  dsimp only
  split
  · exact (State.finishEnd_core ..).trans h
  · exact h

@[simp] theorem State.stepEnds_core (s : State) (l : Nat) (f : Landing → Landing) : (s.stepEnds l f).core = s.core := by
  unfold State.stepEnds
  dsimp only
  split
  · rfl
  · exact State.endFlight_core ..

@[simp] theorem State.cryptoEnds_core (s : State) (l : Nat) (j : CryptoJob) : (s.cryptoEnds l j).core = s.core :=
  (State.stepEnds_core ..).trans (State.foldl_core (fun _ _ => State.hallWrite_core ..) _ s)

@[simp] theorem State.relFinish_core (s : State) (r : Nat) : (s.relFinish r).core = s.core := by
  unfold State.relFinish
  split
  · exact State.relAmend_core ..
  · dsimp only
    split <;> simp

@[simp] theorem State.startFails_core (s : State) (l : Nat) (r : StartReq) (c : Code) : (s.startFails l r c).core = s.core := by
  unfold State.startFails
  extract_lets _ v1 _ v2 v3
  have h3 : v3.core = s.core := by
    show (if r.deferred then v2.deferEntry l r.key r.since else v2).core = _
    exact State.ite_core (State.deferEntry_core ..) rfl
  split
  · exact (State.partRefused_core ..).trans h3
  · exact (State.finish_core ..).trans h3

@[simp] theorem State.retireLandings_core (s : State) : s.retireLandings.core = s.core := by
  refine State.foldl_core (fun s l => ?_) _ s
  split
  · rfl
  · dsimp only
    split
    · rfl
    · rfl
    all_goals
      rw [State.setLand_core]
      split
      · exact State.startFails_core ..
      · rfl

@[simp] theorem State.endFromOutside_core (s : State) (l : Nat) (c : Code) (f : Option Nat) : (s.endFromOutside l c f).core = s.core := by
  unfold State.endFromOutside
  extract_lets put
  have hput : ∀ t : State, (put t).core = t.core := fun t => by
    show State.core (match f with | some w => t.modLand l fun x => x.setReg 1 (BitVec.ofNat 32 w) | none => t) = _
    split <;> rfl
  split
  all_goals first | rfl | exact (State.endFlight_core ..).trans (hput _)

@[simp] theorem State.faultFlight_core (s : State) (l : Nat) (c : Cause) : (s.faultFlight l c).core = s.core := by
  unfold State.faultFlight
  dsimp only
  exact State.ite_core ((State.leavePipe_core ..).trans (State.endFromOutside_core ..)) rfl

/-! ### A recovery -/

/-! #### Field steps that stop -/

@[simp] theorem State.lfDump_core (s : State) (m : Nat) : (s.lfDump m).core = s.core := rfl

@[simp] theorem State.lfFault_core (s : State) (n b : Nat) (c : Cause) : (s.lfFault n b c).core = s.core :=
  State.ite_core rfl rfl

@[simp] theorem State.lfReport_core (s : State) (m : Nat) : (s.lfReport m).core = s.core := by
  unfold State.lfReport
  split
  · rfl
  · exact State.foldl_core (fun _ _ => State.ite_core (State.lfFault_core ..) rfl) _ _

@[simp] theorem State.lfDue_core (s : State) : s.lfDue.core = s.core := rfl

@[simp] theorem State.lfIdle_core (s : State) : s.lfIdle.core = s.core := State.lfReport_core s.lfDue 255

@[simp] theorem State.freeMeas_core (s : State) : s.freeMeas.1.core = s.core := rfl

@[simp] theorem State.uwbMeasure_core (s : State) (r : UwbRun) (tx : TxMeas) : (s.uwbMeasure r tx).core = s.core := by
  unfold State.uwbMeasure
  extract_lets u t0 t hot adapt cut _ v1 v2 _ v3
  have h2 : v2.core = s.core := by
    show State.core (ite (adapt = true) _ _) = _
    split <;> rfl
  clear_value v2
  have h3 : v3.core = v2.core := by
    show State.core (ite ((hot && !u.fault.testBit 6) = true) _ _) = _
    split <;> rfl
  clear_value v3
  exact State.ite_core ((State.recordFault_core ..).trans ((State.setUwb_core ..).trans (h3.trans h2))) (h3.trans h2)

@[simp] theorem State.uwbClosing_core (s : State) : s.uwbClosing.core = s.core := by
  unfold State.uwbClosing
  dsimp only
  split
  · split
    · split
      · rfl
      · split
        · exact State.uwbMeasure_core ..
        · exact State.uwbMeasure_core ..
    · rfl
  · rfl

@[simp] theorem State.tokenNote_core (s : State) (l : Nat) (j : FieldJob) : (s.tokenNote l j).core = s.core := by
  unfold State.tokenNote
  dsimp only
  split
  · exact State.ite_core rfl rfl
  · rfl

@[simp] theorem State.fieldEvidence_core (s : State) (l : Nat) (j : FieldJob) : (s.fieldEvidence l j).core = s.core :=
  (State.tokenNote_core ..).trans (State.ite_core (State.evdRecord_core ..) rfl)

@[simp] theorem State.fieldDone_core (s : State) (l : Nat) (j : FieldJob) (c : Code) (n : Nat) (bs : List Byte) (till : Option Nat) :
    (s.fieldDone l j c n bs till).core = s.core := by
  unfold State.fieldDone
  simp

@[simp] theorem State.stopField_core (s : State) (l : Nat) : (s.stopField l).core = s.core := by
  unfold State.stopField
  split
  · rfl
  · dsimp only
    rw [State.fieldDone_core]
    split
    · exact State.lfIdle_core s
    · exact State.lfIdle_core s
    · exact (State.setUwb_core ..).trans (State.uwbClosing_core s)
    · exact (State.setUwb_core ..).trans (State.uwbClosing_core s)
    · exact (State.setUwb_core ..).trans (State.uwbClosing_core s)
    all_goals rfl

/-! #### Engines, pipes, descriptors and items -/

@[simp] theorem State.stopCrypto_core (s : State) (l : Nat) (set : List Scope) : (s.stopCrypto l set).core = s.core := by
  unfold State.stopCrypto
  split
  · split
    · exact State.ite_core (State.cryptoEnds_core ..) rfl
    · rfl
  · exact State.ite_core (State.stepEnds_core ..) rfl
  · rfl

@[simp] theorem State.advance_core (s : State) (l n : Nat) (f : Landing → Landing) : (s.advance l n f).core = s.core := rfl

@[simp] theorem State.stopPipe_core (s : State) (l : Nat) (set : List Scope) : (s.stopPipe l set).core = s.core := by
  unfold State.stopPipe
  dsimp only
  split
  · exact State.ite_core (State.advance_core ..) rfl
  · rfl

@[simp] theorem State.setHallPoison_core (s : State) (l h : Nat) (f : List Nat → List Nat) : (s.setHallPoison l h f).core = s.core := by
  unfold State.setHallPoison; split <;> rfl

@[simp] theorem State.dmaPoison_core (s : State) (d : Desc) : (s.dmaPoison d).core = s.core := by
  unfold State.dmaPoison
  refine State.ite_core rfl ?_
  dsimp only
  split
  · rfl
  · exact State.setHallPoison_core ..
  · rfl

@[simp] theorem State.rewound_core (s : State) (k : ItemKey) : (s.rewound k).core = s.core := by
  unfold State.rewound; split <;> rfl

@[simp] theorem State.itemFails_core (s : State) (k : ItemKey) (d : Desc) (c : Code) : (s.itemFails k d c).core = s.core := by
  unfold State.itemFails
  split
  · rfl
  · split
    · exact State.finish_core ..
    all_goals exact State.finish_core ..

@[simp] theorem State.jobFails_core (s : State) (d : Desc) (c : Code) : (s.jobFails d c).core = s.core := by
  unfold State.jobFails
  split
  · exact State.itemFails_core ..
  · split
    · exact State.startFails_core ..
    · rfl
  all_goals rfl

@[simp] theorem State.failDesc_core (s : State) (ch cause : Nat) (c : Code) : (s.failDesc ch cause c).core = s.core := by
  unfold State.failDesc
  extract_lets ch0
  split
  · next d _ _ =>
    extract_lets v1 v2 ch1
    have h2 : v2.core = v1.core := by
      show State.core (match cause, d.job with | 1, .item k => v1.rewound k | _, _ => v1) = _
      split
      · exact State.rewound_core ..
      · rfl
    exact (State.jobFails_core ..).trans (h2.trans (State.dmaPoison_core s d))
  · rfl

@[simp] theorem State.failWhere_core (s : State) (p : Nat → Desc → Bool) (cause : Nat) (c : Code) : (s.failWhere p cause c).core = s.core := by
  refine State.foldl_core (fun s ch => ?_) _ s
  dsimp only
  split
  · exact State.ite_core (State.failDesc_core ..) rfl
  · rfl

@[simp] theorem State.dropJobs_core (s : State) (k : ItemKey) : (s.dropJobs k).core = s.core := rfl

@[simp] theorem State.faultItem_core (s : State) (k : ItemKey) : (s.faultItem k).core = s.core := by
  unfold State.faultItem
  extract_lets bist v1 _ v2 _ v3
  have h1 : v1.core = s.core := by simp [v1]
  clear_value v1
  have h3 : v3.core = v2.core := by
    show State.core (ite (bist = true) _ _) = _
    split <;> rfl
  have h : v3.core = s.core := h3.trans h1
  exact State.ite_core ((State.finish_core ..).trans h) h

/-- Ending the work of a set leaves the core (R419). -/
theorem State.endWork_core (s : State) (c : Cause) (h : Bool) (sc : Scope) (set : List Scope) : (s.endWork c h sc set).core = s.core := by
  unfold State.endWork
  extract_lets units v1 v2 v3 v4
  have h1 : v1.core = s.core := State.foldl_core (fun s l => by
    rw [State.stopPipe_core, State.stopCrypto_core]
    exact State.ite_core (State.stopField_core ..) rfl) _ s
  clear_value v1
  have h2 : v2.core = v1.core := State.ite_core (c := c.endsFlights h = true) (State.foldl_core (fun _ _ => State.faultFlight_core ..) _ v1) rfl
  clear_value v2
  have h3 : v3.core = v2.core := by
    show State.core (match v2.rel.session with
      | some q => if insideSet set (.domain 47) || insideSet set (.landing q.land) then v2.relFinish 3 else v2
      | none => match v2.rel.ended with
        | some e => if insideSet set (.domain 47) || insideSet set (.landing e.land) then v2.relAmend none 3 else v2
        | none => v2) = _
    split
    · exact State.ite_core (State.relFinish_core ..) rfl
    · split
      · exact State.ite_core (State.relAmend_core ..) rfl
      · rfl
  clear_value v3
  have h4 : v4.core = v3.core := State.foldl_core (fun _ _ => State.faultItem_core ..) _ v3
  exact (State.failWhere_core ..).trans (h4.trans (h3.trans (h2.trans h1)))

/-! #### A domain that does not rise -/

theorem State.mark_unus (s : State) (m : Nat) : (s.mark m).bist.unus &&& m = m := by
  unfold State.mark
  split
  · next h => rw [Nat.and_comm]; exact h
  · show (s.bist.unus ||| m) &&& m = m
    exact Nat.eq_of_testBit_eq fun i => by cases h : m.testBit i <;> simp [h]

theorem State.mark_power (s : State) (m : Nat) : (s.mark m).power = s.power := by rw [State.mark_eq]
theorem State.mark_faults (s : State) (m : Nat) : (s.mark m).faults = s.faults := by rw [State.mark_eq]

/-- The repair of a unit that is marked: it is unusable, and nothing of the power and fault units changes but what a record writes
(R418). -/
theorem State.repair_domainRise (s : State) (d : Nat) (w : FaultAt) :
    let t := s.repair .domainRise (.domain d) w
    t.bist.unus &&& domUnits d = domUnits d ∧ t.power = s.power ∧ t.faults.base = s.faults.base := by
  intro t
  have ht : t.core = (s.mark (domUnits d)).core := by
    show State.core (State.repair s .domainRise (.domain d) w) = _
    unfold State.repair
    rw [if_pos (show Cause.marks .domainRise = true from rfl)]
    exact State.ite_core (c := scopeUnits (.domain d) % 2 ^ 24 = 0) rfl (State.retireLandings_core _)
  refine ⟨?_, ?_, ?_⟩
  · rw [State.core_unus ht]
    exact State.mark_unus ..
  · rw [State.core_power ht, State.mark_power]
  · rw [State.core_base ht, State.mark_faults]

/-- What DOMAIN_RISE does outside a recovery, for a domain whose fault is recovered (R413, R417, R489). -/
theorem State.raise_domainRise {s : State} {d : Nat} (hm : s.faults.mode = .normal) (hb : s.power.booting = none)
    (h30 : d ≠ 30) (h46 : d ≠ 46) (h49 : d ≠ 49) :
    let t := s.raise .domainRise (.domain d)
    s.recoversFrom t .domainRise (.domain d) ∧ t.power = s.power ∧ t.bist.unus &&& domUnits d = domUnits d := by
  intro t
  let v : State := { s.recordFault .domainRise (.domain d) [] with faults := { (s.recordFault .domainRise (.domain d) []).faults with
    mode := .recovery, depth := 0, causes := [.domainRise], scopes := [.domain d], opened := s.now, restarted := s.now
    recoveries := (s.faults.recoveries + 1) % 65536 } }
  have ht : t = v.recover .domainRise (.domain d) ⟨5, 0⟩ := by
    have hh : s.handlingOf .domainRise (.domain d) = .recover := if_neg (by simp [h30, h46, h49])
    show State.raiseAt s .domainRise (.domain d) [] ⟨5, 0⟩ = _
    rw [State.raiseAt]
    show (if s.faults.mode = .halt ∨ s.power.booting.isSome = true ∨ s.handlingOf .domainRise (.domain d) = .record then _
      else if s.faults.mode = .warm then _ else _) = _
    rw [hh, hm, hb, if_neg (by decide), if_neg (by decide)]
    show State.raiseC s .domainRise (.domain d) [] ⟨5, 0⟩ = _
    rw [State.raiseC]
    exact if_pos (by rw [hm]; decide)
  have hw : (v.endWork .domainRise false (.domain d) v.faults.scopes).core = v.core := State.endWork_core ..
  obtain ⟨hu, hp, hf⟩ := State.repair_domainRise (v.endWork .domainRise false (.domain d) v.faults.scopes) d ⟨5, 0⟩
  have hbase : t.faults.base = v.faults.base := by
    rw [ht]
    exact hf.trans (State.core_base hw)
  have hv : v.power = s.power := rfl
  have hpower : t.power = s.power := by
    rw [ht]
    exact hp.trans ((State.core_power hw).trans hv)
  refine ⟨⟨?_, ?_, ?_, ?_, ?_⟩, hpower, by rw [ht]; exact hu⟩
  · exact congrArg Faults.mode hbase
  · exact congrArg Faults.causes hbase
  · exact congrArg Faults.scopes hbase
  · exact congrArg Faults.opened hbase
  · exact congrArg Faults.recoveries hbase

/-! ### Resets -/

/-! #### What a reset cuts short in NVM -/

theorem LifeCycle.eraseRun_banks (c : LifeCycle) (epoch lo n : Nat) : (c.eraseRun epoch lo n).banks = c.banks := by
  have key (l : List Nat) (c : LifeCycle) : (l.foldl (fun c i => c.eraseSector epoch (lo + i)) c).banks = c.banks := by
    induction l generalizing c with
    | nil => rfl
    | cons i l ih => rw [List.foldl_cons, ih]; rfl
  exact key _ c

theorem LifeCycle.rewind_banks (c : LifeCycle) : c.rewind.banks = c.banks := by
  unfold LifeCycle.rewind; split <;> rfl

theorem LifeCycle.cut_banks (c : LifeCycle) : c.cut.banks = c.banks := by
  unfold LifeCycle.cut
  dsimp only
  rw [LifeCycle.rewind_banks]
  split
  · split <;> rfl
  · split <;> rfl
  · split <;> rfl
  · rfl

theorem State.modTenant_only (s : State) (n : Nat) (f : Tenant → Tenant) : ∃ t, s.modTenant n f = { s with ten := t } := by
  unfold State.modTenant
  split
  · exact ⟨_, rfl⟩
  · exact ⟨s.ten, rfl⟩

theorem State.itemEntry_only (s : State) (r : ItemRec) (b : List Byte) : ∃ t, s.itemEntry r b = { s with ten := t } := by
  unfold State.itemEntry
  split
  · exact ⟨_, rfl⟩
  · exact State.modTenant_only ..
  · exact State.modTenant_only ..
  · exact ⟨s.ten, rfl⟩

theorem State.newelEntry_only (s : State) (g : Staged) : ∃ t, s.newelEntry g = { s with ten := t } := by
  unfold State.newelEntry
  dsimp only
  obtain ⟨t, h⟩ := State.modTenant_only s g.tenant fun r => r.commit g
  rw [h]
  exact State.modTenant_only { s with ten := t } g.tenant _

theorem State.learnFail_only (s : State) : ∃ t, s.learnFail = { s with ten := t } := by
  unfold State.learnFail
  dsimp only
  split <;> exact ⟨_, rfl⟩

theorem State.countFailure_only (s : State) (n : Nat) : ∃ t, (s.countFailure n).1 = { s with ten := t } := by
  obtain ⟨t, h⟩ := State.learnFail_only s
  unfold State.countFailure
  rw [h]
  dsimp only
  split
  · exact ⟨_, rfl⟩
  · exact State.modTenant_only { s with ten := t } n _

theorem State.cutJournal_only (s : State) : ∃ f t, s.cutJournal = { s with fresh := f, ten := t } := by
  unfold State.cutJournal
  extract_lets item newel tfail
  split
  · exact ⟨s.fresh, s.ten, rfl⟩
  · dsimp only
    split
    · obtain ⟨t, h⟩ := State.itemEntry_only s.draw.1 _ _
      exact ⟨_, t, h⟩
    · obtain ⟨t, h⟩ := State.newelEntry_only s.draw.1 _
      exact ⟨_, t, h⟩
    · obtain ⟨t, h⟩ := State.countFailure_only s.draw.1 _
      exact ⟨_, t, h⟩
    · exact ⟨_, _, rfl⟩

theorem State.cutErase_only (s : State) : ∃ f l c, s.cutErase = { s with fresh := f, life := l, sec := c } ∧ l.banks = s.life.banks := by
  unfold State.cutErase
  split
  · exact ⟨s.fresh, s.life, s.sec, rfl, rfl⟩
  · refine ⟨_, _, _, rfl, ?_⟩
    dsimp only
    split
    · exact LifeCycle.eraseRun_banks ..
    · exact LifeCycle.eraseRun_banks ..

/-- What a reset cuts short leaves everything but tenants, the life cycle's sectors and the erase of the vault. -/
theorem State.cutNvm_only (s : State) : ∃ f t l c, s.cutNvm = { s with fresh := f, ten := t, life := l, sec := c } ∧ l.banks = s.life.banks := by
  obtain ⟨f, t, h⟩ := State.cutJournal_only s
  obtain ⟨f', l, c, h', hb⟩ := State.cutErase_only { s with fresh := f, ten := t }
  refine ⟨f', t, l, c, ?_, hb⟩
  rw [State.cutNvm, h, h']

@[simp] theorem State.cutNvm_core (s : State) : s.cutNvm.core = s.core := by
  obtain ⟨f, t, l, c, h, -⟩ := State.cutNvm_only s
  rw [h]; rfl

/-! #### A reset that closes the epoch -/

/-- A new epoch begins (R29, R45, R46, R331). -/
theorem State.epochReset_newEpoch (s : State) (cause : Nat) (lost : Bool) : s.newEpoch (s.epochReset cause lost) cause := by
  obtain ⟨f, t, l, c, h, hb⟩ := State.cutNvm_only s
  unfold State.epochReset
  rw [h]
  refine ⟨rfl, rfl, rfl, rfl, rfl, fun q hq => ?_, fun m _ => vget_replicate .., rfl, ?_, rfl, rfl⟩
  · have : q = 0 ∨ q = 1 ∨ q = 2 ∨ q = 3 := by omega
    obtain rfl | rfl | rfl | rfl := this <;> rfl
  · exact (LifeCycle.cut_banks l).trans hb

theorem State.epochReset_gal (s : State) (cause : Nat) (lost : Bool) : (s.epochReset cause lost).gal.addr = s.gal.addr := by
  obtain ⟨f, t, l, c, h, -⟩ := State.cutNvm_only s
  unfold State.epochReset
  rw [h]
  rfl

/-- What a loss of power leaves: a new epoch with the gallery address sampled, and after a brown-out the items of each queue that were not
completed (R47, R522). -/
theorem State.powerReset_does (s : State) (cause caddr fuse : Nat) :
    s.newEpoch (s.powerReset cause caddr fuse) cause ∧ (s.powerReset cause caddr fuse).gal.addr = caddr % 8 ∧
    (cause = 0x02 → (s.powerReset cause caddr fuse).host.unfin = some s.host.unfinished) := by
  unfold State.powerReset
  extract_lets l l' left
  have hb : l'.banks = s.life.banks := by
    show LifeCycle.banks (match s.life.intent, s.life.jobs with
      | some i, .commit _ 3 _ :: _ => match stageShift i.dst with
        | some sh => s.life.blow 0 (fuse % 256 * 2 ^ sh)
        | none => s.life
      | _, _ => s.life) = _
    split
    · split <;> rfl
    · rfl
  clear_value l'
  let v : State := { s.draw.1 with gal := { s.draw.1.gal with addr := caddr % 8 }, life := l' }
  obtain ⟨h1, h2, h3, h4, h5, h6, h7, h8, h9, h10, h11⟩ := State.epochReset_newEpoch v cause true
  refine ⟨⟨h1, h2, h3, h4, h5, h6, h7, h8, h9.trans hb, h10, h11⟩, State.epochReset_gal v cause true, fun hc => ?_⟩
  exact if_pos (.inl hc)

theorem State.coldReset_newEpoch (s : State) {cause : Nat} (h : cause ≠ 0x03) : s.newEpoch (s.coldReset cause) cause := by
  unfold State.coldReset
  rw [if_pos h]
  exact State.epochReset_newEpoch s cause false

/-! #### A warm reset -/

@[simp] theorem State.relClamp_core (s : State) : s.relClamp.core = s.core := rfl

@[simp] theorem State.evdWarm_core (s : State) : s.evdWarm.core = s.core := by
  unfold State.evdWarm
  rw [State.closeCap_eq]
  rfl

/-- What is put in order before the units are reset. -/
def State.warmFront (s : State) : State :=
  let s := s.cutNvm
  let s := match s.rel.session with | some q => (s.relEnd q.land 3).relClamp | none => s.relClamp
  (s.evdWarm).lfDue.lfReport 255

theorem State.warmFront_core (s : State) : s.warmFront.core = s.core := by
  unfold State.warmFront
  extract_lets v w
  have hw : w.core = v.core := by
    show State.core (match v.rel.session with | some q => (v.relEnd q.land 3).relClamp | none => v.relClamp) = _
    split <;> simp
  rw [State.lfReport_core, State.lfDue_core, State.evdWarm_core, hw, State.cutNvm_core]

/-- The domain of a pair that dumps goes on falling; every other one is down (R155). -/
theorem Lf.domOff_cases (f : Lf) (now d : Nat) : f.domOff now d = .down ∨ (35 ≤ d ∧ d < 39 ∧ f.domOff now d = .falling now none) := by
  unfold Lf.domOff
  split
  · next h =>
    simp only [Bool.and_eq_true, decide_eq_true_eq] at h
    exact .inr ⟨h.1.1, h.1.2, rfl⟩
  · exact .inl rfl

theorem State.core_warms {s t : State} (h : t.core = s.core) : t.faults.warms = s.faults.warms := by
  have := congrArg Faults.warms (State.core_base h)
  exact this

theorem State.core_warmAt {s t : State} (h : t.core = s.core) : t.faults.warmAt = s.faults.warmAt := by
  have := congrArg Faults.warmAt (State.core_base h)
  exact this

theorem State.warmBody_begun (s : State) : s.warmBegun s.warmBody := by
  have hc := State.warmFront_core s
  have hcredits : s.warmFront.host.credits = s.host.credits := State.core_credits hc
  refine ⟨rfl, ?_, fun d hd => ?_, rfl, fun v hv => ?_, hcredits, rfl, rfl⟩
  · show (s.warmFront.faults.warms + 1) % 256 = _
    rw [State.core_warms hc]
  · have hdom : s.warmBody.dom d = (s.warmFront.lfOff.again s.warmFront.now).domOff s.warmFront.now d := vget_ofFn _ _ hd
    rw [hdom, State.core_now hc]
    exact Lf.domOff_cases ..
  · have hvote : s.warmBody.vote v = s.warmFront.power.votes.get ⟨v, by omega⟩ := by
      refine (vget_ofFn _ _ (by omega : v < 64)).trans ?_
      exact if_pos hv
    rw [hvote, State.core_power hc]
    simp [State.vote, vget, show v < 64 by omega]
    rfl

/-- A warm reset that is not the third within 1,000 ms (R422, R423). -/
theorem State.warmReset_begun {s : State} (h : s.fewWarms) : s.warmBegun s.warmReset := by
  have hc := State.warmFront_core s
  have hw : s.warmBody.faults.warmAt = s.now :: (s.faults.warmAt.filter fun t => decide (s.now ≤ t + 1000 * msT)) := by
    show s.warmFront.now :: (s.warmFront.faults.warmAt.filter fun t => decide (s.warmFront.now ≤ t + 1000 * msT)) = _
    rw [State.core_now hc, State.core_warmAt hc]
  have hfew : s.warmBody.faults.warmAt.length < 3 := by
    rw [hw, List.length_cons]
    exact Nat.succ_lt_succ h
  rw [State.warmReset, if_pos hfew]
  exact State.warmBody_begun s

/-! ### The boot path -/

/-! #### NVM and intents -/

@[simp] theorem State.withLife_core (s : State) (c : LifeCycle) : ({ s with life := c } : State).core = s.core := rfl

@[simp] theorem State.eraseStore_core (s : State) : s.eraseStore.core = s.core := rfl

@[simp] theorem State.dropSector_core (s : State) (n : Nat) : (s.dropSector n).core = s.core :=
  State.ite_core rfl (State.ite_core rfl (State.ite_core rfl rfl))

@[simp] theorem State.remapSector_core (s : State) (p : Nat) : (s.remapSector p).core = s.core := by
  unfold State.remapSector
  refine State.ite_core rfl ?_
  split
  · rfl
  · exact State.recordFault_core ..

@[simp] theorem State.recoverSectors_core (s : State) : s.recoverSectors.core = s.core := by
  unfold State.recoverSectors
  extract_lets v
  have hv : v.core = s.core := by
    refine State.foldl_core (fun s e => ?_) _ s
    split
    · exact State.ite_core (State.dropSector_core ..) rfl
    · rfl
  exact (State.foldl_core (fun _ _ => State.ite_core (State.remapSector_core ..) rfl) _ v).trans hv

@[simp] theorem State.lifeTakes_core (s : State) (i : LifeIntent) : (s.lifeTakes i).core = s.core := State.relFinish_core _ 2

@[simp] theorem State.zeroCells_core (s : State) : s.zeroCells.core = s.core := State.ite_core rfl rfl

@[simp] theorem State.lifeEffects_core (s : State) (i : LifeIntent) : (s.lifeEffects i).core = s.core := by
  unfold State.lifeEffects
  extract_lets _ v
  have hv : v.core = s.core := by
    show State.core (ite (i.dst = .retired) _ (ite (i.src = .tampered) _ _)) = _
    exact State.ite_core (State.zeroCells_core _) (State.ite_core (State.setSec_core ..) rfl)
  exact hv

@[simp] theorem State.lifeCompletes_core (s : State) (i : LifeIntent) : (s.lifeCompletes i).core = s.core := by
  unfold State.lifeCompletes
  extract_lets v1 v2 v3
  have h1 : v1.core = s.core := State.lifeTakes_core s i
  clear_value v1
  have h2 : v2.core = v1.core := by
    show State.core (ite (i.dst = .retired) _ _) = _
    exact State.ite_core (State.withLife_core ..) rfl
  clear_value v2
  have h3 : v3.core = v2.core := by
    show State.core (ite (i.src = .tampered ∧ i.dst ≠ .retired) _ _) = _
    exact State.ite_core (State.setSec_core ..) rfl
  exact (State.lifeEffects_core ..).trans (h3.trans (h2.trans h1))

@[simp] theorem State.reconcileLife_core (s : State) (ok : Bool) : (s.reconcileLife ok).core = s.core := by
  unfold State.reconcileLife
  split
  · rfl
  · extract_lets gone
    split
    · exact State.ite_core rfl (State.ite_core (State.lifeCompletes_core ..) (State.ite_core (State.lifeCompletes_core ..) rfl))
    · exact State.ite_core (State.lifeCompletes_core ..) rfl

@[simp] theorem State.reconcileUpdate_core (s : State) (ok : Bool) : (s.reconcileUpdate ok).core = s.core := by
  unfold State.reconcileUpdate
  split
  · exact State.ite_core rfl (State.ite_core rfl rfl)
  · rfl

theorem State.withOtp_core (s : State) (t : Int) (g : Tag) (c : LifeCycle) :
    ({ s with dieTemp := t, tag := g, life := c } : State).core = s.core := rfl

theorem State.bootFront_core (s : State) (b : BootIn) : (s.bootFront b).core = s.core := by
  unfold State.bootFront
  extract_lets _ v1 v2 ok v3
  have h1 : v1.core = s.core := State.withOtp_core ..
  clear_value v1
  have h2 : v2.core = v1.core := by
    show State.core (ite (v1.sec.erasing = true) _ _) = _
    exact State.ite_core (State.eraseStore_core ..) rfl
  clear_value v2
  have h3 : v3.core = v2.core := by
    show State.core ((v2.recoverSectors.reconcileLife ok).reconcileUpdate ok) = _
    simp
  clear_value v3
  exact (State.withLife_core ..).trans (h3.trans (h2.trans h1))

/-! #### Banks -/

theorem State.trialCount_core (s : State) (cold : Bool) : (s.trialCount cold).1.core = s.core := by
  unfold State.trialCount
  split
  · rfl
  · split <;> rfl

/-- A reversion is recorded only (R402, R413). -/
@[simp] theorem State.noteRevert_core (s : State) (why : Nat) : (s.noteRevert why).core = s.core := by
  unfold State.noteRevert
  rw [State.raise_of_record _ .device [] (fun _ => rfl) (fun _ => rfl) rfl (by decide)]
  rfl

theorem State.revert_core (s : State) (target why : Nat) : (s.revert target why).1.core = s.core := by
  unfold State.revert
  extract_lets c
  split
  · split
    · exact State.noteRevert_core ..
    · exact State.noteRevert_core ..
  · exact State.noteRevert_core ..

theorem State.pickBank_core (s : State) (target : Nat) : (s.pickBank target).1.core = s.core := by
  unfold State.pickBank
  split
  · rfl
  · split
    · rfl
    · split
      · split
        · exact State.noteRevert_core ..
        · rfl
      · rfl

theorem State.checkTarget_core (s : State) (cold : Bool) (target : Nat) : (s.checkTarget cold target).1.core = s.core := by
  unfold State.checkTarget
  extract_lets run
  split
  · exact State.pickBank_core ..
  · split
    · rfl
    · exact State.pickBank_core ..

theorem State.bootBank_core (s : State) (cold exhausted : Bool) (target : Nat) : (s.bootBank cold exhausted target).1.core = s.core := by
  unfold State.bootBank
  dsimp only
  split
  · split
    · exact State.revert_core ..
    · split
      · rfl
      · exact State.revert_core ..
  · exact State.checkTarget_core ..

/-! #### Keys and entropy -/

@[simp] theorem State.putInst_core (s : State) (l : Nat) (sys : Option Nat) (i : DrbgInst) : (s.putInst l sys i).core = s.core := by
  unfold State.putInst; split <;> rfl

@[simp] theorem State.seedInst_core (s : State) (l : Nat) (sys : Option Nat) : (s.seedInst l sys).core = s.core := by
  unfold State.seedInst
  exact State.putInst_core ..

theorem State.drbgOut_core (s : State) (l : Nat) (sys : Option Nat) (n : Nat) : (s.drbgOut l sys n).1.core = s.core := by
  unfold State.drbgOut
  split
  · rfl
  · exact State.putInst_core s l sys _

@[simp] theorem State.serveDrbg_core (n : Nat) (s : State) : (State.serveDrbg n s).core = s.core := by
  induction n generalizing s with
  | zero => rfl
  | succ n ih =>
    rw [State.serveDrbg]
    split
    · rfl
    · dsimp only
      split
      · split
        · split
          · rfl
          · exact (ih _).trans ((State.cryptoEnds_core ..).trans ((State.drbgOut_core ..).trans
              (State.ite_core (State.seedInst_core ..) rfl)))
        · exact ih _
      · exact ih _

@[simp] theorem State.tryRoot_core (s : State) : s.tryRoot.core = s.core := State.ite_core rfl rfl

/-- The alarm of the source is recorded only (R362, R413). -/
@[simp] theorem State.entropyFails_core (s : State) : s.entropyFails.core = s.core := by
  unfold State.entropyFails
  refine State.ite_core rfl ?_
  dsimp only
  rw [State.raise_of_record _ (.engine 5) [] (fun _ => rfl) (fun _ => rfl) rfl (by decide)]
  rfl

@[simp] theorem State.entropyBlock_core (s : State) (raw : List Byte) (n : Nat) : (s.entropyBlock raw n).core = s.core := by
  unfold State.entropyBlock
  extract_lets r v w
  refine State.ite_core (State.entropyFails_core v) (State.ite_core ?_ rfl)
  exact (State.serveDrbg_core ..).trans (State.tryRoot_core w)

@[simp] theorem State.vaultReload_core (s : State) : s.vaultReload.core = s.core := rfl

theorem State.bootKeys_core (s : State) (blocks : List (List Byte)) : (s.bootKeys blocks).core = s.core := by
  unfold State.bootKeys
  exact (State.vaultReload_core _).trans (State.foldl_core (fun _ _ => State.ite_core (State.entropyBlock_core ..) rfl) _ _)

/-! #### The library -/

@[simp] theorem State.showMove_core (s : State) (job : DmaJob) (code sk dk so len done : Nat) :
    (s.showMove job code sk dk so len done).core = s.core := by
  unfold State.showMove; split <;> rfl

theorem State.fetchBlocks_core (s : State) (job : DmaJob) (code : Nat) (img ext : List Byte) (lo hi : Nat) :
    (s.fetchBlocks job code img ext lo hi).1.core = s.core := by
  have key (f : State × Nat × Bool → Nat → State × Nat × Bool) (hf : ∀ p i, (f p i).1.core = p.1.core) :
      ∀ (l : List Nat) (p : State × Nat × Bool), (l.foldl f p).1.core = p.1.core := by
    intro l
    induction l with
    | nil => exact fun _ => rfl
    | cons i l ih => exact fun p => (ih _).trans (hf p i)
  unfold State.fetchBlocks
  refine (State.showMove_core ..).trans (key _ (fun p i => ?_) _ (s, 0, true))
  split <;> rfl

theorem State.readEntry_core (s : State) (img ext : List Byte) (slot : Nat) : (s.readEntry img ext slot).1.core = s.core := by
  unfold State.readEntry
  extract_lets e
  split
  · exact State.fetchBlocks_core ..
  · rfl

/-- An image that is left out is recorded only (R407, R413). -/
theorem State.raise_libOmit_core (s : State) (slot : Nat) : (s.raise .libOmit .device (natLE 2 slot)).core = s.core := by
  rw [State.raise_of_record _ .device _ (fun _ => rfl) (fun _ => rfl) rfl (by decide)]
  rfl

theorem State.placeEntry_core (s : State) (img ext : List Byte) (slot : Nat) : (s.placeEntry img ext slot).core = s.core := by
  have hr := State.readEntry_core s img ext slot
  unfold State.placeEntry
  generalize s.readEntry img ext slot = r at hr ⊢
  refine State.ite_core rfl ?_
  dsimp only
  split
  · refine State.ite_core ?_ ((State.raise_libOmit_core ..).trans hr)
    exact State.ite_core ((State.showMove_core ..).trans hr) hr
  · exact (State.raise_libOmit_core ..).trans hr

theorem State.bootLibrary_core (s : State) (cold exhausted : Bool) (ext : List Byte) : (s.bootLibrary cold exhausted ext).1.core = s.core := by
  unfold State.bootLibrary
  extract_lets r h h' v
  have hv : v.core = s.core := State.bootBank_core s cold exhausted 1
  clear_value v
  split
  · exact hv
  · exact hv
  · dsimp only
    refine (State.foldl_core (fun s i => State.placeEntry_core s _ ext (0x80 + i)) _ _).trans ?_
    exact (State.withLife_core ..).trans hv

/-! #### The whole path -/

@[simp] theorem State.loadRecord_core (s : State) : s.loadRecord.core = s.core := rfl
@[simp] theorem State.fuseFaultBoot_core (s : State) : s.fuseFaultBoot.core = s.core := rfl

/-- A boot that does not end in a reset leaves the core (R411). -/
theorem State.boot_core {s : State} {b : BootIn} {cold : Bool} (h : (s.boot b cold).2 = false) : (s.boot b cold).1.core = s.core := by
  generalize hp : s.boot b cold = p at h ⊢
  unfold State.boot at hp
  extract_lets zap v1 r f _ _ v2 v3 l at hp
  have h1 : v1.core = s.core := State.bootFront_core s b
  clear_value v1
  have hr : r.1.core = v1.core := State.trialCount_core v1 cold
  clear_value r
  have hf : f.1.core = r.1.core := State.bootBank_core r.1 cold r.2 0
  clear_value f
  have h2 : v2.core = s.core := (State.withLife_core ..).trans (hf.trans (hr.trans h1))
  clear_value v2
  have h3 : v3.core = v2.core := (State.bootKeys_core ..).trans (State.loadRecord_core v2)
  clear_value v3
  have hl : l.1.core = v3.core := State.bootLibrary_core v3 cold r.2 b.ext
  clear_value l
  split at hp
  · exact absurd h (by rw [← hp]; exact Bool.noConfusion)
  · split at hp
    · exact absurd h (by rw [← hp]; exact Bool.noConfusion)
    · split at hp
      · rw [← hp]
        exact (State.fuseFaultBoot_core v2).trans h2
      · split at hp
        · exact absurd h (by rw [← hp]; exact Bool.noConfusion)
        · rw [← hp]
          exact hl.trans (h3.trans h2)

/-! ### Events -/

/-- An event that needs no units that act has the effect that its command gives it. -/
theorem eventAny_of_occurAt {x : Nat → State → Host.Outcome State Fault Refusal} {i : Nat → Instr} {k : Nat} {f : State → State}
    {ok : State → Prop} {did : State → State → Prop} (hx : ∀ dt s, x dt s = occurAt k dt s f) (hi : ∀ dt s, exec (i dt) s = x dt s)
    (hf : ∀ u, ok u → did u (f u)) : EventAnyDoes i ok did k := by
  intro dt s u hturn hok
  refine ⟨f u, ?_, hf u hok⟩
  rw [hi, hx, occurAt, occur, if_pos hturn]

/-- An event of units that act has the effect that its command gives it. -/
theorem event_of_occurLive {x : Nat → State → Host.Outcome State Fault Refusal} {i : Nat → Instr} {k : Nat} {f : State → State}
    {ok : State → Prop} {did : State → State → Prop} (hx : ∀ dt s, x dt s = occurLive dt s f k) (hi : ∀ dt s, exec (i dt) s = x dt s)
    (hf : ∀ u, u.live = true → ok u → did u (f u)) : EventDoes i ok did k := by
  intro dt s u hlive hturn hok
  refine ⟨f u, ?_, hf u hlive hok⟩
  rw [hi, hx, occurLive, occurAt, occur, if_pos hturn, if_pos hlive]

/-! #### Resets -/

theorem powerOnReset_does (caddr fuse : Nat) : EventAnyDoes (fun dt => .evPowerOnReset dt caddr fuse) (fun _ => True)
    (fun u t => u.newEpoch t 0x01 ∧ t.gal.addr = caddr % 8) rankReset := by
  refine eventAny_of_occurAt (fun dt s => execEvPowerOnReset.eq_1 dt caddr fuse s) (fun _ _ => rfl) fun u _ => ?_
  obtain ⟨h1, h2, -⟩ := State.powerReset_does u 0x01 caddr fuse
  exact ⟨h1, h2⟩

theorem brownOut_does (caddr fuse : Nat) (vio : Bool) : EventAnyDoes (fun dt => .evBrownOut dt caddr ⟨fuse, vio⟩) (fun _ => True)
    (fun u t => u.newEpoch t 0x02 ∧ t.gal.addr = caddr % 8 ∧ t.host.unfin = some u.host.unfinished ∧ t.tag.vio = vio) rankReset := by
  refine eventAny_of_occurAt (fun dt s => execEvBrownOut.eq_1 dt caddr ⟨fuse, vio⟩ s) (fun _ _ => rfl) fun u _ => ?_
  obtain ⟨h1, h2, h3⟩ := State.powerReset_does u 0x02 caddr fuse
  exact ⟨h1, h2, h3 rfl, rfl⟩

theorem rstnReset_does (us caddr fuse : Nat) : EventAnyDoes (fun dt => .evRstnReset dt us caddr fuse) (fun _ => True)
    (fun u t => (us < 1 → t = u) ∧ (10 ≤ us → u.newEpoch t 0x01)) rankReset := by
  refine eventAny_of_occurAt (fun dt s => execEvRstnReset.eq_1 dt us caddr fuse s) (fun _ _ => rfl) fun u _ => ⟨fun h => if_pos h, fun h => ?_⟩
  rw [if_neg (by omega), if_pos h]
  exact (State.powerReset_does u 0x01 caddr fuse).1

theorem activateColdReset_does : EventAnyDoes .evActivateColdReset
    (fun u => u.power.mode = .awake ∧ u.sec.scan = false ∧ u.faults.mode ≠ .halt ∧ ∃ a ∈ u.host.activate, ∃ t0, a.due = some t0 ∧ t0 ≤ u.now)
    (fun u t => u.newEpoch t 0x05) rankReset := by
  refine eventAny_of_occurAt execEvActivateColdReset.eq_1 (fun _ _ => rfl) fun u ⟨hm, hs, hh, a, ha, t0, hd, ht⟩ => ?_
  have hany : (u.host.activate.any fun a => a.due.any fun t => decide (t ≤ u.now)) = true :=
    List.any_eq_true.2 ⟨a, ha, by simp [hd, ht]⟩
  rw [if_pos (by simp [hm, hs, hh, hany])]
  exact State.coldReset_newEpoch u (by decide)

/-! #### The ends of a boot and of a wake -/

theorem State.katFaults_core (s : State) (kat marks : Nat) : (s.katFaults kat marks).core = s.core :=
  State.foldl_core (fun _ _ => State.recordFault_core ..) _ s

theorem State.loseTenant_core (s : State) (t why : Nat) : (s.loseTenant t why).core = s.core := by
  unfold State.loseTenant
  split
  · rfl
  · next r _ =>
    obtain ⟨x, h⟩ := State.modTenant_only s t fun r => { r with st := 3, revokedBy := why, keys := 0, wrapped := [], lockEnd := none }
    refine State.ite_core rfl ?_
    dsimp only
    rw [h]
    rfl

theorem State.checkWrapped_core (s : State) : s.checkWrapped.core = s.core := by
  unfold State.checkWrapped
  refine State.ite_core rfl (State.foldl_core (fun s e => ?_) _ s)
  split
  · exact State.ite_core rfl ((State.recordFault_core ..).trans (State.loseTenant_core ..))
  · rfl

/-- A mark in an empty map is the whole map. -/
theorem State.mark_unus_of_zero {s : State} (m : Nat) (h : s.bist.unus = 0) : (s.mark m).bist.unus = m := by
  unfold State.mark
  rw [h, Nat.and_zero]
  split
  · next h0 => rw [h, h0]
  · exact Nat.zero_or m

/-- The results of the cold-start tests: the map of marks is theirs, and the fault unit is as before but for records (R506 to R510). -/
theorem State.coldBist_does (s : State) (marks failed kat : Nat) (sram : List Nat) (controller : Bool) :
    let t := s.coldBist marks failed kat sram controller
    t.bist.unus = (marks ||| katMarks kat marks) &&& unitsMask ∧ t.faults.base = s.faults.base := by
  unfold State.coldBist
  extract_lets m _ b v1 v2 v3 t
  have h1 : v1.bist.unus = m := by
    show (State.mark { s with bist := b } m).bist.unus = m
    exact State.mark_unus_of_zero m rfl
  have hf : v1.faults = s.faults := by
    show (State.mark { s with bist := b } m).faults = s.faults
    rw [State.mark_faults]
  clear_value v1
  have h2 : v2.core = v1.core := (State.checkWrapped_core _).trans (State.katFaults_core ..)
  clear_value v2
  have h3 : v3.core = v2.core := by
    show State.core (ite (v2.marked unitEntropy = true) _ (ite (v2.sec.ent = .alarm) _ _)) = _
    exact State.ite_core rfl (State.ite_core rfl rfl)
  have ht : t.core = v1.core := (State.retireLandings_core v3).trans (h3.trans h2)
  exact ⟨(State.core_unus ht).trans h1, (State.core_base ht).trans (congrArg Faults.base hf)⟩

theorem coldStartBistDone_does (b : BootIn) (marks failed kat cause : Nat) (sram : List Nat) (halt : Bool) :
    EventAnyDoes (fun dt => .evColdStartBistDone dt b marks failed kat sram halt)
      (fun u => u.power.booting = some cause ∧ u.coreUp = true ∧ u.power.mode = .awake ∧ u.sec.scan = false ∧ (u.boot b true).2 = false ∧
        (u.boot b true).1.wantsRoot = false)
      (fun u t => t.power.booting = none ∧ t.bist.unus = (marks ||| katMarks kat marks) &&& unitsMask ∧
        (halt = true ∨ (∃ e ∈ sram, 208 ≤ e) ∨ u.faults.haltDue = true → t.faults.mode = .halt) ∧
        ∃ n, t.host.cq.head? = some (closeRecord ((t.host.epoch.toNat + 65535) % 65536) t.host.epoch.toNat cause n)) := by
  refine eventAny_of_occurAt (fun dt s => execEvColdStartBistDone.eq_1 dt b marks failed kat sram halt s) (fun _ _ => rfl)
    fun u ⟨hb, hc, hm, hs, hr, hw⟩ => ?_
  let v := (u.boot b true).1.coldBist marks failed kat sram halt
  obtain ⟨hu, hf⟩ := State.coldBist_does (u.boot b true).1 marks failed kat sram halt
  have hdue : v.faults.haltDue = u.faults.haltDue := by
    have := congrArg Faults.haltDue (hf.trans (State.core_base (State.boot_core hr)))
    exact this
  rw [hb]
  simp only [hc, hm, hs, hr, hw, Bool.not_true, bne_self_eq_false, Bool.or_self, Bool.false_eq_true, if_false]
  refine ⟨trivial, hu, fun h => ?_, v.host.unfin, rfl⟩
  have hstop : (halt || sramStops sram || v.faults.haltDue) = true := by
    rcases h with h | ⟨e, he, hge⟩ | h
    · simp [h]
    · have : sramStops sram = true := List.any_eq_true.2 ⟨e, he, by simpa using hge⟩
      simp [this]
    · simp [hdue, h]
  show (if halt || sramStops sram || v.faults.haltDue then { v.faults with mode := .halt, haltDue := false } else v.faults).mode = _
  rw [if_pos hstop]

theorem wakeComplete_does (b : BootIn) : EventAnyDoes (fun dt => .evWakeComplete dt b)
    (fun u => u.power.waking = true ∧ u.coreUp = true ∧ (u.boot b false).2 = false)
    (fun u t => t.power.mode = .awake ∧ t.power.waking = false ∧ t.host.epoch = u.host.epoch ∧ ∀ k < 16, t.timer k = bootTimer k u.now) := by
  refine eventAny_of_occurAt (fun dt s => execEvWakeComplete.eq_1 dt b s) (fun _ _ => rfl) fun u ⟨hw, hc, hr⟩ => ?_
  have hcore := State.boot_core hr
  have hgo : (!u.power.waking || !u.coreUp) = false := by rw [hw, hc]; rfl
  generalize u.boot b false = p at hr hcore ⊢
  rw [if_neg (by rw [hgo]; exact Bool.false_ne_true), if_neg (by rw [hr]; exact Bool.false_ne_true)]
  have hepoch : p.1.host.epoch = u.host.epoch := State.core_epoch hcore
  refine ⟨rfl, rfl, hepoch, fun k hk => ?_⟩
  rw [← State.core_now hcore]
  exact vget_ofFn _ _ hk

/-! #### OTP and NVM -/

theorem otpReread_near (temp : Int) (reads : List (Nat × Nat × Nat × Nat)) : EventDoes (fun dt => .evOtpReread dt temp reads)
    (fun u => (temp - u.life.readTemp).natAbs < 40) (fun u t => t = { u with dieTemp := temp }) (faultRank !reads.isEmpty) :=
  event_of_occurLive (fun dt s => execEvOtpReread.eq_1 dt temp reads s) (fun _ _ => rfl) fun _ _ h => if_pos h

/-- A re-read that finds the words of the last one (R387). -/
theorem otpReread_same (temp : Int) : EventDoes (fun dt => .evOtpReread dt temp [])
    (fun u => 40 ≤ (temp - u.life.readTemp).natAbs ∧ u.life.readIdentity.idFault = false ∧ u.life.readIdentity.trimFault = false)
    (fun u t => t.life.readTemp = temp ∧ t.dieTemp = temp ∧ t.life.mchange = u.life.mchange ∧ t.faults = u.faults) := by
  refine event_of_occurLive (fun dt s => execEvOtpReread.eq_1 dt temp [] s) (fun _ _ => rfl) fun u _ ⟨hfar, hid, htrim⟩ => ?_
  have hdiff : (readWords.filter fun w => u.life.resolved w != u.life.resolved w) = [] := by simp
  rw [if_neg (by omega)]
  simp only [List.foldl_nil, hdiff, List.isEmpty_nil, if_true, Bool.not_true, Bool.or_false, hid, htrim, Bool.or_self, Bool.false_and,
    Bool.false_eq_true, if_false]
  exact ⟨trivial, trivial, trivial, trivial⟩

/-! #### Durable operations -/

/-- The operation at the front whose sectors are all in use (R389, R393). -/
theorem nvmCommitDone_does (k : ItemKey) (phase fuse sector : Nat) (data : List Byte) (rest : List NvmJob) (r : ItemRec) :
    EventDoes (fun dt => .evNvmOperationDone dt true sector fuse)
      (fun u => u.domUp 46 = true ∧ u.life.jobs = .commit k phase data :: rest ∧ u.jobOut (.commit k phase data) = none ∧
        u.item k = some r ∧ u.commitWaits r data = false)
      (fun u t => t = ({ u with life := { u.life with jobs := rest } } : State).committed r phase data fuse) := by
  refine event_of_occurLive (k := rankUnit) (fun dt s => execEvNvmOperationDone.eq_1 dt true sector fuse s) (fun _ _ => rfl)
    fun u _ ⟨hup, hj, ho, hi, hw⟩ => ?_
  rw [hup, hj]
  simp only [ho, hi, hw, Bool.not_true, Bool.false_eq_true, if_false]

theorem LifeCycle.sector_modSector (c : LifeCycle) (p : Nat) (f : Sector → Sector) : (c.modSector p f).sector p = f (c.sector p) := by
  simp [LifeCycle.sector, LifeCycle.modSector, Tbl.get, Tbl.find_put_self]

theorem LifeCycle.dropJournal_keeps (c : LifeCycle) :
    c.dropJournal.jobs = c.jobs ∧ c.dropJournal.sectors = c.sectors := by
  unfold LifeCycle.dropJournal
  extract_lets lo c'
  split
  · exact ⟨rfl, rfl⟩
  · have hc : c'.jobs = c.jobs ∧ c'.sectors = c.sectors := by
      show LifeCycle.jobs (match c.openBank with | some b => _ | none => c) = _ ∧ LifeCycle.sectors (match c.openBank with | some b => _ | none => c) = _
      cases c.openBank <;> exact ⟨rfl, rfl⟩
    exact hc

/-- The sector of an erase is in use when it is not retired. -/
theorem State.jobOut_erase {s : State} {n : Nat} (k : ItemKey) (h : (s.life.sector (s.life.phys n)).retired = false) :
    s.jobOut (.erase k n) = none := by
  simp [State.jobOut, State.jobRoles, h]

/-- The erase begins with its intent record (R391 step 1). -/
theorem nvmEraseOpened_does (k : ItemKey) (n sector fuse : Nat) (rest : List NvmJob) :
    EventDoes (fun dt => .evNvmOperationDone dt true sector fuse)
      (fun u => (u.domUp 46 = true ∧ u.life.jobs = .erase k n :: rest ∧ (u.life.sector (u.life.phys n)).retired = false) ∧
        (u.life.sector (u.life.phys n)).intent = none)
      (fun u t => t.life.jobs = u.life.jobs ∧ (t.life.sector (u.life.phys n)).intent = some ((u.life.sector (u.life.phys n)).erases + 1) ∧
        (t.life.sector (u.life.phys n)).erases = (u.life.sector (u.life.phys n)).erases) := by
  refine event_of_occurLive (k := rankUnit) (fun dt s => execEvNvmOperationDone.eq_1 dt true sector fuse s) (fun _ _ => rfl)
    fun u _ ⟨⟨hup, hj, hret⟩, hnone⟩ => ?_
  have hopen : (u.eraseOpened k n).life.jobs = u.life.jobs ∧ (u.eraseOpened k n).life.sectors = (u.life.openErase n).sectors := by
    unfold State.eraseOpened
    extract_lets c
    have key (b : Bool) : (if b then c.dropJournal else c).jobs = c.jobs ∧ (if b then c.dropJournal else c).sectors = c.sectors := by
      cases b
      · exact ⟨rfl, rfl⟩
      · exact LifeCycle.dropJournal_keeps c
    exact key _
  have hsec : (u.eraseOpened k n).life.sector (u.life.phys n) =
      { u.life.sector (u.life.phys n) with intent := some ((u.life.sector (u.life.phys n)).erases + 1) } := by
    rw [LifeCycle.sector, hopen.2]
    refine (LifeCycle.sector_modSector _ _ _).trans ?_
    show ({ u.life.sector (u.life.phys n) with intent := some ((u.life.sector (u.life.phys n)).count + 1) } : Sector) = _
    rw [Sector.count, hnone]
    rfl
  rw [hup, hj]
  simp only [State.jobOut_erase k hret, hnone, Bool.not_true, Bool.false_eq_true, if_false, Option.isNone_none, if_true]
  exact ⟨hopen.1.trans hj, by rw [hsec], by rw [hsec]⟩

theorem State.dropSector_keeps (s : State) (n : Nat) : (s.dropSector n).host = s.host ∧ (s.dropSector n).life.jobs = s.life.jobs ∧
    (s.dropSector n).life.sectors = s.life.sectors ∧ (s.dropSector n).life.remaps = s.life.remaps := by
  unfold State.dropSector
  split
  · exact ⟨rfl, rfl, rfl, rfl⟩
  · split
    · exact ⟨rfl, rfl, rfl, rfl⟩
    · split
      · unfold LifeCycle.badCopy LifeCycle.modCopy
        dsimp only
        split <;> exact ⟨rfl, rfl, rfl, rfl⟩
      · exact ⟨rfl, rfl, rfl, rfl⟩

/-- While an ATLAS_LOAD has another sector to erase, the end of an erase changes no more. -/
theorem State.afterErase_more {s : State} {k : ItemKey} {r : ItemRec} (hi : s.item k = some r) (hc : r.code = 0x52)
    (hm : ∃ m, NvmJob.erase k m ∈ s.life.jobs) : s.afterErase k = s := by
  obtain ⟨m, hm⟩ := hm
  have hmore : (s.life.jobs.any fun j => match j with | .erase q _ => q == k | _ => false) = true :=
    List.any_eq_true.2 ⟨_, hm, by simp⟩
  unfold State.afterErase
  rw [hi]
  simp only [hc, Nat.reduceEqDiff, if_false]
  exact if_pos hmore

/-- The erase ends with its stamp (R391 step 3). -/
theorem nvmErased_does (k : ItemKey) (n sector fuse : Nat) (rest : List NvmJob) (r : ItemRec) (c : Nat) :
    EventDoes (fun dt => .evNvmOperationDone dt true sector fuse)
      (fun u => (u.domUp 46 = true ∧ u.life.jobs = .erase k n :: rest ∧ (u.life.sector (u.life.phys n)).retired = false) ∧
        (u.life.sector (u.life.phys n)).intent = some c ∧ c < 10000 ∧ u.item k = some r ∧ r.code = 0x52 ∧ ∃ m, NvmJob.erase k m ∈ rest)
      (fun u t => t.life.jobs = rest ∧ (t.life.sector (u.life.phys n)).stampOk = true ∧
        (t.life.sector (u.life.phys n)).intent = none ∧ (t.life.sector (u.life.phys n)).erases = c) := by
  refine event_of_occurLive (k := rankUnit) (fun dt s => execEvNvmOperationDone.eq_1 dt true sector fuse s) (fun _ _ => rfl)
    fun u _ ⟨⟨hup, hj, hret⟩, hint, hlt, hi, hc, hm⟩ => ?_
  let v : State := { u with life := ({ u.life with jobs := rest } : LifeCycle).closeErase u.host.epoch.toNat n }
  obtain ⟨hhost, hjobs, hsectors, hremaps⟩ := State.dropSector_keeps v n
  have hphys : (v.dropSector n).life.phys n = u.life.phys n := by
    rw [LifeCycle.phys, hremaps]
    rfl
  have hsec : (v.dropSector n).life.sector (u.life.phys n) =
      { u.life.sector (u.life.phys n) with erases := c, stampOk := true, intent := none, stampEpoch := u.host.epoch.toNat } := by
    rw [LifeCycle.sector, hsectors]
    refine (LifeCycle.sector_modSector _ _ _).trans ?_
    show ({ u.life.sector (u.life.phys n) with
      erases := (u.life.sector (u.life.phys n)).count, stampOk := true, intent := none, stampEpoch := u.host.epoch.toNat } : Sector) = _
    rw [Sector.count, hint]
    rfl
  have hitem : (v.dropSector n).item k = some r := by
    rw [State.item, hhost]
    exact hi
  have hdone : (State.sectorErased { u with life := { u.life with jobs := rest } } k n) = v.dropSector n := by
    show (if ((v.dropSector n).life.sector ((v.dropSector n).life.phys n)).erases < 10000 then (v.dropSector n).afterErase k else _) = _
    rw [hphys, hsec, if_pos hlt]
    refine State.afterErase_more hitem hc ?_
    rw [hjobs]
    exact hm
  rw [hup, hj]
  simp only [State.jobOut_erase k hret, hint, Bool.not_true, Bool.false_eq_true, if_false, Option.isNone_some, if_true]
  rw [hdone]
  exact ⟨hjobs, by rw [hsec], by rw [hsec], by rw [hsec]⟩

/-! #### Going to sleep -/

theorem leNat_natLE (n v : Nat) : leNat (natLE n v) = v % 256 ^ n := by
  induction n generalizing v with
  | zero => simp [natLE, leNat, Nat.mod_one]
  | succ n ih =>
    rw [natLE, leNat, ih, BitVec.toNat_ofNat]
    calc v % 2 ^ 8 + 256 * (v / 256 % 256 ^ n) = v % (256 * 256 ^ n) := Nat.mod_mul.symm
      _ = v % 256 ^ (n + 1) := by rw [Nat.pow_succ' (m := 256)]

/-- A register row is a write frame of its one word. -/
theorem writeWord_acts {dt off : Nat} {v : Word} {s : State} (ho : (s.tick dt).frameOpen = true) (ht : off < 0x10000)
    (hr : rangeCheck off 1 = .ok) : writeWord dt off v s = .next (settle ((s.tick dt).frameEnds ⟨0, 0⟩ 9
      (((s.tick dt).frameActs.regWrite off [v.toNat]).1, ((s.tick dt).frameActs.regWrite off [v.toNat]).2, List.replicate 9 0))) := by
  obtain ⟨hl, he, hh⟩ := State.frameOpen_iff.1 ho
  have hd : (natLE 4 v.toNat).length = 4 * 1 := natLE_length ..
  have hv : v.toNat < 256 ^ 4 := v.isLt
  have hw : payloadWords 1 (framePayload 0x02 off 1 (natLE 4 v.toNat)) = [v.toNat] := by
    have ht : (framePayload 0x02 off 1 (natLE 4 v.toNat)).take 4 = natLE 4 v.toNat := by
      rw [framePayload, List.take_left' hd]
    have : wordAt (framePayload 0x02 off 1 (natLE 4 v.toNat)) 0 = v.toNat := by
      show leNat ((framePayload 0x02 off 1 (natLE 4 v.toNat)).take 4) = _
      rw [ht, leNat_natLE, Nat.mod_eq_of_lt hv]
    show [wordAt _ 0] = _
    rw [this]
  have hn : 4 + (framePayload 0x02 off 1 (natLE 4 v.toNat)).length = 9 := by simp [framePayload]
  have hx : writeWord dt off v s = plainFrame dt ⟨0, 0⟩ 9 s fun h s =>
      writeFrame h off 1 (framePayload 0x02 off 1 (natLE 4 v.toNat)) 0 s := by
    have h := exec_regWrite (dt := dt) (p := framePayload 0x02 off 1 (natLE 4 v.toNat)) (c := ⟨⟨0, 0⟩, 0⟩) (s := s) ht (by decide : 1 < 256)
    rwa [hn] at h
  rw [hx, plainFrame_acts hl he, hh, writeFrame_framePayload _ hd hr, hw]
  rfl

theorem State.powerReq_ok {s : State} (h : s.sleepReason = 0) (m : PwrMode) : s.powerReq m =
    s.setPower fun p => { p with outcome := 1, reason := 0, voter := 0xFF, entering := some m, holdoffs := [], votes := Vector.replicate 64 0 } := by
  unfold State.powerReq
  exact if_neg (by simp [h])

/-- A refused entry counts the refusals and tells why; nothing else changes (R478, R479). -/
theorem State.powerReq_refused {s : State} (h : s.sleepReason ≠ 0) (m : PwrMode) : ∃ a b c, s.powerReq m =
    { s with power := { s.power with refCount := a, refVoter := b, outcome := 2, reason := s.sleepReason, voter := c } } := by
  have key (f : Nat → Nat) : ∀ (ds : List Nat) (t : State), ∃ a b, ds.foldl (fun t d => t.setPower fun p => p.refuse d (f d)) t =
      { t with power := { t.power with refCount := a, refVoter := b } } := by
    intro ds
    induction ds with
    | nil => exact fun t => ⟨t.power.refCount, t.power.refVoter, rfl⟩
    | cons d ds ih =>
      intro t
      obtain ⟨a, b, h⟩ := ih (t.setPower fun p => p.refuse d (f d))
      exact ⟨a, b, h⟩
  obtain ⟨a, b, hk⟩ := key (fun d => (s.refusingVoter d).getD 0xFF) s.refusingDomains s
  unfold State.powerReq
  dsimp only
  rw [if_pos h, hk]
  exact ⟨a, b, _, rfl⟩

theorem rgPwrReq_does : RegisterDoes .rgPwrReq 0x5014 (fun _ _ => True) (fun _ v t => t.power.entering = some (pwrTarget v.toNat) ∧
    (∀ n < 64, t.vote n = 0) ∧ t.power.outcome = 1 ∧ t.power.reason = 0) := by
  intro dt v s u ho hok _
  simp only [State.wordOk, Bool.and_eq_true, Bool.not_eq_true'] at hok
  obtain ⟨hbad, href⟩ := hok
  have hreason : u.sleepReason = 0 := by
    have : (u.sleepReason != 0) = false := href
    simpa using this
  have hput : u.regPut 0x5014 v.toNat = u.powerReq (pwrTarget v.toNat) := rfl
  have hw := State.regWrite_ok (s := u) (off := 0x5014) (ws := [v.toNat]) hbad (by simpa [placed] using href) (by simp [placed])
  refine ⟨_, writeWord_acts ho (by decide) rfl, ?_⟩
  rw [hw]
  simp only [placed, List.zipIdx_cons, List.zipIdx_nil, List.map_cons, List.map_nil, List.foldl_cons, List.foldl_nil, Nat.mul_zero, Nat.add_zero]
  rw [hput, State.powerReq_ok hreason]
  exact ⟨rfl, rfl, rfl, rfl, fun n _ => vget_replicate .., rfl, rfl⟩

theorem rgPwrReq_refused (dt : Nat) (v : Word) (s : State) (ho : (s.tick dt).frameOpen = true)
    (hbad : (s.tick dt).badWords [(0x5014, v.toNat)] = false) (hreason : (s.tick dt).sleepReason ≠ 0) :
    ∃ t, exec (.rgPwrReq dt v) s = .next (settle t) ∧ t.host.lastErr = .stateRefused ∧
      t.power.outcome = 2 ∧ t.power.reason = (s.tick dt).sleepReason ∧ t.power.entering = none ∧ t.power.votes = s.power.votes ∧
      t.landings = s.landings := by
  have hb : (s.tick dt).frameActs.badWords (placed 0x5014 [v.toNat]) = false := hbad
  have hr : (s.tick dt).frameActs.sleepReason ≠ 0 := hreason
  have href : ((placed 0x5014 [v.toNat]).any fun p => (s.tick dt).frameActs.regRefused p.1 p.2) = true := by
    show ((s.tick dt).frameActs.sleepReason != 0 || false) = true
    simp [hr]
  have hreq : (s.tick dt).frameActs.requestRefused (placed 0x5014 [v.toNat]) = (s.tick dt).frameActs.powerReq (pwrTarget v.toNat) :=
    if_pos (by simpa using hr)
  obtain ⟨a, b, c, hp⟩ := State.powerReq_refused hr (pwrTarget v.toNat)
  have hw : (s.tick dt).frameActs.regWrite 0x5014 [v.toNat] = ((s.tick dt).frameActs.powerReq (pwrTarget v.toNat), .stateRefused) := by
    unfold State.regWrite
    dsimp only
    rw [hb, if_neg Bool.false_ne_true, href, if_pos rfl, hreq]
    rfl
  refine ⟨_, writeWord_acts ho (by decide) rfl, ?_⟩
  rw [hw, hp]
  obtain ⟨-, he, -⟩ := State.frameOpen_iff.1 ho
  exact ⟨rfl, rfl, rfl, he, rfl, rfl⟩

/-- A table that is mapped: each entry is the default, or an entry of the table mapped. -/
theorem State.land_map_cases (s : State) (f : Landing → Landing) (l : Nat) :
    vget (s.landings.map f) l Landing.free = Landing.free ∨ ∃ x, vget (s.landings.map f) l Landing.free = f x := by
  by_cases hl : l < 192
  · exact .inr ⟨s.landings[l], by simp [vget, hl]⟩
  · exact .inl (by simp [vget, hl])

/-- What the switch-off leaves (R480 to R483). -/
theorem State.switchOff_does (s : State) (m : PwrMode) :
    let t := s.switchOff m
    t.power.mode = m ∧ t.power.entering = none ∧ t.host.epoch = s.host.epoch ∧ t.host.pages = Mem.empty ∧ t.life.banks = s.life.banks ∧
    t.rel.next = s.rel.next ∧ t.rel.top = s.rel.top ∧ t.sec.root = s.sec.root ∧
    ∀ l < 192, (t.land l).st = .free ∨ (t.land l).st = .unusable := by
  refine ⟨rfl, rfl, rfl, rfl, LifeCycle.cut_banks s.life, rfl, rfl, rfl, fun l _ => ?_⟩
  show (vget (s.landings.map fun x => if x.st == .unusable then x else Landing.free) l Landing.free).st = _ ∨
    (vget (s.landings.map fun x => if x.st == .unusable then x else Landing.free) l Landing.free).st = _
  obtain h | ⟨x, h⟩ := State.land_map_cases s (fun x => if x.st == .unusable then x else Landing.free) l
  · rw [h]
    exact .inl rfl
  · rw [h]
    by_cases hx : x.st = .unusable
    · exact .inr (by simp [hx])
    · exact .inl (by simp [hx, Landing.free])

/-- The error of SLOW is recorded only (R413, R475). -/
theorem State.raise_slowCal (s : State) : s.raise .slowCal .device = s.recordFault .slowCal .device [] :=
  State.raise_of_record s .device [] (fun _ => rfl) (fun _ => rfl) rfl (by decide)

/-- SLOW is calibrated once more before LOBBY (R480). -/
def State.entryCal (u : State) (m : PwrMode) : State :=
  if m = .lobby then
    let (s, e) := u.draw
    let s := s.setPower fun p => p.slowCalibrated (sgn 16 e) s.now
    if 200 < (sgn 16 e).natAbs then s.raise .slowCal .device else s
  else u

theorem State.entryCal_keeps (u : State) (m : PwrMode) : (u.entryCal m).host.epoch = u.host.epoch ∧ (u.entryCal m).life = u.life ∧
    (u.entryCal m).rel = u.rel ∧ (u.entryCal m).sec = u.sec := by
  unfold State.entryCal
  split
  · dsimp only
    split
    · rw [State.raise_slowCal]
      exact ⟨rfl, rfl, rfl, rfl⟩
    · exact ⟨rfl, rfl, rfl, rfl⟩
  · exact ⟨rfl, rfl, rfl, rfl⟩

/-- What a device that has entered mode `m` keeps and what it has lost (R480 to R483). -/
def State.sleptIn (u : State) (m : PwrMode) (t : State) : Prop :=
  t.power.mode = m ∧ t.power.entering = none ∧ t.host.epoch = u.host.epoch ∧ t.host.pages = Mem.empty ∧
  t.life.banks = u.life.banks ∧ t.rel.next = u.rel.next ∧ t.rel.top = u.rel.top ∧ t.sec.root = u.sec.root ∧
  ∀ l < 192, (t.land l).st = .free ∨ (t.land l).st = .unusable

theorem State.sleptIn_switchOff (u : State) (m : PwrMode) : u.sleptIn m ((u.entryCal m).switchOff m) := by
  obtain ⟨hepoch, hlife, hrel, hsec⟩ := State.entryCal_keeps u m
  obtain ⟨h1, h2, h3, h4, h5, h6, h7, h8, h9⟩ := State.switchOff_does (u.entryCal m) m
  exact ⟨h1, h2, h3.trans hepoch, h4, h5.trans (congrArg LifeCycle.banks hlife), h6.trans (congrArg Release.next hrel),
    h7.trans (congrArg Release.top hrel), h8.trans (congrArg Security.root hsec), h9⟩

theorem pwrEntryDone_does (m : PwrMode) :
    EventAnyDoes .evPwrEntryDone (fun u => u.power.entering = some m ∧ ∀ d < 50, u.dom d = .down) (fun u t => u.sleptIn m t) := by
  refine eventAny_of_occurAt execEvPwrEntryDone.eq_1 (fun _ _ => rfl) fun u ⟨he, hd⟩ => ?_
  have hdown : ((List.range 50).all fun d => u.dom d == .down) = true :=
    List.all_eq_true.2 fun d h => beq_iff_eq.2 (hd d (List.mem_range.1 h))
  refine Eq.mpr (congrArg (u.sleptIn m) ?_) (u.sleptIn_switchOff m)
  rw [he]
  exact if_pos hdown

/-! #### Waking -/

/-- What is long enough at 0.5 % slow has been counted out (R475). -/
theorem le_slowCounts {a t now : Nat} (h : a * 200 ≤ (now - t) * 199) : a ≤ slowCounts t now :=
  ((Nat.le_div_iff_mul_le (by decide)).2 h).trans (slowCounts_bounds t now).1

/-- A timer that SLOW has counted out even where it is 0.5 % slow (R475, R552). -/
theorem wakeTimerLapse_does (t0 : Nat) : EventAnyDoes .evWakeTimerLapse
    (fun u => u.power.mode = .lobby ∧ u.power.waking = false ∧ u.power.wakeCfg.testBit 9 = true ∧ u.power.wtimer ≠ 0 ∧
      u.power.slowSince = some t0 ∧ u.power.wtimer * msT * 200 ≤ (u.now - t0) * 199)
    (fun u t => u.wokeBy t 2) := by
  refine eventAny_of_occurAt execEvWakeTimerLapse.eq_1 (fun _ _ => rfl) fun u ⟨hm, hw, hc, hn, hs, ht⟩ => ?_
  have hslow : (u.power.slowSince.any fun t => decide (u.power.wtimer * msT ≤ slowCounts t u.now)) = true :=
    (Option.any_eq_true _ _).2 ⟨t0, hs, decide_eq_true (le_slowCounts ht)⟩
  have hmode : (u.power.mode == .lobby && u.power.wakeCfg.testBit 9 && u.power.wtimer != 0) = true := by
    rw [beq_iff_eq.2 hm, hc, bne_iff_ne.2 hn]
    rfl
  rw [if_pos (Bool.and_eq_true_iff.2 ⟨hmode, hslow⟩)]
  exact State.beginWake_wokeBy 2 (by rw [hm]; decide) hw

/-- FIELD_DETECT tells the tag port of the field, and then the power unit (R277, R484). -/
theorem State.detect_vdd (u : State) (h : u.tag.vdd = true) : (u.tag.detect u.now u.nfc.fieldOn).vdd = true := by
  rw [Tag.detect]
  split <;> exact h

/-- What a field does to a device whose wake source it is, while its own reader is off. -/
theorem execEvWakeFieldDetect_does {dt : Nat} {s : State} (hturn : (s.tick dt).inTurn rankUnit = true)
    (hv : s.tag.vdd = true) (hc : s.power.wakeCfg.testBit 8 = true) (hf : s.nfc.fieldOn = false) :
    let u := (s.tick dt).act rankUnit
    let v := u.setTag (u.tag.detect u.now u.nfc.fieldOn)
    execEvWakeFieldDetect dt s = .next (settle (if u.power.mode == .awake then v.abortEntry 10 0xFD 30 else v.beginWake 1)) := by
  intro u v
  have hd : (if u.tag.vdd then u.setTag (u.tag.detect u.now u.nfc.fieldOn) else u) = v := if_pos hv
  have hgo : (v.tag.vdd && v.power.wakeCfg.testBit 8 && !u.nfc.fieldOn) = true := by
    have h1 : v.tag.vdd = true := State.detect_vdd u hv
    have h2 : v.power.wakeCfg.testBit 8 = true := hc
    have h3 : u.nfc.fieldOn = false := hf
    rw [h1, h2, h3]
    rfl
  rw [execEvWakeFieldDetect, occurAt, occur, if_pos hturn]
  show Host.Outcome.next (settle (if (ite (u.tag.vdd = true) _ u).tag.vdd && (ite (u.tag.vdd = true) _ u).power.wakeCfg.testBit 8 && !u.nfc.fieldOn
    then _ else _)) = _
  rw [hd, if_pos hgo]
  rfl

theorem wakeFieldDetect_wakes : EventAnyDoes .evWakeFieldDetect
    (fun u => u.tag.vdd = true ∧ u.power.wakeCfg.testBit 8 = true ∧ u.nfc.fieldOn = false ∧ u.power.mode ≠ .awake ∧ u.power.waking = false)
    (fun u t => u.wokeBy t 1) := by
  intro dt s u hturn ⟨hv, hc, hf, hm, hw⟩
  refine ⟨_, execEvWakeFieldDetect_does hturn hv hc hf, ?_⟩
  rw [if_neg (show ¬(((s.tick dt).act rankUnit).power.mode == PwrMode.awake) = true from fun h => hm (eq_of_beq h))]
  exact State.beginWake_wokeBy (u := u.setTag (u.tag.detect u.now u.nfc.fieldOn)) 1 hm hw

theorem wakeFieldDetect_aborts : EventAnyDoes .evWakeFieldDetect
    (fun u => u.tag.vdd = true ∧ u.power.wakeCfg.testBit 8 = true ∧ u.nfc.fieldOn = false ∧ u.power.mode = .awake ∧ u.power.entering.isSome = true)
    (fun _ t => t.power.entering = none ∧ t.power.restoring = true ∧ t.power.outcome = 3 ∧ t.power.reason = 2 ^ 10 ∧
      t.vote voterAwake = awakeMask) := by
  intro dt s u hturn ⟨hv, hc, hf, hm, he⟩
  refine ⟨_, execEvWakeFieldDetect_does hturn hv hc hf, ?_⟩
  rw [if_pos (show (((s.tick dt).act rankUnit).power.mode == PwrMode.awake) = true from beq_iff_eq.2 hm), State.abortEntry, if_neg (by
    show ¬ u.power.entering.isNone = true
    obtain ⟨m, h⟩ := Option.isSome_iff_exists.1 he
    rw [h]
    exact Bool.false_ne_true)]
  exact ⟨rfl, rfl, rfl, rfl, vget_vset_self _ _ _ (by decide)⟩

/-! #### Clocks -/

/-- The loss of the root clock, where it is not recorded beside a tamper event, begins a warm reset (R413, R423, R474). -/
theorem State.raise_rootLock {s : State} (hm : s.faults.mode = .normal) (hb : s.power.booting = none) :
    s.raise .rootLock .device = (s.recordFault .rootLock .device [] 2).warmReset := by
  unfold State.raise State.raiseAt
  show (if s.faults.mode = .halt ∨ s.power.booting.isSome = true ∨ s.handlingOf .rootLock .device = .record then _
    else if s.faults.mode = .warm then _ else _) = _
  rw [hm, hb, show s.handlingOf .rootLock .device = .warm from rfl, if_neg (by decide), if_neg (by decide)]
  rfl

theorem rootLockLost_warm : EventAnyDoes .evRootLockLost
    (fun u => u.domUp 30 = true ∧ u.faults.mode = .normal ∧ u.power.booting = none ∧ u.fewWarms ∧ u.power.clockLost = false)
    (fun u t => u.warmBegun t) rankFault := by
  refine eventAny_of_occurAt execEvRootLockLost.eq_1 (fun _ _ => rfl) fun u ⟨hd, hm, hb, hw, hl⟩ => ?_
  simp only [hd, hl, if_true, Bool.false_eq_true, if_false]
  have hraise := State.raise_rootLock (s := u.setPower fun p => { p with rootLock := false, clockLost := false }) hm hb
  exact hraise ▸ State.warmReset_begun (s := State.recordFault _ .rootLock .device [] 2) hw

theorem rootLockLost_tamper : EventAnyDoes .evRootLockLost (fun u => u.domUp 30 = true ∧ u.power.clockLost = true)
    (fun u t => t.power.rootLock = false ∧ t.power.clockLost = false ∧ t.faults.lastCause = Cause.rootLock.num ∧
      t.faults.mode = u.faults.mode ∧ t.power.domains = u.power.domains ∧ t.landings = u.landings) rankFault := by
  refine eventAny_of_occurAt execEvRootLockLost.eq_1 (fun _ _ => rfl) fun u ⟨hd, hl⟩ => ?_
  rw [if_pos hd]
  dsimp only
  rw [if_pos hl]
  exact ⟨rfl, rfl, rfl, rfl, rfl, rfl⟩

theorem slowCalibrate_does (err : Int) : EventDoes (fun dt => .evSlowCalibrate dt err)
    (fun u => u.domUp 30 = true ∧ u.power.slowAt + 1000 * msT ≤ u.now) (k := faultRank (decide (200 < err.natAbs)))
    (fun u t => t.power.slowErr = err ∧ t.power.slowTrim = u.power.slowTrim - err ∧ t.power.slowCals = (u.power.slowCals + 1) % 65536 ∧
      t.power.slowAt = u.now ∧ (err.natAbs ≤ 200 → t.faults = u.faults) ∧ (200 < err.natAbs → t.faults.lastCause = Cause.slowCal.num)) := by
  refine event_of_occurLive (fun dt s => execEvSlowCalibrate.eq_1 dt err s) (fun _ _ => rfl) fun u _ ⟨hd, ht⟩ => ?_
  rw [if_pos (by simp [hd, ht])]
  by_cases h : 200 < err.natAbs
  · rw [if_pos h, State.raise_slowCal]
    exact ⟨rfl, rfl, rfl, rfl, fun h' => absurd h (by omega), fun _ => rfl⟩
  · rw [if_neg h]
    exact ⟨rfl, rfl, rfl, rfl, fun _ => rfl, fun h' => absurd h' h⟩

theorem refinQualifyChange_does (q : Bool) : EventDoes (fun dt => .evRefinQualifyChange dt q) (fun u => u.gal.isSlave = true ∧ u.power.refQual ≠ q)
    (fun u t => t = { u with power := { u.power with refQual := q, refSrc := q, switches := (u.power.switches + 1) % 65536 }
                             rng := { u.rng with alignValid := q && u.rng.alignValid } }) := by
  refine event_of_occurLive (fun dt s => execEvRefinQualifyChange.eq_1 dt q s) (fun _ _ => rfl) fun u _ ⟨hs, hq⟩ => ?_
  rw [if_pos (by simp [hs, hq])]
  cases q <;> rfl

/-! #### Domains -/

theorem State.dom_setDom (s : State) {d : Nat} (x : Dom) (h : d < 50) : (s.setDom d x).dom d = x := vget_vset_self _ _ _ h

theorem State.dom_setDom_ne (s : State) {d e : Nat} (x : Dom) (h : e ≠ d) : (s.setDom d x).dom e = s.dom e := vget_vset_ne _ _ _ h

/-- What the units of a domain do as it has risen leaves the domains, the landings and the host link (R171, R196, R237, R327, R350). -/
theorem State.risen_keeps (s : State) (d : Nat) : (s.risen d).power.domains = s.power.domains ∧
    (s.risen d).power.voteWaits = s.power.voteWaits ∧ (s.risen d).sec.queue = s.sec.queue ∧ (s.risen d).landings = s.landings ∧
    (s.risen d).host = s.host := by
  unfold State.risen
  split
  · exact ⟨rfl, rfl, rfl, rfl, rfl⟩
  · split
    · exact ⟨rfl, rfl, rfl, rfl, rfl⟩
    · split
      · exact ⟨rfl, rfl, rfl, rfl, rfl⟩
      · split
        · exact ⟨rfl, rfl, rfl, rfl, rfl⟩
        · split <;> exact ⟨rfl, rfl, rfl, rfl, rfl⟩

theorem State.votesDone_of_none {s : State} (h : s.power.voteWaits = []) : s.votesDone = s := by
  rw [State.votesDone, h]
  rfl

theorem State.serveEngines_of_none {s : State} (h : s.sec.queue = []) : s.serveEngines = s := by
  rw [State.serveEngines, h]
  rfl

/-- What a rise changes of the units of its domain. -/
theorem State.risen_units (s : State) (d : Nat) :
    (d = 29 → (s.risen d).uwb.cal = some (s.uwb.lastch, s.now) ∧ (s.risen d).uwb.rising = true ∧ (s.risen d).uwb.mode = .cal) ∧
    (d = 30 → (s.risen d).rng.tscBase = s.now ∧ (s.risen d).rng.era = (s.rng.era + 1) % 65536 ∧ (s.risen d).power.rootLock = true ∧
      (s.risen d).power.xtalOk = true) ∧
    (d = 33 → (s.risen d).uhf.cal = some (s.uhf.sniff.elim s.uhf.lastBand (·.search.band), s.now)) ∧
    (d = 43 → s.sec.ent ≠ .alarm → s.marked unitEntropy = false → (s.risen d).sec.ent = .startUp ∧ (s.risen d).sec.startPos = 0) := by
  refine ⟨?_, ?_, ?_, ?_⟩
  · rintro rfl
    exact ⟨rfl, rfl, rfl⟩
  · rintro rfl
    exact ⟨rfl, rfl, rfl, rfl⟩
  · rintro rfl
    rfl
  · rintro rfl ha hm
    have : (if s.sec.ent = .alarm ∨ s.marked unitEntropy = true then s.sec.ent else .startUp) = .startUp :=
      if_neg (by simp [ha, hm])
    exact ⟨this, rfl⟩

/-- A rise in time, with no VOTE_SET and no engine's landing that waits (R489). -/
theorem domainRiseDone_does (d t0 : Nat) : EventAnyDoes (fun dt => .evDomainRiseDone dt d)
    (fun u => (u.power.mode = .awake ∨ u.power.waking = true) ∧ d < 50 ∧ u.dom d = .rising t0 ∧ u.now ≤ t0 + 2 * riseUs d * usT ∧
      (d = 30 ∨ u.domUp 30 = true) ∧ u.power.voteWaits = [] ∧ u.sec.queue = [])
    (fun u t => t.dom d = .up ∧ (∀ e, e ≠ d → t.dom e = u.dom e) ∧ t.landings = u.landings ∧ t.host = u.host ∧
      (d = 29 → t.uwb.cal = some (u.uwb.lastch, u.now) ∧ t.uwb.rising = true ∧ t.uwb.mode = .cal) ∧
      (d = 30 → t.rng.tscBase = u.now ∧ t.rng.era = (u.rng.era + 1) % 65536 ∧ t.power.rootLock = true ∧ t.power.xtalOk = true) ∧
      (d = 33 → t.uhf.cal = some (u.uhf.sniff.elim u.uhf.lastBand (·.search.band), u.now)) ∧
      (d = 43 → u.sec.ent ≠ .alarm → u.marked unitEntropy = false → t.sec.ent = .startUp ∧ t.sec.startPos = 0)) := by
  refine eventAny_of_occurAt (fun dt s => execEvDomainRiseDone.eq_1 dt d s) (fun _ _ => rfl) fun u ⟨hm, hd, hdom, ht, h30, hv, hq⟩ => ?_
  obtain ⟨hdoms, hvotes, hqueue, hland, hhost⟩ := State.risen_keeps (u.setDom d .up) d
  obtain ⟨h29, hu30, h33, h43⟩ := State.risen_units (u.setDom d .up) d
  have hserved : (((u.setDom d .up).risen d).votesDone).serveEngines = (u.setDom d .up).risen d := by
    rw [State.votesDone_of_none (hvotes.trans hv), State.serveEngines_of_none (hqueue.trans hq)]
  have hgo : (u.power.mode == .awake || u.power.waking || (d == 33 && u.uhf.sniff.isSome)) = true := by
    rcases hm with hm | hm <;> simp [hm]
  have hin : u.now ≤ t0 + 2 * riseUs d * usT ∧ (d = 30 ∨ u.domUp 30 = true ∨ (d == 33 && u.uhf.sniff.isSome) = true) :=
    ⟨ht, h30.imp_right .inl⟩
  dsimp only
  rw [if_pos hgo, hdom]
  dsimp only
  rw [if_pos hin, hserved]
  have hup : ((u.setDom d .up).risen d).dom d = .up := by
    rw [State.dom, hdoms]
    exact State.dom_setDom u .up hd
  have hother : ∀ e, e ≠ d → ((u.setDom d .up).risen d).dom e = u.dom e := fun e he => by
    rw [State.dom, hdoms]
    exact State.dom_setDom_ne u .up he
  generalize (u.setDom d .up).risen d = v at *
  split
  · exact ⟨hup, hother, hland, hhost, h29, hu30, h33, h43⟩
  · exact ⟨hup, hother, hland, hhost, h29, hu30, h33, h43⟩

theorem domainFallDone_rests (d t0 : Nat) : EventAnyDoes (fun dt => .evDomainFallDone dt d)
    (fun u => u.mayFall d = true ∧ u.dom d = .falling t0 none) (fun u t => t = u.setDom d .down) := by
  refine eventAny_of_occurAt (fun dt s => execEvDomainFallDone.eq_1 dt d s) (fun _ _ => rfl) fun u ⟨hf, hd⟩ => ?_
  rw [if_pos hf, hd]

/-- A fall that a vote awaits: the rise that was deferred begins (R156, R490). -/
theorem domainFallDone_rises (d t0 t1 : Nat) : EventAnyDoes (fun dt => .evDomainFallDone dt d)
    (fun u => d < 50 ∧ u.mayFall d = true ∧ u.dom d = .falling t0 (some t1))
    (fun u t => t.dom d = .rising u.now ∧ t.power.deferCount = (u.power.deferCount + 1) % 256 ∧ t.power.deferDomain = d ∧
      t.power.deferDelay = min 65535 ((u.now - t1) / usT) ∧ ∀ e, e ≠ d → t.dom e = u.dom e) := by
  refine eventAny_of_occurAt (fun dt s => execEvDomainFallDone.eq_1 dt d s) (fun _ _ => rfl) fun u ⟨hlt, hf, hd⟩ => ?_
  rw [if_pos hf, hd]
  dsimp only
  unfold State.deferredRise
  extract_lets us v _ w
  have hw : w.power = v.power ∧ w.now = u.now := by
    show State.power (ite (35 ≤ d ∧ d < 39) _ v) = _ ∧ State.now (ite (35 ≤ d ∧ d < 39) _ v) = _
    split <;> exact ⟨rfl, rfl⟩
  obtain ⟨hp, hn⟩ := hw
  have hother : ∀ e, w.dom e = u.dom e := fun e => by
    rw [State.dom, hp]
    rfl
  refine ⟨?_, ?_, ?_, ?_, fun e he => ?_⟩
  · rw [State.dom_setDom w _ hlt, hn]
  · show w.power.deferCount = _
    rw [hp]
    rfl
  · show w.power.deferDomain = _
    rw [hp]
    rfl
  · show w.power.deferDelay = _
    rw [hp]
    rfl
  · rw [State.dom_setDom_ne w _ he, hother]

theorem voteHoldoffLapse_does (d t0 : Nat) : EventDoes (fun dt => .evVoteHoldoffLapse dt d)
    (fun u => Tbl.find u.power.holdoffs d = some t0 ∧ t0 ≤ u.now ∧ (u.vote voterSched).testBit d = true)
    (fun u t => t.vote voterSched = u.vote voterSched - 2 ^ d ∧ Tbl.find t.power.holdoffs d = none ∧
      ∀ v, v ≠ voterSched → t.vote v = u.vote v) := by
  refine event_of_occurLive (fun dt s => execEvVoteHoldoffLapse.eq_1 dt d s) (fun _ _ => rfl) fun u _ ⟨hf, ht, hb⟩ => ?_
  rw [hf]
  dsimp only
  rw [if_pos ht, if_pos hb]
  exact ⟨vget_vset_self _ _ _ (by decide), Tbl.find_del_self .., fun v hv => vget_vset_ne _ _ _ hv⟩

theorem domainRiseTimeout_does (d t0 : Nat) : EventAnyDoes (fun dt => .evDomainRiseTimeout dt d)
    (fun u => u.power.mode = .awake ∧ u.power.booting = none ∧ u.faults.mode = .normal ∧ d < 50 ∧ d ≠ 30 ∧ d ≠ 46 ∧ d ≠ 49 ∧
      u.dom d = .rising t0 ∧ t0 + 2 * riseUs d * usT < u.now)
    (fun u t => u.recoversFrom t .domainRise (.domain d) ∧ t.dom d = .down ∧ t.bist.unus &&& domUnits d = domUnits d) rankFault := by
  refine eventAny_of_occurAt (fun dt s => execEvDomainRiseTimeout.eq_1 dt d s) (fun _ _ => rfl)
    fun u ⟨hm, hb, hn, hd, h30, h46, h49, hdom, ht⟩ => ?_
  rw [if_pos (by simp [hm]), hdom]
  dsimp only
  rw [if_pos ht]
  obtain ⟨hr, hp, hu⟩ := State.raise_domainRise (s := u.setDom d .down) hn hb h30 h46 h49
  refine ⟨hr, ?_, hu⟩
  rw [State.dom, hp]
  exact State.dom_setDom u .down hd

/-- Settles O58, a lemma for each event. -/
theorem powerResetEvents : Obligations.PowerResetEvents :=
  ⟨powerOnReset_does, brownOut_does, rstnReset_does, activateColdReset_does,
    fun b marks failed kat cause sram halt => coldStartBistDone_does b marks failed kat cause sram halt, wakeComplete_does,
    otpReread_near, otpReread_same, nvmCommitDone_does,
    fun k n sector fuse rest => ⟨nvmEraseOpened_does k n sector fuse rest, nvmErased_does k n sector fuse rest⟩,
    rgPwrReq_does, rgPwrReq_refused, pwrEntryDone_does, wakeTimerLapse_does, wakeFieldDetect_wakes, wakeFieldDetect_aborts,
    rootLockLost_warm, rootLockLost_tamper, slowCalibrate_does, refinQualifyChange_does, domainRiseDone_does,
    domainFallDone_rests, domainFallDone_rises, voteHoldoffLapse_does, domainRiseTimeout_does⟩

end Sys2Proof.Machine

namespace Sys2Proof.Machine

open Sys2Proof

/-! ### Airtime -/

/-! #### Claims that are granted -/

/-- An outcome writes a register and Z, and nothing else (R60). -/
theorem Landing.outcome_eq (x : Landing) (d : Nat) (c : Code) (detail count : Nat) : x.outcome d c detail count =
    { x with regs := (x.setReg d (outcomeWord c.num detail count)).regs, flags := { x.flags with z := c == .ok } } := by
  unfold Landing.outcome
  rw [Landing.setReg_eq]

/-- A wait that ends with an outcome and no count, where nothing asks for the end of the flight (R60, R64). -/
theorem State.stepEnds_outcome_eq (s : State) {l : Nat} (d : Nat) (c : Code) (he : (s.land l).endReq = none) :
    (s.stepEnds l fun x => x.outcome d c 0 0) = s.setLand l { s.land l with
      regs := ((s.land l).setReg d (BitVec.ofNat 32 c.num)).regs, flags := { (s.land l).flags with z := c == .ok }
      wait := .none, pc := (s.land l).pc + 1, readySince := s.now } := by
  have hend : ((s.land l).outcome d c 0 0).endReq = none := by rw [Landing.outcome_eq]; exact he
  have hword : outcomeWord c.num 0 0 = BitVec.ofNat 32 c.num := by simp [outcomeWord]
  rw [State.stepEnds_eq s l _ hend, Landing.outcome_eq, hword]

/-- A claim that may be granted is granted whole (R116). -/
theorem airGrant_does (l d : Nat) (c : AirClaim) : EventDoes (fun dt => .evAirGrant dt l)
    (fun u => u.air.claims.find? (fun e => e.landing == l) = some c ∧ (u.land l).wait = .airClaim d ∧ (u.land l).endReq = none ∧
      l < 192 ∧ u.air.eligible u.now c = true ∧ u.airUp c.mask = true ∧ u.airReady c.mask = true)
    (fun u t => u.waitEnded t l d .ok ∧ u.othersKeep t l ∧ t.air.claims = u.air.claims.filter (fun e => e.landing != l) ∧
      ∃ g, t.air.grants = u.air.grants ++ [g] ∧ g.landing = l ∧ g.mask = c.mask ∧ g.prio = c.prio ∧ g.budgetUs = c.budgetUs ∧
        g.suspended = false ∧ g.heldSince = u.now ∧ g.exch = none) := by
  refine event_of_occurLive (fun dt s => execEvAirGrant.eq_1 dt l s) (fun _ _ => rfl) fun u _ ⟨hc, hw, he, hl, hel, hup, hready⟩ => ?_
  have hgo : (u.air.eligible u.now c && u.airUp c.mask && u.airReady c.mask) = true := by simp [hel, hup, hready]
  rw [hc, hw]
  dsimp only
  rw [if_pos hgo]
  have hends (a : Air) := State.stepEnds_outcome_eq { u with air := a } d .ok he
  rw [hends]
  refine ⟨?_, fun m hm => State.land_setLand_ne _ _ hm, rfl, _, rfl, rfl, rfl, rfl, rfl, rfl, rfl, rfl⟩
  rw [State.waitEnded, State.land_setLand _ _ hl]
  exact ⟨rfl, rfl, rfl, rfl⟩

/-! #### Restoring -/

/-- Nothing is restored where a claim of higher priority takes the resources of every suspended grant first (R120). -/
theorem restoreLoop_of_taken {a : Air} (h : ∀ g ∈ a.grants, g.suspended = true → a.takenAbove g.mask g.prio = true) (now fuel : Nat)
    (ls : List (Nat × Nat)) : restoreLoop now fuel a ls = (a, ls) := by
  cases fuel with
  | zero => rfl
  | succ n =>
    have hnone : a.grants.filter (fun g => g.suspended && (g.mask &&& a.held == 0) && !a.takenAbove g.mask g.prio) = [] := by
      refine List.filter_eq_nil_iff.2 fun g hg => ?_
      cases hs : g.suspended with
      | false => simp
      | true => simp [h g hg hs]
    rw [restoreLoop, hnone]
    rfl

theorem State.restore_air_of_taken {s : State} (h : ∀ g ∈ s.air.grants, g.suspended = true → s.air.takenAbove g.mask g.prio = true) :
    s.restore.air = s.air :=
  congrArg Prod.fst (restoreLoop_of_taken h s.now s.air.grants.length [])

/-- Where every grant is suspended no resource is held: a claim that wants a resource takes it. -/
theorem Air.takenAbove_of_suspended {a : Air} (h : ∀ g ∈ a.grants, g.suspended = true) (mask prio : Nat) :
    a.takenAbove mask prio = a.wantedAbove mask prio := by
  have hheld : a.held = 0 := by
    have : a.grants.filter (fun g => !g.suspended) = [] := List.filter_eq_nil_iff.2 fun g hg => by simp [h g hg]
    rw [Air.held, this]
    rfl
  simp [Air.takenAbove, Air.wantedAbove, hheld]

/-- A single grant, of a resource that a claim of higher priority wants, is not restored. -/
theorem State.restore_air_of_wanted {s : State} {g : Grant} (hg : s.air.grants = [g]) (hw : s.air.wantedAbove g.mask g.prio = true) :
    s.restore.air = s.air := by
  refine State.restore_air_of_taken fun h hh hs => ?_
  rw [hg, List.mem_singleton] at hh
  subst hh
  rw [Air.takenAbove_of_suspended (fun k hk => ?_), hw]
  rw [hg, List.mem_singleton] at hk
  rw [hk, hs]

/-! #### Budgets -/

/-- What a landing notes of the resources that it gives up leaves the airtime scheduler. -/
theorem State.foldl_modLand_air (l : Nat) (f : State → Grant → Landing → Landing) (gs : List Grant) (s : State) :
    (gs.foldl (fun s g => s.modLand l (f s g)) s).air = s.air := by
  induction gs generalizing s with
  | nil => rfl
  | cons g gs ih => exact ih _

/-- A mask without its own resources is empty. -/
theorem mask_and_compl (m : Nat) : m &&& (15 ^^^ (m &&& 15)) = 0 := by
  refine Nat.eq_of_testBit_eq fun i => ?_
  have h15 : (15 : Nat).testBit i = decide (i < 4) := Nat.testBit_two_pow_sub_one 4 i
  simp only [Nat.testBit_and, Nat.testBit_xor, h15, Nat.zero_testBit]
  cases m.testBit i <;> simp

/-- A landing that gives up all resources of the only grant leaves no grant. -/
theorem State.airRelease_whole {s : State} {l : Nat} {g : Grant} (hg : s.air.grants = [g]) (hl : g.landing = l) :
    (s.airRelease l g.mask).air.grants = [] := by
  unfold State.airRelease
  extract_lets mine v gs
  have hgs : gs = [] := by
    have hv : v.air = s.air := State.foldl_modLand_air l _ mine s
    simp [gs, hv, hg, hl, mask_and_compl]
  have hnone : ∀ h ∈ gs, h.suspended = true → Air.takenAbove { v.air with grants := gs } h.mask h.prio = true := by simp [hgs]
  exact (congrArg Air.grants (State.restore_air_of_taken hnone)).trans hgs

/-- The grants of a landing that hold a mask, in a table of one grant of it. -/
theorem map_grant_single {g : Grant} {l : Nat} (hl : g.landing = l) (f : Grant → Grant) :
    [g].map (fun h => if h.landing == l && h.mask == g.mask then f h else h) = [f g] := by
  simp [hl]

/-- A spent budget lapses at once outside an exchange and at the next boundary inside one (R117). -/
theorem budgetExhausted_does (l : Nat) (g : Grant) : EventDoes (fun dt => .evBudgetExhausted dt l)
    (fun u => u.air.grants = [g] ∧ g.landing = l ∧ g.suspended = false ∧ g.budgetEnd ≤ u.now)
    (fun _ t => (g.exch = none → t.air.grants = []) ∧ (g.exch.isSome = true → t.air.grants = [{ g with lapsing := true }])) := by
  refine event_of_occurLive (fun dt s => execEvBudgetExhausted.eq_1 dt l s) (fun _ _ => rfl) fun u _ ⟨hg, hl, hs, hb⟩ => ?_
  have hdue : u.air.grants.filter (fun g => g.landing == l && !g.suspended && decide (g.budgetEnd ≤ u.now)) = [g] := by
    simp [hg, hl, hs, hb]
  dsimp only
  rw [hdue, List.foldl_cons, List.foldl_nil]
  refine ⟨fun he => ?_, fun he => ?_⟩
  · rw [if_pos (by simp [he])]
    exact State.airRelease_whole hg hl
  · rw [if_neg (by simp [Option.isSome_iff_ne_none.1 he])]
    show u.air.grants.map _ = _
    rw [hg]
    exact map_grant_single hl _

/-! #### Pre-emption -/

/-- A waiting claim of higher priority suspends a grant that has held for MINHOLD, at the next boundary if it is in an exchange (R119). -/
theorem minholdReached_does (l : Nat) (g : Grant) : EventDoes (fun dt => .evMinholdReached dt l)
    (fun u => u.air.grants = [g] ∧ g.landing = l ∧ g.suspended = false ∧ g.prio ≠ 0 ∧ g.heldSince + g.minHoldUs * usT ≤ u.now ∧
      u.air.wantedAbove g.mask g.prio = true)
    (fun u t => t.air.claims = u.air.claims ∧
      (g.exch = none → t.air.grants = [{ g with suspended := true, usedTicks := g.usedTicks + (u.now - g.heldSince) }]) ∧
      (g.exch.isSome = true → t.air.grants = [{ g with preempted := true }])) := by
  refine event_of_occurLive (fun dt s => execEvMinholdReached.eq_1 dt l s) (fun _ _ => rfl) fun u _ ⟨hg, hl, hs, hp, hh, hw⟩ => ?_
  have hdue : u.air.grants.filter (fun g => g.landing == l && !g.suspended && g.prio != 0
      && decide (g.heldSince + g.minHoldUs * usT ≤ u.now) && u.air.wantedAbove g.mask g.prio) = [g] := by
    simp [hg, hl, hs, hp, hh, hw]
  dsimp only
  rw [hdue, List.foldl_cons, List.foldl_nil]
  have hmap := map_grant_single hl fun h =>
    if h.exch.isNone then { h with suspended := true, usedTicks := h.ticks u.now } else { h with preempted := true }
  rw [← hg] at hmap
  rw [State.restore_air_of_wanted hmap (by split <;> exact hw), hmap]
  refine ⟨rfl, fun he => ?_, fun he => ?_⟩
  · simp [he, Grant.ticks, hs]
  · simp [Option.isSome_iff_ne_none.1 he]

/-! #### Exchange boundaries -/

/-- The exchange of the grant that holds resource r ends if it is over: what the boundary event does for each resource (R118). -/
def State.exchangeDue (l : Nat) (s : State) (r : Nat) : State :=
  match s.air.grantOf l r with
  | some g => match g.exch with
    | some e => if e.over s.now then s.boundary l r else s
    | none => s
  | none => s

theorem execEvExchangeBoundary_eq (dt l : Nat) (s : State) : execEvExchangeBoundary dt l s =
    occurLive dt s fun s => (List.range 4).foldl (State.exchangeDue l) s := rfl

/-- The only grant is one of landing l, and holds resource r alone. -/
def Air.onlyHolds (a : Air) (l r : Nat) (g : Grant) : Prop := a.grants = [g] ∧ g.landing = l ∧ g.mask = 2 ^ r

theorem Air.onlyHolds.grantOf {a : Air} {l r : Nat} {g : Grant} (h : a.onlyHolds l r g) (i : Nat) :
    a.grantOf l i = if r = i then some g else none := by
  obtain ⟨hg, hl, hm⟩ := h
  by_cases hi : r = i <;> simp [Air.grantOf, hg, hl, hm, hi]

theorem Air.onlyHolds.modGrant {a : Air} {l r : Nat} {g : Grant} (h : a.onlyHolds l r g) (f : Grant → Grant) :
    (a.modGrant l r f).grants = [f g] := by
  obtain ⟨hg, hl, hm⟩ := h
  simp [Air.modGrant, hg, hl, hm]

/-- The event leaves the other resources alone. -/
theorem State.exchangeDue_of_ne {s : State} {l r i : Nat} {g : Grant} (h : s.air.onlyHolds l r g) (hi : i ≠ r) :
    State.exchangeDue l s i = s := by
  rw [State.exchangeDue, h.grantOf, if_neg hi.symm]

/-- An exchange boundary of the only grant, whose budget is not spent: a claim of higher priority suspends it once it has held for MINHOLD
(R119), and it goes on with its exchange over otherwise (R118). -/
theorem State.boundary_grants {s : State} {l r : Nat} {g : Grant} (h : s.air.onlyHolds l r g) (hlap : g.lapsing = false)
    (hb : s.now < g.budgetEnd) : (s.boundary l r).air.grants =
      [if (g.preempted || g.held s.now) && s.air.wantedAbove g.mask g.prio then
        { g with exch := none, suspended := true, usedTicks := g.ticks s.now, preempted := false }
      else { g with exch := none, preempted := false }] := by
  have hgo : ¬(g.lapsing || decide (g.budgetEnd ≤ s.now)) = true := by simp [hlap, hb]
  unfold State.boundary
  rw [h.grantOf, if_pos rfl]
  dsimp only
  rw [if_neg hgo]
  split
  · next hpre =>
    have hmod := h.modGrant fun g => { g with exch := none, suspended := true, usedTicks := g.ticks s.now, preempted := false }
    have hair := State.restore_air_of_wanted (s := { s with air := s.air.modGrant l r _ }) hmod (Bool.and_eq_true_iff.1 hpre).2
    exact (congrArg Air.grants hair).trans hmod
  · exact h.modGrant _

/-- A fold in which only the element r has an effect on the states of P. -/
theorem foldl_eq_single {α β : Type} {f : β → α → β} {r : α} {P : β → Prop} (hf : ∀ b, P b → ∀ a, a ≠ r → f b a = b) {b : β} (hb : P b)
    (hr : P (f b r)) {xs : List α} (hn : xs.Nodup) (hm : r ∈ xs) : xs.foldl f b = f b r := by
  have stays : ∀ {b}, P b → ∀ {ys : List α}, r ∉ ys → ys.foldl f b = b := by
    intro b hb ys
    induction ys with
    | nil => exact fun _ => rfl
    | cons y ys ih =>
      intro hy
      rw [List.foldl_cons, hf b hb y (by rintro rfl; simp at hy)]
      exact ih fun hmem => hy (List.mem_cons_of_mem _ hmem)
  obtain ⟨as, bs, rfl⟩ := List.append_of_mem hm
  rw [List.nodup_append] at hn
  obtain ⟨-, hbs, hdisj⟩ := hn
  rw [List.foldl_append, List.foldl_cons, stays hb fun h => hdisj r h r (by simp) rfl, stays hr (List.nodup_cons.1 hbs).1]

/-- An exchange that is over ends; a claim of higher priority suspends the grant then, once it has held for MINHOLD (R118, R119). -/
theorem exchangeBoundary_does (l r : Nat) (g : Grant) (e : Exchange) : EventDoes (fun dt => .evExchangeBoundary dt l)
    (fun u => u.air.grants = [g] ∧ g.landing = l ∧ r < 4 ∧ g.mask = 2 ^ r ∧ g.exch = some e ∧ e.over u.now = true ∧ g.lapsing = false ∧
      u.now < g.budgetEnd)
    (fun u t => (u.air.wantedAbove g.mask g.prio = false → t.air.grants = [{ g with exch := none, preempted := false }]) ∧
      ((g.preempted || g.held u.now) = false → t.air.grants = [{ g with exch := none, preempted := false }]) ∧
      ((g.preempted || g.held u.now) = true → u.air.wantedAbove g.mask g.prio = true →
        t.air.grants = [{ g with exch := none, suspended := true, usedTicks := g.ticks u.now, preempted := false }])) := by
  refine event_of_occurLive (fun dt s => execEvExchangeBoundary_eq dt l s) (fun _ _ => rfl)
    fun u _ ⟨hg, hl, hr, hm, he, ho, hlap, hb⟩ => ?_
  have honly : u.air.onlyHolds l r g := ⟨hg, hl, hm⟩
  have hgrants := State.boundary_grants honly hlap hb
  have hdue : State.exchangeDue l u r = u.boundary l r := by
    rw [State.exchangeDue, honly.grantOf, if_pos rfl]
    dsimp only
    rw [he]
    exact if_pos ho
  have hfold : (List.range 4).foldl (State.exchangeDue l) u = u.boundary l r := by
    rw [← hdue]
    refine foldl_eq_single (P := fun v => ∃ h, v.air.onlyHolds l r h) (fun v ⟨_, hv⟩ i => State.exchangeDue_of_ne hv) ⟨g, honly⟩ ?_
      List.nodup_range (List.mem_range.2 hr)
    rw [hdue]
    exact ⟨_, hgrants, by split <;> exact hl, by split <;> exact hm⟩
  rw [hfold, hgrants]
  refine ⟨fun hw => ?_, fun hp => ?_, fun hp hw => ?_⟩
  · simp [hw]
  · simp [hp]
  · simp [hp, hw]

/-- Settles O27, a lemma for each event. -/
theorem airtimeEvents : Obligations.AirtimeEvents :=
  ⟨airGrant_does, budgetExhausted_does, minholdReached_does, exchangeBoundary_does⟩

/-! ### Pipes -/

/-! #### The landing that a pipe takes -/

/-- No landing lies past the table. -/
theorem State.land_eq_free {s : State} {l : Nat} (h : 192 ≤ l) : s.land l = Landing.free := by
  simp [State.land, vget, h]

theorem State.land_lt_of_runnable {s : State} {l : Nat} (h : (s.land l).runnable = true) : l < 192 := by
  by_contra hl
  rw [State.land_eq_free (Nat.le_of_not_lt hl)] at h
  exact absurd h (by decide)

theorem State.mem_landsWhere {s : State} {p : Landing → Bool} {l : Nat} : l ∈ s.landsWhere p ↔ l < 192 ∧ p (s.land l) = true := by
  simp only [State.landsWhere, List.mem_map, List.mem_filter, Prod.exists, List.mem_zipIdx_iff_getElem?, exists_eq_right]
  by_cases hl : l < 192
  · simp [hl, State.land, vget]
  · simp [hl]

/-- A landing may take a pipe if it is runnable and no pipe serves it (R111). -/
theorem State.mem_candidates {s : State} {l : Nat} : l ∈ s.candidates ↔ (s.land l).runnable = true ∧ s.offPipes l := by
  simp only [State.candidates, List.mem_filter, State.mem_landsWhere, State.offPipes, Bool.not_eq_true', List.any_eq_false, beq_iff_eq]
  exact ⟨fun ⟨⟨_, hr⟩, hp⟩ => ⟨hr, hp⟩, fun ⟨hr, hp⟩ => ⟨⟨State.land_lt_of_runnable hr, hr⟩, hp⟩⟩

theorem mem_of_nextAfter {last : Option Nat} {ls : List Nat} {l : Nat} (h : nextAfter last ls = some l) : l ∈ ls := by
  unfold nextAfter at h
  cases last with
  | none => exact List.mem_of_head? h
  | some p =>
    dsimp only at h
    cases hf : (ls.filter fun l => decide (p < l)).head? with
    | none =>
      rw [hf] at h
      exact List.mem_of_head? h
    | some k =>
      rw [hf] at h
      obtain rfl : k = l := Option.some.inj h
      exact List.mem_of_mem_filter (List.mem_of_head? hf)

/-- The best priority of a list is at least as high as that of any landing in it. -/
theorem State.bestPrio_le (s : State) {ls : List Nat} {m : Nat} (h : m ∈ ls) : s.bestPrio ls ≤ (s.land m).prio := by
  have key : ∀ (ls : List Nat) (a : Nat), ls.foldl (fun k l => min k (s.land l).prio) a ≤ a ∧
      ∀ m ∈ ls, ls.foldl (fun k l => min k (s.land l).prio) a ≤ (s.land m).prio := by
    intro ls
    induction ls with
    | nil => simp
    | cons l ls ih =>
      intro a
      obtain ⟨hstart, hall⟩ := ih (min a (s.land l).prio)
      refine ⟨hstart.trans (Nat.min_le_left ..), fun m hm => ?_⟩
      obtain rfl | hm := List.mem_cons.1 hm
      · exact hstart.trans (Nat.min_le_right ..)
      · exact hall m hm
  exact (key ls 4).2 m h

/-- The landing that a turn by priority takes: one that may take a pipe, of the highest priority there is (R111). -/
theorem State.pick_spec {s : State} {l : Nat} (h : s.pick false = some l) : (s.land l).runnable = true ∧ s.offPipes l ∧
    ∀ m, (s.land m).runnable = true → s.offPipes m → (s.land l).prio ≤ (s.land m).prio := by
  have hmem := mem_of_nextAfter h
  simp only [List.mem_filter, beq_iff_eq] at hmem
  obtain ⟨hcand, hprio⟩ := hmem
  obtain ⟨hrun, hoff⟩ := State.mem_candidates.1 hcand
  exact ⟨hrun, hoff, fun m hm ho => hprio ▸ s.bestPrio_le (State.mem_candidates.2 ⟨hm, ho⟩)⟩

/-! #### Turns -/

/-- A turn that begins: the pipe serves the landing, with a full quantum (R111). -/
theorem State.beginTurn_pipe (s : State) {p : Nat} (l : Nat) (hp : p < 8) : (s.beginTurn p l).pipe p =
    { s.pipe p with serving := some l, turnSteps := 0, quantum := s.sched.quantum
                    turns := if (s.pipe p).turns + 1 < s.sched.aging then (s.pipe p).turns + 1 else 0
                    turnStart := s.now, stepAt := s.now } := vget_vset_self _ _ _ hp

theorem State.beginTurn_pipe_ne (s : State) {p q : Nat} (l : Nat) (h : q ≠ p) : (s.beginTurn p l).pipe q = s.pipe q :=
  vget_vset_ne _ _ _ h

/-- The turn of a landing ends: it waits for a pipe from now on (R111, R112). -/
abbrev State.turnEnds (s : State) (l : Nat) : State := (s.modLand l fun x => { x with readySince := s.now }).leavePipe l

theorem State.turnEnds_land (s : State) (l m : Nat) : (s.turnEnds l).land m =
    if l = m ∧ l < 192 then { s.land l with readySince := s.now } else s.land m := State.land_setLand_eq s l m _

/-- The lowest-numbered free pipe takes a runnable landing that no pipe serves, of the highest priority there is (R111). -/
theorem pipeDispatch_takes (p l : Nat) : EventDoes (fun dt => .evPipeDispatch dt p)
    (fun u => u.freePipe = some p ∧ (u.pipe p).agedTurn u.sched.aging = false ∧ u.pick false = some l)
    (fun u t => (t.pipe p).serving = some l ∧ (t.pipe p).turnSteps = 0 ∧ (t.pipe p).quantum = u.sched.quantum ∧
      (t.pipe p).turnStart = u.now ∧ (∀ q, q ≠ p → t.pipe q = u.pipe q) ∧ t.landings = u.landings ∧ t.halls = u.halls ∧
      (u.land l).runnable = true ∧ (∀ q ∈ u.sched.pipes.toList, q.serving ≠ some l) ∧
      (∀ m, (u.land m).runnable = true → (∀ q ∈ u.sched.pipes.toList, q.serving ≠ some m) → (u.land l).prio ≤ (u.land m).prio)) := by
  refine event_of_occurLive (fun dt s => execEvPipeDispatch.eq_1 dt p s) (fun _ _ => rfl) fun u _ ⟨hfree, hturn, hpick⟩ => ?_
  have hp : p < 8 := List.mem_range.1 (List.mem_of_find?_eq_some hfree)
  rw [State.pipe] at hturn
  dsimp only
  rw [hfree, hturn, hpick]
  dsimp only
  rw [if_pos rfl, State.beginTurn_pipe u l hp]
  exact ⟨rfl, rfl, rfl, rfl, fun q => State.beginTurn_pipe_ne u l, rfl, rfl, State.pick_spec hpick⟩

/-! #### Pre-emption -/

/-- The pipe that is pre-empted serves a landing of lower priority (R113). -/
theorem State.victim_serves {s : State} {prio p : Nat} (h : s.victim prio = some p) :
    ∃ v, (s.pipe p).serving = some v ∧ prio < (s.land v).prio := by
  suffices hinv : ∀ k, s.victim prio = some k → ∃ v, (s.pipe k).serving = some v ∧ prio < (s.land v).prio from hinv p h
  refine List.foldlRecOn (motive := fun m => ∀ k, m = some k → ∃ v, (s.pipe k).serving = some v ∧ prio < (s.land v).prio) _ _
    (fun k hk => nomatch hk) fun m hm q _ => ?_
  dsimp only
  split
  · exact hm
  · next l hl =>
    split
    · exact hm
    · next hlow =>
      have hq : ∀ k, some q = some k → ∃ v, (s.pipe k).serving = some v ∧ prio < (s.land v).prio := by
        rintro k ⟨rfl⟩
        exact ⟨l, hl, by omega⟩
      split
      · exact hq
      · split
        · exact hq
        · split
          · exact hq
          · exact hm

/-- With no free pipe a landing of higher priority takes the pipe of a lower one, which waits for a pipe from then on (R113). -/
theorem pipeDispatch_preempts (p l v : Nat) : EventDoes (fun dt => .evPipeDispatch dt p)
    (fun u => u.freePipe = none ∧ u.pick false = some l ∧ u.victim (u.land l).prio = some p ∧ (u.pipe p).serving = some v ∧ p < 8 ∧
      (u.pipe p).turnStart < (u.land l).readySince ∧ (u.pipe p).agedTurn u.sched.aging = false)
    (fun u t => (t.pipe p).serving = some l ∧ (t.pipe p).turnSteps = 0 ∧ (t.land v).readySince = u.now ∧
      (t.land v).regs = (u.land v).regs ∧ (t.land v).pc = (u.land v).pc ∧ (u.land l).prio < (u.land v).prio ∧ t.halls = u.halls) := by
  refine event_of_occurLive (fun dt s => execEvPipeDispatch.eq_1 dt p s) (fun _ _ => rfl)
    fun u _ ⟨hfree, hpick, hvic, hserve, hp, hready, hturn⟩ => ?_
  obtain ⟨hrun, hoff, -⟩ := State.pick_spec hpick
  have hnew : u.newcomer p = true :=
    List.any_eq_true.2 ⟨l, State.mem_candidates.2 ⟨hrun, hoff⟩, by rw [State.pipe] at hready; simp [hvic, hready]⟩
  have hprio : (u.land l).prio < (u.land v).prio := by
    obtain ⟨w, hw, hlow⟩ := State.victim_serves hvic
    rw [hserve] at hw
    rwa [Option.some.inj hw]
  have hv : v < 192 := by
    by_contra hn
    rw [State.land_eq_free (Nat.le_of_not_lt hn)] at hprio
    exact absurd hprio (Nat.not_lt_zero _)
  rw [State.pipe] at hserve hturn
  dsimp only
  rw [hfree, hpick, hserve]
  dsimp only
  rw [if_pos hnew, if_neg (Bool.not_eq_true _ ▸ hturn : ¬ Pipe.agedTurn _ (State.sched (u.turnEnds v)).aging = true)]
  have hland : (State.beginTurn (u.turnEnds v) p l).land v = { u.land v with readySince := u.now } :=
    (State.turnEnds_land u v v).trans (if_pos ⟨rfl, hv⟩)
  rw [State.beginTurn_pipe _ l hp, hland]
  exact ⟨rfl, rfl, rfl, rfl, rfl, hprio, rfl⟩

/-- A turn of QUANTUM steps ends (R111). -/
theorem quantumExpire_does (p l : Nat) : EventDoes (fun dt => .evQuantumExpire dt p)
    (fun u => (u.pipe p).serving = some l ∧ (u.pipe p).quantum ≤ (u.pipe p).turnSteps)
    (fun u t => (∀ q ∈ t.sched.pipes.toList, q.serving ≠ some l) ∧ (u.land l).sameContext (t.land l) ∧ u.othersKeep t l ∧
      t.halls = u.halls) := by
  refine event_of_occurLive (fun dt s => execEvQuantumExpire.eq_1 dt p s) (fun _ _ => rfl) fun u _ ⟨hserve, hsteps⟩ => ?_
  rw [State.pipe] at hserve hsteps
  dsimp only
  rw [hserve]
  dsimp only
  rw [if_pos hsteps]
  refine ⟨State.leavePipe_offPipes _ l, ?_, fun m hm => (State.turnEnds_land u l m).trans (if_neg fun h => hm h.1.symm), rfl⟩
  show (u.land l).sameContext ((u.turnEnds l).land l)
  rw [State.turnEnds_land]
  split <;> exact ⟨rfl, rfl, rfl, rfl, rfl, rfl, rfl, rfl, rfl, rfl⟩

/-- Settles O28, a lemma for each event. -/
theorem pipeEvents : Obligations.PipeEvents := ⟨pipeDispatch_takes, pipeDispatch_preempts, quantumExpire_does⟩

/-! ### DMA -/

/-- A command of units that act, in its turn, has its effect. -/
theorem occurLive_acts {k dt : Nat} {s : State} {f : State → State} (hlive : ((s.tick dt).act k).live = true)
    (hturn : (s.tick dt).inTurn k = true) : occurLive dt s f k = .next (settle (f ((s.tick dt).act k))) := by
  rw [occurLive, occurAt, occur, if_pos hturn, if_pos hlive]

/-! #### Starts -/

theorem takeFirst_some {α : Type} {p : α → Bool} {a : α} : ∀ {l t : List α}, takeFirst p l = some (a, t) → p a = true ∧ a ∈ l
  | [], _, h => nomatch h
  | b :: l, t, h => by
    unfold takeFirst at h
    split at h
    · next hb =>
      cases h
      exact ⟨hb, by simp⟩
    · obtain ⟨⟨c, r⟩, hr, hc⟩ := Option.map_eq_some_iff.1 h
      cases hc
      obtain ⟨hp, hm⟩ := takeFirst_some hr
      exact ⟨hp, List.mem_cons_of_mem _ hm⟩

/-- Every channel below the one that a descriptor takes moves something, or a recovery holds it (R135). -/
theorem State.freeChannel_lowest {s : State} {ch : Nat} (h : s.freeChannel = some ch) :
    ∀ k, k < ch → (s.dma.chan k).active = true ∨ s.inSet (.dma k) = true := by
  intro k hk
  obtain ⟨-, -, hlow⟩ := List.find?_range_eq_some.1 h
  have := hlow k hk
  cases ha : (s.dma.chan k).active
  · simp [ha] at this
    exact .inr this
  · exact .inl rfl

/-- The first descriptor that may start takes the lowest idle channel (R135). -/
theorem dmaDescriptorStart_does (dt ch : Nat) (s : State) (d : Desc) (rest : List Desc) : let u := (s.tick dt).act rankUnit
    u.live = true → (s.tick dt).inTurn rankUnit = true → u.unhushed = true → u.bist.running = false → u.domUp 49 = true →
    u.freeChannel = some ch → takeFirst u.descReady u.dma.waiting = some (d, rest) →
    exec (.evDmaDescriptorStart dt) s = .next (settle { u with dma := { u.dma with
      waiting := rest, chans := vset u.dma.chans ch (Chan.mk true false false 0 (some { d with lastGranule := u.now })) } }) ∧
    u.descReady d = true ∧ d ∈ u.dma.waiting ∧ ∀ k, k < ch → (u.dma.chan k).active = true ∨ u.inSet (.dma k) = true := by
  intro u hlive hturn hhush hbist hdom hch htake
  obtain ⟨hready, hmem⟩ := takeFirst_some htake
  refine ⟨?_, hready, hmem, State.freeChannel_lowest hch⟩
  have hgo : ¬(u.bist.running || !u.domUp 49 || !u.unhushed) = true := by simp [hbist, hdom, hhush]
  show execEvDmaDescriptorStart dt s = _
  rw [execEvDmaDescriptorStart, occurLive_acts hlive hturn]
  rw [if_neg hgo, hch, htake]

/-! #### Granules -/

@[simp] theorem State.hallWrite_now (s : State) (l h off : Nat) (bs : List Byte) : (s.hallWrite l h off bs).now = s.now := by
  rw [State.hallWrite_eq]

@[simp] theorem State.dmaWrite_now (s : State) (d : Desc) (bs : List Byte) : (s.dmaWrite d bs).now = s.now := by
  unfold State.dmaWrite
  dsimp only
  split
  · rfl
  · split
    · exact State.core_now ((State.setHallPoison_core ..).trans (State.hallWrite_core ..))
    · exact State.hallWrite_now ..
  · rfl

theorem not_decide_le (m n : Nat) : (!decide (m ≤ n)) = decide (n < m) := by
  rw [← decide_not, decide_eq_decide, Nat.not_le]

/-- A descriptor that goes on shows its progress on the channel, and leads on to what it serves once it is done (R135). -/
theorem State.descStep_eq (s : State) (ch : Nat) (e : Desc) :
    s.descStep ch e = if e.len ≤ e.done then (s.chanShows ch e).descDone e else s.chanShows ch e := by
  unfold State.descStep State.chanShows
  dsimp only
  rw [not_decide_le]
  simp only [decide_eq_true_eq]

/-- A granule whose source is not poisoned comes to its destination (R130). -/
theorem State.granule_of_read {s : State} {ch : Nat} {d : Desc} {bs : List Byte} (h : s.dmaRead d = some bs) :
    s.granule ch d = s.granuleCame ch d bs := by
  unfold State.granule
  rw [h]
  dsimp only
  rw [State.descStep_eq, State.dmaWrite_now]
  unfold State.granuleCame Desc.took
  cases d.dst <;> rfl

/-- A granule whose source is poisoned fails its descriptor (R131, R132). -/
theorem State.granule_of_poison {s : State} {ch : Nat} {d : Desc} (h : s.dmaRead d = none) : s.granule ch d = s.failDesc ch 2 .failedFault := by
  unfold State.granule
  rw [h]

/-- What a source granule brings about for the descriptor that runs on its channel: an error of SRAM or of NVM, nothing while the bytes have
to wait, or a granule (R129 to R131, R347). -/
theorem granuleDelivered_acts {k dt ch err n : Nat} {s : State} {d : Desc} (hr : faultRank (err == 1 || err == 3) = k)
    (hturn : (s.tick dt).inTurn k = true) (hm : ((s.tick dt).act k).moves ch d) (h4 : d.srcKind ≠ 4) :
    let u := (s.tick dt).act k
    exec (.evDmaGranuleDelivered dt ch err n) s = .next (settle (
      if err = 1 ∧ d.srcKind ≠ 3 then (u.failDesc ch 1 .failedFault).sourceError d n
      else if err = 3 ∧ d.srcKind = 3 then (u.failDesc ch 3 .failedFault).raise .nvmRead (.sector n) (u.sectorDetail n)
      else if u.landsInFlight d || u.stageHeld d then u
      else u.granule ch d)) := by
  intro u
  obtain ⟨hlive, hhush, -, hactive, hdesc⟩ := hm
  have hgo : ¬(decide (d.srcKind = 4) || !u.unhushed) = true := by
    have hu : u.unhushed = true := hhush
    simp [h4, hu]
  show execEvDmaGranuleDelivered dt ch err n s = _
  rw [execEvDmaGranuleDelivered, hr, occurLive_acts hlive hturn, hactive, hdesc]
  dsimp only
  rw [if_neg hgo]

/-- Outside the halls of a busy landing the next granule of a running descriptor is delivered, or fails it (R130, R131). -/
theorem granuleDelivered_moves {dt ch n : Nat} {s : State} {d : Desc} (hturn : (s.tick dt).inTurn rankUnit = true)
    (hm : ((s.tick dt).act rankUnit).moves ch d) (h4 : d.srcKind ≠ 4) (hl : ((s.tick dt).act rankUnit).landsInFlight d = false)
    (hs : ((s.tick dt).act rankUnit).stageHeld d = false) :
    exec (.evDmaGranuleDelivered dt ch 0 n) s = .next (settle (((s.tick dt).act rankUnit).granule ch d)) := by
  rw [granuleDelivered_acts (k := rankUnit) rfl hturn hm h4, if_neg (by simp), if_neg (by simp), hl, hs]
  rfl

/-- In a hall of a busy landing the next granule comes between two steps (R129). -/
theorem hallWriteGranule_acts {dt ch : Nat} {s : State} {d : Desc} (hturn : (s.tick dt).inTurn rankUnit = true)
    (hm : ((s.tick dt).act rankUnit).moves ch d) (hl : ((s.tick dt).act rankUnit).landsInFlight d = true) :
    exec (.evHallWriteGranule dt ch) s = .next (settle (((s.tick dt).act rankUnit).granule ch d)) := by
  obtain ⟨hlive, hhush, -, hactive, hdesc⟩ := hm
  show execEvHallWriteGranule dt ch s = _
  rw [execEvHallWriteGranule, occurLive_acts hlive hturn]
  rw [hactive, hdesc]
  simp [hhush, hl]

/-- An error of a source granule, of SRAM or of NVM, fails its descriptor and is raised (R131, R413). -/
theorem granuleError_acts (dt ch n : Nat) (s : State) (d : Desc) : let u := (s.tick dt).act rankFault
    (s.tick dt).inTurn rankFault = true → u.moves ch d → d.srcKind ≠ 4 →
    (d.srcKind ≠ 3 → exec (.evDmaGranuleDelivered dt ch 1 n) s = .next (settle ((u.failDesc ch 1 .failedFault).sourceError d n))) ∧
    (d.srcKind = 3 → exec (.evDmaGranuleDelivered dt ch 3 n) s =
      .next (settle ((u.failDesc ch 3 .failedFault).raise .nvmRead (.sector n) (u.sectorDetail n)))) := by
  intro u hturn hm h4
  refine ⟨fun h3 => ?_, fun h3 => ?_⟩
  · rw [granuleDelivered_acts (k := rankFault) rfl hturn hm h4, if_pos ⟨rfl, h3⟩]
  · rw [granuleDelivered_acts (k := rankFault) rfl hturn hm h4, if_neg (by simp), if_pos ⟨rfl, h3⟩]

theorem State.hallRead_length (s : State) (l h off n : Nat) : (s.hallRead l h off n).length = n := by
  unfold State.hallRead
  split
  · exact sliceP_length ..
  · exact Mem.readN_length ..
  · exact Mem.readN_length ..
  · exact Mem.readN_length ..

/-- A granule reaches to the next 32-byte boundary of its destination, or to the end of its descriptor (R130). -/
theorem State.dmaRead_length {u : State} {d : Desc} {bs : List Byte} (h : u.dmaRead d = some bs) (hb : ∀ b, d.src ≠ .bytes b) :
    bs.length = min (32 - (d.dstOff + d.done) % 32) (d.len - d.done) := by
  rw [Nat.min_comm]
  unfold State.dmaRead at h
  dsimp only at h
  split at h
  · split at h
    · exact nomatch h
    · cases h
      exact Mem.readN_length ..
  · split at h
    · exact nomatch h
    · cases h
      exact State.hallRead_length ..
  · next b hs => exact absurd hs (hb b)

/-! #### Blocks of the external image -/

/-- A block that passes its check joins the bytes in staging; one that fails it fails the descriptor (R408, R409, R564). -/
theorem ospiBlockChecked_acts (dt ch l : Nat) (block tag : List Byte) (s : State) (d : Desc) : let u := (s.tick dt).act rankUnit
    (s.tick dt).inTurn rankUnit = true → u.moves ch d → d.srcKind = 4 → d.job = .initFetch l →
    (u.blockPasses u.libImage (u.fetchAt l d / 1024) block tag = true →
      exec (.evOspiBlockChecked dt ch block tag) s = .next (settle (u.blockCame ch l d block))) ∧
    (u.blockPasses u.libImage (u.fetchAt l d / 1024) block tag = false → exec (.evOspiBlockChecked dt ch block tag) s =
      .next (settle ({ u with life := u.life.fetched (u.fetchAt l d / 1024) false }.failDesc ch 4 .imageMacFail))) := by
  intro u hturn ⟨hlive, hhush, _, hactive, hdesc⟩ hk hjob
  have hgo : ¬(d.srcKind ≠ 4 ∨ u.unhushed = false) := by simp [hk, hhush]
  show (_ → execEvOspiBlockChecked dt ch block tag s = _) ∧ (_ → execEvOspiBlockChecked dt ch block tag s = _)
  rw [execEvOspiBlockChecked, occurLive_acts hlive hturn, show (s.tick dt).act rankUnit = u from rfl]
  clear_value u
  rw [hactive, hdesc]
  dsimp only
  rw [if_neg hgo, hjob]
  dsimp only
  refine ⟨fun hpass => ?_, fun hfail => ?_⟩
  · rw [hpass, if_neg (by simp)]
    unfold State.blockCame State.chanShows
    dsimp only
    rw [hjob]
    generalize d.buf ++ _ = buf
    rw [not_decide_le]
    simp only [decide_eq_true_eq]
    split <;> rfl
  · rw [hfail]
    rfl

/-! #### Failures -/

theorem mem_insRange {lo hi j : Nat} {l : List Nat} : j ∈ insRange lo hi l ↔ (lo ≤ j ∧ j ≤ hi) ∨ j ∈ l := by
  have key : ∀ (is l : List Nat), j ∈ is.foldl (fun a i => insN (lo + i) a) l ↔ (∃ i ∈ is, j = lo + i) ∨ j ∈ l := by
    intro is
    induction is with
    | nil => simp
    | cons i is ih =>
      intro l
      rw [List.foldl_cons, ih, mem_insN]
      simp [or_assoc, or_left_comm]
  rw [insRange, key]
  refine or_congr_left ⟨fun ⟨i, hi, hj⟩ => ?_, fun ⟨hlo, hhi⟩ => ⟨j - lo, ?_, by omega⟩⟩
  · rw [List.mem_range] at hi
    omega
  · rw [List.mem_range]
    omega

/-- A failed descriptor that serves no item and no start: what it has not written is poisoned, and its channel shows the cause (R131). -/
theorem State.failDesc_cir {u : State} {ch l : Nat} {d : Desc} (hm : u.moves ch d) (hj : d.job = .cir l) (cause : Nat) (c : Code) :
    u.failDesc ch cause c = { u.dmaPoison d with dma := { u.dma with
      chans := vset u.dma.chans ch { u.dma.chan ch with active := false, doneFlag := false, failed := true, cause := cause } } } := by
  obtain ⟨-, -, -, hactive, hdesc⟩ := hm
  have hjob (v : State) : v.jobFails d c = v := by
    unfold State.jobFails
    rw [hj]
  unfold State.failDesc
  dsimp only
  rw [hactive, hdesc]
  dsimp only
  rw [hjob]
  split
  · next h => rw [hj] at h; cases h
  · rw [State.dmaPoison_dma]

/-- The failure of a descriptor that captures into a page (R131). -/
theorem failDesc_poisons (u : State) (ch cause l p : Nat) (c : Code) (d : Desc) : u.moves ch d → d.job = .cir l → d.dst = .page p →
    d.done < d.len → let t := u.failDesc ch cause c
    t.dma.chan ch = { u.dma.chan ch with active := false, doneFlag := false, failed := true, cause := cause } ∧
    (∀ k, k ≠ ch → t.dma.chan k = u.dma.chan k) ∧ t.halls = u.halls ∧ t.landings = u.landings ∧
    ∀ g, (0x800 * p + d.dstOff + d.done) / 32 ≤ g → g ≤ (0x800 * p + d.dstOff + d.len - 1) / 32 → g ∈ t.host.pagePoison := by
  intro hm hj hdst hlen t
  have hpoison : u.dmaPoison d = { u with host := { u.host with
      pagePoison := insRange ((0x800 * p + (d.dstOff + d.done)) / 32) ((0x800 * p + (d.dstOff + d.len - 1)) / 32) u.host.pagePoison } } := by
    rw [State.dmaPoison, if_neg (Nat.not_le.2 hlen), hdst]
  have ht : t = _ := State.failDesc_cir hm hj cause c
  rw [hpoison] at ht
  rw [ht]
  obtain ⟨-, -, hch, -, -⟩ := hm
  refine ⟨vget_vset_self _ _ _ hch, fun k hk => vget_vset_ne _ _ _ hk, rfl, rfl, fun g hlo hhi => mem_insRange.2 (.inl ⟨?_, ?_⟩)⟩
  · rwa [← Nat.add_assoc]
  · rwa [← Nat.add_sub_assoc (by omega), ← Nat.add_assoc]

/-- Settles O33, a lemma for each clause. -/
theorem dmaEvents : Obligations.DmaEvents :=
  ⟨dmaDescriptorStart_does,
    fun _ _ _ _ _ _ hturn hm hk hl hs hr => (granuleDelivered_moves hturn hm hk hl hs).trans (by rw [State.granule_of_read hr]),
    fun _ _ _ _ _ hturn hm hl hr => (hallWriteGranule_acts hturn hm hl).trans (by rw [State.granule_of_read hr]),
    ospiBlockChecked_acts, fun _ _ _ hr _ hb => State.dmaRead_length hr hb,
    fun _ _ _ _ _ hturn hm hk hr => ⟨fun hl hs => (granuleDelivered_moves hturn hm hk hl hs).trans (by rw [State.granule_of_poison hr]),
      fun hl => (hallWriteGranule_acts hturn hm hl).trans (by rw [State.granule_of_poison hr])⟩,
    granuleError_acts, failDesc_poisons⟩

end Sys2Proof.Machine

namespace Sys2Proof.Machine

open Sys2Proof

/-! ### LF coils -/

/-! #### Single coils -/

theorem Lf.coil_get (f : Lf) {n : Nat} (h : n < 8) : f.coils.get ⟨n, h⟩ = f.coil n := by
  rw [Lf.coil, vget, List.getD_eq_getElem _ _ (by simpa using h)]
  rfl

/-- There are eight coils. -/
theorem Lf.coil_of_le (f : Lf) {n : Nat} (h : 8 ≤ n) : f.coil n = Coil.reset := by
  simp [Lf.coil, vget, h]

theorem Lf.coil_congr {f g : Lf} (h : f.coils = g.coils) (n : Nat) : f.coil n = g.coil n := by rw [Lf.coil, h, Lf.coil]

/-- A coil after the coils of a mask have changed. -/
theorem Lf.coil_modMask (f : Lf) (m : Nat) (g : Coil → Coil) {n : Nat} (h : n < 8) :
    (f.modMask m g).coil n = if m.testBit n then g (f.coil n) else f.coil n := by
  rw [← f.coil_get h]
  exact vget_ofFn _ _ h

theorem Lf.coil_modCoil (f : Lf) (g : Coil → Coil) {n : Nat} (h : n < 8) : (f.modCoil n g).coil n = g (f.coil n) :=
  vget_vset_self _ _ _ h

theorem Lf.coil_modCoil_ne (f : Lf) (g : Coil → Coil) {n m : Nat} (h : m ≠ n) : (f.modCoil n g).coil m = f.coil m :=
  vget_vset_ne _ _ _ h

/-! #### The tunes of a step -/

/-- A tune changes its coil and the step. -/
theorem Lf.takeTune_eq (f : Lf) (r : LfRun) (at1 : Nat) (t : LfTune) :
    (f.takeTune r at1 t).1 = { f with coils := (f.takeTune r at1 t).1.coils } := by
  unfold Lf.takeTune
  dsimp only
  split
  · split <;> rfl
  · rfl

theorem Lf.foldl_takeTune_eq (at1 : Nat) (ts : List LfTune) (q : Lf × LfRun) :
    (ts.foldl (fun q t => q.1.takeTune q.2 at1 t) q).1 =
      { q.1 with coils := (ts.foldl (fun q t => q.1.takeTune q.2 at1 t) q).1.coils } := by
  induction ts generalizing q with
  | nil => rfl
  | cons t ts ih => rw [List.foldl_cons, ih, Lf.takeTune_eq]

/-- Coming to the frame changes the coils, the step and what is on air (R149). -/
theorem Lf.due_eq (f : Lf) (now : Nat) :
    f.due now = { f with coils := (f.due now).coils, run := (f.due now).run, sent := (f.due now).sent } := by
  unfold Lf.due
  split
  · rfl
  · split
    · rfl
    · dsimp only
      split
      · rfl
      · split
        · rfl
        · rw [Lf.foldl_takeTune_eq]
          rfl

@[simp] theorem Lf.due_carrier (f : Lf) (now : Nat) : (f.due now).carrier = f.carrier := by rw [Lf.due_eq]
@[simp] theorem Lf.due_coilEn (f : Lf) (now : Nat) : (f.due now).coilEn = f.coilEn := by rw [Lf.due_eq]
@[simp] theorem Lf.due_frameCfg (f : Lf) (now : Nat) : (f.due now).frameCfg = f.frameCfg := by rw [Lf.due_eq]
@[simp] theorem Lf.due_noiseCfg (f : Lf) (now : Nat) : (f.due now).noiseCfg = f.noiseCfg := by rw [Lf.due_eq]
@[simp] theorem Lf.due_vlf (f : Lf) (now : Nat) : (f.due now).vlf = f.vlf := by rw [Lf.due_eq]
@[simp] theorem Lf.due_vlfLow (f : Lf) (now : Nat) : (f.due now).vlfLow = f.vlfLow := by rw [Lf.due_eq]
@[simp] theorem Lf.due_overtemp (f : Lf) (now : Nat) : (f.due now).overtemp = f.overtemp := by rw [Lf.due_eq]

/-! #### Dumps and latches -/

/-- A coil after a dump of the coils of a mask has begun (R155). -/
theorem State.lfDump_coil (s : State) (m : Nat) {n : Nat} (h : n < 8) : (s.lfDump m).lf.coil n =
    if m.testBit n then { s.lf.coil n with dump := some ((s.lf.coil n).dump.getD s.now) } else s.lf.coil n := by
  let f := s.lf.modMask m fun c => { c with dump := some (c.dump.getD s.now) }
  have hf : (s.lfDump m).lf.coil n = f.coil n := Lf.coil_congr rfl n
  rw [hf, Lf.coil_modMask _ _ _ h]

/-- A latched fault that stops its coil: its bit, its dump, its cause, and nothing else of a coil or a landing (R153, R155). -/
theorem State.lfFault_stops (s : State) {n b : Nat} (c : Cause) (hn : n < 8) (hb : b ≠ 3) :
    let t := s.lfFault n b c
    (t.lf.coil n).fault = (s.lf.coil n).fault ||| 2 ^ b ∧ (t.lf.coil n).dump.isSome = true ∧
      (∀ m, m ≠ n → t.lf.coil m = s.lf.coil m) ∧ t.faults.lastCause = c.num ∧ t.landings = s.landings := by
  intro t
  let v := (s.setLf (s.lf.modCoil n fun c => { c with fault := c.fault ||| 2 ^ b })).recordFault c (.coil n) []
  have ht : t = v.lfDump (2 ^ n) := if_neg hb
  have hself : t.lf.coil n = { v.lf.coil n with dump := some ((v.lf.coil n).dump.getD v.now) } := by
    rw [ht, State.lfDump_coil _ _ hn, Nat.testBit_two_pow_self, if_pos rfl]
  have hv : (v.lf.coil n).fault = (s.lf.coil n).fault ||| 2 ^ b := congrArg Coil.fault (Lf.coil_modCoil s.lf _ hn)
  refine ⟨by rw [hself, ← hv], by rw [hself]; rfl, fun m hm => ?_, by rw [ht]; rfl, by rw [ht]; rfl⟩
  rcases Nat.lt_or_ge m 8 with h8 | h8
  · rw [ht, State.lfDump_coil _ _ h8, Nat.testBit_two_pow_of_ne hm.symm, if_neg Bool.false_ne_true]
    exact Lf.coil_modCoil_ne s.lf _ hm
  · rw [Lf.coil_of_le _ h8, Lf.coil_of_le _ h8]

/-- A condition of R154 latches its bit and its cause, and dumps every enabled coil. -/
theorem State.lfStop_does (s : State) (b : Nat) (c : Cause) : let t := s.lfStop b c
    t.lf.vlf = s.lf.vlf ∧ t.lf.vlfLow = s.lf.vlfLow ∧ t.lf.overtemp = s.lf.overtemp ∧ t.lf.faultSys.testBit b = true ∧
      (∀ n, n < 8 → s.lf.coilEn.testBit n = true → (t.lf.coil n).dump.isSome = true) ∧ t.faults.lastCause = c.num := by
  intro t
  let f := s.lf.due s.now
  let v := (s.setLf { f with faultSys := f.faultSys ||| 2 ^ b }).recordFault c .device []
  have ht : t = v.lfDump f.coilEn := rfl
  refine ⟨Lf.due_vlf .., Lf.due_vlfLow .., Lf.due_overtemp .., ?_, fun n hn hen => ?_, rfl⟩
  · show (f.faultSys ||| 2 ^ b).testBit b = true
    rw [Nat.testBit_or, Nat.testBit_two_pow_self, Bool.or_true]
  · rw [ht, State.lfDump_coil _ _ hn, Lf.due_coilEn, if_pos hen]
    rfl

/-- A step that starts once its dumps are over changes no coil (R156). -/
theorem State.lfUnblock_keeps (s : State) : s.lfUnblock.lf.coils = s.lf.coils ∧ s.lfUnblock.faults = s.faults := by
  unfold State.lfUnblock
  split
  · split
    · split <;> exact ⟨rfl, rfl⟩
    · exact ⟨rfl, rfl⟩
  · exact ⟨rfl, rfl⟩

theorem State.lfUnblock_coil (s : State) (n : Nat) : s.lfUnblock.lf.coil n = s.lf.coil n := by
  rw [Lf.coil, s.lfUnblock_keeps.1]
  rfl

/-! #### Shorts and opens -/

/-- A short stops the bridge of an enabled coil and dumps it; the other coils go on (R153, R155). -/
theorem lfCoilShort_does (n : Nat) : EventDoes (fun dt => .evLfCoilShort dt n)
    (fun u => n < 8 ∧ u.lfDue.lf.coilEn.testBit n = true)
    (fun u t => (t.lf.coil n).fault = (u.lfDue.lf.coil n).fault ||| 2 ∧ (t.lf.coil n).dump.isSome = true ∧
      (∀ m, m ≠ n → t.lf.coil m = u.lfDue.lf.coil m) ∧ t.faults.lastCause = Cause.lfShort.num ∧ t.landings = u.landings) rankFault := by
  refine event_of_occurLive (fun dt s => execEvLfCoilShort.eq_1 dt n s) (fun _ _ => rfl) fun u _ hok => ?_
  dsimp only
  rw [if_pos hok]
  exact u.lfDue.lfFault_stops .lfShort hok.1 (by decide)

/-- OPEN is told of a driving coil, 8 carrier cycles after its first BOOST (R153). -/
theorem State.lfOpen_of_drives {u : State} {n t0 : Nat} {r : LfRun} (hrun : u.lfDue.lf.run = some r) (hstart : r.start = some t0)
    (hdrives : u.lfDue.lf.drives n u.now = true)
    (hlate : u.lfDue.lf.frameAt r t0 + u.lfDue.lf.halfCycles (u.lfDue.lf.coil n).boost + u.lfDue.lf.cycles 8 ≤ u.now) :
    u.lfOpen n = u.lfDue.lfFault n 0 .lfOpen := by
  unfold State.lfOpen
  dsimp only
  rw [hrun]
  dsimp only
  rw [hstart]
  exact if_pos (Bool.and_eq_true_iff.2 ⟨hdrives, decide_eq_true hlate⟩)


/-- Units that act are awake, and not in a scan. -/
theorem State.live_awake {s : State} (h : s.live = true) : s.power.mode = .awake ∧ s.sec.scan = false := by
  simp only [State.live, State.awake, Bool.and_eq_true, Bool.not_eq_true', beq_iff_eq] at h
  exact ⟨h.1.1.1.1.1, h.2⟩

/-- An open coil stops and dumps; the other coils go on (R153, R155). -/
theorem faultDetected_open (n addr extra t0 : Nat) (r : LfRun) : EventDoes (fun dt => .evFaultDetected dt 0x41 n addr extra)
    (fun u => let f := u.lfDue.lf
      n < 8 ∧ f.run = some r ∧ r.start = some t0 ∧ f.drives n u.now = true ∧
      f.frameAt r t0 + f.halfCycles (f.coil n).boost + f.cycles 8 ≤ u.now)
    (fun u t => (t.lf.coil n).fault = (u.lfDue.lf.coil n).fault ||| 1 ∧ (t.lf.coil n).dump.isSome = true ∧
      (∀ m, m ≠ n → t.lf.coil m = u.lfDue.lf.coil m) ∧ t.faults.lastCause = Cause.lfOpen.num ∧ t.landings = u.landings) rankFault := by
  intro dt s u hlive hturn ⟨hn, hrun, hstart, hdrives, hlate⟩
  obtain ⟨hawake, hscan⟩ := State.live_awake hlive
  refine ⟨u.lfOpen n, ?_, ?_⟩
  · show execEvFaultDetected dt 0x41 n addr extra s = _
    have hacts : ¬(!(u.power.mode == .awake) || u.sec.scan) = true := by simp [hawake, hscan]
    have hopen : (u.live && decide (n < 8)) = true := by simp [hlive, hn]
    rw [execEvFaultDetected, occurAt, occur, if_pos hturn]
    dsimp only
    rw [if_neg hacts]
    exact congrArg (fun t => Host.Outcome.next (settle t)) (if_pos hopen)
  · rw [State.lfOpen_of_drives hrun hstart hdrives hlate]
    exact u.lfDue.lfFault_stops .lfOpen hn (by decide)

/-! #### Supply and temperature -/

/-- A supply that falls below 5.5 V stops every bridge (R154). -/
theorem lfVlfLow_does (mv : Nat) : EventDoes (fun dt => .evLfVlfLow dt mv) (fun u => mv < 5500 ∧ u.lf.vlfLow = false)
    (fun u t => t.lf.vlf = mv ∧ t.lf.vlfLow = true ∧ t.lf.faultSys.testBit 0 = true ∧
      (∀ n, n < 8 → u.lf.coilEn.testBit n = true → (t.lf.coil n).dump.isSome = true) ∧ t.faults.lastCause = Cause.lfVlfLow.num) := by
  refine event_of_occurLive (fun dt s => execEvLfVlfLow.eq_1 dt mv s) (fun _ _ => rfl) fun u _ ⟨hmv, hlow⟩ => ?_
  dsimp only
  rw [if_neg (by omega), hlow, if_neg Bool.false_ne_true]
  obtain ⟨hvlf, hvlfLow, -, hbit, hdump, hcause⟩ := (u.setLf { u.lf with vlf := mv, vlfLow := true }).lfStop_does 0 .lfVlfLow
  exact ⟨hvlf, hvlfLow, hbit, hdump, hcause⟩

theorem lfVlfRestored_does (mv : Nat) : EventDoes (fun dt => .evLfVlfRestored dt mv) (fun _ => 5800 < mv)
    (fun u t => t = { u with lf := { u.lf with vlf := mv, vlfLow := false } }) :=
  event_of_occurLive (fun dt s => execEvLfVlfRestored.eq_1 dt mv s) (fun _ _ => rfl) fun _ _ hmv => if_pos hmv

/-- A bridge above 155 degrees stops every bridge (R154). -/
theorem lfOvertemp_does (temp : Int) : EventDoes (fun dt => .evLfOvertemp dt temp) (fun u => 155 < temp ∧ u.lf.overtemp = false)
    (fun u t => t.lf.overtemp = true ∧ t.lf.faultSys.testBit 1 = true ∧
      (∀ n, n < 8 → u.lf.coilEn.testBit n = true → (t.lf.coil n).dump.isSome = true) ∧ t.faults.lastCause = Cause.lfOvertemp.num) := by
  refine event_of_occurLive (fun dt s => execEvLfOvertemp.eq_1 dt temp s) (fun _ _ => rfl) fun u _ hok => ?_
  rw [if_pos hok]
  obtain ⟨-, -, hover, hbit, hdump, hcause⟩ := (u.setLf { u.lf with overtemp := true }).lfStop_does 1 .lfOvertemp
  exact ⟨hover, hbit, hdump, hcause⟩

theorem lfOvertempClear_does (temp : Int) : EventDoes (fun dt => .evLfOvertempClear dt temp) (fun _ => temp < 140)
    (fun u t => t = { u with lf := { u.lf with overtemp := false } }) :=
  event_of_occurLive (fun dt s => execEvLfOvertempClear.eq_1 dt temp s) (fun _ _ => rfl) fun _ _ ht => if_pos ht

/-! #### The ends of dumps -/

/-- A dump ends in every power state (R155, log 185). -/
theorem coilDumpDone_does (n : Nat) : EventAnyDoes (fun dt => .evCoilDumpDone dt n)
    (fun u => n < 8 ∧ (u.lfDue.lf.coil n).dump.isSome = true)
    (fun u t => t.lf.coil n = { u.lfDue.lf.coil n with dump := none } ∧ ∀ m, m ≠ n → t.lf.coil m = u.lfDue.lf.coil m) := by
  refine eventAny_of_occurAt (fun dt s => execEvCoilDumpDone.eq_1 dt n s) (fun _ _ => rfl) fun u ⟨hn, hdump⟩ => ?_
  dsimp only
  rw [if_pos hdump]
  exact ⟨(State.lfUnblock_coil _ n).trans (Lf.coil_modCoil u.lfDue.lf _ hn),
    fun m hm => (State.lfUnblock_coil _ m).trans (Lf.coil_modCoil_ne u.lfDue.lf _ hm)⟩

/-- A dump of 400 µs times out: the clamp stays on (R155). -/
theorem coilDumpTimeout_does (n b : Nat) : EventAnyDoes (fun dt => .evCoilDumpTimeout dt n)
    (fun u => n < 8 ∧ (u.lfDue.lf.coil n).dump = some b ∧ b + 400 * usT ≤ u.now)
    (fun u t => t.lf.coil n = { u.lfDue.lf.coil n with dump := none, clamped := true, fault := (u.lfDue.lf.coil n).fault ||| 8 } ∧
      t.faults.lastCause = Cause.lfDumpTimeout.num) := by
  refine eventAny_of_occurAt (fun dt s => execEvCoilDumpTimeout.eq_1 dt n s) (fun _ _ => rfl) fun u ⟨hn, hdump, hlate⟩ => ?_
  dsimp only
  rw [hdump]
  dsimp only
  rw [if_pos (show b + 400 * usT ≤ u.lfDue.now from hlate)]
  let f := u.lfDue.lf.modCoil n fun c => { c with dump := none, clamped := true }
  let v := (u.lfDue.setLf f).lfFault n 3 .lfDumpTimeout
  have hv : v.lf.coil n = { f.coil n with fault := (f.coil n).fault ||| 8 } := Lf.coil_modCoil f _ hn
  have hf : f.coil n = { u.lfDue.lf.coil n with dump := none, clamped := true } := Lf.coil_modCoil u.lfDue.lf _ hn
  refine ⟨(v.lfUnblock_coil n).trans ?_, (congrArg Faults.lastCause v.lfUnblock_keeps.2).trans rfl⟩
  rw [hv, hf]

/-! #### Registers of the LF field system -/

/-- A coil that becomes stale before the pre-window ends joins the tunes of the step, and nothing else changes (R150). -/
theorem State.lfLateStale_eq (s : State) : s.lfLateStale = { s with lf := { s.lf with run := s.lfLateStale.lf.run } } := by
  unfold State.lfLateStale
  split
  · split
    · split <;> rfl
    · split <;> rfl
  · rfl

/-- A write to the LF field system changes it alone. -/
theorem State.putLf_eq (s : State) (off v : Nat) : s.putLf off v = { s with lf := (s.putLf off v).lf } := by
  have hcarrier (s : State) : s.lfSetCarrier v = { s with lf := (s.lfSetCarrier v).lf } := by
    unfold State.lfSetCarrier
    split <;> rfl
  have hretune (m : Nat) (s : State) : s.lfRetune m = { s with lf := (s.lfRetune m).lf } := by
    unfold State.lfRetune
    rw [State.lfLateStale_eq]
    rfl
  unfold State.putLf
  dsimp only
  split
  case h_1 => rw [hcarrier]; rfl
  case h_8 => rw [hretune]; rfl
  all_goals rfl

/-- A register row whose effect shows in the LF field system alone (R26). -/
theorem registerDoes_of_putLf {i : Nat → Word → Instr} {off : Nat} {did : State → Word → State → Prop}
    (hi : ∀ dt v s, exec (i dt v) s = writeWord dt off v s) (hoff : 0x1000 ≤ off ∧ off < 0x1400) (hr : rangeCheck off 1 = .ok)
    (hdid : ∀ u v t, t.lf = (u.putLf off v.toNat).lf → did u v t) : RegisterDoes i off (fun _ _ => True) did := by
  intro dt v s u ho hok _
  simp only [State.wordOk, Bool.and_eq_true, Bool.not_eq_true'] at hok
  obtain ⟨hbad, href⟩ := hok
  have hput : u.regPut off v.toNat = u.putLf off v.toNat := by
    rw [State.regPut, if_neg (by omega), if_neg (by omega), if_pos hoff.2]
  have hitems : (u.putLf off v.toNat).host.items = u.host.items := by rw [State.putLf_eq]
  have hcq : (u.putLf off v.toNat).host.cq = u.host.cq := by rw [State.putLf_eq]
  have hw := State.regWrite_ok (s := u) (off := off) (ws := [v.toNat]) hbad (by simpa [placed] using href) (by simp [placed]; omega)
  refine ⟨_, (hi ..).trans (writeWord_acts ho (by omega) hr), ?_⟩
  rw [hw]
  simp only [placed, List.zipIdx_cons, List.zipIdx_nil, List.map_cons, List.map_nil, List.foldl_cons, List.foldl_nil, Nat.mul_zero, Nat.add_zero]
  rw [hput]
  exact ⟨rfl, hitems, hcq, hdid u v _ rfl⟩

theorem bits_testBit (v hi lo : Nat) (n : Nat) : (bits v hi lo).testBit n = (decide (n < hi + 1 - lo) && v.testBit (lo + n)) := by
  rw [bits, Nat.testBit_mod_two_pow, Nat.testBit_shiftRight]

/-- Nothing happens on a write of the carrier that stands; a new one makes every coil stale (R144). -/
theorem rgLfCarrierWrite_does : RegisterDoes .rgLfCarrierWrite 0x1000 (fun _ _ => True) (fun u v t => t.lf.carrier = v.toNat ∧
    (v.toNat ≠ u.lf.carrier → ∀ n, n < 8 → (t.lf.coil n).stale = true) ∧ (v.toNat = u.lf.carrier → t.lf = u.lfDue.lf)) := by
  refine registerDoes_of_putLf (fun _ _ _ => rfl) (by decide) (by decide) fun u v t ht => ?_
  rw [ht]
  show (u.lfDue.lfSetCarrier v.toNat).lf.carrier = _ ∧ (_ → ∀ n, _ → ((u.lfDue.lfSetCarrier v.toNat).lf.coil n).stale = true) ∧
    (_ → (u.lfDue.lfSetCarrier v.toNat).lf = _)
  have hstands : u.lfDue.lf.carrier = u.lf.carrier := Lf.due_carrier ..
  unfold State.lfSetCarrier
  split
  · next h => exact ⟨h.symm, fun hne => absurd (h.trans hstands) hne, fun _ => rfl⟩
  · next h =>
    refine ⟨rfl, fun _ n hn => ?_, fun he => absurd (he.trans hstands.symm) h⟩
    have hcoil := Lf.coil_modMask { u.lfDue.lf with carrier := v.toNat } 255 (fun c => { c with stale := true }) hn
    have h255 : Nat.testBit 255 n = true := (Nat.testBit_two_pow_sub_one 8 n).trans (decide_eq_true hn)
    exact (congrArg Coil.stale hcoil).trans (by rw [if_pos h255])

/-- LF_RETUNE makes the coils of its mask stale (R150). -/
theorem rgLfRetune_does : RegisterDoes .rgLfRetune 0x1024 (fun _ _ => True) (fun u v t => ∀ n, n < 8 →
    t.lf.coil n = if v.toNat.testBit n then { u.lfDue.lf.coil n with stale := true } else u.lfDue.lf.coil n) := by
  refine registerDoes_of_putLf (fun _ _ _ => rfl) (by decide) (by decide) fun u v t ht n hn => ?_
  let f := u.lfDue.lf.modMask (bits v.toNat 7 0) fun c => { c with stale := true }
  have hlf : t.lf.coils = f.coils := by
    rw [ht]
    show (u.lfDue.setLf f).lfLateStale.lf.coils = _
    rw [State.lfLateStale_eq]
    rfl
  have hbit : (bits v.toNat 7 0).testBit n = v.toNat.testBit n := by simp [bits_testBit, hn]
  rw [Lf.coil_congr hlf, Lf.coil_modMask _ _ _ hn, hbit]

/-- The bits of LF_FAULT that a W1C word names of coil n, as its fault bits (R153). -/
def faultClears (w n : Nat) : Nat := bit w n + 2 * bit w (8 + n) + 4 * bit w (16 + n) + 8 * bit w (24 + n)

theorem bit_eq_toNat (w i : Nat) : bit w i = (w.testBit i).toNat := by
  rw [bit, Nat.shiftRight_eq_div_pow, Nat.toNat_testBit]

/-- The bits of a number given by four. -/
theorem testBit_four (b0 b1 b2 b3 : Bool) : let m := b0.toNat + 2 * b1.toNat + 4 * b2.toNat + 8 * b3.toNat
    m.testBit 0 = b0 ∧ m.testBit 1 = b1 ∧ m.testBit 2 = b2 ∧ m.testBit 3 = b3 := by
  revert b0 b1 b2 b3
  decide

theorem faultClears_testBit (w n : Nat) {b : Nat} (h : b < 4) : (faultClears w n).testBit b = w.testBit (8 * b + n) := by
  simp only [faultClears, bit_eq_toNat]
  obtain ⟨h0, h1, h2, h3⟩ := testBit_four (w.testBit n) (w.testBit (8 + n)) (w.testBit (16 + n)) (w.testBit (24 + n))
  match b, h with
  | 0, _ => rw [h0, Nat.mul_zero, Nat.zero_add]
  | 1, _ => exact h1
  | 2, _ => exact h2
  | 3, _ => exact h3

/-- A coil after a W1C of LF_FAULT (R150, R156). -/
def Coil.faultCleared (m : Nat) (c : Coil) : Coil :=
  if c.fault &&& m = 0 then c else { c with fault := c.fault &&& (15 ^^^ m), stale := true, clamped := c.clamped && !m.testBit 3 }

theorem State.lfFaultClear_coil (s : State) (w : Nat) {n : Nat} (h : n < 8) :
    (s.lfFaultClear w).lf.coil n = (s.lf.coil n).faultCleared (faultClears w n) := by
  rw [← s.lf.coil_get h]
  exact vget_ofFn _ _ h

/-- A cleared bit of LF_FAULT is gone at once, and its coil is stale (R150, R156). -/
theorem rgLfFaultClear_does : RegisterDoes .rgLfFaultClear 0x1018 (fun _ _ => True) (fun u v t => ∀ n, n < 8 → ∀ b, b < 4 →
    let c := u.lfDue.lf.coil n
    ((t.lf.coil n).fault.testBit b = (c.fault.testBit b && !v.toNat.testBit (8 * b + n))) ∧
    (c.fault.testBit b = true → v.toNat.testBit (8 * b + n) = true → (t.lf.coil n).stale = true)) := by
  refine registerDoes_of_putLf (fun _ _ _ => rfl) (by decide) (by decide) fun u v t ht n hn b hb => ?_
  have hcoil : t.lf.coil n = (u.lfDue.lf.coil n).faultCleared (faultClears v.toNat n) := by
    rw [ht]
    exact u.lfDue.lfFaultClear_coil _ hn
  have hand : ((u.lfDue.lf.coil n).fault &&& faultClears v.toNat n).testBit b =
      ((u.lfDue.lf.coil n).fault.testBit b && v.toNat.testBit (8 * b + n)) := by
    rw [Nat.testBit_and, faultClears_testBit _ _ hb]
  dsimp only
  rw [hcoil, Coil.faultCleared]
  split
  · next h =>
    rw [h, Nat.zero_testBit] at hand
    refine ⟨?_, fun hf hv => ?_⟩
    · revert hand
      cases (u.lfDue.lf.coil n).fault.testBit b <;> cases v.toNat.testBit (8 * b + n) <;> simp
    · rw [hf, hv] at hand
      exact absurd hand (by decide)
  · next h =>
    refine ⟨?_, fun _ _ => rfl⟩
    have h15 : Nat.testBit 15 b = true := (Nat.testBit_two_pow_sub_one 4 b).trans (decide_eq_true hb)
    show ((u.lfDue.lf.coil n).fault &&& (15 ^^^ faultClears v.toNat n)).testBit b = _
    rw [Nat.testBit_and, Nat.testBit_xor, h15, faultClears_testBit _ _ hb, Bool.true_xor]

/-! ### The end of a field step -/

/-! #### What it leaves of the landings -/

/-- The landing keeps its context, the request to end its flight, and the place of its halls. -/
def Landing.keepsStep (x y : Landing) : Prop :=
  x.sameContext y ∧ y.endReq = x.endReq ∧ y.hallsBound = x.hallsBound ∧ y.dataBase = x.dataBase

theorem Landing.keepsStep_rfl (x : Landing) : x.keepsStep x := ⟨⟨rfl, rfl, rfl, rfl, rfl, rfl, rfl, rfl, rfl, rfl⟩, rfl, rfl, rfl⟩

theorem Landing.sameContext.trans {x y z : Landing} (h : x.sameContext y) (h' : y.sameContext z) : x.sameContext z := by
  obtain ⟨a1, a2, a3, a4, a5, a6, a7, a8, a9, a10⟩ := h
  obtain ⟨b1, b2, b3, b4, b5, b6, b7, b8, b9, b10⟩ := h'
  exact ⟨b1.trans a1, b2.trans a2, b3.trans a3, b4.trans a4, b5.trans a5, b6.trans a6, b7.trans a7, b8.trans a8, b9.trans a9, b10.trans a10⟩

theorem Landing.keepsStep.trans {x y z : Landing} (h : x.keepsStep y) (h' : y.keepsStep z) : x.keepsStep z := by
  obtain ⟨hc, he, hh, hd⟩ := h
  obtain ⟨hc', he', hh', hd'⟩ := h'
  exact ⟨hc.trans hc', he'.trans he, hh'.trans hh, hd'.trans hd⟩

/-- Every landing keeps its step, and the halls, the LF field system and the time are as before. -/
def State.keepsSteps (s t : State) : Prop :=
  (∀ m, (s.land m).keepsStep (t.land m)) ∧ t.halls = s.halls ∧ t.lf = s.lf ∧ t.now = s.now

theorem State.keepsSteps.trans {s t u : State} (h : s.keepsSteps t) (h' : t.keepsSteps u) : s.keepsSteps u := by
  obtain ⟨hland, hhalls, hlf, hnow⟩ := h
  obtain ⟨hland', hhalls', hlf', hnow'⟩ := h'
  exact ⟨fun m => (hland m).trans (hland' m), hhalls'.trans hhalls, hlf'.trans hlf, hnow'.trans hnow⟩

theorem State.keepsSteps_of_eq {s t : State} (hl : t.landings = s.landings) (hh : t.halls = s.halls) (hf : t.lf = s.lf)
    (hn : t.now = s.now) : s.keepsSteps t :=
  ⟨fun m => by rw [State.land, State.land, hl]; exact Landing.keepsStep_rfl _, hh, hf, hn⟩

theorem State.keepsSteps_modLand (s : State) (l : Nat) {f : Landing → Landing} (hf : ∀ x, Landing.keepsStep x (f x)) :
    s.keepsSteps (s.modLand l f) := by
  refine ⟨fun m => ?_, rfl, rfl, rfl⟩
  rw [State.modLand, State.land_setLand_eq]
  split
  · next h => rw [← h.1]; exact hf _
  · exact Landing.keepsStep_rfl _

theorem Landing.resume_keepsStep (now mask : Nat) (x : Landing) : x.keepsStep (x.resume now mask) := by
  unfold Landing.resume
  split
  · split <;> exact Landing.keepsStep_rfl x
  · exact Landing.keepsStep_rfl x

theorem Landing.noteReleased_keepsStep (us mask : Nat) (x : Landing) : x.keepsStep (x.noteReleased us mask) := Landing.keepsStep_rfl x

/-- A landing that goes on with a restored grant issues its step again: nothing else of it changes (R120). -/
theorem State.keepsSteps_restore (s : State) : s.keepsSteps s.restore := by
  have key : ∀ (es : List (Nat × Nat)) (v : Vector Landing 192) (m : Nat), (vget v m Landing.free).keepsStep
      (vget (es.foldl (fun v e => vset v e.1 (Landing.resume s.now e.2 (vget v e.1 Landing.free))) v) m Landing.free) := by
    intro es
    induction es with
    | nil => exact fun v m => Landing.keepsStep_rfl _
    | cons e es ih =>
      refine fun v m => Landing.keepsStep.trans ?_ (ih _ m)
      rw [vget_vset]
      split
      · next h => rw [← h.1]; exact Landing.resume_keepsStep ..
      · exact Landing.keepsStep_rfl _
  exact ⟨key _ s.landings, rfl, rfl, rfl⟩

theorem State.keepsSteps_foldl {α : Type} {f : State → α → State} (h : ∀ s a, State.keepsSteps s (f s a)) (as : List α) (s : State) :
    s.keepsSteps (as.foldl f s) := by
  induction as generalizing s with
  | nil => exact State.keepsSteps_of_eq rfl rfl rfl rfl
  | cons a as ih => exact (h s a).trans (ih _)

/-- A landing that gives up airtime notes what it used (R110). -/
theorem State.keepsSteps_airRelease (s : State) (l mask : Nat) : s.keepsSteps (s.airRelease l mask) := by
  unfold State.airRelease
  extract_lets mine v gs
  have hv : s.keepsSteps v := State.keepsSteps_foldl (fun s g => State.keepsSteps_modLand s l (Landing.noteReleased_keepsStep _ _)) mine s
  exact hv.trans ((State.keepsSteps_of_eq rfl rfl rfl rfl : v.keepsSteps { v with air := _ }).trans (State.keepsSteps_restore _))

theorem State.keepsSteps_boundary (s : State) (l r : Nat) : s.keepsSteps (s.boundary l r) := by
  have hair (a : Air) : s.keepsSteps { s with air := a } := State.keepsSteps_of_eq rfl rfl rfl rfl
  unfold State.boundary
  split
  · exact State.keepsSteps_of_eq rfl rfl rfl rfl
  · split
    · exact State.keepsSteps_airRelease ..
    · split
      · exact (hair _).trans (State.keepsSteps_restore _)
      · exact hair _

theorem State.keepsSteps_airStepEnd (s : State) (l : Nat) (j : FieldJob) (c : Code) : s.keepsSteps (s.airStepEnd l j c) := by
  unfold State.airStepEnd
  extract_lets r v
  have hv : s.keepsSteps v := State.keepsSteps_of_eq rfl rfl rfl rfl
  split
  · split
    · split
      · exact hv.trans (v.keepsSteps_boundary l r)
      · exact hv
    · exact hv
  · exact hv

/-- The token note of a landing lies beside its context (R325). -/
theorem State.keepsSteps_tokenNote (s : State) (l : Nat) (j : FieldJob) : s.keepsSteps (s.tokenNote l j) := by
  have hself : s.keepsSteps s := State.keepsSteps_of_eq rfl rfl rfl rfl
  unfold State.tokenNote
  dsimp only
  split
  · split
    · exact State.keepsSteps_modLand s l fun x => Landing.keepsStep_rfl x
    · exact hself
  · exact hself

theorem State.keepsSteps_fieldEvidence (s : State) (l : Nat) (j : FieldJob) : s.keepsSteps (s.fieldEvidence l j) := by
  have hrecord : s.keepsSteps (s.evdField l j) := by
    unfold State.evdField
    split
    · rw [State.evdRecord_eq]
      exact State.keepsSteps_of_eq rfl rfl rfl rfl
    · exact State.keepsSteps_of_eq rfl rfl rfl rfl
  exact hrecord.trans (State.keepsSteps_tokenNote ..)

/-! #### Its outcome and its result area -/

/-- The landing after its field step has ended (R60, R72, R75). -/
def Landing.fieldOver (x : Landing) (j : FieldJob) (c : Code) (srcs used now : Nat) : Landing :=
  { x with regs := (x.setReg j.d (outcomeWord c.num srcs used)).regs
           flags := { x.flags with z := c == .ok, f := c == .ok, d := c == .fieldDisturbed }
           wait := .none, pc := x.pc + 1, readySince := now }

/-- A field step writes its result, leaves every landing its step, and moves its own landing past it (R64, R72). -/
theorem State.fieldDone_eq {s : State} {l : Nat} {j : FieldJob} (h : s.inField l j) (c : Code) (srcs : Nat) (rest : List Byte)
    (till : Option Nat) : ∃ v : State, (s.hallWrite l 1 (fieldLE j.blk 0 2)
        (fieldResult c srcs (min 65535 ((till.getD s.now - j.issued) / usT)) s.us (padTo (j.resLen - 8) rest))).keepsSteps v ∧
      s.fieldDone l j c srcs rest till =
        v.setLand l ((v.land l).fieldOver j c srcs (min 65535 ((till.getD s.now - j.issued) / usT)) s.now) := by
  obtain ⟨-, -, hend⟩ := h
  unfold State.fieldDone
  extract_lets used w w1 v
  have hv : w.keepsSteps v := (State.keepsSteps_fieldEvidence w l j).trans (State.keepsSteps_airStepEnd w1 l j c)
  clear_value v
  have hnow : v.now = s.now := by
    obtain ⟨-, -, -, hn⟩ := hv
    exact hn.trans (State.hallWrite_now ..)
  have hendv : (v.land l).endReq = none := by
    obtain ⟨hland, -, -, -⟩ := hv
    obtain ⟨-, hreq, -, -⟩ := hland l
    exact hreq.trans hend
  refine ⟨v, hv, ?_⟩
  rw [State.stepEnds_eq v l _ (by rw [Landing.outcome_eq]; exact hendv), Landing.outcome_eq, hnow]
  rfl

/-- The first bytes of what was written are read back. -/
theorem Mem.readN_writeN_append {m : Mem} (h : m.wf = true) (a : Nat) (xs ys : List Byte) :
    (m.writeN a (xs ++ ys)).readN a xs.length = xs :=
  List.ext_getElem (Mem.readN_length ..) fun i _ hi => by
    rw [Mem.readN_getElem, Mem.read_writeN_inside _ a i h (by rw [List.length_append]; omega), List.getElem_append_left hi]

theorem State.memWf_pool {s : State} (h : s.memWf = true) : s.halls.pool.wf = true := by
  simp only [State.memWf, Bool.and_eq_true] at h
  obtain ⟨⟨⟨⟨⟨⟨-, hpool⟩, -⟩, -⟩, -⟩, -⟩, -⟩ := h
  exact hpool

theorem State.hallBase_data (s : State) (l : Nat) :
    s.hallBase l 1 = if !(s.land l).hallsBound then 0 else (s.land l).dataBase := rfl

theorem Landing.setReg_congr {x y : Landing} (h : y.regs = x.regs) (d : Nat) (v : Word) : (y.setReg d v).regs = (x.setReg d v).regs := by
  unfold Landing.setReg
  split
  · exact h
  · show vset y.regs d v = vset x.regs d v
    rw [h]

/-- What a field step tells at its end, whatever the airtime, the evidence and the LF field system do with it (R60, R72, R75). -/
theorem State.fieldDone_ended {u : State} {l : Nat} {j : FieldJob} (h : u.inField l j) (c : Code) (srcs : Nat) (rest : List Byte)
    (till : Option Nat) : u.fieldEnded (u.fieldDone l j c srcs rest till) l j c srcs till ∧
      (u.fieldDone l j c srcs rest till).lf = u.lf ∧ (u.fieldDone l j c srcs rest till).now = u.now := by
  obtain ⟨v, ⟨hland, hhalls, hlf, hnow⟩, hdone⟩ := State.fieldDone_eq h c srcs rest till
  obtain ⟨hl, -, -⟩ := h
  rw [hdone]
  have hsame (m : Nat) : (u.land m).keepsStep (v.land m) := hland m
  obtain ⟨⟨hregs, hflags, hpc, -⟩, -, hbound, hbase⟩ := hsame l
  refine ⟨?_, hlf, hnow⟩
  rw [State.fieldEnded]
  dsimp only
  rw [State.land_setLand _ _ hl]
  refine ⟨rfl, congrArg (· + 1) hpc, Landing.setReg_congr hregs _ _, by rw [Landing.fieldOver, hflags], fun m hm => ?_, fun hwf _ => ?_⟩
  · rw [State.land_setLand_ne _ _ hm]
    obtain ⟨hctx, -⟩ := hsame m
    exact hctx
  · show v.halls.pool.readN (State.hallBase _ l 1 + _) 2 = _
    rw [State.hallBase_data, State.land_setLand _ _ hl]
    show v.halls.pool.readN ((if !(v.land l).hallsBound then 0 else (v.land l).dataBase) + _) 2 = _
    rw [hbound, hbase, hhalls, fieldResult, List.append_assoc, List.append_assoc]
    exact Mem.readN_writeN_append (State.memWf_pool hwf) _ [BitVec.ofNat 8 c.num, BitVec.ofNat 8 srcs] _

/-! ### Noise -/

/-! #### Before the end of the pre-window -/

/-- No step of the LF field system has come to the end of its pre-window. -/
def Lf.early (f : Lf) (now : Nat) : Prop := ∀ r t0, f.run = some r → r.start = some t0 → now < f.preEnd t0

theorem Lf.preEnd_le_frameAt (f : Lf) (r : LfRun) (t0 : Nat) : f.preEnd t0 ≤ f.frameAt r t0 := Nat.le_add_right ..

/-- No tune is due yet (R149). -/
theorem Lf.due_of_early {f : Lf} {now : Nat} (h : f.early now) : f.due now = f := by
  unfold Lf.due
  split
  · rfl
  · next r hrun =>
    split
    · rfl
    · next t0 hstart =>
      have hpre : now < f.frameAt r t0 := Nat.lt_of_lt_of_le (h r t0 hrun hstart) (f.preEnd_le_frameAt r t0)
      dsimp only
      rw [if_pos (by simp [hpre])]

theorem LfRun.lastOf_le (r : LfRun) (m b : Nat) : r.lastOf m b ≤ b := by
  refine List.foldlRecOn (motive := fun e => e ≤ b) _ _ (Nat.zero_le b) fun e he n _ => ?_
  split
  · refine max_le he ?_
    split
    · exact Nat.min_le_right ..
    · exact Nat.le_refl b
  · exact he

theorem spanTo_of_le {a b : Nat} (h : b ≤ a) : spanTo a b = [] := if_neg (by omega)

/-- Nothing is emitted before the pre-window has ended (R162). -/
theorem Lf.runSpans_of_early {f : Lf} {now : Nat} (h : f.early now) : f.runSpans now = [] := by
  unfold Lf.runSpans
  split
  · rfl
  · next r hrun =>
    split
    · rfl
    · next t0 hstart =>
      have hpre := h r t0 hrun hstart
      have hframe : now < f.frameAt r t0 := Nat.lt_of_lt_of_le hpre (f.preEnd_le_frameAt r t0)
      have none_yet (a m b : Nat) (ha : now < a) : spanTo a (r.lastOf m (min now b)) = [] :=
        spanTo_of_le ((r.lastOf_le m _).trans (by omega))
      have hslot (n : Nat) : now < (f.slotOf r (f.frameAt r t0) n).1 := Nat.lt_of_lt_of_le hframe (Nat.le_add_right ..)
      split
      · rfl
      · dsimp only
        rw [none_yet _ _ _ hpre, none_yet _ _ _ hframe]
        simp [none_yet _ _ _ (hslot _)]

/-- What latching a TUNE_RANGE may change (R153): the coils, the step, the fault unit and the host link; a step in its pre-window stays so. -/
def State.lfLatches (s t : State) : Prop :=
  t = { s with lf := t.lf, faults := t.faults, host := t.host } ∧ t.lf.spans = s.lf.spans ∧ (s.lf.early s.now → t.lf.early s.now)

theorem State.lfLatches_rfl (s : State) : s.lfLatches s := ⟨rfl, rfl, id⟩

theorem State.lfLatches.now_eq {s t : State} (h : s.lfLatches t) : t.now = s.now := by rw [h.1]

theorem State.lfLatches.trans {s t u : State} (h : s.lfLatches t) (h' : t.lfLatches u) : s.lfLatches u := by
  have hnow := h.now_eq
  obtain ⟨ht, hspans, hearly⟩ := h
  obtain ⟨hu, hspans', hearly'⟩ := h'
  rw [hnow] at hearly'
  exact ⟨by rw [hu, ht], hspans'.trans hspans, hearly' ∘ hearly⟩

theorem State.lfFault_latches (s : State) (n b : Nat) (c : Cause) : s.lfLatches (s.lfFault n b c) := by
  unfold State.lfFault
  dsimp only
  split
  · exact ⟨rfl, rfl, id⟩
  · refine ⟨rfl, rfl, fun h q t0 hrun hstart => ?_⟩
    obtain ⟨r, hr, rfl⟩ := Option.map_eq_some_iff.1 hrun
    exact h r t0 hr hstart

theorem State.lfReport_latches (s : State) (m : Nat) : s.lfLatches (s.lfReport m) := by
  have fold (p : Nat → Bool) (ns : List Nat) (v : State) :
      v.lfLatches (ns.foldl (fun s n => if p n then s.lfFault n 2 .lfTuneRange else s) v) := by
    induction ns generalizing v with
    | nil => exact v.lfLatches_rfl
    | cons n ns ih =>
      refine State.lfLatches.trans ?_ (ih _)
      dsimp only
      split
      · exact State.lfFault_latches ..
      · exact v.lfLatches_rfl
  unfold State.lfReport
  split
  · exact s.lfLatches_rfl
  · next r hrun =>
    let v := s.setLf { s.lf with run := some { r with unreported := r.unreported &&& (255 ^^^ (m % 256)) } }
    have hv : s.lfLatches v := ⟨rfl, rfl, fun h q t0 hq hstart => by
      obtain rfl := Option.some.inj hq
      exact h r t0 hrun hstart⟩
    exact hv.trans (fold (r.unreported &&& m).testBit (List.range 8) v)

/-- A step that ends in its pre-window has emitted nothing (R162, R167). -/
theorem State.lfIdle_of_early {s : State} (h : s.lf.early s.now) : let t := s.lfIdle
    t.landings = s.landings ∧ t.halls = s.halls ∧ t.lf.run = none ∧
      t.lf.spans = s.lf.spans.filter (fun p => decide (s.now < p.2 + secT)) := by
  have hdue : s.lfDue = s := by
    rw [State.lfDue, Lf.due_of_early h]
    rfl
  intro t
  have ht : t = (s.lfReport 255).setLf ((s.lfReport 255).lf.endRun (s.lfReport 255).now) := by
    show s.lfIdle = _
    unfold State.lfIdle
    rw [hdue]
  have hlatches := s.lfReport_latches 255
  have hnow := hlatches.now_eq
  generalize s.lfReport 255 = v at ht hlatches hnow
  obtain ⟨hv, hspans, hearly⟩ := hlatches
  rw [ht]
  refine ⟨by rw [hv]; rfl, by rw [hv]; rfl, rfl, ?_⟩
  show (v.lf.spans ++ v.lf.runSpans v.now).filter (fun p => decide (v.now < p.2 + secT)) = _
  rw [hnow, Lf.runSpans_of_early (hearly h), List.append_nil, hspans]

/-- The end of a field step shows in the landings and the halls. -/
theorem State.fieldEnded_congr {u t t' : State} {l : Nat} {j : FieldJob} {c : Code} {srcs : Nat} {till : Option Nat}
    (h : u.fieldEnded t l j c srcs till) (hl : t'.landings = t.landings) (hh : t'.halls = t.halls) : u.fieldEnded t' l j c srcs till := by
  have hland (m : Nat) : t'.land m = t.land m := by rw [State.land, hl, State.land]
  have hread (off n : Nat) : t'.hallRead l 1 off n = t.hallRead l 1 off n := by
    show t'.halls.pool.readN (t'.hallBase l 1 + off) n = t.halls.pool.readN (t.hallBase l 1 + off) n
    rw [State.hallBase_data, State.hallBase_data, hland, hh]
  simpa only [State.fieldEnded, hland, hread] using h

/-! #### Trips -/

theorem State.fieldJob_of_inField {u : State} {l : Nat} {j : FieldJob} (h : u.inField l j) : u.fieldJob l = some j := by
  obtain ⟨-, hwait, -⟩ := h
  rw [State.fieldJob, hwait]

/-- Noise in the pre-window ends an LFTX before it has emitted anything (R152, R162). -/
theorem lfNoiseTrip_early (noise us coherent t0 : Nat) (r : LfRun) (j : FieldJob) :
    EventDoes (fun dt => .evLfNoiseTrip dt noise us coherent)
    (fun u => u.lf.run = some r ∧ u.inField r.land j ∧ j.kind = .lftx ∧ r.tx = true ∧ r.start = some t0 ∧ j.srcs = 0 ∧
      u.now < u.lf.preEnd t0 ∧ u.lf.noiseThr < noise ∧ u.lf.noiseMin ≤ us ∧ coherent ≤ u.lf.ffThr)
    (fun u t => u.fieldEnded t r.land j .fieldDisturbed 1 ∧ t.lf.run = none ∧
      t.lf.spans = u.lf.spans.filter (fun p => decide (u.now < p.2 + secT))) := by
  refine event_of_occurLive (fun dt s => execEvLfNoiseTrip.eq_1 dt noise us coherent s) (fun _ _ => rfl)
    fun u _ ⟨hrun, hfield, _, htx, hstart, hsrcs, hpre, hthr, hmin, hff⟩ => ?_
  have hearly : u.lf.early u.now := fun q t hq ht => by
    obtain rfl := Option.some.inj (hrun.symm.trans hq)
    obtain rfl := Option.some.inj (hstart.symm.trans ht)
    exact hpre
  have hdue : u.lfDue = u := by
    rw [State.lfDue, Lf.due_of_early hearly]
    rfl
  have hmonitor : ¬u.lf.monitorEnd r j t0 < u.now := by
    have hframe := u.lf.preEnd_le_frameAt r t0
    rw [Lf.monitorEnd, if_pos htx]
    omega
  obtain ⟨hended, hlf, hnow⟩ := State.fieldDone_ended hfield .fieldDisturbed 1 [] none
  dsimp only
  rw [hdue, hrun]
  dsimp only
  rw [State.fieldJob_of_inField hfield, hstart]
  dsimp only
  rw [if_neg hmonitor, htx, if_neg (by decide), if_pos hpre, if_neg (by simp [hthr, hmin, b2n])]
  have hone : j.srcs ||| b2n (decide (u.lf.noiseThr < noise) && decide (u.lf.noiseMin ≤ us)) ||| (if u.lf.ffThr < coherent then 16 else 0) = 1 := by
    rw [hsrcs, if_neg (Nat.not_lt.2 hff)]
    simp [hthr, hmin, b2n]
  rw [hone]
  generalize u.fieldDone r.land j .fieldDisturbed 1 [] = v at hended hlf hnow
  obtain ⟨hlandings, hhalls, hidle, hspans⟩ := State.lfIdle_of_early (s := v) (by rw [hlf, hnow]; exact hearly)
  exact ⟨State.fieldEnded_congr hended hlandings hhalls, hidle, by rw [hspans, hlf, hnow]⟩

/-- Noise after the pre-window marks the step, which goes on to its end (R164, R165). -/
theorem lfNoiseTrip_late (noise us coherent t0 : Nat) (r : LfRun) (j : FieldJob) :
    EventDoes (fun dt => .evLfNoiseTrip dt noise us coherent)
    (fun u => u.lfDue.lf.run = some r ∧ u.inField r.land j ∧ r.tx = true ∧ r.start = some t0 ∧ u.lf.preEnd t0 ≤ u.now ∧
      u.lf.noiseThr < noise ∧ u.lf.noiseMin ≤ us ∧ u.now ≤ u.lfDue.lf.monitorEnd r j t0)
    (fun u t => (t.land r.land).wait = .field { j with srcs := j.srcs ||| 1 } ∧ u.othersKeep t r.land ∧
      t.lf.run.isSome = true) := by
  refine event_of_occurLive (fun dt s => execEvLfNoiseTrip.eq_1 dt noise us coherent s) (fun _ _ => rfl)
    fun u _ ⟨hrun, hfield, htx, hstart, hpre, hthr, hmin, hmonitor⟩ => ?_
  have hnoisy : (decide (u.lfDue.lf.noiseThr < noise) && decide (u.lfDue.lf.noiseMin ≤ us)) = true := by
    have hcfg : u.lfDue.lf.noiseCfg = u.lf.noiseCfg := Lf.due_noiseCfg ..
    rw [Lf.noiseThr, Lf.noiseMin, hcfg]
    exact Bool.and_eq_true_iff.2 ⟨decide_eq_true hthr, decide_eq_true hmin⟩
  have hpast : ¬u.lfDue.now < u.lfDue.lf.preEnd t0 := by
    have hcfg : u.lfDue.lf.frameCfg = u.lf.frameCfg := Lf.due_frameCfg ..
    rw [Lf.preEnd, Lf.noisePre, hcfg]
    exact Nat.not_lt.2 hpre
  have hjob : u.lfDue.fieldJob r.land = some j := State.fieldJob_of_inField hfield
  obtain ⟨hl, -, -⟩ := hfield
  let x : Landing := { u.land r.land with wait := .field { j with srcs := j.srcs ||| 1 } }
  have hmarked (f : Lf) (hf : f.run.isSome = true) : let t := (u.setLf f).setLand r.land x
      (t.land r.land).wait = .field { j with srcs := j.srcs ||| 1 } ∧ u.othersKeep t r.land ∧ t.lf.run.isSome = true :=
    ⟨congrArg Landing.wait (State.land_setLand _ x hl), fun m hm => State.land_setLand_ne _ x hm, hf⟩
  dsimp only
  rw [hrun]
  dsimp only
  rw [hjob, hstart]
  dsimp only
  rw [if_neg (show ¬_ < u.lfDue.now from Nat.not_lt.2 hmonitor), htx, if_neg (by decide), if_neg hpast, if_pos hnoisy]
  split
  · exact hmarked { u.lfDue.lf with run := some { r with tuneTrip := true } } rfl
  · exact hmarked u.lfDue.lf (by rw [hrun]; rfl)

/-- Settles O34, a lemma for each clause. -/
theorem lfEvents : Obligations.LfEvents :=
  ⟨lfCoilShort_does, faultDetected_open, lfVlfLow_does, lfVlfRestored_does, lfOvertemp_does, lfOvertempClear_does, coilDumpDone_does,
    coilDumpTimeout_does, lfNoiseTrip_early, lfNoiseTrip_late, rgLfCarrierWrite_does, rgLfRetune_does, rgLfFaultClear_does⟩

end Sys2Proof.Machine

namespace Sys2Proof.Machine

open Sys2Proof

/-! ### The UWB front-end -/

/-! #### What the end of a field step leaves of the units -/

/-- The units are as before: what differs lies in the halls, the evidence, the airtime, the NFC reader and the landings. -/
def State.keepsUnits (s t : State) : Prop := ∃ h e a n v, t = { s with halls := h, evd := e, air := a, nfc := n, landings := v }

theorem State.keepsUnits_rfl (s : State) : s.keepsUnits s := ⟨_, _, _, _, _, rfl⟩

theorem State.keepsUnits.trans {s t u : State} (h : s.keepsUnits t) (h' : t.keepsUnits u) : s.keepsUnits u := by
  obtain ⟨_, _, _, _, _, rfl⟩ := h
  obtain ⟨_, _, _, _, _, rfl⟩ := h'
  exact ⟨_, _, _, _, _, rfl⟩

theorem State.keepsUnits.uwb_eq {s t : State} (h : s.keepsUnits t) : t.uwb = s.uwb := by
  obtain ⟨_, _, _, _, _, rfl⟩ := h
  rfl

theorem State.keepsUnits.rng_eq {s t : State} (h : s.keepsUnits t) : t.rng = s.rng := by
  obtain ⟨_, _, _, _, _, rfl⟩ := h
  rfl

theorem State.keepsUnits_modLand (s : State) (l : Nat) (f : Landing → Landing) : s.keepsUnits (s.modLand l f) := ⟨_, _, _, _, _, rfl⟩

theorem State.keepsUnits_air (s : State) (a : Air) : s.keepsUnits { s with air := a } := ⟨_, _, _, _, _, rfl⟩

theorem State.keepsUnits_restore (s : State) : s.keepsUnits s.restore := ⟨_, _, _, _, _, rfl⟩

theorem State.keepsUnits_airRelease (s : State) (l mask : Nat) : s.keepsUnits (s.airRelease l mask) := by
  unfold State.airRelease
  extract_lets mine v gs
  have hnoted : s.keepsUnits v :=
    List.foldlRecOn (motive := s.keepsUnits) _ _ s.keepsUnits_rfl fun w hw g _ => hw.trans (w.keepsUnits_modLand l _)
  exact (hnoted.trans (v.keepsUnits_air _)).trans (State.keepsUnits_restore _)

theorem State.keepsUnits_boundary (s : State) (l r : Nat) : s.keepsUnits (s.boundary l r) := by
  unfold State.boundary
  split
  · exact s.keepsUnits_rfl
  · split
    · exact s.keepsUnits_airRelease ..
    · split
      · exact (s.keepsUnits_air _).trans (State.keepsUnits_restore _)
      · exact s.keepsUnits_air _

theorem State.keepsUnits_airStepEnd (s : State) (l : Nat) (j : FieldJob) (c : Code) : s.keepsUnits (s.airStepEnd l j c) := by
  unfold State.airStepEnd
  extract_lets r v
  have hv : s.keepsUnits v := s.keepsUnits_air _
  split
  · split
    · split
      · exact hv.trans (v.keepsUnits_boundary l r)
      · exact hv
    · exact hv
  · exact hv

theorem State.keepsUnits_fieldEvidence (s : State) (l : Nat) (j : FieldJob) : s.keepsUnits (s.fieldEvidence l j) := by
  have hrecord : s.keepsUnits (s.evdField l j) := by
    unfold State.evdField
    split
    · rw [State.evdRecord_eq]
      exact ⟨_, _, _, _, _, rfl⟩
    · exact s.keepsUnits_rfl
  refine hrecord.trans ?_
  rw [State.fieldEvidence, State.tokenNote]
  dsimp only
  split
  · split
    · exact State.keepsUnits_modLand ..
    · exact State.keepsUnits_rfl _
  · exact State.keepsUnits_rfl _

/-- A field step whose flight goes on ends in its halls, the evidence, the airtime and the landings (R72). -/
theorem State.keepsUnits_fieldDone {s : State} {l : Nat} {j : FieldJob} (h : s.inField l j) (c : Code) (srcs : Nat) (rest : List Byte)
    (till : Option Nat) : s.keepsUnits (s.fieldDone l j c srcs rest till) := by
  obtain ⟨-, -, hend⟩ := h
  unfold State.fieldDone
  extract_lets used w w1 v
  have hw : s.keepsUnits w := by
    show s.keepsUnits (s.hallWrite ..)
    rw [State.hallWrite_eq]
    exact ⟨_, _, _, _, _, rfl⟩
  have hsteps : w.keepsSteps v := (State.keepsSteps_fieldEvidence w l j).trans (State.keepsSteps_airStepEnd w1 l j c)
  have hv : s.keepsUnits v := hw.trans ((w.keepsUnits_fieldEvidence l j).trans (w1.keepsUnits_airStepEnd l j c))
  clear_value v
  have hendv : (v.land l).endReq = none := by
    obtain ⟨hland, -, -, -⟩ := hsteps
    obtain ⟨-, hreq, -, -⟩ := hland l
    refine hreq.trans (Eq.trans ?_ hend)
    show ((s.hallWrite ..).land l).endReq = _
    rw [State.hallWrite_eq]
    rfl
  rw [State.stepEnds_eq v l _ (by rw [Landing.outcome_eq]; exact hendv)]
  exact hv.trans ⟨_, _, _, _, _, rfl⟩

/-! #### A boundary after the end of a step -/

/-- A landing that waits for nothing has no step that a restored grant issues again (R120). -/
theorem State.restore_idle {s : State} {m : Nat} (h : (s.land m).wait = .none) : (s.restore.land m).wait = .none := by
  refine List.foldlRecOn (motive := fun v : Vector Landing 192 => (vget v m Landing.free).wait = .none) _ _ h fun v hv e _ => ?_
  rw [vget_vset]
  split
  · next he =>
    rw [he.1, Landing.resume, hv]
    exact hv
  · exact hv

theorem State.airRelease_idle {s : State} {m : Nat} (h : (s.land m).wait = .none) (l mask : Nat) :
    ((s.airRelease l mask).land m).wait = .none := by
  unfold State.airRelease
  extract_lets mine v gs
  have hnoted : (v.land m).wait = .none := by
    refine List.foldlRecOn (motive := fun w : State => (w.land m).wait = .none) _ _ h fun w hw g _ => ?_
    rw [State.modLand, State.land_setLand_eq]
    split
    · next he => rw [he.1]; exact hw
    · exact hw
  exact State.restore_idle (s := { v with air := { v.air with grants := gs } }) hnoted

theorem State.boundary_idle {s : State} {m : Nat} (h : (s.land m).wait = .none) (l r : Nat) : ((s.boundary l r).land m).wait = .none := by
  have hrestore (a : Air) : (({ s with air := a } : State).restore.land m).wait = .none := State.restore_idle (s := { s with air := a }) h
  unfold State.boundary
  split
  · exact h
  · split
    · exact State.airRelease_idle h ..
    · split
      · exact hrestore _
      · exact h

/-- An exchange boundary after the end of a field step leaves what the step told. -/
theorem State.fieldEnded_boundary {u t : State} {l : Nat} {j : FieldJob} {c : Code} {srcs : Nat} {till : Option Nat}
    (h : u.fieldEnded t l j c srcs till) (l' r : Nat) : u.fieldEnded (t.boundary l' r) l j c srcs till := by
  obtain ⟨hland, hhalls, -, -⟩ := t.keepsSteps_boundary l' r
  obtain ⟨hwait, hpc, hregs, hflags, hothers, hread⟩ := h
  obtain ⟨⟨hregs', hflags', hpc', -⟩, -, hbound, hbase⟩ := hland l
  refine ⟨State.boundary_idle hwait l' r, hpc'.trans hpc, hregs'.trans hregs, hflags'.trans hflags,
    fun m hm => (hothers m hm).trans (hland m).1, fun hwf hlen => Eq.trans ?_ (hread hwf hlen)⟩
  show (t.boundary l' r).halls.pool.readN ((t.boundary l' r).hallBase l 1 + _) 2 = t.halls.pool.readN (t.hallBase l 1 + _) 2
  rw [State.hallBase_data, State.hallBase_data, hbound, hbase, hhalls]

/-! #### The end of a UWB step -/

/-- The code a UWB step ends with: a disturbed exchange decides it (R78, R222). -/
def UwbRun.endCode (r : UwbRun) (c : Code) : Code :=
  if r.disturbed && (c == .ok || c == .authFail || c == .fieldTimeout) then .fieldDisturbed else c

/-- Codes other than OK, AUTH_FAIL and FIELD_TIMEOUT stand whatever disturbed the exchange. -/
theorem UwbRun.endCode_of_other (r : UwbRun) {c : Code} (h : (c == .ok || c == .authFail || c == .fieldTimeout) = false) : r.endCode c = c := by
  rw [UwbRun.endCode, h, Bool.and_false]
  rfl

/-- A UWB step ends as a field step does, with UWB as the source of a disturbance; the front-end runs no step any more (R72, R78). -/
theorem State.uwbEnd_does {s : State} {j : FieldJob} {r : UwbRun} (h : s.inField r.land j) (c : Code) (rest : List Byte) :
    let t := s.uwbEnd j r c rest
    s.fieldEnded t r.land j (r.endCode c) (j.srcs ||| (if r.disturbed then 2 else 0)) ∧ t.uwb = { s.uwb.rests with run := none } ∧
      t.rng = s.rng := by
  let v := s.setUwb { s.uwb.rests with run := none }
  let w := v.fieldDone r.land j (r.endCode c) (j.srcs ||| (if r.disturbed then 2 else 0)) rest
  obtain ⟨hended, -, -⟩ := State.fieldDone_ended (u := v) h (r.endCode c) (j.srcs ||| (if r.disturbed then 2 else 0)) rest none
  have hw : v.keepsUnits w := State.keepsUnits_fieldDone (s := v) h ..
  intro t
  have ht : t = if r.lost then w.boundary r.land 1 else w := rfl
  rw [ht]
  split
  · have hb := hw.trans (w.keepsUnits_boundary r.land 1)
    exact ⟨State.fieldEnded_boundary hended r.land 1, hb.uwb_eq, hb.rng_eq⟩
  · exact ⟨hended, hw.uwb_eq, hw.rng_eq⟩

/-- A step whose capture is not on its way ends at once (R213). -/
theorem State.uwbOver_does {s : State} {j : FieldJob} {r : UwbRun} (h : s.inField r.land j) (hcir : s.cirMoving r.land = false) (c : Code)
    (rest : List Byte) : let t := s.uwbOver j r c rest
      s.fieldEnded t r.land j (r.endCode c) (j.srcs ||| (if r.disturbed then 2 else 0)) ∧ t.uwb = { s.uwb.rests with run := none } ∧
        t.rng = s.rng := by
  rw [State.uwbOver, hcir, if_neg Bool.false_ne_true]
  exact State.uwbEnd_does h c rest

/-- The step in progress and its job. -/
theorem State.uwbRun_of_inField {s : State} {r : UwbRun} {j : FieldJob} (hrun : s.uwb.run = some r) (h : s.inField r.land j) :
    s.uwbRun = some (r, j) := by
  rw [State.uwbRun, hrun]
  dsimp only
  rw [State.fieldJob_of_inField h]
  rfl

/-! #### What the front-end comes to -/

/-- A step whose frame may leave or whose window may open: its checks and waits are over, and it has sent nothing (R173). -/
def State.goes (s : State) (r : UwbRun) : Prop := r.closed = false ∧ r.withdrawn = false ∧ r.ready s.now = true ∧ r.txMark = none

/-- The transmit start mark of the own frame, once it is fixed: that of a response follows from the poll it accepted (R173, R175). -/
def State.ownMark (s : State) (r : UwbRun) : Option Nat :=
  if r.step = .uwbresp then (if r.window.isSome then r.pollMark.map respMark else none) else some (s.uwbStart r)

theorem State.goes_iff (s : State) (r : UwbRun) :
    s.goes r ↔ (!r.closed && !r.withdrawn && r.ready s.now && r.txMark.isNone) = true := by
  simp [State.goes, and_assoc]

/-- What the front-end may come to: it stands, or a step that goes was barred, left at a mark or opened its window (R175, R177, R192). -/
def State.mayBecome (s : State) (x : Uwb) : Prop := x = s.uwb ∨ ∃ r, s.uwb.run = some r ∧ s.goes r ∧
  (x = s.uwbBarred r ∨ ∃ m, x = s.uwbLeaves r m ∨ x = s.uwbOpens r m)

/-- A step that goes does so once its instant has come, unless COEX_GNT bars it. -/
theorem State.mayBecome_of_due {s : State} {r : UwbRun} {v : Uwb} {m : Nat} (hrun : s.uwb.run = some r)
    (hv : v = s.uwbLeaves r m ∨ v = s.uwbOpens r m) (due : Prop) [Decidable due] (ok : Bool) :
    s.mayBecome (if (!r.closed && !r.withdrawn && r.ready s.now && r.txMark.isNone && decide due) = true
      then (if ok = true then v else s.uwbBarred r) else s.uwb) := by
  split
  · next h =>
    rw [Bool.and_eq_true, ← State.goes_iff] at h
    refine .inr ⟨r, hrun, h.1, ?_⟩
    split
    · exact .inr ⟨m, hv⟩
    · exact .inl rfl
  · exact .inl rfl

theorem State.uwbDue_mayBecome (s : State) : s.mayBecome s.uwbDue := by
  unfold State.uwbDue
  split
  · exact .inl rfl
  · next r hrun =>
    dsimp only
    split
    · exact State.mayBecome_of_due hrun (.inr rfl) ..
    · exact State.mayBecome_of_due hrun (.inl rfl) ..
    · exact .inl rfl
    · exact State.mayBecome_of_due hrun (.inl rfl) ..

/-- A step whose mark has come leaves, unless COEX_GNT bars it (R173, R175, R192). -/
theorem State.uwbDue_of_ownMark {s : State} {r : UwbRun} {m : Nat} (hrun : s.uwb.run = some r) (hgoes : s.goes r)
    (hmark : s.ownMark r = some m) (hnow : m ≤ s.now) :
    s.uwbDue = if (!s.uwb.coex || s.uwb.granted) = true then s.uwbLeaves r m else s.uwbBarred r := by
  rw [State.goes_iff] at hgoes
  unfold State.uwbDue
  rw [hrun]
  dsimp only
  rw [hgoes]
  unfold State.ownMark at hmark
  split
  · next hstep hwin => simp [hstep, hwin] at hmark
  · next hstep hwin hpoll =>
    obtain rfl : respMark _ = m := by simpa [hstep, hwin, hpoll] using hmark
    rw [if_pos (by simpa using hnow)]
  · next hstep hwin hpoll => simp [hstep, hwin, hpoll] at hmark
  · next h1 h2 h3 =>
    have hstep : r.step ≠ .uwbresp := by
      intro h
      cases hw : r.window with
      | none => exact h1 h hw
      | some w =>
        cases hp : r.pollMark with
        | none => exact h3 _ h hw hp
        | some p => exact h2 _ _ h hw hp
    obtain rfl : s.uwbStart r = m := by simpa [hstep] using hmark
    rw [if_pos (by simpa using hnow)]

/-- What the front-end comes to leaves its settings, its calibrations and its account of coexistence as they are. -/
theorem State.uwbMoves_only (s : State) : ∃ m f p t e r,
    s.uwbMoves = { s with uwb := { s.uwb with mode := m, sent := f, pctl := p, spans := t, expect := e, run := r } } := by
  unfold State.uwbMoves
  obtain h | ⟨r, -, -, h | ⟨m, h | h⟩⟩ := s.uwbDue_mayBecome <;> rw [h] <;> exact ⟨_, _, _, _, _, _, rfl⟩

/-- A step that is found to have sent nothing, opened no window and not been barred was found as it stood. -/
theorem State.uwbMoves_eq_self {s : State} {r : UwbRun} (hrun : s.uwbMoves.uwb.run = some r) (htx : r.txMark = none)
    (hwin : r.window = none) (hwith : r.withdrawn = false) : s.uwbMoves = s := by
  have hdue : s.uwbDue = s.uwb := by
    have hrun : s.uwbDue.run = some r := hrun
    obtain h | ⟨q, -, -, h | ⟨m, h | h⟩⟩ := s.uwbDue_mayBecome
    · exact h
    all_goals
      rw [h] at hrun
      obtain rfl := Option.some.inj hrun
    · cases hwith
    · cases htx
    · cases hwin
  rw [State.uwbMoves, hdue]

/-- A step that waits stays as it is. -/
theorem State.uwbMoves_of_not_ready {s : State} {r : UwbRun} (hrun : s.uwb.run = some r) (h : r.ready s.now = false) : s.uwbMoves = s := by
  have hdue : s.uwbDue = s.uwb := by
    obtain h' | ⟨q, hq, ⟨-, -, hready, -⟩, -⟩ := s.uwbDue_mayBecome
    · exact h'
    · obtain rfl := Option.some.inj (hrun.symm.trans hq)
      rw [h] at hready
      cases hready
  rw [State.uwbMoves, hdue]

theorem State.uwbMoves_of_idle {s : State} (h : s.uwb.run = none) : s.uwbMoves = s := by
  have hdue : s.uwbDue = s.uwb := by rw [State.uwbDue, h]
  rw [State.uwbMoves, hdue]

/-! #### Measurements -/

/-- What a measurement of the own frame may change: the trims, UWB_PCTL, the loopback error, the pre-distortion and the faults of the
front-end, the fault unit with ATTN_CAUSE, and the counter of free values (R179 to R182, R189). -/
def State.retunes (s t : State) : Prop := ∃ k a f t5 t9 p e v b, t = { s with
  fresh := k, host := { s.host with attn := a }, faults := f
  uwb := { s.uwb with trim5 := t5, trim9 := t9, pctl := p, loopErr := e, dpdUse := v, fault := b } }

theorem State.retunes_rfl (s : State) : s.retunes s := ⟨_, _, _, _, _, _, _, _, _, rfl⟩

theorem State.retunes.trans {s t u : State} (h : s.retunes t) (h' : t.retunes u) : s.retunes u := by
  obtain ⟨_, _, _, _, _, _, _, _, _, rfl⟩ := h
  obtain ⟨_, _, _, _, _, _, _, _, _, rfl⟩ := h'
  exact ⟨_, _, _, _, _, _, _, _, _, rfl⟩

theorem State.retunes_latch (s : State) (b : Nat) (c : Cause) (sc : Scope) (d : List Byte) :
    s.retunes ((s.setUwb { s.uwb with fault := s.uwb.fault ||| b }).recordFault c sc d) := ⟨_, _, _, _, _, _, _, _, _, rfl⟩

/-- The own frame finds an open at the ball that is not latched (R189). -/
def Uwb.opensBy (u : Uwb) (tx : TxMeas) : Bool := !tx.matched && !u.fault.testBit 4

/-- The step after the measurement of its own frame. -/
def UwbRun.measuredBy (r : UwbRun) (u : Uwb) (tx : TxMeas) : UwbRun := { r with meas := none, measured := true, antenna := u.opensBy tx }

/-- A measurement tells the step, and retunes the front-end. -/
theorem State.uwbMeasure_retunes (s : State) (r : UwbRun) (tx : TxMeas) :
    State.retunes (s.setUwb { s.uwb with run := some (r.measuredBy s.uwb tx) }) (s.uwbMeasure r tx) := by
  unfold State.uwbMeasure
  extract_lets u t0 t hot adapt cut v1 w1 v2 w2 v3 w3
  have h1 : State.retunes (s.setUwb { s.uwb with run := some (r.measuredBy s.uwb tx) }) w1 := by
    show State.retunes _ (s.setUwb { u.setTrim r.ch t with pctl := _, loopErr := _, run := _ })
    unfold Uwb.setTrim
    split <;> exact ⟨_, _, _, _, _, _, _, _, _, rfl⟩
  have h2 : w1.retunes v2 := by
    show w1.retunes (ite (adapt = true) _ _)
    split
    · exact ⟨_, _, _, _, _, _, _, _, _, rfl⟩
    · exact w1.retunes_rfl
  have h3 : v2.retunes v3 := by
    show v2.retunes (ite ((hot && !u.fault.testBit 6) = true) _ _)
    split
    · exact v2.retunes_latch ..
    · exact v2.retunes_rfl
  refine (h1.trans h2).trans (h3.trans ?_)
  split
  · exact v3.retunes_latch ..
  · exact v3.retunes_rfl

/-- Bringing the step to its end changes the front-end, the fault unit with ATTN_CAUSE and the free values; the channel of the synthesiser stands. -/
theorem State.uwbClosing_only (s : State) : ∃ k a f w,
    s.uwbClosing = { s with fresh := k, host := { s.host with attn := a }, faults := f, uwb := w } ∧
    w.lastch = s.uwb.lastch := by
  have hmoves : s.uwbMoves.uwb.lastch = s.uwb.lastch := by
    obtain ⟨_, _, _, _, _, _, h⟩ := s.uwbMoves_only
    rw [h]
  have hstands : ∃ k a f w,
      s.uwbMoves = { s with fresh := k, host := { s.host with attn := a }, faults := f, uwb := w } ∧ w.lastch = s.uwb.lastch :=
    ⟨_, _, _, _, rfl, hmoves⟩
  have hmeasure (k : Nat) (r : UwbRun) (tx : TxMeas) : ∃ k' a f w, ({ s.uwbMoves with fresh := k } : State).uwbMeasure r tx =
      { s with fresh := k', host := { s.host with attn := a }, faults := f, uwb := w } ∧ w.lastch = s.uwb.lastch := by
    obtain ⟨_, _, _, _, _, _, _, _, _, h⟩ := ({ s.uwbMoves with fresh := k } : State).uwbMeasure_retunes r tx
    exact ⟨_, _, _, _, h, hmoves⟩
  unfold State.uwbClosing
  dsimp only
  split
  · split
    · split
      · exact hstands
      · split
        · exact hmeasure _ _ _
        · exact hmeasure _ _ _
    · exact hstands
  · exact hstands

theorem State.uwbClosing_of_idle {s : State} (h : s.uwb.run = none) : s.uwbClosing = s := by
  rw [State.uwbClosing, State.uwbMoves_of_idle h, h]

/-! ### UWB frames -/

/-! #### The own frame -/

/-- The own frame leaves at its mark with its FCS, unless COEX_GNT bars it (R173, R175, R176, R192, R233). -/
theorem uwbMoves_ownFrame (s : State) (r : UwbRun) (p : Nat) (hrun : s.uwb.run = some r) (hclosed : r.closed = false)
    (hwith : r.withdrawn = false) (htx : r.txMark = none) (hready : r.ready s.now = true) :
    let m := if r.step = .uwbresp then p + 1024 * chipT else s.uwbStart r
    let out := s.uwbFilled r m
    (r.step = .uwbresp → r.pollMark = some p ∧ r.window.isSome = true) → m ≤ s.now →
    let t := s.uwbMoves
    (s.uwb.coex = false ∨ s.uwb.granted = true → t.uwb.mode = .tx ∧ (m, m + r.chips * chipT) ∈ t.uwb.spans ∧
      (∃ q, t.uwb.run = some q ∧ q.txMark = some m ∧ q.land = r.land ∧ q.reserved = 0) ∧
      (∃ f, t.uwb.sent = some f ∧ f.mark = m ∧ f.ch = r.ch ∧ f.code = r.code ∧ f.psdu = out ++ uwbFcs out) ∧ t.landings = s.landings) ∧
    (s.uwb.coex = true → s.uwb.granted = false → t.uwb.sent = s.uwb.sent ∧ t.uwb.spans = s.uwb.spans ∧ t.landings = s.landings ∧
      ∃ q, t.uwb.run = some q ∧ q.withdrawn = true) := by
  intro m out hresp hnow t
  have hmark : s.ownMark r = some m := by
    unfold State.ownMark
    split
    · next hstep =>
      obtain ⟨hpoll, hwin⟩ := hresp hstep
      rw [hwin, hpoll, if_pos rfl, Option.map_some, respMark]
      exact congrArg some (if_pos hstep).symm
    · next hstep => exact congrArg some (if_neg hstep).symm
  have hdue : t.uwb = if (!s.uwb.coex || s.uwb.granted) = true then s.uwbLeaves r m else s.uwbBarred r :=
    State.uwbDue_of_ownMark hrun ⟨hclosed, hwith, hready, htx⟩ hmark hnow
  refine ⟨fun hok => ?_, fun hcoex hgrant => ?_⟩
  · rw [if_pos (by simpa using hok)] at hdue
    rw [hdue]
    exact ⟨rfl, List.mem_append_right _ (List.mem_singleton_self _), ⟨_, rfl, rfl, rfl, rfl⟩, ⟨_, rfl, rfl, rfl, rfl, rfl⟩, rfl⟩
  · rw [if_neg (by simp [hcoex, hgrant])] at hdue
    rw [hdue]
    exact ⟨rfl, rfl, rfl, _, rfl, rfl⟩

/-- A step whose own frame is sound goes on to its window once that frame is measured. -/
theorem State.uwbMeasure_sound {s : State} {r : UwbRun} {tx : TxMeas} (hrun : s.uwb.run = some r) (hant : r.antenna = false)
    (hsound : r.measured = true ∨ tx.matched = true) : let v := if r.measured = true then s else s.uwbMeasure r tx
    (∃ a b, v.uwb.run = some { r with meas := a, measured := b, antenna := false }) ∧ v.uwb.coexCfg = s.uwb.coexCfg ∧
      v.landings = s.landings := by
  intro v
  by_cases hm : r.measured = true
  · rw [show v = s from if_pos hm]
    exact ⟨⟨r.meas, r.measured, by rw [hrun, ← hant]⟩, rfl, rfl⟩
  · have hnone : s.uwb.opensBy tx = false := by rw [Uwb.opensBy, hsound.resolve_left hm]; rfl
    obtain ⟨_, _, _, _, _, _, _, _, _, hv⟩ := s.uwbMeasure_retunes r tx
    rw [show v = s.uwbMeasure r tx from if_neg hm, hv]
    refine ⟨⟨none, true, ?_⟩, rfl, rfl⟩
    rw [← hnone]
    rfl

/-- The reply window opens 512 CHIP periods after the poll, its own frame sound and no withdrawal in the way (R177, R189). -/
theorem evUwbWindowOpen_does (tx : TxMeas) (m : Nat) (r : UwbRun) (j : FieldJob) : EventDoes (fun dt => .evUwbWindowOpen dt tx)
    (fun u => u.uwbMoves.uwb.run = some r ∧ u.inField r.land j ∧ j.kind = .uwbpoll ∧ r.step = .uwbpoll ∧ j.fin = none ∧ r.window = none ∧
      r.txMark = some m ∧ m + r.chips * chipT + 512 * chipT ≤ u.now ∧ r.closed = false ∧ r.withdrawn = false ∧ u.uwb.coex = false ∧
      r.antenna = false ∧ r.meas = none ∧ (r.measured = true ∨ tx.matched = true))
    (fun u t => t.uwb.mode = .rx ∧ t.landings = u.landings ∧
      ∃ q, t.uwb.run = some q ∧ q.window = some (m + r.chips * chipT + 512 * chipT) ∧ q.txMark = some m ∧ q.land = r.land) := by
  refine event_of_occurLive (fun dt s => execEvUwbWindowOpen.eq_1 dt tx s) (fun _ _ => rfl)
    fun u _ ⟨hrun, hfield, hkind, hstep, hfin, hwin, htx, hnow, hclosed, hwith, hcoex, hant, hmeas, hsound⟩ => ?_
  have hcfg : u.uwbMoves.uwb.coexCfg = u.uwb.coexCfg := by
    obtain ⟨_, _, _, _, _, _, h⟩ := u.uwbMoves_only
    rw [h]
  obtain ⟨⟨a, b, hq⟩, hcfgv, hland⟩ := State.uwbMeasure_sound (tx := tx) hrun hant hsound
  have hlate : ¬u.uwbMoves.now < r.airEnd m + 512 * chipT := Nat.not_lt.2 hnow
  dsimp only
  rw [State.uwbRun_of_inField hrun hfield]
  dsimp only
  rw [htx]
  dsimp only
  rw [hwin, hfin, hclosed, hkind, if_neg (by simp [hlate]), hmeas, Option.getD_none]
  generalize (if r.measured = true then u.uwbMoves else u.uwbMoves.uwbMeasure r tx) = v at hq hcfgv hland
  have hcoexv : v.uwb.coex = false := by rw [Uwb.coex, hcfgv, hcfg]; exact hcoex
  rw [hq]
  dsimp only
  rw [if_neg Bool.false_ne_true, hwith, hcoexv, if_neg (by simp)]
  refine ⟨?_, hland, _, rfl, rfl, htx, rfl⟩
  show (if r.step == .uwbresp then UwbMode.txarm else .rx) = .rx
  rw [hstep]
  rfl

/-- What the loopback measured of a final joins the step, which has its outcome when no report is to come (R216, R231). -/
theorem evUwbFinalTx_does (tx : TxMeas) (m : Nat) (r : UwbRun) (j : FieldJob) : EventDoes (fun dt => .evUwbFinalTx dt tx)
    (fun u => u.uwbMoves.uwb.run = some r ∧ u.inField r.land j ∧ j.kind = .uwbfinal ∧ r.txMark = some m ∧ r.meas = none ∧
      r.measured = false ∧ r.closed = false)
    (fun u t => (∃ q, t.uwb.run = some q ∧ q.txMark = some m ∧ q.meas = some tx) ∧ u.othersKeep t r.land ∧
      (r.report = true → t.landings = u.landings) ∧
      (r.report = false → ∃ rest, (t.land r.land).wait = .field { j with fin := some (.ok, rest) })) := by
  refine event_of_occurLive (fun dt s => execEvUwbFinalTx.eq_1 dt tx s) (fun _ _ => rfl)
    fun u _ ⟨hrun, hfield, hkind, htx, hmeas, hmeasured, hclosed⟩ => ?_
  dsimp only
  rw [State.uwbRun_of_inField hrun hfield]
  dsimp only
  rw [if_neg (by simp [hkind, htx, hmeas, hmeasured, hclosed])]
  split
  · next hreport => exact ⟨⟨_, rfl, htx, rfl⟩, fun _ _ => rfl, fun _ => rfl, fun h => by simp [h] at hreport⟩
  · next hreport =>
    exact ⟨⟨_, rfl, htx, rfl⟩, fun n hn => State.land_setLand_ne _ _ hn, fun h => absurd h hreport,
      fun _ => ⟨_, congrArg Landing.wait (State.land_setLand _ _ hfield.1)⟩⟩

/-- What the loopback measured of a response joins the step (R175). -/
theorem evUwbResponseTx_does (tx : TxMeas) (m : Nat) (r : UwbRun) (j : FieldJob) : EventDoes (fun dt => .evUwbResponseTx dt tx)
    (fun u => u.uwbMoves.uwb.run = some r ∧ u.inField r.land j ∧ j.kind = .uwbresp ∧ r.txMark = some m ∧ r.meas = none ∧
      r.measured = false ∧ r.closed = false)
    (fun u t => (∃ q, t.uwb.run = some q ∧ q.txMark = some m ∧ q.meas = some tx) ∧ t.landings = u.landings) := by
  refine event_of_occurLive (fun dt s => execEvUwbResponseTx.eq_1 dt tx s) (fun _ _ => rfl)
    fun u _ ⟨hrun, hfield, hkind, htx, hmeas, hmeasured, hclosed⟩ => ?_
  dsimp only
  rw [State.uwbRun_of_inField hrun hfield]
  dsimp only
  rw [if_neg (by simp [hkind, htx, hmeas, hmeasured, hclosed])]
  exact ⟨⟨_, rfl, htx, rfl⟩, rfl⟩

/-! #### Disturbances -/

/-- A front-end that has nothing due does not stand at the mark of its own frame (R221). -/
theorem State.uwbAtEdge_of_waits {s : State} {r : UwbRun} (hrun : s.uwb.run = some r) (htx : r.txMark = none) (hpoll : r.pollMark = none)
    (hwith : r.withdrawn = false) (hself : s.uwbMoves = s) : s.uwbAtEdge = false := by
  unfold State.uwbAtEdge
  rw [hrun]
  dsimp only
  rw [hpoll, htx, hwith]
  by_contra hedge
  simp only [Bool.not_eq_false, Bool.and_eq_true, Bool.not_eq_true', bne_iff_ne, beq_iff_eq, Option.isNone_none, Bool.not_false,
    and_true] at hedge
  obtain ⟨hclosed, ⟨hstep, hready⟩, hnow⟩ := hedge
  have hmoved : s.uwbDue.run = some r := (congrArg (fun v => v.uwb.run) hself).trans hrun
  rw [State.uwbDue_of_ownMark hrun ⟨hclosed, hwith, hready, htx⟩ (if_neg hstep) (Nat.le_of_eq hnow.symm)] at hmoved
  split at hmoved
  · have hmark := congrArg UwbRun.txMark (Option.some.inj hmoved)
    rw [htx] at hmark
    cases hmark
  · have hbarred := congrArg UwbRun.withdrawn (Option.some.inj hmoved)
    rw [hwith] at hbarred
    cases hbarred

/-- A disturbance before the first emission ends the step, with nothing emitted (R221, R222). -/
theorem evUwbDisturbed_does (floor us clip from_ : Nat) (r : UwbRun) (j : FieldJob) : EventDoes (fun dt => .evUwbDisturbed dt floor us clip)
    (fun u => u.uwbMoves.uwb.run = some r ∧ u.inField r.land j ∧ j.kind = .uwbpoll ∧ j.srcs = 0 ∧ r.txMark = none ∧ r.window = none ∧
      r.pollMark = none ∧ r.disturbed = false ∧ r.lost = false ∧ u.uwbMoves.uwbSample r j = some from_ ∧ from_ + us * usT ≤ u.now ∧
      clip &&& u.uwbPorts ≠ 0 ∧ 1 ≤ us ∧ u.cirMoving r.land = false)
    (fun u t => u.fieldEnded t r.land j .fieldDisturbed 2 ∧ t.uwb.run = none ∧ t.uwb.spans = u.uwb.spans ∧ t.uwb.sent = u.uwb.sent ∧
      t.rng.disturbed = (u.rng.disturbed + 1) % 65536) := by
  refine event_of_occurLive (fun dt s => execEvUwbDisturbed.eq_1 dt floor us clip s) (fun _ _ => rfl)
    fun u _ ⟨hrun, hfield, _, hsrcs, htx, hwin, hpoll, hdist, hlost, hsample, hus, hclip, hone, hcir⟩ => ?_
  have hwith : r.withdrawn = false := by
    cases hw : r.withdrawn with
    | false => rfl
    | true => simp [State.uwbSample, hw] at hsample
  have hself := State.uwbMoves_eq_self hrun htx hwin hwith
  rw [hself] at hrun hsample
  have hedge := State.uwbAtEdge_of_waits hrun htx hpoll hwith hself
  have hunsent : (r.txMark.isNone && (r.window.isNone || r.pollMark.isSome)) = true := by simp [htx, hwin]
  let r' : UwbRun := { r with disturbed := true, markAt := u.now }
  let v := u.setRng { u.rng with disturbed := (u.rng.disturbed + 1) % 65536 }
  have hclips : (clip &&& u.uwbPorts != 0 && decide (1 ≤ us)) = true := by simp [hclip, hone]
  dsimp only
  rw [hedge, if_neg Bool.false_ne_true, hself, State.uwbRun_of_inField hrun hfield]
  dsimp only
  rw [hsample]
  dsimp only
  rw [hclips, Bool.or_true, hdist, if_neg (by simpa using hus), if_pos hunsent]
  obtain ⟨hended, huwb, hrng⟩ := State.uwbOver_does (s := v) (r := r') hfield hcir .fieldDisturbed (v.uwbRest j r')
  rw [r'.endCode_of_other rfl, hsrcs, Nat.zero_or] at hended
  exact ⟨hended, (congrArg Uwb.run huwb :), (congrArg Uwb.spans huwb :), (congrArg Uwb.sent huwb :), (congrArg Rng.disturbed hrng :)⟩

/-! #### Received frames -/

/-- A condition that asks more and an effect that tells less describe the same event. -/
theorem EventDoes.mono {c : Nat → Instr} {ok ok' : State → Prop} {did did' : State → State → Prop} {k : Nat} (h : EventDoes c ok did k)
    (hok : ∀ u, ok' u → ok u) (hdid : ∀ u t, ok' u → did u t → did' u t) : EventDoes c ok' did' k := fun dt s hlive hturn hu =>
  (h dt s hlive hturn (hok _ hu)).imp fun t ht => ⟨ht.1, hdid _ t hu ht.2⟩

theorem State.uwbEligible_moves (s : State) (rx : UwbRx) : s.uwbMoves.uwbEligible rx = s.uwbEligible rx := by
  obtain ⟨_, _, _, _, _, _, h⟩ := s.uwbMoves_only
  rw [h]
  rfl

/-- The FCS of a received PSDU is that of its payload (R210). -/
def uwbFcsOk (psdu : List Byte) : Bool := uwbFcs (psdu.take (psdu.length - 2)) == psdu.drop (psdu.length - 2)

/-- A capture joins the moves of the DMA engine, and nothing else changes with it (R213). -/
theorem State.queueCir_only (s : State) (l : Nat) (bs : List Byte) : ∃ d, s.queueCir l bs = { s with dma := d } := by
  unfold State.queueCir
  split <;> exact ⟨_, rfl⟩

/-- The exchange record of a landing lies in the baseband beside its counts; a RAW reply draws a free value (R214, log 207). -/
theorem State.rngStore_only (s : State) (r : UwbRun) (j : FieldJob) (pay : List Byte) (arr : Nat) (eps : Int) (c : Nat) : ∃ k recs,
    s.rngStore r j pay arr eps c = { s with fresh := k, rng := { s.rng with records := recs } } := by
  unfold State.rngStore
  dsimp only
  split <;> exact ⟨_, _, rfl⟩

theorem Rng.average_only (r : Rng) (ch floor : Nat) : ∃ a b, r.average ch floor = { r with base5 := a, base9 := b } := by
  unfold Rng.average
  dsimp only
  split <;> exact ⟨_, _, rfl⟩

/-- The landings, the halls, the count of discarded frames and the exchange records are as before. -/
def State.keepsFrames (s t : State) : Prop :=
  t.landings = s.landings ∧ t.halls = s.halls ∧ t.rng.discarded = s.rng.discarded ∧ t.rng.records = s.rng.records

theorem State.keepsFrames_average {s t : State} (h : s.keepsFrames t) (ch floor : Nat) :
    s.keepsFrames (t.setRng (t.rng.average ch floor)) := by
  obtain ⟨_, _, hr⟩ := t.rng.average_only ch floor
  rw [hr]
  exact h

/-- What the end of a received frame shows that a poll's step of landing l has taken: with a good FCS the step has its outcome, otherwise the
frame is discarded. -/
def State.tookFrame (u t : State) (l : Nat) : Bool → Prop
  | true => t.rng.discarded = u.rng.discarded ∧ t.halls = u.halls ∧ ∃ k rest, (t.land l).wait = .field k ∧ k.fin = some (.ok, rest)
  | false => t.rng.discarded = (u.rng.discarded + 1) % 65536 ∧ t.landings = u.landings ∧ t.rng.records = u.rng.records

/-- A poll's step with a RAW SP0 exchange takes a frame: its window is open, the lane, a port and the SFD are the frame's, and no other frame
came before it (R186, R204, R205). -/
def State.takesRaw (u : State) (rx : UwbRx) (w n : Nat) (r : UwbRun) (j : FieldJob) : Prop :=
  let first := u.now - u.rng.frameChips rx.code rx.sp1 rx.psdu.length * chipT
  let sfd := first + u.rng.sfdChips rx.code * chipT
  u.uwbMoves.uwb.run = some r ∧ u.inField r.land j ∧ j.kind = .uwbpoll ∧ j.fin = none ∧ r.closed = false ∧ r.withdrawn = false ∧
  r.kind = 0 ∧ r.sp1 = false ∧ rx.sp1 = false ∧ r.window = some w ∧ w ≤ first ∧ sfd ≤ w + j.window * usT ∧ r.searchFrom ≤ sfd ∧
  uwbLane rx.code = some n ∧ r.lanes.testBit n = true ∧ u.uwbEligible rx ≠ 0 ∧ u.uwbBeaten r rx.code sfd rx.rivals = false ∧
  rx.sfdOk = true ∧ rx.phrOk = true ∧ 3 ≤ rx.psdu.length ∧ rx.psdu.length ≤ 127

/-- A frame that is taken ends a poll's step in success when its FCS passes, and is discarded when it does not (R204, R210). -/
theorem evUwbFrameRx_raw (rx : UwbRx) (w n : Nat) (r : UwbRun) (j : FieldJob) : EventDoes (fun dt => .evUwbFrameRx dt rx)
    (fun u => u.takesRaw rx w n r j) (fun u t => u.tookFrame t r.land (uwbFcsOk rx.psdu)) := by
  refine event_of_occurLive (fun dt s => execEvUwbFrameRx.eq_1 dt rx s) (fun _ _ => rfl) fun u _ hok => ?_
  obtain ⟨hrun, hfield, hkind, hfin, hclosed, hwith, hraw, hsp0, hrx0, hwin, hopen, hlast, hsearch, hlane, hcode, helig, hfirst, hsfd, hphr,
    hlong, hshort⟩ := hok
  -- The frame meets the step's window, its lanes and its ports, and its SFD is found.
  extract_lets +onlyGivenNames s0
  rw [show s0.uwbRun = some (r, j) from State.uwbRun_of_inField hrun hfield]
  dsimp -zeta only
  extract_lets +onlyGivenNames rxChips first sfd elig laneOk isOpen
  have hlaneOk : laneOk = true := by
    show (match uwbLane rx.code with | some n => r.lanes.testBit n | none => false) = true
    rw [hlane]
    exact hcode
  have hisOpen : isOpen = true := by
    show (match r.window with
      | some w => decide (w ≤ first) && decide (sfd ≤ w + j.window * usT) && decide (r.searchFrom ≤ sfd) | none => false) = true
    rw [hwin]
    simp only [Bool.and_eq_true, decide_eq_true_eq]
    exact ⟨⟨hopen, hlast⟩, hsearch⟩
  have hfirst0 : s0.uwbBeaten r rx.code sfd rx.rivals = false := hfirst
  have helig0 : (elig == 0) = false := by
    show (s0.uwbEligible rx == 0) = false
    rw [State.uwbEligible_moves]
    simpa using helig
  rw [if_neg (by simp [hisOpen, hlaneOk, helig0, hfin, hclosed, hwith, hfirst0])]
  extract_lets +onlyGivenNames q w0 s1 discard
  rw [if_neg (by simp [hsfd])]
  extract_lets +onlyGivenNames of w1 s2 n pay whole fpDiff stsq agree stsPass s3
  -- A RAW SP0 frame is whole when its FCS passes, and asks for no STS; its capture is queued either way.
  have hwhole : whole = uwbFcsOk rx.psdu := by
    show (rx.phrOk && decide (3 ≤ rx.psdu.length) && decide (rx.psdu.length ≤ 127) && uwbFcsOk rx.psdu && rx.sp1 == r.sp1
      && (r.kind == 0 || uwbSessionOk q j.kind pay)) = _
    simp [hphr, hlong, hshort, hrx0, hsp0, hraw]
  have hsts : stsPass = true := by
    show (!rx.sp1 || (decide (bits s2.rng.det 23 16 ≤ stsq) && agree)) = true
    rw [hrx0]
    rfl
  have h3 : u.keepsFrames s3 := by
    obtain ⟨d, hd⟩ := s2.queueCir_only q.land (s2.cirCapture q j rx elig (s1.uwbDataPort rx elig).1 (whole && stsPass))
    rw [show s3 = _ from hd]
    exact ⟨rfl, rfl, rfl, rfl⟩
  clear_value s3
  rw [hwhole, hsts]
  cases uwbFcsOk rx.psdu with
  | false =>
    obtain ⟨hland, _, hcount, hrecs⟩ := h3
    rw [if_pos (by decide)]
    exact ⟨congrArg (fun c => (c + 1) % 65536) hcount, hland, hrecs⟩
  | true =>
    rw [if_neg (by decide)]
    extract_lets +onlyGivenNames mark arr epsOk tof others angle elev report flags phases tail rxStamp codeFound head rest s4 w5 s5
    have h4 : u.keepsFrames s4 := by
      have hdrawn (o : Option AoaOut) :
          u.keepsFrames (match o with | some a => if a.outside = true then s3.draw else (s3, 0) | none => (s3, 0)).1 := by
        cases o with
        | none => exact h3
        | some a =>
          dsimp only
          split <;> exact h3
      show u.keepsFrames (if q.disturbed = true then _ else State.setRng _ _)
      split
      · exact hdrawn angle
      · exact State.keepsFrames_average (hdrawn angle) ..
    clear_value s4
    rw [if_neg (by decide)]
    extract_lets +onlyGivenNames s6 own
    have h6 : s6.halls = u.halls ∧ s6.rng.discarded = u.rng.discarded := by
      obtain ⟨_, hhalls, hcount, _⟩ := h4
      obtain ⟨_, _, he⟩ := s5.rngStore_only q j pay arr rx.eps rxChips
      rw [show s6 = _ from he]
      exact ⟨hhalls, hcount⟩
    rw [hkind, if_pos (by decide)]
    exact ⟨h6.2, h6.1, _, _, congrArg Landing.wait (State.land_setLand _ _ hfield.1), rfl⟩

/-- A frame whose FCS passes gives its step an outcome. -/
theorem State.tookFrame_of_good {u t : State} {l : Nat} {psdu : List Byte} (h : u.tookFrame t l (uwbFcsOk psdu))
    (hfcs : uwbFcs (psdu.take (psdu.length - 2)) = psdu.drop (psdu.length - 2)) : u.tookFrame t l true := by
  rwa [uwbFcsOk, hfcs, beq_self_eq_true] at h

/-- A frame that fails its FCS is discarded. -/
theorem State.tookFrame_of_bad {u t : State} {l : Nat} {psdu : List Byte} (h : u.tookFrame t l (uwbFcsOk psdu))
    (hfcs : uwbFcs (psdu.take (psdu.length - 2)) ≠ psdu.drop (psdu.length - 2)) : u.tookFrame t l false := by
  rwa [uwbFcsOk, beq_false_of_ne hfcs] at h

/-- Settles O36, a lemma for each clause. -/
theorem uwbFrames : Obligations.UwbFrames :=
  ⟨uwbMoves_ownFrame, evUwbWindowOpen_does, evUwbFinalTx_does, evUwbResponseTx_does,
    fun rx w n r j =>
      ⟨(evUwbFrameRx_raw rx w n r j).mono (fun _ hu => hu.1) fun _ _ hu ht => State.tookFrame_of_good ht hu.2,
        (evUwbFrameRx_raw rx w n r j).mono (fun _ hu => hu.1) fun _ _ hu ht => State.tookFrame_of_bad ht hu.2⟩,
    evUwbDisturbed_does⟩

/-! ### Upkeep of the UWB front-end -/

/-! #### The synthesiser -/

theorem State.uwbRun_of_idle {s : State} (h : s.uwb.run = none) : s.uwbRun = none := by rw [State.uwbRun, h]

/-- A lost lock with no step and no exchange starts a full calibration (R170). -/
theorem evSynthLockLost_idle : EventDoes .evSynthLockLost (fun u => u.domUp 29 = true ∧ u.uwb.cal = none ∧ u.uwb.run = none ∧
      ∀ g ∈ u.air.grants, g.mask.testBit 1 = true → g.exch = none)
    (fun u t => t.uwb.cal = some (u.uwb.lastch, u.now) ∧ t.uwb.mode = .cal ∧ t.uwb.fault = u.uwb.fault ||| 32 ∧ t.uwb.slice = none ∧
      t.landings = u.landings) := by
  refine event_of_occurLive execEvSynthLockLost.eq_1 (fun _ _ => rfl) fun u _ ⟨hup, hcal, hrun, hexch⟩ => ?_
  have hnone : u.air.grants.find? (fun g => g.mask.testBit 1 && g.exch.isSome) = none := by
    refine List.find?_eq_none.2 fun g hg h => ?_
    rw [Bool.and_eq_true] at h
    rw [hexch g hg h.1] at h
    cases h.2
  rw [hup, hcal, if_neg (by decide), State.uwbClosing_of_idle hrun]
  extract_lets v c t
  rw [State.uwbRun_of_idle (s := t) hrun, show t.air.grants.find? _ = none from hnone]
  exact ⟨rfl, rfl, rfl, rfl, rfl⟩

/-- A lost lock ends the step that runs, with UNIT_UNUSABLE (R170). -/
theorem evSynthLockLost_run (r : UwbRun) (j : FieldJob) : EventDoes .evSynthLockLost
    (fun u => u.domUp 29 = true ∧ u.uwb.cal = none ∧ u.uwbClosing.uwb.run = some r ∧ u.inField r.land j ∧ j.srcs = 0)
    (fun u t => u.fieldEnded t r.land j .unitUnusable (if r.disturbed then 2 else 0) ∧ t.uwb.run = none ∧
      t.uwb.cal = some (u.uwb.lastch, u.now)) := by
  refine event_of_occurLive execEvSynthLockLost.eq_1 (fun _ _ => rfl) fun u _ ⟨hup, hcal, hrun, hfield, hsrcs⟩ => ?_
  obtain ⟨_, _, _, w, hclosing, hch⟩ := u.uwbClosing_only
  rw [hup, hcal, if_neg (by decide)]
  rw [hclosing] at hrun ⊢
  extract_lets h v c t
  rw [State.uwbRun_of_inField (s := t) hrun hfield]
  obtain ⟨hended, huwb, -⟩ := State.uwbEnd_does (s := t) (r := { r with lost := true }) hfield .unitUnusable (t.uwbRest j r)
  rw [UwbRun.endCode_of_other _ rfl, hsrcs, Nat.zero_or] at hended
  exact ⟨hended, (congrArg Uwb.run huwb :), (congrArg Uwb.cal huwb).trans (congrArg (fun c => some (c, u.now)) hch)⟩

/-- A port check in which no port fails only takes the ports from those that await it (R189, R190). -/
theorem State.uwbPortCheck_pass (s : State) (ports : Nat) : s.uwbPortCheck ports 0 =
    s.setUwb { s.uwb with recheck := s.uwb.recheck &&& (31 ^^^ (ports &&& 31)) } := by
  unfold State.uwbPortCheck
  simp

theorem Uwb.trim_setTrim_self (u : Uwb) (ch : Nat) (t : Int) : (u.setTrim ch t).trim ch = t := by
  unfold Uwb.setTrim Uwb.trim
  split <;> rfl

theorem Uwb.setTrim_only (u : Uwb) (ch : Nat) (t : Int) : ∃ a b, u.setTrim ch t = { u with trim5 := a, trim9 := b } := by
  unfold Uwb.setTrim
  split <;> exact ⟨_, _, rfl⟩

/-- A full calibration that ends moves the synthesiser to its channel, whose trim begins anew (R169, R179). -/
theorem evSynthCalDone_ends (temp : Int) (ch t0 bad : Nat) : EventDoes (fun dt => .evSynthCalDone dt true ⟨temp, bad⟩)
    (fun u => u.uwb.cal = some (ch, t0) ∧ t0 + 80 * usT ≤ u.now ∧ u.uwb.run = none ∧ u.uwb.rising = false)
    (fun u t => t.uwb.cal = none ∧ t.uwb.mode = .ready ∧ t.uwb.lastch = ch ∧ t.uwb.synthTemp = temp ∧ t.uwb.calFails = 0 ∧
      t.uwb.trim ch = 0 ∧ t.uwb.calAt = u.uwb.calAt ∧ t.landings = u.landings) := by
  refine event_of_occurLive (fun dt s => execEvSynthCalDone.eq_1 dt true ⟨temp, bad⟩ s) (fun _ _ => rfl)
    fun u _ ⟨hcal, hnow, _, hrising⟩ => ?_
  obtain ⟨_, _, htrim⟩ := u.uwb.setTrim_only ch 0
  have hself := u.uwb.trim_setTrim_self ch 0
  have hstay : (u.uwb.setTrim ch 0).rising = false := by rw [htrim]; exact hrising
  have hages : (u.uwb.setTrim ch 0).calAt = u.uwb.calAt := by rw [htrim]
  rw [hcal]
  dsimp only
  rw [if_neg (Nat.not_lt.2 hnow), if_pos rfl, hstay, if_neg Bool.false_ne_true, if_neg Bool.false_ne_true]
  exact ⟨rfl, rfl, rfl, rfl, rfl, hself, hages, rfl⟩

/-- The calibration of a rise of D29 runs every background calibration too (R183). -/
theorem evSynthCalDone_rises (temp : Int) (ch t0 : Nat) : EventDoes (fun dt => .evSynthCalDone dt true ⟨temp, 0⟩)
    (fun u => u.uwb.cal = some (ch, t0) ∧ t0 + 80 * usT ≤ u.now ∧ u.uwb.rising = true)
    (fun u t => t.uwb.cal = none ∧ t.uwb.rising = false ∧ t.uwb.calAt = Vector.replicate 7 u.now ∧ t.uwb.overdue = 0 ∧
      t.uwb.fault = u.uwb.fault ∧ t.landings = u.landings) := by
  refine event_of_occurLive (fun dt s => execEvSynthCalDone.eq_1 dt true ⟨temp, 0⟩ s) (fun _ _ => rfl)
    fun u _ ⟨hcal, hnow, hrising⟩ => ?_
  obtain ⟨_, _, htrim⟩ := u.uwb.setTrim_only ch 0
  have hrise : (u.uwb.setTrim ch 0).rising = true := by rw [htrim]; exact hrising
  have hfault : (u.uwb.setTrim ch 0).fault = u.uwb.fault := by rw [htrim]
  rw [hcal]
  dsimp only
  rw [if_neg (Nat.not_lt.2 hnow), if_pos rfl, hrise, if_pos rfl, if_pos rfl, if_pos rfl, State.uwbPortCheck_pass]
  exact ⟨rfl, rfl, rfl, rfl, hfault, rfl⟩

/-- One failure starts the calibration again (R170, log 19). -/
theorem evSynthCalDone_fails (temp : Int) (ch t0 bad : Nat) : EventDoes (fun dt => .evSynthCalDone dt false ⟨temp, bad⟩)
    (fun u => u.uwb.cal = some (ch, t0) ∧ t0 + 80 * usT ≤ u.now ∧ u.uwb.calFails = 0)
    (fun u t => t.uwb.cal = some (ch, u.now) ∧ t.uwb.calFails = 1 ∧ t.faults = u.faults) := by
  intro dt s u hlive hturn ⟨hcal, hnow, hfails⟩
  have hrank : faultRank (!false && s.uwb.calFails != 0) = rankUnit := by
    rw [show s.uwb.calFails = 0 from hfails]
    rfl
  refine ⟨u.setUwb { u.uwb with calFails := 1, cal := some (ch, u.now) }, ?_, rfl, rfl, rfl⟩
  show execEvSynthCalDone dt false ⟨temp, bad⟩ s = _
  rw [execEvSynthCalDone, hrank, occurLive_acts hlive hturn]
  dsimp only
  rw [show ((s.tick dt).act rankUnit).uwb.cal = _ from hcal]
  dsimp only
  rw [if_neg (Nat.not_lt.2 hnow), if_neg Bool.false_ne_true, if_pos hfails]

/-! #### Background calibrations -/

theorem evBgCalSlice_begins (k bad : Nat) : EventDoes (fun dt => .evBgCalSlice dt k false bad)
    (fun u => k ≤ 6 ∧ u.uwb.mode = .ready ∧ u.uwb.run = none ∧ u.uwb.slice = none)
    (fun u t => t = { u with uwb := { u.uwb with slice := some (k, u.now) } }) := by
  refine event_of_occurLive (fun dt s => execEvBgCalSlice.eq_1 dt k false bad s) (fun _ _ => rfl) fun u _ ⟨hk, hmode, hrun, hslice⟩ => ?_
  rw [if_neg (by simp [hmode, hrun, hk]), if_neg Bool.false_ne_true, hslice]
  rfl

/-- A bit is clear once it is masked out. -/
theorem testBit_and_xor_two_pow (v k : Nat) (h : k < 7) : (v &&& (127 ^^^ 2 ^ k)).testBit k = false := by
  have h127 : Nat.testBit 127 k = true := (Nat.testBit_two_pow_sub_one 7 k).trans (decide_eq_true h)
  rw [Nat.testBit_and, Nat.testBit_xor, h127, Nat.testBit_two_pow_self, Bool.xor_self, Bool.and_false]

/-- A slice that has taken its time renews its calibration (R183, R185). -/
theorem evBgCalSlice_ends (k t0 : Nat) : EventDoes (fun dt => .evBgCalSlice dt k true 0)
    (fun u => k ≤ 6 ∧ u.uwb.mode = .ready ∧ u.uwb.run = none ∧ u.uwb.slice = some (k, t0) ∧ t0 + uwbSliceUs k * usT ≤ u.now)
    (fun u t => t.uwb.slice = none ∧ vget t.uwb.calAt k 0 = u.now ∧ t.uwb.overdue.testBit k = false ∧ t.uwb.fault = u.uwb.fault) := by
  refine event_of_occurLive (fun dt s => execEvBgCalSlice.eq_1 dt k true 0 s) (fun _ _ => rfl)
    fun u _ ⟨hk, hmode, hrun, hslice, hnow⟩ => ?_
  have hage : vget (vset u.uwb.calAt k u.now) k 0 = u.now := vget_vset_self _ _ _ (by omega)
  have hbit := testBit_and_xor_two_pow u.uwb.overdue k (by omega)
  rw [if_neg (by simp [hmode, hrun, hk]), if_pos rfl, hslice]
  dsimp only
  rw [if_pos ⟨rfl, hnow⟩, State.uwbPortCheck_pass]
  split <;> exact ⟨rfl, hage, hbit, rfl⟩

/-- A calibration past twice its age is overdue (R185). -/
theorem evBgCalOverdue_idle (k : Nat) : EventDoes (fun dt => .evBgCalOverdue dt k)
    (fun u => k < 7 ∧ u.domUp 29 = true ∧ vget u.uwb.calAt k 0 + 2 * uwbAgeMs k * msT ≤ u.now ∧ u.uwbMoves.uwb.run = none)
    (fun u t => t = { u with uwb := { u.uwb with overdue := u.uwb.overdue ||| 2 ^ k } }) := by
  refine event_of_occurLive (fun dt s => execEvBgCalOverdue.eq_1 dt k s) (fun _ _ => rfl) fun u _ ⟨hk, hup, hage, hrun⟩ => ?_
  dsimp only
  rw [if_pos ⟨hk, hup, hage⟩, State.uwbRun_of_idle hrun]
  rfl

/-- A step that waits runs an overdue calibration at once, which lengthens its wait (R185, log 212). -/
theorem evBgCalOverdue_waits (k : Nat) (r : UwbRun) (j : FieldJob) : EventDoes (fun dt => .evBgCalOverdue dt k)
    (fun u => k < 6 ∧ u.domUp 29 = true ∧ vget u.uwb.calAt k 0 + 2 * uwbAgeMs k * msT ≤ u.now ∧ u.uwbMoves.uwb.run = some r ∧
      u.inField r.land j ∧ r.waits = true)
    (fun u t => t.uwb.overdue = u.uwbMoves.uwb.overdue ∧ vget t.uwb.calAt k 0 = u.now ∧ t.landings = u.landings ∧
      ∃ q, t.uwb.run = some q ∧ q.readyAt = max r.readyAt u.now + (min 40 (r.forcedUs + uwbSliceUs k) - r.forcedUs) * usT) := by
  refine event_of_occurLive (fun dt s => execEvBgCalOverdue.eq_1 dt k s) (fun _ _ => rfl)
    fun u _ ⟨hk, hup, hage, hrun, hfield, hwaits⟩ => ?_
  have hrenewed : vget (vset u.uwbMoves.uwb.calAt k u.now) k 0 = u.now := vget_vset_self _ _ _ (by omega)
  dsimp only
  rw [if_pos ⟨by omega, hup, hage⟩, State.uwbRun_of_inField hrun hfield]
  dsimp only
  rw [if_pos hwaits, State.uwbForce]
  dsimp only
  rw [if_neg (by omega)]
  exact ⟨rfl, hrenewed, rfl, _, rfl, rfl⟩

/-! #### Coexistence -/

/-- A grant ends the wait for it (R191). -/
theorem evCoexGntChange_grants (level : Bool) (r : UwbRun) (j : FieldJob) : EventDoes (fun dt => .evCoexGntChange dt level)
    (fun u => u.uwb.coexCfg.testBit 31 = true ∧ u.uwb.coexCfg.testBit 30 ≠ level ∧ u.uwb.run = some r ∧ u.inField r.land j ∧
      r.closed = false ∧ r.withdrawn = false ∧ r.coexWait = true)
    (fun u t => t.uwb.gnt = level ∧ t.landings = u.landings ∧
      ∃ q, t.uwb.run = some q ∧ q.coexWait = false ∧ q.readyAt = max r.readyAt u.now) := by
  refine event_of_occurLive (fun dt s => execEvCoexGntChange.eq_1 dt level s) (fun _ _ => rfl)
    fun u _ ⟨hon, hlevel, hrun, hfield, hclosed, hwith, hwait⟩ => ?_
  let v := u.setUwb { u.uwb with gnt := level }
  have hcoex : v.uwb.coex = true := hon
  have hgranted : v.uwb.granted = true := bne_iff_ne.2 hlevel.symm
  dsimp only
  rw [State.uwbMoves_of_not_ready hrun (by simp [UwbRun.ready, hwait]), show Uwb.coex _ = true from hcoex,
    State.uwbRun_of_inField (s := v) hrun hfield]
  dsimp only
  rw [if_neg (by decide), if_neg (by simp [hclosed, hwith]), show Uwb.granted _ = true from hgranted, if_pos rfl, if_pos hwait]
  exact ⟨rfl, rfl, _, rfl, rfl, rfl⟩

/-- The wait for a grant ends the step after WAIT, with COEX_DENIED (R191). -/
theorem evCoexWaitLapse_does (r : UwbRun) (j : FieldJob) : EventDoes .evCoexWaitLapse
    (fun u => u.uwb.run = some r ∧ u.inField r.land j ∧ j.srcs = 0 ∧ r.disturbed = false ∧ r.coexWait = true ∧ r.lost = false ∧
      u.cirMoving r.land = false ∧ r.coexSince + u.uwb.coexCfg % 16384 * usT ≤ u.now)
    (fun u t => u.fieldEnded t r.land j .coexDenied 0 ∧ t.uwb.denied = (u.uwb.denied + 1) % 65536 ∧ t.uwb.run = none ∧
      t.uwb.req = false) := by
  refine event_of_occurLive execEvCoexWaitLapse.eq_1 (fun _ _ => rfl)
    fun u _ ⟨hrun, hfield, hsrcs, hdist, hwait, _, hcir, hnow⟩ => ?_
  let v := u.setUwb { u.uwb with denied := (u.uwb.denied + 1) % 65536, req := false, pri := false }
  have hlapsed : (r.coexWait && decide (r.coexSince + bits u.uwb.coexCfg 13 0 * usT ≤ u.now)) = true := by
    rw [hwait, Bool.true_and]
    exact decide_eq_true hnow
  rw [State.uwbRun_of_inField hrun hfield]
  dsimp only
  rw [if_pos hlapsed]
  obtain ⟨hended, huwb, -⟩ := State.uwbOver_does (s := v) hfield hcir .coexDenied (v.uwbNoReply j r)
  rw [UwbRun.endCode_of_other _ rfl, hsrcs, Nat.zero_or, hdist] at hended
  exact ⟨hended, (congrArg Uwb.denied huwb :), (congrArg Uwb.run huwb :), (congrArg Uwb.req huwb :)⟩

/-! #### The timestamp counter -/

/-- TSC counts modulo 2 ^ 40: after a whole turn it reads the same (R196). -/
theorem State.tsc_wraps {s : State} {k : Nat} (h : s.rng.tscBase ≤ k) : s.tsc (k + 5 * 2 ^ 40) = s.tsc k := by
  unfold State.tsc
  split
  · have hturn : (k + 5 * 2 ^ 40 - s.rng.tscBase) / 5 = (k - s.rng.tscBase) / 5 + 2 ^ 40 := by omega
    rw [hturn, Nat.add_mod_right]
  · rfl

theorem evTscWrap_does : EventDoes .evTscWrap (fun u => u.domUp 30 = true)
    (fun u t => t = u ∧ ∀ k, t.tsc (k + 5 * 2 ^ 40) = t.tsc k ∨ k < t.rng.tscBase) :=
  event_of_occurLive execEvTscWrap.eq_1 (fun _ _ => rfl) fun _ _ _ =>
    ⟨rfl, fun _ => (Nat.lt_or_ge ..).symm.imp_left State.tsc_wraps⟩

/-- A read of RNG_TSC_LO latches the high part of the counter with its era (R235). -/
theorem rgRngTscLoRead_latches (dt : Nat) (s : State) (ho : (s.tick dt).frameOpen = true) :
    ∃ t, exec (.rgRngTscLoRead dt) s = .next (settle t) ∧ t.host.lastErr = .ok ∧
      t.rng = { s.rng with latch := s.rng.era % 65536 * 65536 + (s.tick dt).tsc (s.now + dt) / 2 ^ 32 } ∧ t.landings = s.landings := by
  obtain ⟨hl, he, -⟩ := State.frameOpen_iff.1 ho
  refine ⟨_, execFrRegRead_acts (target := 0x1840) (len := 1) (n := 104) (e := ⟨0, 0⟩) hl he (by decide) (by decide) (by decide), ?_⟩
  rw [readFrame_ok (target := 0x1840) (len := 1) _ (by decide)]
  exact ⟨rfl, rfl, rfl⟩

/-- Settles O37, a lemma for each clause. -/
theorem uwbUpkeep : Obligations.UwbUpkeep :=
  ⟨evSynthLockLost_idle, evSynthLockLost_run, evSynthCalDone_ends, evSynthCalDone_rises, evSynthCalDone_fails, evBgCalSlice_begins,
    evBgCalSlice_ends, evBgCalOverdue_idle, evBgCalOverdue_waits, evCoexGntChange_grants, evCoexWaitLapse_does, evTscWrap_does,
    rgRngTscLoRead_latches⟩

end Sys2Proof.Machine

namespace Sys2Proof.Machine

open Sys2Proof

/-! ### The sub-gigahertz link -/

/-! #### Events -/

/-- An event in its turn occurs. -/
theorem occurAt_acts {k dt : Nat} {s : State} {f : State → State} (hturn : (s.tick dt).inTurn k = true) :
    occurAt k dt s f = .next (settle (f ((s.tick dt).act k))) := by
  rw [occurAt, occur, if_pos hturn]

theorem EventAnyDoes.mono {c : Nat → Instr} {ok ok' : State → Prop} {did did' : State → State → Prop} {k : Nat} (h : EventAnyDoes c ok did k)
    (hok : ∀ u, ok' u → ok u) (hdid : ∀ u t, ok' u → did u t → did' u t) : EventAnyDoes c ok' did' k := fun dt s hturn hu =>
  (h dt s hturn (hok _ hu)).imp fun t ht => ⟨ht.1, hdid _ t hu ht.2⟩

/-! #### The search in progress -/

/-- The UHF step in progress and its job. -/
theorem State.uhfRun_of_inField {s : State} {r : UhfRun} {j : FieldJob} (hrun : s.uhf.run = some r) (h : s.inField r.land j) :
    s.uhfRun = some (r, j) := by
  rw [State.uhfRun, hrun]
  dsimp only
  rw [State.fieldJob_of_inField h]
  rfl

/-- A step searches once it is calibrated, up to its telegram or the end of its window (R242, R244). -/
theorem State.uhfSearch_of_run {s : State} {r : UhfRun} {j : FieldJob} (h : s.uhfRun = some (r, j)) : s.uhfSearch =
    if (j.kind == .uhfrx && !r.calWait && j.fin.isNone && decide (s.now ≤ j.issued + j.window * usT)) = true then some r.search else none := by
  rw [State.uhfSearch, h]

/-- With no step in progress, what searches is a sniff that listens (R251). -/
theorem State.uhfSearch_of_idle {s : State} {f : UhfSearch} (hrun : s.uhfRun = none) :
    s.uhfSearch = some f ↔ ∃ n, s.uhf.sniff = some n ∧ n.since.isSome = true ∧ n.search = f := by
  rw [State.uhfSearch, hrun]
  cases s.uhf.sniff <;> simp

/-- A new search lies in the step or in the sniff whose search it is. -/
theorem State.setSearch_only (s : State) (f : UhfSearch) : ∃ r n, s.setSearch f = s.setUhf { s.uhf with run := r, sniff := n } := by
  unfold State.setSearch
  split <;> exact ⟨_, _, rfl⟩

/-- The step in progress keeps its place with its new search. -/
theorem State.uhfRun_setSearch {s : State} {r : UhfRun} {j : FieldJob} (h : s.uhfRun = some (r, j)) (f : UhfSearch) :
    (s.setSearch f).uhfRun = some ({ r with search := f }, j) := by
  rw [State.setSearch, h, if_pos Option.isSome_some]
  unfold State.uhfRun at h ⊢
  cases hrun : s.uhf.run with
  | none => rw [hrun] at h; cases h
  | some q =>
    rw [hrun] at h
    obtain ⟨k, hk, he⟩ := Option.map_eq_some_iff.1 h
    cases he
    exact Option.map_eq_some_iff.2 ⟨_, hk, rfl⟩

/-- What is put in the place of the search in progress is then the search in progress. -/
theorem State.uhfSearch_setSearch {s : State} {f : UhfSearch} (h : s.uhfSearch = some f) (g : UhfSearch) :
    (s.setSearch g).uhfSearch = some g := by
  cases hrun : s.uhfRun with
  | none =>
    obtain ⟨n, hn, hsince, -⟩ := (State.uhfSearch_of_idle hrun).1 h
    rw [State.setSearch, hrun, if_neg (by decide)]
    let v := s.setUhf { s.uhf with sniff := s.uhf.sniff.map fun n => { n with search := g } }
    have hv : v.uhf.sniff = some { n with search := g } := congrArg (Option.map _) hn
    exact (State.uhfSearch_of_idle (s := v) hrun).2 ⟨_, hv, hsince, rfl⟩
  | some p =>
    obtain ⟨_, _, hset⟩ := s.setSearch_only g
    have hnow : (s.setSearch g).now = s.now := by rw [hset]; rfl
    rw [State.uhfSearch_of_run hrun] at h
    split at h
    · next hin =>
      rw [State.uhfSearch_of_run (State.uhfRun_setSearch hrun g), hnow]
      exact if_pos hin
    · cases h

theorem State.searchStays_of_run {s : State} {p : UhfRun × FieldJob} (h : s.uhfRun = some p) : s.searchStays = true := by
  rw [State.searchStays, h]
  rfl

theorem State.searchRests_of_stays {s : State} (h : s.searchStays = true) (f : UhfSearch) : s.searchRests f = s.setSearch f :=
  if_pos (by rw [h]; rfl)

/-- Holds that end leave the lanes that stay, in a search that goes on; nothing else changes but the end of the hold (R244). -/
theorem State.uhfHoldEnds_does {s : State} {f₀ : UhfSearch} (hsearch : s.uhfSearch = some f₀) (hstays : s.searchStays = true) (f : UhfSearch)
    (left : Tbl Nat) (runUs : Nat) : let t := s.uhfHoldEnds f left runUs
      (∃ g, t.uhfSearch = some g ∧ g.holds = left) ∧ ∃ r n, t = s.setUhf { s.uhf with run := r, sniff := n } := by
  intro t
  rw [show t = s.setSearch _ from State.searchRests_of_stays hstays _]
  exact ⟨⟨_, State.uhfSearch_setSearch hsearch _, rfl⟩, State.setSearch_only ..⟩

/-! #### Preambles -/

/-- A lane that finds a preamble at its rate holds it from then on (R240, R244). -/
theorem evUhfPreambleDetect_holds (lane : Nat) (err : Int) (f : UhfSearch) : EventAnyDoes (fun dt => .evUhfPreambleDetect dt lane err)
    (fun u => u.uhfSearch = some f ∧ u.uhfDetects = true ∧ f.rates.testBit lane = true ∧ err.natAbs ≤ 120)
    (fun u t => t.uhf.rateReject = u.uhf.rateReject ∧ t.landings = u.landings ∧
      ∃ g, t.uhfSearch = some g ∧ Tbl.find g.holds lane = some u.now ∧ g.seen = (lane, u.now) :: f.seen) := by
  refine eventAny_of_occurAt (fun dt s => execEvUhfPreambleDetect.eq_1 dt lane err s) (fun _ _ => rfl)
    fun u ⟨hsearch, hdetects, hlane, herr⟩ => ?_
  obtain ⟨_, _, hset⟩ := u.setSearch_only (f.hold lane u.now)
  have hheld := State.uhfSearch_setSearch hsearch (f.hold lane u.now)
  rw [hsearch]
  dsimp only
  rw [hlane, hdetects, if_neg (by decide), if_neg (Nat.not_lt.2 herr)]
  exact ⟨by rw [hset]; rfl, by rw [hset]; rfl, _, hheld, Tbl.find_put_self .., rfl⟩

/-- A signal beyond 12 % of its lane's rate is rejected (R240). -/
theorem evUhfPreambleDetect_rejects (lane : Nat) (err : Int) (f : UhfSearch) : EventAnyDoes (fun dt => .evUhfPreambleDetect dt lane err)
    (fun u => u.uhfSearch = some f ∧ u.uhfDetects = true ∧ f.rates.testBit lane = true ∧ 120 < err.natAbs)
    (fun u t => t = ({ u with uhf := { u.uhf with rateReject := (u.uhf.rateReject + 1) % 65536 } } : State).setSearch
      { f with rejects := u.now :: f.rejects }) := by
  refine eventAny_of_occurAt (fun dt s => execEvUhfPreambleDetect.eq_1 dt lane err s) (fun _ _ => rfl)
    fun u ⟨hsearch, hdetects, hlane, herr⟩ => ?_
  rw [hsearch]
  dsimp only
  rw [hlane, hdetects, if_neg (by decide), if_pos herr]
  rfl

/-- A lane that loses its preamble holds it no longer (R244). -/
theorem evUhfPreambleLost_does (lane runUs : Nat) (f : UhfSearch) : EventAnyDoes (fun dt => .evUhfPreambleLost dt lane runUs)
    (fun u => u.uhfSearch = some f ∧ (Tbl.find f.holds lane).isSome = true ∧ u.searchStays = true)
    (fun u t => t.landings = u.landings ∧ ∃ g, t.uhfSearch = some g ∧ Tbl.find g.holds lane = none) := by
  refine eventAny_of_occurAt (fun dt s => execEvUhfPreambleLost.eq_1 dt lane runUs s) (fun _ _ => rfl)
    fun u ⟨hsearch, hheld, hstays⟩ => ?_
  obtain ⟨⟨g, hg, hleft⟩, _, _, hset⟩ := State.uhfHoldEnds_does hsearch hstays f (Tbl.del f.holds lane) runUs
  rw [hsearch]
  dsimp only
  rw [if_pos hheld]
  exact ⟨by rw [hset]; rfl, g, hg, by rw [hleft]; exact Tbl.find_del_self ..⟩

/-! #### Telegrams -/

/-- A lane takes a telegram: it holds its preamble, the modulation and the deviation are the search's, and no other lane completed its sync
first (R239, R241). -/
def State.takesTelegram (u : State) (f : UhfSearch) (rx : UhfRx) (at0 : Nat) : Prop :=
  u.uhfSearch = some f ∧ f.rates.testBit rx.lane = true ∧ Tbl.find f.holds rx.lane = some at0 ∧ f.takes rx = true ∧ f.rejects = [] ∧
  at0 ≤ u.now - rx.sync ∧ f.searchFrom ≤ u.now - rx.sync ∧ u.uhfBeaten f rx = false

/-- With no rejection in the search there is none after the sync to take back (R241, log 214). -/
theorem State.uhfStopped_of_none (s : State) {f : UhfSearch} (h : f.rejects = []) (sync : Nat) : s.uhfStopped f sync = s := by
  rw [State.uhfStopped, h]
  exact if_pos rfl

/-- A telegram that a lane takes is rejected for its rate, or passes or is discarded by the checks of its step (R240, R241). -/
theorem evUhfTelegramRx_taken (rx : UhfRx) (runUs at0 : Nat) (f : UhfSearch) : EventAnyDoes (fun dt => .evUhfTelegramRx dt rx runUs)
    (fun u => u.takesTelegram f rx at0)
    (fun u t =>
      (120 < rx.err.natAbs → t = (u.setUhf { u.uhf with rateReject := (u.uhf.rateReject + 1) % 65536 }).uhfHoldEnds
        { f with seen := [], rejects := [], searchFrom := u.now } [] runUs) ∧
      (rx.err.natAbs ≤ 120 → ∀ r j, u.uhfRun = some (r, j) → t = if uhfPasses f.longest rx = true
        then u.setJob r.land { j with fin := some (.ok, uhfResult rx) } else u.uhfDiscard f rx (f.others rx.lane at0 (u.now - rx.sync)) runUs)) := by
  refine eventAny_of_occurAt (fun dt s => execEvUhfTelegramRx.eq_1 dt rx runUs s) (fun _ _ => rfl)
    fun u ⟨hsearch, hlane, hheld, htakes, hrejects, hafter, hfrom, hfirst⟩ => ?_
  rw [hsearch]
  dsimp only
  rw [hheld]
  dsimp only
  rw [if_neg (by simp [hlane, htakes, hafter, hfrom, hfirst]), State.uhfStopped_of_none u hrejects]
  refine ⟨fun herr => if_pos herr, fun herr r j hrun => ?_⟩
  rw [if_neg (Nat.not_lt.2 herr), hrun]

/-- A telegram that passes is its step's result (R241, R243). -/
theorem evUhfTelegramRx_passes (rx : UhfRx) (runUs at0 : Nat) (f : UhfSearch) (r : UhfRun) (j : FieldJob) :
    EventAnyDoes (fun dt => .evUhfTelegramRx dt rx runUs)
    (fun u => u.takesTelegram f rx at0 ∧ u.uhf.run = some r ∧ u.inField r.land j ∧ rx.err.natAbs ≤ 120 ∧ uhfPasses f.longest rx = true)
    (fun u t => (t.land r.land).wait = .field { j with fin := some (.ok, uhfResult rx) } ∧ t.uhf = u.uhf) := by
  refine (evUhfTelegramRx_taken rx runUs at0 f).mono (fun _ hu => hu.1) fun u t ⟨_, hrun, hfield, herr, hpass⟩ ⟨_, ht⟩ => ?_
  rw [ht herr r j (State.uhfRun_of_inField hrun hfield), if_pos hpass]
  obtain ⟨hl, -, -⟩ := hfield
  exact ⟨congrArg Landing.wait (State.land_setLand _ _ hl), rfl⟩

/-- A telegram that fails is discarded, as a collision when another lane detected a preamble or the strength varied (R241, R242). -/
theorem evUhfTelegramRx_discards (rx : UhfRx) (runUs at0 : Nat) (f : UhfSearch) (r : UhfRun) (j : FieldJob) :
    EventAnyDoes (fun dt => .evUhfTelegramRx dt rx runUs)
    (fun u => u.takesTelegram f rx at0 ∧ u.uhf.run = some r ∧ u.inField r.land j ∧ rx.err.natAbs ≤ 120 ∧ uhfPasses f.longest rx = false)
    (fun u t => t.uhf.discarded = (u.uhf.discarded + 1) % 65536 ∧ t.landings = u.landings ∧ t.uhf.hits = u.uhf.hits ∧
      t.uhf.collided = (if f.others rx.lane at0 (u.now - rx.sync) || decide (12 < rx.spread) then (u.uhf.collided + 1) % 65536
        else u.uhf.collided)) := by
  refine (evUhfTelegramRx_taken rx runUs at0 f).mono (fun _ hu => hu.1) fun u t ⟨⟨hsearch, _⟩, hrun, hfield, herr, hpass⟩ ⟨_, ht⟩ => ?_
  have hstep := State.uhfRun_of_inField hrun hfield
  rw [ht herr r j hstep, hpass, if_neg Bool.false_ne_true]
  unfold State.uhfDiscard
  extract_lets coll x v
  obtain ⟨-, _, _, hset⟩ := State.uhfHoldEnds_does (s := v) hsearch (State.searchStays_of_run (s := v) hstep)
    { f with collided := f.collided || coll, searchFrom := v.now, seen := [], rejects := [] } [] runUs
  rw [hset]
  exact ⟨rfl, rfl, rfl, rfl⟩

/-- A telegram whose error over preamble and sync lies beyond 12 % is rejected; no lane holds a preamble any more (R240). -/
theorem evUhfTelegramRx_rejects (rx : UhfRx) (runUs at0 : Nat) (f : UhfSearch) : EventAnyDoes (fun dt => .evUhfTelegramRx dt rx runUs)
    (fun u => u.takesTelegram f rx at0 ∧ 120 < rx.err.natAbs ∧ u.searchStays = true)
    (fun u t => t.uhf.rateReject = (u.uhf.rateReject + 1) % 65536 ∧ t.uhf.discarded = u.uhf.discarded ∧ t.landings = u.landings ∧
      ∃ g, t.uhfSearch = some g ∧ Tbl.find g.holds rx.lane = none) := by
  refine (evUhfTelegramRx_taken rx runUs at0 f).mono (fun _ hu => hu.1) fun u t ⟨⟨hsearch, _⟩, herr, hstays⟩ ⟨ht, _⟩ => ?_
  let v := u.setUhf { u.uhf with rateReject := (u.uhf.rateReject + 1) % 65536 }
  obtain ⟨⟨g, hg, hleft⟩, _, _, hset⟩ := State.uhfHoldEnds_does (s := v) hsearch hstays
    { f with seen := [], rejects := [], searchFrom := u.now } [] runUs
  rw [ht herr]
  exact ⟨by rw [hset]; rfl, by rw [hset]; rfl, by rw [hset]; rfl, g, hg, by rw [hleft]; rfl⟩

/-! #### Disturbances -/

theorem State.keepsUnits.uhf_eq {s t : State} (h : s.keepsUnits t) : t.uhf = s.uhf := by
  obtain ⟨_, _, _, _, _, rfl⟩ := h
  rfl

/-- A UHF step ends as a field step does, and the link runs none any more (R72). -/
theorem State.uhfEnd_does {s : State} {j : FieldJob} {r : UhfRun} (h : s.inField r.land j) (c : Code) (srcs : Nat) (rest : List Byte) :
    let t := s.uhfEnd j r c srcs rest
    s.fieldEnded t r.land j c srcs ∧ t.uhf = { s.uhf with run := none, mode := if s.uhf.cal.isSome then .cal else .ready } := by
  let v := s.setUhf { s.uhf with run := none, mode := if s.uhf.cal.isSome then .cal else .ready }
  obtain ⟨hended, -, -⟩ := State.fieldDone_ended (u := v) h c srcs rest none
  exact ⟨hended, (State.keepsUnits_fieldDone (s := v) h c srcs rest none).uhf_eq⟩

/-- In the pre-window a run marks once it has lasted DIST_MIN (R244). -/
theorem State.uhfRunLength_pre (s : State) (rates : Nat) : s.uhfRunLength true rates = s.uhf.distMin * usT := by
  rw [State.uhfRunLength, if_pos rfl, Nat.add_zero]

/-- A run of DIST_MIN in the pre-window, with no hold, ends the step with FIELD_DISTURBED (R244). -/
theorem evUhfDisturbanceMark_does (power : Int) (runUs : Nat) (r : UhfRun) (j : FieldJob) :
    EventDoes (fun dt => .evUhfDisturbanceMark dt power runUs)
    (fun u => u.uhf.run = some r ∧ u.inField r.land j ∧ j.kind = .uhfrx ∧ j.fin = none ∧ r.calWait = false ∧ r.search.holds = [] ∧
      r.search.holdEnd = none ∧ u.uhf.distThr < power ∧ u.now < r.readyAt + u.uhf.preWin * 4 * usT ∧ u.uhf.distMin ≤ runUs ∧
      r.readyAt + runUs * usT ≤ u.now ∧ u.now ≤ j.issued + j.window * usT)
    (fun u t => u.fieldEnded t r.land j .fieldDisturbed 4 ∧ t.uhf.disturbed = (u.uhf.disturbed + 1) % 65536 ∧ t.uhf.run = none) := by
  refine event_of_occurLive (fun dt s => execEvUhfDisturbanceMark.eq_1 dt power runUs s) (fun _ _ => rfl)
    fun u _ ⟨hrun, hfield, hkind, hfin, hcal, hholds, hend, hthr, hpre, hmin, hready, hwindow⟩ => ?_
  have hstep := State.uhfRun_of_inField hrun hfield
  have hsearch : u.uhfSearch = some r.search := by
    rw [State.uhfSearch_of_run hstep]
    exact if_pos (by simp [hkind, hcal, hfin, hwindow])
  have hin : u.uhfPre = true := by
    rw [State.uhfPre, hrun, Option.any_some]
    exact decide_eq_true hpre
  have hlong : decide (u.uhfRunLength u.uhfPre r.search.rates ≤ runUs * usT) = true := by
    rw [hin, State.uhfRunLength_pre]
    exact decide_eq_true (Nat.mul_le_mul_right _ hmin)
  rw [hstep, hsearch]
  dsimp only
  rw [if_neg (by simp [hholds, hthr, hready]), if_pos (by rw [hend]; exact (if_neg Bool.false_ne_true).trans hlong)]
  obtain ⟨hended, huhf⟩ := State.uhfEnd_does (s := u.setUhf { u.uhf with disturbed := (u.uhf.disturbed + 1) % 65536 }) hfield
    .fieldDisturbed 4 []
  exact ⟨hended, (congrArg Uhf.disturbed huhf :), (congrArg Uhf.run huhf :)⟩

/-! #### Calibrations -/

/-- A step that goes on leaves what the calibration has set (R237). -/
theorem Uhf.goes_keepsCal (u : Uhf) (r : UhfRun) (now : Nat) : (u.goes r now).cal = u.cal ∧ (u.goes r now).lastBand = u.lastBand ∧
    (u.goes r now).calTemp = u.calTemp ∧ (u.goes r now).calFails = u.calFails := by
  unfold Uhf.goes
  extract_lets
  split <;> exact ⟨rfl, rfl, rfl, rfl⟩

/-- A calibration ends after 60 µs, with its band and temperature (R237). -/
theorem evUhfSynthCalDone_ends (temp : Int) (b t0 : Nat) : EventDoes (fun dt => .evUhfSynthCalDone dt true temp)
    (fun u => u.uhf.cal = some (b, t0) ∧ t0 + 60 * usT ≤ u.now)
    (fun u t => t.uhf.cal = none ∧ t.uhf.lastBand = b ∧ t.uhf.calTemp = temp ∧ t.uhf.calFails = 0 ∧ t.landings = u.landings) := by
  intro dt s u hlive hturn ⟨hcal, hnow⟩
  refine ⟨_, (execEvUhfSynthCalDone.eq_1 dt true temp s).trans (occurAt_acts hturn), ?_⟩
  rw [show (s.tick dt).act (faultRank _) = u from rfl, hcal]
  dsimp only
  rw [if_neg (by simp [hlive, hnow]), if_pos rfl]
  cases hrun : u.uhf.run with
  | some r =>
    let v : Uhf := { u.uhf with cal := none, calFails := 0, calTemp := temp, lastBand := b, mode := .ready, run := some r }
    obtain ⟨hcal', hband, htemp, hfails⟩ := v.goes_keepsCal r u.now
    exact ⟨hcal', hband, htemp, hfails, rfl⟩
  | none =>
    dsimp only
    split <;> exact ⟨rfl, rfl, rfl, rfl, rfl⟩

/-- The calibration of a sniff begins its listen (R251). -/
theorem evUhfSynthCalDone_listens (temp : Int) (b t0 : Nat) (n : Sniff) : EventAnyDoes (fun dt => .evUhfSynthCalDone dt true temp)
    (fun u => u.uhf.cal = some (b, t0) ∧ t0 + 60 * usT ≤ u.now ∧ u.uhf.run = none ∧ u.uhf.sniff = some n)
    (fun u t => t.uhf.mode = .sniff ∧ t.uhf.sniff = some { n with since := some u.now } ∧ t.uhf.cal = none) := by
  refine eventAny_of_occurAt (fun dt s => execEvUhfSynthCalDone.eq_1 dt true temp s) (fun _ _ => rfl) fun u ⟨hcal, hnow, hrun, hsniff⟩ => ?_
  rw [hcal, hsniff]
  dsimp only
  rw [if_neg (by simp [hnow]), if_pos rfl, hrun]
  dsimp only
  rw [hsniff, if_pos Option.isSome_some]
  exact ⟨rfl, rfl, rfl⟩

/-! #### Sniffing -/

/-- Once a period in LOBBY D33 rises for a sniff with the settings of the registers (R251). -/
theorem evSniffPeriod_does : EventAnyDoes .evSniffPeriod
    (fun u => u.power.mode = .lobby ∧ u.power.waking = false ∧ u.uhf.sniffCfg.testBit 31 = true ∧ u.uhf.sniff = none ∧ u.dom 33 = .down ∧
      u.uhf.sniffAt + bits u.uhf.sniffTime 31 16 * msT ≤ u.now)
    (fun u t => t.dom 33 = .rising u.now ∧ t.uhf.sniffAt = u.now ∧ ∃ n, t.uhf.sniff = some n ∧ n.since = none ∧
      n.cfg = u.uhf.sniffCfg ∧ n.time = u.uhf.sniffTime ∧ n.search.band = bits u.uhf.sniffCfg 27 26 ∧
      n.search.rates = bits u.uhf.sniffCfg 24 20) := by
  refine eventAny_of_occurAt execEvSniffPeriod.eq_1 (fun _ _ => rfl) fun u ⟨hmode, hwaking, hen, hsniff, hdown, hperiod⟩ => ?_
  dsimp only
  rw [if_pos (by simp [hmode, hwaking, hen, hsniff, hdown, hperiod])]
  exact ⟨State.dom_setDom _ _ (by decide), rfl, _, rfl, rfl, rfl, rfl, rfl, rfl⟩

/-- In LOBBY a sniff listens, from t0 on (R251). -/
def State.listensIn (u : State) (n : Sniff) (t0 : Nat) : Prop :=
  u.power.mode = .lobby ∧ u.power.waking = false ∧ u.uhf.sniff = some n ∧ n.since = some t0

/-- A sniff that is over in LOBBY lets D33 fall (R251). -/
theorem State.sniffEnds_of_lobby {s : State} (hmode : s.power.mode = .lobby) (hwaking : s.power.waking = false) : s.sniffEnds =
    ({ s with uhf := { s.uhf with sniff := none, cal := none, mode := .down } } : State).setDom 33 (.falling s.now none) :=
  if_pos (by rw [State.inLobby, hmode, hwaking]; rfl)

/-- A listen that began at t0 is over: LISTEN has passed with no preamble, or every preamble stands without a sync in its time (R251). -/
def Sniff.listenOver (n : Sniff) (t0 : Nat) (synced : Option (Nat × Nat)) (now : Nat) : Bool :=
  match n.search.holds with
  | [] => decide (t0 + n.listenT ≤ now)
  | h => h.all fun e => decide (e.2 + n.syncT ≤ now) && !synced.any fun p => p.1 == e.1 && decide (now - p.2 ≤ e.2 + n.syncT)

theorem Sniff.listenOver_silent {n : Sniff} {t0 now : Nat} (h : n.search.holds = []) (synced : Option (Nat × Nat)) :
    n.listenOver t0 synced now = decide (t0 + n.listenT ≤ now) := by
  rw [Sniff.listenOver, h]

theorem Sniff.listenOver_unsynced {n : Sniff} {lane at0 now : Nat} (h : n.search.holds = [(lane, at0)]) (t0 : Nat) :
    n.listenOver t0 none now = decide (at0 + n.syncT ≤ now) := by
  simp [Sniff.listenOver, h]

theorem Sniff.listenOver_synced {n : Sniff} {lane at0 k now : Nat} (h : n.search.holds = [(lane, at0)]) (t0 : Nat)
    (hin : now - k ≤ at0 + n.syncT) : n.listenOver t0 (some (lane, k)) now = false := by
  simp [Sniff.listenOver, h]
  omega

/-- A sniff that listens goes on until its listen is over. -/
theorem evSniffListenEnd_does (n : Sniff) (t0 : Nat) (synced : Option (Nat × Nat)) : EventAnyDoes (fun dt => .evSniffListenEnd ⟨dt, synced⟩)
    (fun u => u.listensIn n t0) (fun u t => t = if n.listenOver t0 synced u.now = true then u.sniffEnds else u) := by
  intro dt s u hturn ⟨_, _, hsniff, hsince⟩
  refine ⟨_, (execEvSniffListenEnd.eq_1 ⟨dt, synced⟩ s).trans (occurAt_acts hturn), ?_⟩
  rw [show ((s.tick dt).act rankUnit).uhf.sniff = some n from hsniff]
  dsimp only
  rw [hsince]
  rfl

/-- A listen that is over in LOBBY leaves the link down, and D33 falls (R251). -/
theorem evSniffListenEnd_over {n : Sniff} {t0 : Nat} {synced : Option (Nat × Nat)} {ok : State → Prop}
    (hok : ∀ u, ok u → u.listensIn n t0 ∧ n.listenOver t0 synced u.now = true) : EventAnyDoes (fun dt => .evSniffListenEnd ⟨dt, synced⟩) ok
    (fun u t => t = ({ u with uhf := { u.uhf with sniff := none, cal := none, mode := .down } } : State).setDom 33 (.falling u.now none)) := by
  refine (evSniffListenEnd_does n t0 synced).mono (fun u hu => (hok u hu).1) fun u t hu ht => ?_
  obtain ⟨⟨hmode, hwaking, -⟩, hover⟩ := hok u hu
  rw [ht, if_pos hover, State.sniffEnds_of_lobby hmode hwaking]

/-- A listen in which no lane holds a preamble ends after LISTEN (R251). -/
theorem evSniffListenEnd_silent (n : Sniff) (t0 : Nat) (synced : Option (Nat × Nat)) : EventAnyDoes (fun dt => .evSniffListenEnd ⟨dt, synced⟩)
    (fun u => u.listensIn n t0 ∧ n.search.holds = [] ∧ t0 + n.listenT ≤ u.now)
    (fun u t => t = ({ u with uhf := { u.uhf with sniff := none, cal := none, mode := .down } } : State).setDom 33 (.falling u.now none)) :=
  evSniffListenEnd_over fun _ ⟨hlistens, hholds, hlapsed⟩ =>
    ⟨hlistens, (Sniff.listenOver_silent hholds synced).trans (decide_eq_true hlapsed)⟩

/-- A preamble that stands with no sync for PERIOD and LISTEN ends the listen (R251). -/
theorem evSniffListenEnd_unsynced (n : Sniff) (t0 : Nat) (synced : Option (Nat × Nat)) (lane at0 : Nat) :
    EventAnyDoes (fun dt => .evSniffListenEnd ⟨dt, synced⟩)
    (fun u => u.listensIn n t0 ∧ n.search.holds = [(lane, at0)] ∧ synced = none ∧ at0 + n.syncT ≤ u.now)
    (fun u t => t = ({ u with uhf := { u.uhf with sniff := none, cal := none, mode := .down } } : State).setDom 33 (.falling u.now none)) :=
  evSniffListenEnd_over fun _ ⟨hlistens, hholds, hsynced, hlapsed⟩ =>
    ⟨hlistens, by rw [hsynced, Sniff.listenOver_unsynced hholds]; exact decide_eq_true hlapsed⟩

/-- A sync that completed in time keeps the listen to the end of its telegram (R251). -/
theorem evSniffListenEnd_synced (n : Sniff) (t0 : Nat) (synced : Option (Nat × Nat)) (lane at0 k : Nat) :
    EventAnyDoes (fun dt => .evSniffListenEnd ⟨dt, synced⟩)
    (fun u => u.listensIn n t0 ∧ n.search.holds = [(lane, at0)] ∧ synced = some (lane, k) ∧ u.now - k ≤ at0 + n.syncT)
    (fun u t => t = u) := by
  refine (evSniffListenEnd_does n t0 synced).mono (fun _ hu => hu.1) fun u t ⟨_, hholds, hsynced, hin⟩ ht => ?_
  rw [ht, hsynced, Sniff.listenOver_synced hholds t0 hin, if_neg Bool.false_ne_true]

/-- Settles O38, a lemma for each clause. -/
theorem uhfEvents : Obligations.UhfEvents :=
  ⟨evUhfPreambleDetect_holds, evUhfPreambleDetect_rejects, evUhfPreambleLost_does,
    fun rx runUs at0 f =>
      ⟨evUhfTelegramRx_passes rx runUs at0 f, evUhfTelegramRx_discards rx runUs at0 f, evUhfTelegramRx_rejects rx runUs at0 f⟩,
    evUhfDisturbanceMark_does, evUhfSynthCalDone_ends, evUhfSynthCalDone_listens, evSniffPeriod_does,
    fun n t0 synced => ⟨evSniffListenEnd_silent n t0 synced, evSniffListenEnd_unsynced n t0 synced, evSniffListenEnd_synced n t0 synced⟩⟩

end Sys2Proof.Machine

namespace Sys2Proof.Machine

open Sys2Proof

/-! ### The near-field reader -/

/-! #### What a restored grant leaves to restore -/

/-- The suspended grants that may be restored (R120). -/
def Air.restorable (a : Air) : List Grant :=
  a.grants.filter fun g => g.suspended && (g.mask &&& a.held == 0) && !a.takenAbove g.mask g.prio

/-- The grant of higher priority of two, the first where they are equal. -/
def Grant.firstOf (m : Option Grant) (g : Grant) : Option Grant :=
  match m with
  | none => some g
  | some h => if g.prio < h.prio then some g else some h

/-- A grant goes on from an instant (R120, R121). -/
def Air.goesOn (a : Air) (now : Nat) (g : Grant) : Air :=
  { a with grants := a.grants.map fun h => if h == g then { h with suspended := false, heldSince := now, preempted := false } else h }

theorem restoreLoop_succ (now n : Nat) (a : Air) (ls : List (Nat × Nat)) : restoreLoop now (n + 1) a ls =
    match a.restorable.foldl Grant.firstOf none with
    | none => (a, ls)
    | some g => restoreLoop now n (a.goesOn now g) ((g.landing, g.mask) :: ls) := rfl

/-- The first of some grants is one of them. -/
theorem Grant.foldl_firstOf_some (gs : List Grant) (h : Grant) : ∃ g ∈ h :: gs, gs.foldl Grant.firstOf (some h) = some g := by
  induction gs generalizing h with
  | nil => exact ⟨h, by simp, rfl⟩
  | cons k gs ih =>
    rw [List.foldl_cons, Grant.firstOf]
    split
    · obtain ⟨g, hg, he⟩ := ih k
      exact ⟨g, List.mem_cons_of_mem _ hg, he⟩
    · obtain ⟨g, hg, he⟩ := ih h
      exact ⟨g, by simp only [List.mem_cons] at hg ⊢; tauto, he⟩

/-- A restorable grant that is restored is suspended no more: fewer grants are. -/
theorem Air.suspended_goesOn_lt {a : Air} {g : Grant} (h : g ∈ a.restorable) (now : Nat) :
    ((a.goesOn now g).grants.filter (·.suspended)).length < (a.grants.filter (·.suspended)).length := by
  simp only [Air.restorable, List.mem_filter, Bool.and_eq_true] at h
  obtain ⟨hg, ⟨hs, -⟩, -⟩ := h
  have hrest : ((a.goesOn now g).grants.filter (·.suspended)).length =
      ((a.grants.filter (·.suspended)).filter fun k => !(k == g)).length := by
    rw [Air.goesOn, List.filter_map, List.length_map, List.filter_filter]
    refine congrArg (fun p => (List.filter p a.grants).length) (funext fun k => ?_)
    by_cases hk : k = g <;> simp [hk]
  rw [hrest]
  exact List.length_filter_lt_length_iff_exists.2 ⟨g, List.mem_filter.2 ⟨hg, hs⟩, by simp⟩

/-- The restoring goes on until no grant may be restored. -/
theorem restoreLoop_restorable (now n : Nat) (a : Air) (ls : List (Nat × Nat)) (h : (a.grants.filter (·.suspended)).length ≤ n) :
    (restoreLoop now n a ls).1.restorable = [] := by
  induction n generalizing a ls with
  | zero =>
    have hnone : a.grants.filter (·.suspended) = [] := List.length_eq_zero_iff.1 (Nat.le_zero.1 h)
    refine List.filter_eq_nil_iff.2 fun g hg => ?_
    simp [List.filter_eq_nil_iff.1 hnone g hg]
  | succ n ih =>
    rw [restoreLoop_succ]
    cases hc : a.restorable with
    | nil => exact hc
    | cons k gs =>
      obtain ⟨g, hg, he⟩ := Grant.foldl_firstOf_some gs k
      rw [List.foldl_cons, Grant.firstOf, he]
      have hlt := Air.suspended_goesOn_lt (hc ▸ hg) now
      exact ih _ _ (by omega)

/-- Nothing happens where no grant may be restored. -/
theorem restoreLoop_of_none {a : Air} (h : a.restorable = []) (now n : Nat) (ls : List (Nat × Nat)) : restoreLoop now n a ls = (a, ls) := by
  cases n with
  | zero => rfl
  | succ n => rw [restoreLoop_succ, h]; rfl

/-! #### Landings that go on with a restored grant -/

/-- The landing waits for no suspended grant of the mask. -/
def Landing.unheld (mask : Nat) (x : Landing) : Prop := ∀ j, x.wait = .suspended j → mask.testBit j.kind.res = false

theorem Landing.resume_of_unheld {mask : Nat} {x : Landing} (h : x.unheld mask) (now : Nat) : x.resume now mask = x := by
  unfold Landing.resume
  split
  · next j hj => rw [h j hj, if_neg Bool.false_ne_true]
  · rfl

theorem Landing.resume_unheld (now mask : Nat) (x : Landing) : (x.resume now mask).unheld mask := by
  unfold Landing.resume
  split
  · next j hj =>
    split
    · intro k hk
      cases hk
    · next hb =>
      intro k hk
      rw [hj] at hk
      cases hk
      simpa using hb
  · next hn => exact fun k hk => absurd hk (hn k)

/-- A landing that goes on for another grant waits for no suspended one. -/
theorem Landing.unheld.resume {mask : Nat} {x : Landing} (h : x.unheld mask) (now mask' : Nat) : (x.resume now mask').unheld mask := by
  unfold Landing.resume
  split
  · split
    · intro k hk
      cases hk
    · exact h
  · exact h

/-- The landings after each of some grants has been restored. -/
def resumeAll (now : Nat) (es : List (Nat × Nat)) (v : Vector Landing 192) : Vector Landing 192 :=
  es.foldl (fun v e => vset v e.1 (Landing.resume now e.2 (vget v e.1 Landing.free))) v

theorem vset_vget_self {α : Type} {n : Nat} (v : Vector α n) (i : Nat) (d : α) : vset v i (vget v i d) = v := by
  ext k hk
  simp only [vset, vget, Vector.getElem_setIfInBounds]
  split
  · next h => subst h; simp [hk]
  · rfl

theorem resumeAll_of_unheld {now : Nat} {es : List (Nat × Nat)} {v : Vector Landing 192}
    (h : ∀ e ∈ es, (vget v e.1 Landing.free).unheld e.2) : resumeAll now es v = v := by
  induction es with
  | nil => rfl
  | cons e es ih =>
    rw [resumeAll, List.foldl_cons, Landing.resume_of_unheld (h e List.mem_cons_self), vset_vget_self]
    exact ih fun k hk => h k (List.mem_cons_of_mem _ hk)

/-- Once landings have gone on with their grants, none of them waits for one. -/
theorem resumeAll_unheld (now : Nat) (es : List (Nat × Nat)) (v : Vector Landing 192) :
    ∀ e ∈ es, (vget (resumeAll now es v) e.1 Landing.free).unheld e.2 := by
  have stays (m i : Nat) : ∀ (es : List (Nat × Nat)) (v : Vector Landing 192), (vget v i Landing.free).unheld m →
      (vget (resumeAll now es v) i Landing.free).unheld m := by
    intro es
    induction es with
    | nil => exact fun _ h => h
    | cons e es ih =>
      refine fun v h => ih _ ?_
      rw [vget_vset]
      split
      · next he => rw [he.1]; exact h.resume now e.2
      · exact h
  induction es generalizing v with
  | nil => exact fun _ he => nomatch he
  | cons e es ih =>
    intro k hk
    obtain rfl | hk := List.mem_cons.1 hk
    · refine stays k.2 k.1 es _ ?_
      rw [vget_vset]
      split
      · exact Landing.resume_unheld now k.2 _
      · next hout =>
        have hfree : vget v k.1 Landing.free = Landing.free := by
          have : v.toList[k.1]? = none := by simp; omega
          simp [vget, this]
        rw [hfree]
        intro j hj
        cases hj
    · exact ih _ k hk

/-! #### States that stand restored -/

/-- Restoring the grants of table a gives the table that stands, and no landing is left to go on. -/
def State.restoredFrom (t : State) (a : Air) : Prop :=
  (restoreLoop t.now a.grants.length a []).1 = t.air ∧
  ∀ e ∈ (restoreLoop t.now a.grants.length a []).2, (t.land e.1).unheld e.2

theorem State.restore_restoredFrom (s : State) : s.restore.restoredFrom s.air :=
  ⟨rfl, resumeAll_unheld s.now _ s.landings⟩

theorem State.restore_restorable (s : State) : s.restore.air.restorable = [] :=
  restoreLoop_restorable s.now _ s.air [] (List.length_filter_le ..)

/-- A state that stands restored, put back to table a, is restored to what it was, the reader's field apart. -/
theorem State.restore_of_restoredFrom {t : State} {a : Air} (h : t.restoredFrom a) (n : Reader) :
    ({ t with air := a, nfc := n } : State).restore =
      { t with nfc := if a.nfcBack t.air then { n with fieldOn := false } else n } := by
  obtain ⟨hair, hland⟩ := h
  have hlandings := resumeAll_of_unheld (now := t.now) hland
  unfold State.restore
  dsimp only
  rw [hair]
  exact congrArg (fun v => { t with landings := v, nfc := if a.nfcBack t.air then { n with fieldOn := false } else n }) hlandings


/-! #### The end of a round -/

/-- The landings are as before, their holds apart. -/
def State.onlyHolds (s t : State) : Prop := ∀ m, ∃ h, t.land m = { s.land m with holdUntil := h }

theorem State.onlyHolds.trans {s t u : State} (h : s.onlyHolds t) (h' : t.onlyHolds u) : s.onlyHolds u := fun m => by
  obtain ⟨_, e⟩ := h m
  obtain ⟨_, e'⟩ := h' m
  exact ⟨_, e'.trans (by rw [e])⟩

theorem State.onlyHolds_of_landings {s t : State} (h : t.landings = s.landings) : s.onlyHolds t := fun m =>
  ⟨(s.land m).holdUntil, by rw [State.land, h]; rfl⟩

/-- Posting starts holds. -/
theorem State.onlyHolds_flush (s : State) : s.onlyHolds s.flush := by
  unfold State.flush
  dsimp only
  rw [State.foldl_deferPosted_eq, State.hushCheck_eq]
  split
  · exact State.onlyHolds_of_landings rfl
  · intro m
    have hmap := vget_map s.landings (Landing.startHold s.now (HostLink.flush (2 * s.host.items.length + 1) s.host).2) m Landing.free
    rw [Landing.startHold_free] at hmap
    refine (em _).elim (fun hc => ⟨_, hmap.trans (if_pos hc)⟩) fun hc => ⟨(s.land m).holdUntil, hmap.trans (if_neg hc)⟩

/-- What becoming standalone comes to beside the gallery: holds start, the node is not leaving any more, and the units act as before. -/
def State.standsAlone (s t : State) : Prop := s.onlyHolds t ∧ t.gal.leaving = false ∧ t.live = s.live

theorem State.standsAlone.galItem {s t : State} (h : s.standsAlone t) (k : Option ItemKey) (c : Code) : s.standsAlone (t.galItem k c) := by
  obtain ⟨hholds, hleave, hlive⟩ := h
  refine ⟨hholds.trans ?_, by rw [State.galItem_eq]; exact hleave, by rw [State.galItem_eq]; exact hlive⟩
  cases k with
  | none => exact State.onlyHolds_of_landings rfl
  | some k => exact (State.onlyHolds_of_landings rfl : t.onlyHolds { t with host := _ }).trans (State.onlyHolds_flush _)

theorem State.standsAlone.attn {s t : State} (h : s.standsAlone t) (b : Nat) : s.standsAlone (t.attn b) := by
  obtain ⟨hholds, hleave, hlive⟩ := h
  exact ⟨hholds.trans (State.onlyHolds_of_landings (State.attn_landings ..)), by rw [State.attn_gal]; exact hleave, hlive⟩

theorem State.galAlone_standsAlone (s : State) : s.standsAlone s.galAlone := by
  have hbase (g : Gal) (r : Rng) (hg : g.leaving = false) : s.standsAlone { s with gal := g, rng := r, power := if s.power.refSrc then
      { s.power with refSrc := false, refQual := false, switches := (s.power.switches + 1) % 65536 } else s.power } := by
    refine ⟨State.onlyHolds_of_landings rfl, hg, ?_⟩
    split <;> rfl
  unfold State.galAlone
  obtain h | h := State.galDo_eq s _ <;> rw [h] <;> dsimp only
  · exact ((hbase _ _ rfl).galItem _ _).galItem _ _
  · exact (((hbase _ _ rfl).galItem _ _).galItem _ _).attn _

/-- The node leaves the cascade now: at the end of its round (R437). -/
def State.leavesNow (s : State) : Bool := s.gal.leaving && decide (s.gal.edgeAt + msT ≤ s.now)

theorem State.galLeave_def (s : State) : s.galLeave = if s.leavesNow then s.galAlone else s := rfl

theorem State.galLeave_of_stays {s : State} (h : s.leavesNow = false) : s.galLeave = s := by
  rw [State.galLeave_def, h, if_neg Bool.false_ne_true]

/-- The end of a round starts holds at most, leaves no node that is to leave, and lets the units act as before. -/
theorem State.galLeave_does (s : State) : s.onlyHolds s.galLeave ∧ s.galLeave.leavesNow = false ∧ s.galLeave.live = s.live := by
  cases h : s.leavesNow with
  | false =>
    rw [State.galLeave_of_stays h]
    exact ⟨State.onlyHolds_of_landings rfl, h, rfl⟩
  | true =>
    rw [State.galLeave_def, h, if_pos rfl]
    obtain ⟨hholds, hleave, hlive⟩ := s.galAlone_standsAlone
    exact ⟨hholds, by rw [State.leavesNow, hleave, Bool.false_and], hlive⟩

/-- What the end of a round may change. -/
theorem State.galLeave_only (s : State) : ∃ h l c g r p,
    s.galLeave = { s with host := h, landings := l, sched := c, gal := g, rng := r, power := p } := by
  rw [State.galLeave_def]
  split
  · exact State.galAlone_only s
  · exact ⟨_, _, _, _, _, _, rfl⟩


/-- The end of a round leaves the landings the steps they wait with. -/
theorem State.restoredFrom.galLeave {t : State} {a : Air} (h : t.restoredFrom a) : t.galLeave.restoredFrom a := by
  obtain ⟨hair, hland⟩ := h
  obtain ⟨_, _, _, _, _, _, honly⟩ := t.galLeave_only
  obtain ⟨hholds, -⟩ := t.galLeave_does
  have hnow : t.galLeave.now = t.now := by rw [honly]
  have hgrants : t.galLeave.air = t.air := by rw [honly]
  rw [State.restoredFrom, hnow, hgrants]
  refine ⟨hair, fun e he j hj => hland e he j ?_⟩
  obtain ⟨_, hm⟩ := hholds e.1
  rw [hm] at hj
  exact hj

/-- Nothing is restored where no grant may be. -/
theorem State.restore_of_none {s : State} (h : s.air.restorable = []) (hoff : s.nfc.fieldOn = false) : s.restore = s := by
  have hself : s.restoredFrom s.air := by
    rw [State.restoredFrom, restoreLoop_of_none h]
    exact ⟨rfl, fun _ he => nomatch he⟩
  have hreader : { s.nfc with fieldOn := false } = s.nfc := by rw [← hoff]
  refine (State.restore_of_restoredFrom hself s.nfc).trans ?_
  rw [hreader, ite_self]

theorem settle_of_live {s : State} (h : s.live = true) :
    settle s = (s.galLeave.restore.lfTakes.uwbMoves.followGrants.revote32.revoteUnits.revoteNvm).evalVotes.show := if_pos h

/-- What settles a state whose reader is off since an NFC grant came back settles it before that as well: grants are restored then (R120,
R256). -/
theorem settle_of_restoredFrom {t : State} {a : Air} {n : Reader} (hlive : t.live = true) (hfrom : t.restoredFrom a)
    (hnone : t.air.restorable = []) (hback : a.nfcBack t.air = true) (hn : t.nfc = { n with fieldOn := false }) :
    settle { t.galLeave with air := a, nfc := n } = settle t := by
  obtain ⟨-, hstays, hlives⟩ := t.galLeave_does
  have hv := hfrom.galLeave
  obtain ⟨_, _, _, _, _, _, honly⟩ := t.galLeave_only
  rw [show t.air = t.galLeave.air by rw [honly]] at hnone hback
  rw [show t.nfc = t.galLeave.nfc by rw [honly]] at hn
  rw [settle_of_live hlive]
  generalize t.galLeave = v at hstays hlives hv hnone hback hn
  rw [settle_of_live (s := { v with air := a, nfc := n }) (hlives.trans hlive),
    State.galLeave_of_stays (s := { v with air := a, nfc := n }) hstays, State.restore_of_restoredFrom hv n, if_pos hback, ← hn,
    State.restore_of_none hnone (by rw [hn])]

/-! #### The reader's field at the end of a field step -/

/-- The reader is as before, but that its field goes off where an NFC grant comes back (R256). -/
def State.keepsReader (s t : State) : Prop := t.nfc = s.nfc ∨
  (t.nfc = { s.nfc with fieldOn := false } ∧ t.air.restorable = [] ∧ ∃ a, t.restoredFrom a ∧ a.nfcBack t.air = true)

theorem State.keepsReader.of_eq {s t u : State} (h : t.keepsReader u) (hn : t.nfc = s.nfc) : s.keepsReader u := by
  rw [State.keepsReader, ← hn]
  exact h

theorem State.keepsReader_restore (s : State) : s.keepsReader s.restore := by
  cases h : s.air.nfcBack s.restore.air with
  | false => exact .inl (if_neg (Bool.eq_false_iff.1 h))
  | true => exact .inr ⟨if_pos h, s.restore_restorable, s.air, s.restore_restoredFrom, h⟩

theorem State.keepsReader_airRelease (s : State) (l mask : Nat) : s.keepsReader (s.airRelease l mask) := by
  unfold State.airRelease
  extract_lets mine v gs
  have hv : v.nfc = s.nfc := List.foldlRecOn (motive := fun w : State => w.nfc = s.nfc) _ _ rfl fun w hw _ _ => hw
  exact (State.keepsReader_restore _).of_eq hv

theorem State.keepsReader_boundary (s : State) (l r : Nat) : s.keepsReader (s.boundary l r) := by
  unfold State.boundary
  split
  · exact .inl rfl
  · split
    · exact s.keepsReader_airRelease ..
    · split
      · exact (State.keepsReader_restore _).of_eq rfl
      · exact .inl rfl

theorem State.keepsReader_airStepEnd (s : State) (l : Nat) (j : FieldJob) (c : Code) : s.keepsReader (s.airStepEnd l j c) := by
  unfold State.airStepEnd
  extract_lets r v
  split
  · split
    · split
      · exact (v.keepsReader_boundary l r).of_eq rfl
      · exact .inl rfl
    · exact .inl rfl
  · exact .inl rfl

/-- A landing that waits for nothing is not left to go on. -/
theorem State.keepsReader.setLand {s t : State} (h : s.keepsReader t) (l : Nat) {x : Landing} (hx : x.wait = .none) :
    s.keepsReader (t.setLand l x) := by
  refine h.imp id fun ⟨hn, hnone, a, ⟨hair, hland⟩, hback⟩ => ⟨hn, hnone, a, ⟨hair, fun e he => ?_⟩, hback⟩
  rw [State.land_setLand_eq]
  split
  · intro j hj
    rw [hx] at hj
    cases hj
  · exact hland e he

theorem State.fieldEvidence_nfc (s : State) (l : Nat) (j : FieldJob) : (s.fieldEvidence l j).nfc = s.nfc := by
  have hrecord : (s.evdField l j).nfc = s.nfc := by
    unfold State.evdField
    split
    · rw [State.evdRecord_eq]
    · rfl
  refine Eq.trans ?_ hrecord
  rw [State.fieldEvidence, State.tokenNote]
  dsimp only
  split
  · split <;> rfl
  · rfl

/-- The end of a field step keeps the reader, but for its field (R72, R256). -/
theorem State.keepsReader_fieldDone {s : State} {l : Nat} {j : FieldJob} (h : s.inField l j) (c : Code) (srcs : Nat) (rest : List Byte)
    (till : Option Nat) : s.keepsReader (s.fieldDone l j c srcs rest till) := by
  obtain ⟨-, -, hend⟩ := h
  unfold State.fieldDone
  extract_lets used w w1 v
  have hw : w1.nfc = s.nfc := (w.fieldEvidence_nfc l j).trans (by show (s.hallWrite ..).nfc = _; rw [State.hallWrite_eq])
  have hsteps : w.keepsSteps v := (State.keepsSteps_fieldEvidence w l j).trans (State.keepsSteps_airStepEnd w1 l j c)
  have hv : s.keepsReader v := (w1.keepsReader_airStepEnd l j c).of_eq hw
  clear_value v
  have hendv : (v.land l).endReq = none := by
    obtain ⟨hland, -, -, -⟩ := hsteps
    obtain ⟨-, hreq, -, -⟩ := hland l
    refine hreq.trans (Eq.trans ?_ hend)
    show ((s.hallWrite ..).land l).endReq = _
    rw [State.hallWrite_eq]
    rfl
  rw [State.stepEnds_eq v l _ (by rw [Landing.outcome_eq]; exact hendv)]
  exact hv.setLand l rfl


/-! #### The end of a reader step -/

/-- Holds that start leave what a field step told at its end. -/
theorem State.fieldEnded.onlyHolds {u t t' : State} {l : Nat} {j : FieldJob} {c : Code} {srcs : Nat} {till : Option Nat}
    (h : u.fieldEnded t l j c srcs till) (hl : t.onlyHolds t') (hh : t'.halls = t.halls) : u.fieldEnded t' l j c srcs till := by
  obtain ⟨hwait, hpc, hregs, hflags, hothers, hread⟩ := h
  obtain ⟨_, hm⟩ := hl l
  rw [State.fieldEnded, hm]
  refine ⟨hwait, hpc, hregs, hflags, fun m hne => ?_, fun hwf hlen => Eq.trans ?_ (hread hwf hlen)⟩
  · obtain ⟨_, hm'⟩ := hl m
    rw [hm']
    exact hothers m hne
  · show t'.halls.pool.readN (t'.hallBase l 1 + _) 2 = t.halls.pool.readN (t.hallBase l 1 + _) 2
    rw [State.hallBase_data, State.hallBase_data, hm, hh]

/-- The reader once its step has ended (R256, R259). -/
def Reader.ended (n : Reader) (c : Code) : Reader :=
  { n with run := none, collided := if c == Code.fieldCollision then (n.collided + 1) % 65536 else n.collided }

/-- A reader step ends as a field step does, and the reader runs none any more; a field that goes off with a grant that comes back goes off
when the command settles (R72, R256). -/
theorem State.nfcEnd_does {s : State} {j : FieldJob} {r : NfcRun} (h : s.inField r.land j) (hlive : s.live = true) (c : Code) (srcs : Nat)
    (rest : List Byte) : ∃ t, settle t = settle (s.nfcEnd j r c srcs rest) ∧ s.fieldEnded t r.land j c srcs ∧ t.nfc = s.nfc.ended c := by
  let v := s.setNfc (s.nfc.ended c)
  have hended := (State.fieldDone_ended (u := v) h c srcs rest none).1
  have hunits := State.keepsUnits_fieldDone (s := v) h c srcs rest none
  have hreader := State.keepsReader_fieldDone (s := v) h c srcs rest none
  show ∃ t, settle t = settle (v.fieldDone r.land j c srcs rest) ∧ _
  generalize v.fieldDone r.land j c srcs rest = w at hended hunits hreader
  have hwlive : w.live = true := by
    obtain ⟨_, _, _, _, _, rfl⟩ := hunits
    exact hlive
  obtain hn | ⟨hn, hnone, a, hfrom, hback⟩ := hreader
  · exact ⟨w, rfl, hended, hn⟩
  · refine ⟨{ w.galLeave with air := a, nfc := v.nfc }, settle_of_restoredFrom hwlive hfrom hnone hback hn, ?_, rfl⟩
    obtain ⟨_, _, _, _, _, _, honly⟩ := w.galLeave_only
    exact hended.onlyHolds w.galLeave_does.1 (by rw [honly])

/-- The reader step in progress and its job. -/
theorem State.nfcRun_of_inField {s : State} {r : NfcRun} {j : FieldJob} (hrun : s.nfc.run = some r) (h : s.inField r.land j) :
    s.nfcRun = some (r, j) := by
  rw [State.nfcRun, hrun]
  dsimp only
  rw [State.fieldJob_of_inField h]
  rfl

/-- An event of units that act comes to what settles as the effect of its command does. -/
theorem event_of_settles {x : Nat → State → Host.Outcome State Fault Refusal} {i : Nat → Instr} {k : Nat} {f : State → State}
    {ok : State → Prop} {did : State → State → Prop} (hx : ∀ dt s, x dt s = occurLive dt s f k) (hi : ∀ dt s, exec (i dt) s = x dt s)
    (hf : ∀ u, u.live = true → ok u → ∃ t, settle t = settle (f u) ∧ did u t) : EventDoes i ok did k := by
  intro dt s u hlive hturn hok
  obtain ⟨t, ht, hdid⟩ := hf u hlive hok
  exact ⟨t, by rw [hi, hx, occurLive_acts hlive hturn, ht], hdid⟩

/-! #### Its events -/

/-- A step of the reader that listens for an external field, at the end of its listen (R256). -/
def State.nfcListened (u : State) (r : NfcRun) (j : FieldJob) : Prop :=
  u.nfc.run = some r ∧ u.inField r.land j ∧ r.phase = .listen ∧ r.since + bits u.nfc.cfg 15 8 * 10 * usT ≤ u.now

/-- An external field up to the threshold lets the reader switch its own field on and begin its guard time (R256). -/
theorem evNfcExtListenEnd_quiet (strength : Nat) (r : NfcRun) (j : FieldJob) : EventDoes (fun dt => .evNfcExtListenEnd dt strength)
    (fun u => u.nfcListened r j ∧ strength ≤ u.nfc.cfg % 256)
    (fun u t => t.nfc.fieldOn = true ∧ t.nfc.extField = min 255 strength ∧ t.landings = u.landings ∧
      t.nfc.run = some { r with phase := .guard, since := u.now }) := by
  refine event_of_settles (fun dt s => execEvNfcExtListenEnd.eq_1 dt strength s) (fun _ _ => rfl)
    fun u _ ⟨⟨hrun, hfield, hphase, hsince⟩, hquiet⟩ => ?_
  rw [State.nfcRun_of_inField hrun hfield]
  dsimp only
  rw [if_pos ⟨hphase, hsince⟩]
  exact ⟨_, congrArg settle (if_neg (Nat.not_lt.2 hquiet)).symm, rfl, rfl, rfl, rfl⟩

/-- A stronger one disturbs the step, and the reader's field stays as it is (R256, R78). -/
theorem evNfcExtListenEnd_disturbed (strength : Nat) (r : NfcRun) (j : FieldJob) : EventDoes (fun dt => .evNfcExtListenEnd dt strength)
    (fun u => u.nfcListened r j ∧ u.nfc.cfg % 256 < strength)
    (fun u t => u.fieldEnded t r.land j .fieldDisturbed 8 ∧ t.nfc.run = none ∧ t.nfc.fieldOn = u.nfc.fieldOn) := by
  refine event_of_settles (fun dt s => execEvNfcExtListenEnd.eq_1 dt strength s) (fun _ _ => rfl)
    fun u hlive ⟨⟨hrun, hfield, hphase, hsince⟩, hstrong⟩ => ?_
  rw [State.nfcRun_of_inField hrun hfield]
  dsimp only
  rw [if_pos ⟨hphase, hsince⟩]
  let v := u.setNfc { u.nfc with extField := sat 255 strength }
  obtain ⟨t, ht, hended, hnfc⟩ := State.nfcEnd_does (s := v) (r := r) hfield hlive .fieldDisturbed 8 (noRest j.kind)
  exact ⟨t, ht.trans (congrArg settle (if_pos hstrong).symm), hended, (congrArg Reader.run hnfc :), (congrArg Reader.fieldOn hnfc :)⟩

/-- After the guard time the first frame goes out, once the frame delay of the last reply is over (R256, R257). -/
theorem evNfcGuardEnd_sends (r : NfcRun) (j : FieldJob) : EventDoes .evNfcGuardEnd
    (fun u => u.nfc.run = some r ∧ u.inField r.land j ∧ r.phase = .guard ∧ r.since + bits u.nfc.cfg 23 16 * 100 * usT ≤ u.now)
    (fun u t =>
      let from_ := max u.now (max r.opens u.nfc.holdTill)
      t = { u with nfc := { u.nfc with sent := u.nfc.sent ++ [nfcFirst j]
                                       run := some { r with phase := .frame, since := u.now, exchAt := from_, frameAt := from_
                                                            opens := from_ + (nfcFirst j).lasts } } }) := by
  refine event_of_occurLive (fun dt s => execEvNfcGuardEnd.eq_1 dt s) (fun _ _ => rfl) fun u _ ⟨hrun, hfield, hphase, hsince⟩ => ?_
  rw [State.nfcRun_of_inField hrun hfield]
  dsimp only
  rw [if_pos ⟨hphase, hsince⟩, State.nfcSendAll, List.foldl_cons, List.foldl_nil, State.nfcSend, hrun]
  rfl

/-- A step of NFCX whose frame is out, and a reply that has been on air for the time it took (R257, R259). -/
def State.nfcReplied (u : State) (r : NfcRun) (j : FieldJob) (rx : NfcRx) : Prop :=
  u.nfc.run = some r ∧ u.inField r.land j ∧ r.phase = .frame ∧ j.kind = .nfcx ∧ j.fin = none ∧ rx.answered = true ∧
    r.opens + rx.took ≤ u.now

/-- The reader with a reply heard: the next frame keeps the frame delay after it (R257). -/
def State.nfcHeardReply (u : State) (j : FieldJob) : Reader :=
  { u.nfc with replyEnd := u.now, holdTill := u.now + nfcDelay (byteAt j.blk 8 == 0) }

/-- NFCX takes a reply that began in its window, and lets a later one pass (R259). -/
theorem evNfcReplyRx_takes (rx : NfcRx) (r : NfcRun) (j : FieldJob) : EventDoes (fun dt => .evNfcReplyRx dt rx)
    (fun u => u.nfcReplied r j rx)
    (fun u t => t = if u.now ≤ r.opens + j.window * usT + rx.took then
        (u.setNfc (u.nfcHeardReply j)).setJob r.land { j with fin := some (nfcxReply j.blk j.frame rx) }
      else u.setNfc (u.nfcHeardReply j)) := by
  refine event_of_occurLive (fun dt s => execEvNfcReplyRx.eq_1 dt rx s) (fun _ _ => rfl)
    fun u _ ⟨hrun, hfield, hphase, hkind, hfin, hans, htook⟩ => ?_
  have hheard : ({ u.nfc with replyEnd := u.now, holdTill := u.now + nfcDelay (j.kind != .nfcx || byteAt j.blk 8 == 0) } : Reader) =
      u.nfcHeardReply j := by rw [hkind]; rfl
  rw [State.nfcRun_of_inField hrun hfield]
  dsimp only
  rw [if_pos ⟨hphase, hfin⟩, State.nfcTake, if_neg (Nat.not_lt.2 htook), if_pos hans, hheard, if_pos hkind]
  exact if_congr (and_iff_right hans) rfl rfl

/-- A disturbance that has lasted long enough, loud enough, in a reply window ends the step with FIELD_DISTURBED (R260, R262). -/
theorem evNfcDisturbed_ends (rise us : Nat) (r : NfcRun) (j : FieldJob) : EventDoes (fun dt => .evNfcDisturbed dt rise us)
    (fun u => u.nfc.run = some r ∧ u.inField r.land j ∧ u.nfcHeard r j us = true ∧ bits u.nfc.noiseCfg 15 8 ≤ rise ∧
      u.nfc.noiseCfg % 256 ≤ us)
    (fun u t => u.fieldEnded t r.land j .fieldDisturbed 8 ∧ t.nfc.run = none ∧ t.nfc.disturbed = (u.nfc.disturbed + 1) % 65536) := by
  refine event_of_settles (fun dt s => execEvNfcDisturbed.eq_1 dt rise us s) (fun _ _ => rfl)
    fun u hlive ⟨hrun, hfield, hheard, hrise, hus⟩ => ?_
  rw [State.nfcRun_of_inField hrun hfield]
  dsimp only
  rw [if_pos ⟨hheard, hrise, hus⟩]
  let v := u.setNfc { u.nfc with disturbed := (u.nfc.disturbed + 1) % 65536 }
  obtain ⟨t, ht, hended, hnfc⟩ := State.nfcEnd_does (s := v) (r := r) hfield hlive .fieldDisturbed 8 _
  exact ⟨t, ht, hended, (congrArg Reader.run hnfc :), (congrArg Reader.disturbed hnfc :)⟩

/-- Settles O39, a lemma for each clause; of the two on replies, each is a case of the same lemma. -/
theorem nfcEvents : Obligations.NfcEvents := by
  refine ⟨fun strength r j => ⟨evNfcExtListenEnd_quiet strength r j, evNfcExtListenEnd_disturbed strength r j⟩, evNfcGuardEnd_sends,
    fun rx r j => ⟨?_, ?_⟩, evNfcDisturbed_ends⟩
  · refine (evNfcReplyRx_takes rx r j).mono (fun _ hu => hu.1) fun u t ⟨⟨_, ⟨hl, _⟩, _⟩, hin⟩ ht => ?_
    rw [ht, if_pos hin]
    exact ⟨congrArg Landing.wait (State.land_setLand _ _ hl), fun m hm => State.land_setLand_ne _ _ hm, rfl⟩
  · refine (evNfcReplyRx_takes rx r j).mono (fun _ hu => hu.1) fun u t ⟨_, hlate⟩ ht => ?_
    rw [ht, if_neg (Nat.not_le.2 hlate)]
    rfl

end Sys2Proof.Machine

namespace Sys2Proof.Machine

open Sys2Proof

/-! ### The tag port and the field store -/

/-! #### Fields of bytes -/

theorem leNat_lt (bs : List Byte) : leNat bs < 256 ^ bs.length := by
  induction bs with
  | nil => simp [leNat]
  | cons b bs ih =>
    rw [leNat, List.length_cons, Nat.pow_succ]
    have := b.isLt
    omega

theorem fieldLE_lt (bs : List Byte) (o n : Nat) : fieldLE bs o n < 256 ^ n :=
  (leNat_lt _).trans_le (Nat.pow_le_pow_right (by decide) (List.length_take_le ..))

/-- A number that stands at an offset of a byte string is its field there. -/
theorem fieldLE_natLE {xs : List Byte} {o : Nat} (h : xs.length = o) (n v : Nat) (ys : List Byte) :
    fieldLE (xs ++ (natLE n v ++ ys)) o n = v % 256 ^ n := by
  rw [fieldLE, List.drop_left' h, List.take_left' (natLE_length ..), leNat_natLE]

theorem padTo_of_length {n : Nat} {bs : List Byte} (h : bs.length = n) : padTo n bs = bs := by
  simp [padTo, sliceP, ← h]

/-- The counters that block 1 is written with (R269). -/
theorem Tag.counters_fields (t : Tag) (cnt fails jhead jseq jack : Nat) : let bs := t.counters cnt fails jhead jseq jack
    fieldLE bs 0 4 = cnt % 256 ^ 4 ∧ byteAt bs 4 = fails % 256 ∧ fieldLE bs 8 4 = jseq % 256 ^ 4 ∧ fieldLE bs 12 4 = jack % 256 ^ 4 := by
  intro bs
  have hslice : (sliceP (t.block 1) 6 2).length = 2 := sliceP_length ..
  refine ⟨?_, ?_, ?_, ?_⟩
  · simpa [bs, Tag.counters] using fieldLE_natLE (xs := []) rfl 4 cnt _
  · simp [bs, Tag.counters, byteAt, List.getD_eq_getElem?_getD]
  · have := fieldLE_natLE (xs := natLE 4 cnt ++ [BitVec.ofNat 8 fails, BitVec.ofNat 8 jhead] ++ sliceP (t.block 1) 6 2)
      (o := 8) (by simp [hslice]) 4 jseq (natLE 4 jack ++ sliceP (t.block 1) 16 16)
    simpa [bs, Tag.counters] using this
  · have := fieldLE_natLE (xs := natLE 4 cnt ++ [BitVec.ofNat 8 fails, BitVec.ofNat 8 jhead] ++ sliceP (t.block 1) 6 2 ++ natLE 4 jseq)
      (o := 12) (by simp [hslice]) 4 jack (sliceP (t.block 1) 16 16)
    simpa [bs, Tag.counters] using this

/-! #### Slots and blocks -/

/-- What a slot holds after one was written. -/
theorem Tag.slot_put (t : Tag) (k : Nat) (x : StoreSlot) (b i : Nat) :
    ({ t with slots := Tbl.put t.slots k x } : Tag).slot b i = if 2 * b + i = k then x else t.slot b i := by
  rw [Tag.slot, Tbl.get]
  split
  · next h => rw [h, Tbl.find_put_self]; rfl
  · next h => rw [Tbl.find_put_ne x h]; rfl

/-- The slot of a block that a write programs: not the selected one (R267). -/
def Tag.shadow (t : Tag) (b : Nat) : Nat := match t.selected b with | some 0 => 1 | _ => 0

/-- The selected slot of a block is valid, and the shadow is the other; none is selected where neither is valid (R267, R268). -/
theorem Tag.selected_cases (t : Tag) (b : Nat) :
    (t.selected b = none ∧ t.shadow b = 0 ∧ (t.slot b 0).valid = false ∧ (t.slot b 1).valid = false) ∨
    (t.selected b = some 0 ∧ t.shadow b = 1 ∧ (t.slot b 0).valid = true) ∨
    (t.selected b = some 1 ∧ t.shadow b = 0 ∧ (t.slot b 1).valid = true) := by
  have hcases : (t.selected b = none ∧ (t.slot b 0).valid = false ∧ (t.slot b 1).valid = false) ∨
      (t.selected b = some 0 ∧ (t.slot b 0).valid = true) ∨ (t.selected b = some 1 ∧ (t.slot b 1).valid = true) := by
    unfold Tag.selected
    cases h0 : (t.slot b 0).valid <;> cases h1 : (t.slot b 1).valid <;> dsimp only
    case true.true => split <;> simp
    all_goals simp
  unfold Tag.shadow
  obtain ⟨h, hv⟩ | ⟨h, hv⟩ | ⟨h, hv⟩ := hcases <;> simp [h, hv]

/-- Blocks with the same slots read the same. -/
theorem Tag.block_congr {t x : Tag} {b : Nat} (h0 : x.slot b 0 = t.slot b 0) (h1 : x.slot b 1 = t.slot b 1) : x.block b = t.block b := by
  have hsel : x.selected b = t.selected b := by rw [Tag.selected, Tag.selected, h0, h1]
  rw [Tag.block, Tag.block, hsel]
  obtain ⟨h, -⟩ | ⟨h, -⟩ | ⟨h, -⟩ := t.selected_cases b <;> rw [h]
  · exact congrArg (fun y : StoreSlot => padTo 32 y.data) h0
  · exact congrArg (fun y : StoreSlot => padTo 32 y.data) h1


theorem Tag.shadow_lt (t : Tag) (b : Nat) : t.shadow b < 2 := by
  unfold Tag.shadow
  split <;> decide

/-- A write to a slot of a block leaves the slots of the others. -/
theorem Tag.block_put_ne (t : Tag) {b c i : Nat} (x : StoreSlot) (hi : i < 2) (h : c ≠ b) :
    ({ t with slots := Tbl.put t.slots (2 * b + i) x } : Tag).block c = t.block c := by
  apply Tag.block_congr
  · rw [Tag.slot_put, if_neg (by omega)]
  · rw [Tag.slot_put, if_neg (by omega)]

/-- A slot that is programmed and not yet valid shows in no block: its block has its selected slot still, or none (R267, R268). -/
theorem Tag.block_put_invalid (t : Tag) (b : Nat) {x : StoreSlot} (hx : x.valid = false) (c : Nat) :
    ({ t with slots := Tbl.put t.slots (2 * b + t.shadow b) x } : Tag).block c = t.block c := by
  by_cases hc : c = b
  · subst hc
    let y : Tag := { t with slots := Tbl.put t.slots (2 * c + t.shadow c) x }
    have hslot (i : Nat) : y.slot c i = if i = t.shadow c then x else t.slot c i :=
      (t.slot_put _ x c i).trans (if_congr (by omega) rfl rfl)
    have hsel : y.selected c = t.selected c ∧ ∀ i, t.selected c = some i → i ≠ t.shadow c := by
      rw [Tag.selected, hslot, hslot]
      obtain ⟨h, hi, h0, h1⟩ | ⟨h, hi, h0⟩ | ⟨h, hi, h1⟩ := t.selected_cases c
      · simp [h, hi, hx, h1]
      · simp [h, hi, hx, h0]
      · simp [h, hi, hx, h1]
    obtain ⟨hsel, hne⟩ := hsel
    show y.block c = t.block c
    rw [Tag.block, Tag.block, hsel]
    cases hs : t.selected c with
    | none => rfl
    | some i => exact congrArg (fun z : StoreSlot => padTo 32 z.data) ((hslot i).trans (if_neg (hne i hs)))
  · exact t.block_put_ne x (t.shadow_lt b) hc

theorem newer16_succ {a : Nat} (h : a < 65536) : newer16 ((a + 1) % 65536) a = true ∧ newer16 a ((a + 1) % 65536) = false := by
  simp only [newer16, Bool.and_eq_true, Bool.and_eq_false_iff, decide_eq_true_eq, decide_eq_false_iff_not]
  omega

/-- A shadow slot that has become valid, with the next SEQ, is what its block reads as (R267, R268). -/
theorem Tag.block_put_valid (t : Tag) (b : Nat) {x : StoreSlot} (hx : x.valid = true) (hs : x.seq = (t.blockSeq b + 1) % 65536)
    (hb : t.blockSeq b < 65536) : ({ t with slots := Tbl.put t.slots (2 * b + t.shadow b) x } : Tag).block b = padTo 32 x.data := by
  let y : Tag := { t with slots := Tbl.put t.slots (2 * b + t.shadow b) x }
  have hslot (i : Nat) : y.slot b i = if i = t.shadow b then x else t.slot b i :=
    (t.slot_put _ x b i).trans (if_congr (by omega) rfl rfl)
  have hnew : y.selected b = some (t.shadow b) := by
    obtain ⟨hnewer, holder⟩ := newer16_succ hb
    rw [← hs] at hnewer holder
    rw [Tag.selected, hslot, hslot]
    obtain ⟨h, hi, h0, h1⟩ | ⟨h, hi, h0⟩ | ⟨h, hi, h1⟩ := t.selected_cases b
    · simp [hi, hx, h1]
    · have hseq : t.blockSeq b = (t.slot b 0).seq := by rw [Tag.blockSeq, h]
      simp [hi, hx, h0, ← hseq, hnewer]
    · have hseq : t.blockSeq b = (t.slot b 1).seq := by rw [Tag.blockSeq, h]
      simp [hi, hx, h1, ← hseq, holder]
  show y.block b = _
  rw [Tag.block, hnew]
  exact congrArg (fun z : StoreSlot => padTo 32 z.data) ((hslot _).trans (if_pos rfl))


/-! #### The block path -/

/-- A write at the head of the path starts: its shadow slot is erased and programmed (R267). -/
theorem Tag.startHead_of_waiting {t : Tag} {w : StoreWrite} {ws : List StoreWrite} (hp : t.path = w :: ws) (hs : w.started = none) (now : Nat) :
    t.startHead now = { t with
      path := { w with started := some now, slot := t.shadow w.block, bytes := t.putBytes w.put } :: ws
      slots := Tbl.put t.slots (2 * w.block + t.shadow w.block) ⟨t.putBytes w.put, (t.blockSeq w.block + 1) % 65536, 0, 0xFF⟩ } := by
  rw [Tag.startHead, hp]
  dsimp only
  rw [hs]
  rfl

/-- A path that holds one write starts it, and no block shows it yet (R267, R268). -/
theorem Tag.startHead_starts {t : Tag} {w : StoreWrite} (hp : t.path = [w]) (hs : w.started = none) (now : Nat) :
    t.starts (t.startHead now) now w.block (t.putBytes w.put) w.wire := by
  rw [Tag.startHead_of_waiting hp hs]
  exact ⟨⟨_, rfl, rfl, rfl, rfl, rfl⟩, t.block_put_invalid w.block rfl⟩

/-- With no wire-side write waiting none is issued (R271). -/
theorem Tag.issueWire_of_nil {t : Tag} (h : t.wire = []) (now : Nat) : t.issueWire now = t := by
  rw [Tag.issueWire, h]

/-- The port answers with what the field allows; its store stays where no wire-side write waits (R271, R272). -/
theorem Tag.respond_of_nil {t : Tag} (h : t.wire = []) (now : Nat) (bs : List Byte) : t.respond now bs =
    { t with resp := if t.field && !t.mute then bs else [], cmd := none, mute := false } :=
  Tag.issueWire_of_nil (t := { t with resp := _, cmd := none, mute := false }) h now

/-- In a field the port answers as a command asks. -/
theorem Tag.respond_says {t : Tag} (hfield : t.field = true) (hw : t.wire = []) (now : Nat) (bs : List Byte) :
    t.says (t.respond now bs) bs := by
  rw [Tag.respond_of_nil hw, Tag.says, hfield]
  cases t.mute <;> rfl

/-- On an idle path a field-side write starts at once (R270). -/
theorem Tag.issue_of_nil {t : Tag} (h : t.path = []) (now b : Nat) (p : StorePut) :
    t.issue now b p = ({ t with path := [⟨b, p, false, now, none, none, 0, []⟩] } : Tag).startHead now := by
  rw [Tag.issue, h]
  rfl

theorem Tag.startHead_only (t : Tag) (now : Nat) : ∃ p s, t.startHead now = { t with path := p, slots := s } := by
  unfold Tag.startHead
  split
  · split
    · exact ⟨_, _, rfl⟩
    · exact ⟨_, _, rfl⟩
  · exact ⟨_, _, rfl⟩

/-- Issuing a field-side write changes the path, the wire-side writes that wait, and the slots. -/
theorem Tag.issue_only (t : Tag) (now b : Nat) (p : StorePut) : ∃ q w s, t.issue now b p = { t with path := q, wire := w, slots := s } := by
  unfold Tag.issue
  dsimp only
  split
  · split
    · obtain ⟨_, _, h⟩ := Tag.startHead_only _ now
      exact ⟨_, _, _, h⟩
    · exact ⟨_, _, _, rfl⟩
  · obtain ⟨_, _, h⟩ := Tag.startHead_only _ now
    exact ⟨_, _, _, h⟩

/-- What waits behind no other command and no other write: the port and its path are idle, and the supply carries a write. -/
def Tag.atRest (t : Tag) : Prop := t.cmd = none ∧ t.path = [] ∧ t.wire = [] ∧ t.canWrite = true

/-- A wire-side write of a port at rest starts at once; the registers tell that it is in progress (R270, R281). -/
theorem Tag.hostWrite_starts {t : Tag} (h : t.atRest) (now b : Nat) (p : StorePut) : let x := t.hostWrite now b p
    t.starts x now b (t.putBytes p) true ∧ x.wbusy = true ∧ x.wdone = false := by
  obtain ⟨hcmd, hpath, hwire, hcan⟩ := h
  intro x
  let w : StoreWrite := ⟨b, p, true, now, none, none, 0, []⟩
  let y : Tag := { t with
    wire := [], path := [w], cmd := none, waitUs := sat 0xFFFF ((now - now) / usT), wblock := b, wdone := false, wfailed := false }
  have hx : x = y.startHead now := by
    show ({ t with wire := t.wire ++ [w], wblock := b, wdone := false, wfailed := false } : Tag).issueWire now = _
    rw [hwire, Tag.issueWire]
    dsimp only [List.nil_append]
    rw [hcmd, hpath]
    exact (if_pos rfl).trans (if_pos hcan)
  have hstarts : t.starts x now b (t.putBytes p) true := by
    rw [hx]
    exact Tag.startHead_starts (t := y) (w := w) rfl rfl now
  refine ⟨hstarts, ?_, ?_⟩
  · obtain ⟨⟨v, hv, -, -, hwire, -⟩, -⟩ := hstarts
    rw [Tag.wbusy, hv]
    simp [hwire]
  · rw [hx, Tag.startHead_of_waiting (t := y) (w := w) rfl rfl]

/-! #### Commands of the tag port -/

/-- The command changes the tag port alone. -/
def State.onlyTag (s t : State) : Prop := t = s.setTag t.tag

theorem State.onlyTag_setTag (s : State) (x : Tag) : s.onlyTag (s.setTag x) := rfl

theorem State.onlyTag.ite {s t u : State} {c : Prop} [Decidable c] (h : s.onlyTag t) (h' : s.onlyTag u) : s.onlyTag (if c then t else u) := by
  split
  · exact h
  · exact h'

theorem State.onlyTag_fieldWrite (s : State) (c : TagCmd) (b : Nat) (p : StorePut) : s.onlyTag (s.fieldWrite c b p) :=
  .ite (s.onlyTag_setTag _) (s.onlyTag_setTag _)

/-- A command whose effect changes the tag port alone, as did says. -/
theorem tag_of_occurAt {x : Nat → State → Host.Outcome State Fault Refusal} {i : Nat → Instr} {f : State → State} {ok : State → Prop}
    {did : State → Tag → Prop} (hx : ∀ dt s, x dt s = occurAt rankUnit dt s f) (hi : ∀ dt s, exec (i dt) s = x dt s)
    (hf : ∀ u, ok u → u.onlyTag (f u) ∧ did u (f u).tag) : TagDoes i ok did := by
  intro dt s u hturn hok
  obtain ⟨honly, hdid⟩ := hf u hok
  refine ⟨(f u).tag, ?_, hdid⟩
  rw [hi, hx, occurAt_acts hturn]
  exact congrArg (fun t => Host.Outcome.next (settle t)) honly

/-- A port that hears frames listens, with no command in progress that a frame could break. -/
theorem Tag.hears_spec {t : Tag} (h : t.hears = true) : t.listens = true ∧ t.breaks = false ∧ t.cmd = none ∧ t.field = true := by
  simp only [Tag.hears, Bool.and_eq_true, Option.isNone_iff_eq_none] at h
  obtain ⟨hlistens, hcmd⟩ := h
  refine ⟨hlistens, by simp [Tag.breaks, hcmd], hcmd, ?_⟩
  simp only [Tag.listens, Bool.and_eq_true] at hlistens
  obtain ⟨⟨⟨hfield, -⟩, -⟩, -⟩ := hlistens
  exact hfield

/-- A frame that the port hears has the effect that its command gives it (R264). -/
theorem tag_of_frame {x : Nat → State → Host.Outcome State Fault Refusal} {i : Nat → Instr} {f : Nat → Tag → Tag} {ok : State → Prop}
    {did : State → Tag → Prop} (hx : ∀ dt s, x dt s = tagFrame dt s f) (hi : ∀ dt s, exec (i dt) s = x dt s)
    (hok : ∀ u, ok u → u.tag.hears = true) (hf : ∀ u, ok u → did u (f u.now u.tag)) : TagDoes i ok did := by
  refine tag_of_occurAt (fun dt s => (hx dt s).trans (tagFrame.eq_1 dt s f)) hi fun u hu => ?_
  obtain ⟨hlistens, hbreaks, -⟩ := Tag.hears_spec (hok u hu)
  rw [if_pos hlistens, hbreaks, if_neg Bool.false_ne_true]
  exact ⟨rfl, hf u hu⟩

/-- A port that serves hears commands in ACTIVE, and no wire-side write waits. -/
theorem Tag.served_spec {t : Tag} (h : t.served = true) :
    t.hears = true ∧ t.mode = .active ∧ t.wire = [] ∧ t.cmd = none ∧ t.field = true := by
  simp only [Tag.served, Bool.and_eq_true, beq_iff_eq, List.isEmpty_iff] at h
  obtain ⟨⟨hhears, hmode⟩, hwire⟩ := h
  obtain ⟨-, -, hcmd, hfield⟩ := Tag.hears_spec hhears
  exact ⟨hhears, hmode, hwire, hcmd, hfield⟩

/-- A command that the port serves has the effect that its command gives it (R265). -/
theorem tag_of_command {x : Nat → State → Host.Outcome State Fault Refusal} {i : Nat → Instr} {f : State → State} {ok : State → Prop}
    {did : State → Tag → Prop} (hx : ∀ dt s, x dt s = tagCommand dt s f) (hi : ∀ dt s, exec (i dt) s = x dt s)
    (hok : ∀ u, ok u → u.tag.served = true) (hf : ∀ u, ok u → u.onlyTag (f u) ∧ did u (f u).tag) : TagDoes i ok did := by
  refine tag_of_occurAt (fun dt s => (hx dt s).trans (tagCommand.eq_1 dt s f)) hi fun u hu => ?_
  obtain ⟨hhears, hmode, -⟩ := Tag.served_spec (hok u hu)
  obtain ⟨hlistens, hbreaks, -⟩ := Tag.hears_spec hhears
  rw [hlistens, hbreaks, if_neg (by decide), if_neg Bool.false_ne_true, if_pos (beq_iff_eq.2 hmode)]
  exact hf u hu

/-- A command that writes: no other command is in progress where the port serves (log 21). -/
theorem tag_of_writing {x : Nat → State → Host.Outcome State Fault Refusal} {i : Nat → Instr} {f : State → State} {ok : State → Prop}
    {did : State → Tag → Prop} (hx : ∀ dt s, x dt s = tagWriting dt s f) (hi : ∀ dt s, exec (i dt) s = x dt s)
    (hok : ∀ u, ok u → u.tag.served = true) (hf : ∀ u, ok u → ∀ t, t = f u → u.onlyTag t ∧ did u t.tag) : TagDoes i ok did := by
  refine tag_of_command (fun dt s => (hx dt s).trans (tagWriting.eq_1 dt s f)) hi hok fun u hu => ?_
  obtain ⟨-, -, -, hcmd, -⟩ := Tag.served_spec (hok u hu)
  rw [hcmd, Option.isSome_none, if_neg Bool.false_ne_true]
  exact hf u hu _ rfl

/-- An answer of a port that serves (R265). -/
theorem State.tagSay_says {s : State} (h : s.tag.served = true) (st : Nat) (bs : List Byte) :
    s.tag.says (s.tagSay st bs).tag (BitVec.ofNat 8 st :: bs) := by
  obtain ⟨-, -, hwire, -, hfield⟩ := Tag.served_spec h
  exact Tag.respond_says hfield hwire s.now _

theorem State.tagNow_says {s : State} (h : s.tag.served = true) (st : Nat) (bs : List Byte) :
    s.tag.says (s.tagNow st bs).tag (BitVec.ofNat 8 st :: bs) := by
  obtain ⟨-, -, -, hcmd, -⟩ := Tag.served_spec h
  rw [State.tagNow, hcmd, Option.isSome_none, if_neg Bool.false_ne_true]
  exact State.tagSay_says h st bs

/-- A write that the supply cannot carry is not made on an idle path (R267). -/
theorem State.fieldWrite_refused {s : State} (hp : s.tag.path = []) (hc : s.tag.canWrite = false) (c : TagCmd) (b : Nat) (p : StorePut) :
    s.fieldWrite c b p = s.tagSay 6 [] := by
  rw [State.fieldWrite, hp, hc]
  rfl

/-- One that it can starts there at once (R267, R270). -/
theorem State.fieldWrite_starts {s : State} (hp : s.tag.path = []) (hc : s.tag.canWrite = true) (c : TagCmd) (b : Nat) (p : StorePut) :
    s.tag.starts (s.fieldWrite c b p).tag s.now b (s.tag.putBytes p) false ∧ (s.fieldWrite c b p).tag.cmd = some c := by
  let w : StoreWrite := ⟨b, p, false, s.now, none, none, 0, []⟩
  let y : Tag := { s.tag with cmd := some c, path := [w] }
  have hx : (s.fieldWrite c b p).tag = y.startHead s.now := by
    rw [State.fieldWrite, hc, Bool.not_true, Bool.and_false, if_neg Bool.false_ne_true]
    exact Tag.issue_of_nil (t := { s.tag with cmd := some c }) hp s.now b p
  rw [hx]
  refine ⟨Tag.startHead_starts (t := y) (w := w) rfl rfl s.now, ?_⟩
  rw [Tag.startHead_of_waiting (t := y) (w := w) rfl rfl]

/-- The write of a command leaves the session as it is. -/
theorem State.fieldWrite_keeps {s : State} (hw : s.tag.wire = []) (c : TagCmd) (b : Nat) (p : StorePut) :
    (s.fieldWrite c b p).tag.authed = s.tag.authed ∧ (s.fieldWrite c b p).tag.chal = s.tag.chal := by
  unfold State.fieldWrite
  split
  · rw [State.tagSay, Tag.respond_of_nil hw]
    exact ⟨rfl, rfl⟩
  · obtain ⟨_, _, _, h⟩ := Tag.issue_only { s.tag with cmd := some c } s.now b p
    rw [h]
    exact ⟨rfl, rfl⟩


/-! #### Field and supply -/

/-- A field with VTAG present raises FIELD_WAKE where FD_WAKE asks for it and the field is new and not the reader's (R264, R277). -/
theorem evTagFieldArrive_does (wl : Bool) : TagDoes (fun dt => .evTagFieldArrive dt wl) (fun _ => True) (fun u x =>
    x.field = true ∧ x.vtagOk = true ∧ x.vtagWrite = wl ∧
    x.mode = (if u.tag.mode == .powerOff then .idle else u.tag.mode) ∧ x.slots = u.tag.slots ∧ x.path = u.tag.path ∧
    (u.tag.field = false → u.tag.fdWake = true → u.nfc.fieldOn = false → x.wakeEnd = some (u.now + u.tag.cfg 9 * msT)) ∧
    (u.tag.field = true ∨ u.tag.fdWake = false ∨ u.nfc.fieldOn = true → x.wakeEnd = u.tag.wakeEnd)) := by
  refine tag_of_occurAt (fun dt s => execEvTagFieldArrive.eq_1 dt wl s) (fun _ _ => rfl) fun u _ => ⟨rfl, ?_⟩
  dsimp only [State.setTag, Tag.detect]
  cases hnew : !u.tag.field && u.tag.fdWake && !u.nfc.fieldOn with
  | true =>
    simp only [Bool.and_eq_true, Bool.not_eq_true'] at hnew
    obtain ⟨⟨hfield, hwake⟩, hown⟩ := hnew
    exact ⟨rfl, rfl, rfl, rfl, rfl, rfl, fun _ _ _ => rfl, by simp [hfield, hwake, hown]⟩
  | false =>
    refine ⟨rfl, rfl, rfl, rfl, rfl, rfl, fun hfield hwake hown => ?_, fun _ => rfl⟩
    simp [hfield, hwake, hown] at hnew

/-- A tag domain without a supply holds no command, no staged bytes and no write (R263, R272). -/
theorem Tag.dark_registers (t : Tag) : t.dark.staged = List.replicate 32 0 ∧ t.dark.wstatWord = 0 := by
  constructor
  · show Tag.staged Tag.reset = _
    decide
  · show Tag.wstatWord Tag.reset = _
    decide

/-- The port with VTAG gone, while it is supplied (R264, R272). -/
def Tag.withoutVtag (t : Tag) (weak : Bool) (now : Nat) : Tag :=
  { t with field := weak, vtagOk := false, vtagWrite := false, fieldLost := now, mute := t.cmd.isSome && (t.mute || !weak) }

/-- With VTAG gone the domain runs on VDD, or is dark (R264, R272). -/
theorem evTagFieldLoss_does (weak : Bool) : TagDoes (fun dt => .evTagFieldLoss ⟨dt, weak⟩) (fun _ => True) (fun u x =>
    x.vtagOk = false ∧ x.slots = u.tag.slots ∧
    (u.tag.vdd = true → x = u.tag.withoutVtag weak u.now) ∧
    (u.tag.vdd = false → x.field = false ∧ x.mode = .powerOff ∧ x.path = [] ∧ x.wire = [] ∧ x.cmd = none ∧ x.authed = false ∧
      x.chal = none ∧ x.wakeEnd = none ∧ x.staged = List.replicate 32 0 ∧ x.wstatWord = 0)) := by
  refine tag_of_occurAt (f := fun s => s.setTag (if s.tag.vdd then s.tag.withoutVtag weak s.now else (s.tag.withoutVtag weak s.now).dark))
    (fun dt s => execEvTagFieldLoss.eq_1 ⟨dt, weak⟩ s) (fun _ _ => rfl) fun u _ => ⟨rfl, ?_⟩
  dsimp only [State.setTag]
  cases u.tag.vdd with
  | true =>
    rw [if_pos rfl]
    exact ⟨rfl, rfl, fun _ => rfl, fun h => nomatch h⟩
  | false =>
    rw [if_neg Bool.false_ne_true]
    obtain ⟨hstaged, hstat⟩ := (u.tag.withoutVtag weak u.now).dark_registers
    exact ⟨rfl, rfl, (nomatch ·), fun _ => ⟨rfl, rfl, rfl, rfl, rfl, rfl, rfl, rfl, hstaged, hstat⟩⟩

/-- A port without a field for 1 ms is in IDLE (R264). -/
theorem evTagFieldAbsentTimeout_does : TagDoes .evTagFieldAbsentTimeout
    (fun u => u.tag.vdd = true ∧ u.tag.field = false ∧ u.tag.fieldLost + msT ≤ u.now)
    (fun u x => x = { u.tag with mode := .idle, authed := false, chal := none }) := by
  refine tag_of_occurAt (fun dt s => execEvTagFieldAbsentTimeout.eq_1 dt s) (fun _ _ => rfl) fun u ⟨hvdd, hfield, hlost⟩ => ?_
  dsimp only
  rw [if_pos (by simp [hvdd, hfield, hlost])]
  exact ⟨rfl, rfl⟩

/-- VDD supplies the domain from its rise on (R272). -/
theorem evTagVddRise_does (vio : Bool) : TagDoes (fun dt => .evTagVddRise ⟨dt, vio⟩) (fun _ => True)
    (fun u x => x = { u.tag with vdd := true, vio := vio, mode := if u.tag.mode == .powerOff then .idle else u.tag.mode }) :=
  tag_of_occurAt (f := fun s => s.setTag { s.tag with vdd := true, vio := vio, mode := if s.tag.mode == .powerOff then .idle else s.tag.mode })
    (fun dt s => execEvTagVddRise.eq_1 ⟨dt, vio⟩ s) (fun _ _ => rfl) fun _ _ => ⟨rfl, rfl⟩

/-- The port with VDD gone, while it is supplied (R272). -/
def Tag.withoutVdd (t : Tag) (vio : Bool) : Tag := { t with vdd := false, vio := vio }

/-- Without VDD the domain runs on VTAG, or is dark (R272). -/
theorem evTagVddFall_does (vio : Bool) : TagDoes (fun dt => .evTagVddFall ⟨dt, vio⟩) (fun _ => True) (fun u x =>
    x.vdd = false ∧ x.vio = vio ∧ x.slots = u.tag.slots ∧
    (u.tag.vtagOk = true → x = u.tag.withoutVdd vio) ∧
    (u.tag.vtagOk = false → x.mode = .powerOff ∧ x.path = [] ∧ x.wire = [] ∧ x.cmd = none ∧ x.wakeEnd = none ∧
      x.staged = List.replicate 32 0 ∧ x.wstatWord = 0)) := by
  refine tag_of_occurAt (f := fun s => s.setTag (if s.tag.vtagOk then s.tag.withoutVdd vio else (s.tag.withoutVdd vio).dark))
    (fun dt s => execEvTagVddFall.eq_1 ⟨dt, vio⟩ s) (fun _ _ => rfl) fun u _ => ⟨rfl, ?_⟩
  dsimp only [State.setTag]
  cases u.tag.vtagOk with
  | true =>
    rw [if_pos rfl]
    exact ⟨rfl, rfl, rfl, fun _ => rfl, fun h => nomatch h⟩
  | false =>
    rw [if_neg Bool.false_ne_true]
    obtain ⟨hstaged, hstat⟩ := (u.tag.withoutVdd vio).dark_registers
    exact ⟨rfl, rfl, rfl, (nomatch ·), fun _ => ⟨rfl, rfl, rfl, rfl, rfl, hstaged, hstat⟩⟩

/-- FIELD_WAKE ends after WAKE_MS (R277). -/
theorem evFieldWakeEnd_does (e : Nat) : TagDoes .evFieldWakeEnd (fun u => u.tag.wakeEnd = some e ∧ e ≤ u.now)
    (fun u x => x = { u.tag with wakeEnd := none }) := by
  refine tag_of_occurAt (fun dt s => execEvFieldWakeEnd.eq_1 dt s) (fun _ _ => rfl) fun u ⟨hend, hnow⟩ => ?_
  rw [hend]
  dsimp only
  rw [if_pos hnow]
  exact ⟨rfl, rfl⟩

/-! #### Frames -/

/-- A frame that is not for a selected port, or one being selected, takes it back to IDLE (R264, R265). -/
theorem Tag.stray_of_selected {t : Tag} (h : t.mode = .ready ∨ t.mode = .active) :
    t.stray = { t with mode := .idle, authed := false, chal := none, resp := [] } := by
  unfold Tag.stray
  obtain h | h := h <;> rw [h] <;> rfl

/-- A port in HALT stays there (R264). -/
theorem Tag.stray_of_halted {t : Tag} (h : t.mode = .halt) : t.stray = { t with resp := [] } := by
  unfold Tag.stray
  rw [h]

/-- REQA is answered in IDLE (R264). -/
theorem evTagReqa_idle : TagDoes .evTagReqa (fun u => u.tag.hears = true ∧ u.tag.mode = .idle)
    (fun u x => x = { u.tag with mode := .ready, resp := [0x04, 0x00] }) :=
  tag_of_frame (fun dt s => execEvTagReqa.eq_1 dt s) (fun _ _ => rfl) (fun _ h => h.1) fun _ ⟨_, hmode⟩ => if_pos (beq_iff_eq.2 hmode)

/-- REQA is not answered in HALT (R264). -/
theorem evTagReqa_halt : TagDoes .evTagReqa (fun u => u.tag.hears = true ∧ u.tag.mode = .halt) (fun u x => x = { u.tag with resp := [] }) := by
  refine tag_of_frame (fun dt s => execEvTagReqa.eq_1 dt s) (fun _ _ => rfl) (fun _ h => h.1) fun u ⟨_, hmode⟩ => ?_
  rw [hmode, if_neg (by decide)]
  exact Tag.stray_of_halted hmode

/-- WUPA is answered in IDLE and in HALT (R264). -/
theorem evTagWupa_does : TagDoes .evTagWupa (fun u => u.tag.hears = true ∧ (u.tag.mode = .idle ∨ u.tag.mode = .halt))
    (fun u x => x = { u.tag with mode := .ready, resp := [0x04, 0x00] }) :=
  tag_of_frame (fun dt s => execEvTagWupa.eq_1 dt s) (fun _ _ => rfl) (fun _ h => h.1) fun _ ⟨_, hmode⟩ => if_pos (by simpa using hmode)

/-- A selection frame ends a session in ACTIVE (R264, R266). -/
theorem evTagSelection_active (c : Nat → Instr)
    (hc : c = .evTagReqa ∨ c = .evTagWupa ∨ c = (fun dt => .evTagSelect dt []) ∨ c = (fun dt => .evTagAnticollision dt 0 0)) :
    TagDoes c (fun u => u.tag.hears = true ∧ u.tag.mode = .active)
      (fun u x => x = { u.tag with mode := .idle, authed := false, chal := none, resp := [] }) := by
  have hstray {u : State} (h : u.tag.hears = true ∧ u.tag.mode = .active) := Tag.stray_of_selected (.inr h.2)
  obtain rfl | rfl | rfl | rfl := hc
  · exact tag_of_frame (fun dt s => execEvTagReqa.eq_1 dt s) (fun _ _ => rfl) (fun _ h => h.1) fun u h =>
      (if_neg (by rw [h.2]; decide)).trans (hstray h)
  · exact tag_of_frame (fun dt s => execEvTagWupa.eq_1 dt s) (fun _ _ => rfl) (fun _ h => h.1) fun u h =>
      (if_neg (by rw [h.2]; decide)).trans (hstray h)
  · exact tag_of_frame (fun dt s => execEvTagSelect.eq_1 dt [] s) (fun _ _ => rfl) (fun _ h => h.1) fun u h =>
      (if_neg (by simp [h.2])).trans (hstray h)
  · exact tag_of_frame (fun dt s => execEvTagAnticollision.eq_1 dt 0 0 s) (fun _ _ => rfl) (fun _ h => h.1) fun u h =>
      (if_neg (by simp [h.2])).trans (hstray h)

/-- HLTA halts a selected port (R264, R266). -/
theorem evTagHlta_does : TagDoes .evTagHlta (fun u => u.tag.hears = true ∧ u.tag.mode = .active)
    (fun u x => x = { u.tag with mode := .halt, authed := false, chal := none, resp := [] }) :=
  tag_of_frame (fun dt s => execEvTagHlta.eq_1 dt s) (fun _ _ => rfl) (fun _ h => h.1) fun _ ⟨_, hmode⟩ => if_pos (beq_iff_eq.2 hmode)

/-- An anticollision frame that matches the UID is answered from the next byte on (R264). -/
theorem evTagAnticollision_does (nbits known : Nat) : TagDoes (fun dt => .evTagAnticollision dt nbits known)
    (fun u => u.tag.hears = true ∧ u.tag.mode = .ready ∧ nbits ≤ 32 ∧ leNat u.tag.uidBcc % 2 ^ nbits = known % 2 ^ nbits)
    (fun u x => x = { u.tag with resp := u.tag.uidBcc.drop (nbits / 8) }) :=
  tag_of_frame (fun dt s => execEvTagAnticollision.eq_1 dt nbits known s) (fun _ _ => rfl) (fun _ h => h.1)
    fun _ ⟨_, hmode, hbits, hknown⟩ => if_pos (by simp [hmode, hbits, hknown])

/-- SELECT with the UID makes the port ACTIVE; with another it ends the selection (R264). -/
theorem evTagSelect_does (uid : List Byte) : TagDoes (fun dt => .evTagSelect dt uid) (fun u => u.tag.hears = true ∧ u.tag.mode = .ready)
    (fun u x => (uid = u.tag.uidBcc → x = { u.tag with mode := .active, resp := [0x00] }) ∧
      (uid ≠ u.tag.uidBcc → x = { u.tag with mode := .idle, authed := false, chal := none, resp := [] })) :=
  tag_of_frame (fun dt s => execEvTagSelect.eq_1 dt uid s) (fun _ _ => rfl) (fun _ h => h.1) fun _ ⟨_, hmode⟩ =>
    ⟨fun huid => if_pos (by simp [hmode, huid]), fun huid => (if_neg (by simp [huid])).trans (Tag.stray_of_selected (.inl hmode))⟩

/-- An unknown command ends a session in ACTIVE (R265). -/
theorem evTagUnknownCmd_does : TagDoes .evTagUnknownCmd (fun u => u.tag.hears = true ∧ u.tag.mode = .active)
    (fun u x => x = { u.tag with mode := .idle, authed := false, chal := none, resp := [] }) :=
  tag_of_frame (fun dt s => execEvTagUnknownCmd.eq_1 dt s) (fun _ _ => rfl) (fun _ h => h.1) fun _ ⟨_, hmode⟩ =>
    Tag.stray_of_selected (.inr hmode)


/-! #### Reads -/

/-- The bit mask of four flags tells each of them. -/
theorem keyMask_testBit (p : Nat → Bool) (k : Nat) (hk : k < 4) :
    (BitVec.ofNat 8 ((List.range 4).foldl (fun m k => if p k then m + 2 ^ k else m) 0)).toNat.testBit k = p k := by
  have key : ∀ b0 b1 b2 b3 : Bool, ∀ k < 4, (BitVec.ofNat 8 ((List.range 4).foldl
      (fun m k => if [b0, b1, b2, b3].getD k false then m + 2 ^ k else m) 0)).toNat.testBit k = [b0, b1, b2, b3].getD k false := by decide
  have hk' := key (p 0) (p 1) (p 2) (p 3) k hk
  match k, hk with
  | 0, _ => exact hk'
  | 1, _ => exact hk'
  | 2, _ => exact hk'
  | 3, _ => exact hk'

/-- GET_INFO answers with the version, the keys present and the identity (R265). -/
theorem evTagGetInfo_does : TagDoes (fun dt => .evTagGetInfo dt []) (fun u => u.tag.served = true) (fun u x => ∃ keys : Byte,
    u.tag.says x ([0x00, 0x01, keys] ++ sliceP (u.tag.block 0) 4 4 ++ sliceP (u.tag.block 0) 12 8) ∧
    ∀ k < 4, keys.toNat.testBit k = u.tag.keyPresent k) :=
  tag_of_command (fun dt s => execEvTagGetInfo.eq_1 dt [] s) (fun _ _ => rfl) (fun _ h => h) fun _ hserved =>
    ⟨rfl, _, State.tagNow_says hserved 0 _, keyMask_testBit _⟩

/-- A block that the field side may reach is one of the first 102 (R266). -/
theorem Tag.allows_le {t : Tag} {b en au : Nat} (h : t.allows b en au = true) : b ≤ 101 := by
  simp only [Tag.allows, Bool.and_eq_true, decide_eq_true_eq] at h
  obtain ⟨⟨⟨-, hb⟩, -⟩, -⟩ := h
  exact hb

/-- READ answers with a block that the field side may read (R265, R266). -/
theorem evTagRead_does (b : Byte) : TagDoes (fun dt => .evTagRead dt [b]) (fun u => u.tag.served = true) (fun u x =>
    (101 < b.toNat → u.tag.says x [1]) ∧ (b.toNat ≤ 101 → u.tag.allows b.toNat 4 6 = false → u.tag.says x [2]) ∧
    (u.tag.allows b.toNat 4 6 = true → u.tag.says x (0 :: u.tag.block b.toNat))) := by
  refine tag_of_command (fun dt s => execEvTagRead.eq_1 dt [b] s) (fun _ _ => rfl) (fun _ h => h) fun u hserved => ?_
  have hb : byteAt [b] 0 = b.toNat := rfl
  dsimp only
  rw [if_neg (by simp), hb]
  refine ⟨.ite (u.onlyTag_setTag _) (.ite (u.onlyTag_setTag _) (u.onlyTag_setTag _)), fun h => ?_, fun h hno => ?_, fun h => ?_⟩
  · rw [if_pos h]
    exact State.tagNow_says hserved 1 []
  · rw [if_neg (Nat.not_lt.2 h), hno, if_pos Bool.not_false]
    exact State.tagNow_says hserved 2 []
  · rw [if_neg (Nat.not_lt.2 (Tag.allows_le h)), h, if_neg (by decide)]
    exact State.tagNow_says hserved 0 _

/-! #### Commands that write -/

/-- WRITE starts the write of a block that the field side may write (R265 to R267). -/
theorem evTagWrite_does (b : Byte) (bs : List Byte) (hlen : bs.length = 32) : TagDoes (fun dt => .evTagWrite dt (b :: bs))
    (fun u => u.tag.served = true)
    (fun u x => (101 < b.toNat → u.tag.says x [1]) ∧ (b.toNat ≤ 101 → u.tag.allows b.toNat 5 7 = false → u.tag.says x [2]) ∧
      (u.tag.allows b.toNat 5 7 = true → u.tag.canWrite = false → u.tag.path = [] → u.tag.says x [6]) ∧
      (u.tag.allows b.toNat 5 7 = true → u.tag.canWrite = true → u.tag.path = [] → u.tag.starts x u.now b.toNat bs false ∧
        x.cmd = some .write)) := by
  refine tag_of_writing (fun dt s => execEvTagWrite.eq_1 dt (b :: bs) s) (fun _ _ => rfl) (fun _ h => h) fun u hserved t ht => ?_
  have hb : byteAt (b :: bs) 0 = b.toNat := rfl
  dsimp only at ht
  rw [if_neg (by simp [hlen]), hb, List.drop_one, List.tail_cons] at ht
  refine ⟨ht ▸ .ite (u.onlyTag_setTag _) (.ite (u.onlyTag_setTag _) (u.onlyTag_fieldWrite ..)), fun h => ?_, fun h hno => ?_,
    fun h hcan hpath => ?_, fun h hcan hpath => ?_⟩
  · rw [ht, if_pos h]
    exact State.tagSay_says hserved 1 []
  · rw [ht, if_neg (Nat.not_lt.2 h), hno, if_pos Bool.not_false]
    exact State.tagSay_says hserved 2 []
  · rw [ht, if_neg (Nat.not_lt.2 (Tag.allows_le h)), h, if_neg (by decide), State.fieldWrite_refused hpath hcan]
    exact State.tagSay_says hserved 6 []
  · rw [ht, if_neg (Nat.not_lt.2 (Tag.allows_le h)), h, if_neg (by decide)]
    obtain ⟨hstarts, hcmd⟩ := State.fieldWrite_starts hpath hcan .write b.toNat (.bytes bs)
    rw [show u.tag.putBytes (.bytes bs) = bs from padTo_of_length hlen] at hstarts
    exact ⟨hstarts, hcmd⟩


/-- The fields of block 1 are as wide as their bytes. -/
theorem Tag.cnt_mod (t : Tag) : t.cnt % 2 ^ 32 = t.cnt := Nat.mod_eq_of_lt (fieldLE_lt _ 0 4)

theorem Tag.jseq_mod (t : Tag) : t.jseq % 2 ^ 32 = t.jseq := Nat.mod_eq_of_lt (fieldLE_lt _ 8 4)

/-- GET_CHALLENGE ends an authentication; for a key that is present, below the fail limit, it starts the write of the next CNT (R273). -/
theorem evTagGetChallenge_does (k : Byte) : TagDoes (fun dt => .evTagGetChallenge dt [k]) (fun u => u.tag.served = true ∧ k.toNat ≤ 3)
    (fun u x => x.authed = false ∧
    (u.tag.keyPresent k.toNat = false → ({ u.tag with authed := false } : Tag).says x [3]) ∧
    (u.tag.keyPresent k.toNat = true → u.tag.failLimit ≤ u.tag.fails → ({ u.tag with authed := false } : Tag).says x [4]) ∧
    (u.tag.keyPresent k.toNat = true → u.tag.fails < u.tag.failLimit → u.tag.canWrite = true → u.tag.path = [] →
      x.cmd = some (.challenge k.toNat) ∧ x.chal = none ∧
      ∃ bs, u.tag.starts x u.now 1 bs false ∧ fieldLE bs 0 4 = (u.tag.cnt + 1) % 2 ^ 32)) := by
  refine tag_of_writing (fun dt s => execEvTagGetChallenge.eq_1 dt [k] s) (fun _ _ => rfl) (fun _ h => h.1) fun u ⟨hserved, hk⟩ t ht => ?_
  have hb : byteAt [k] 0 = k.toNat := rfl
  dsimp only at ht
  rw [if_neg (by simp), hb, if_neg (Nat.not_lt.2 hk)] at ht
  let v : State := u.setTag { u.tag with authed := false }
  let w : State := v.setTag { v.tag with chal := none }
  obtain ⟨-, -, hwire, -⟩ := Tag.served_spec hserved
  have hsays (st : Nat) : v.tag.says (v.tagSay st []).tag [BitVec.ofNat 8 st] := State.tagSay_says (s := v) hserved st []
  have hwrites := State.fieldWrite_keeps (s := w) hwire (.challenge k.toNat) 1 .challenge
  replace ht : t = if !u.tag.keyPresent k.toNat then v.tagSay 3 [] else if u.tag.failLimit ≤ u.tag.fails then v.tagSay 4 []
    else w.fieldWrite (.challenge k.toNat) 1 .challenge := ht
  refine ⟨ht ▸ .ite rfl (.ite rfl (State.onlyTag_fieldWrite w ..)), ?_, fun hkey => ?_, fun hkey hfails => ?_, fun hkey hfails hcan hpath => ?_⟩
  · rw [ht]
    split
    · exact congrArg Tag.authed (hsays 3)
    · split
      · exact congrArg Tag.authed (hsays 4)
      · exact hwrites.1
  · rw [ht, hkey, if_pos Bool.not_false]
    exact hsays 3
  · rw [ht, hkey, if_neg (by decide), if_pos hfails]
    exact hsays 4
  · rw [ht, hkey, if_neg (by decide), if_neg (Nat.not_le.2 hfails)]
    obtain ⟨hstarts, hcmd⟩ := State.fieldWrite_starts (s := w) hpath hcan (.challenge k.toNat) 1 .challenge
    obtain ⟨hcnt, -⟩ := w.tag.counters_fields ((w.tag.cnt + 1) % 2 ^ 32) w.tag.fails w.tag.jhead w.tag.jseq w.tag.jack
    exact ⟨hcmd, hwrites.2, _, hstarts, hcnt.trans (Nat.mod_mod _ _)⟩

/-- AUTH spends the challenge; for a token that is not denied it starts the write of a journal entry (R274). -/
theorem evTagAuth_does (body : List Byte) (hlen : body.length = 20) : TagDoes (fun dt => .evTagAuth dt body) (fun u => u.tag.served = true)
    (fun u x => (u.tag.chal = none → u.tag.says x [5]) ∧
    (∀ tchal k cnt, u.tag.chal = some (tchal, k, cnt) → x.chal = none ∧
      (u.tag.denied (leNat (body.take 4)) = true → ({ u.tag with chal := none } : Tag).says x [2]) ∧
      (u.tag.denied (leNat (body.take 4)) = false → u.tag.canWrite = true → u.tag.path = [] →
        (∃ bs, u.tag.starts x u.now (10 + u.tag.jhead) bs false) ∧ ∃ tmac, x.cmd = some (.authJournal
          ((aesCmac (kdf ((u.tag.block (2 + k)).take 16) [0x4D, 0x4B, 0x54, 0x47] (body.take 4) 128)
            ([0xD4] ++ tchal ++ sliceP body 4 8 ++ body.take 4)).take 8 == sliceP body 12 8) tmac)))) := by
  refine tag_of_writing (fun dt s => execEvTagAuth.eq_1 dt body s) (fun _ _ => rfl) (fun _ h => h) fun u hserved t ht => ?_
  obtain ⟨-, -, hwire, -⟩ := Tag.served_spec hserved
  dsimp only at ht
  rw [if_neg (by simp [hlen])] at ht
  cases hchal : u.tag.chal with
  | none =>
    rw [hchal] at ht
    replace ht : t = u.tagSay 5 [] := ht
    exact ⟨ht ▸ rfl, fun _ => ht ▸ State.tagSay_says hserved 5 [], fun _ _ _ h => nomatch h⟩
  | some c =>
    obtain ⟨tchal, k, cnt⟩ := c
    rw [hchal] at ht
    let v : State := u.setTag { u.tag with chal := none }
    replace ht : t = if u.tag.denied (leNat (body.take 4)) then v.tagSay 2 [] else v.fieldWrite _ (10 + u.tag.jhead) _ := ht
    refine ⟨ht ▸ .ite rfl (State.onlyTag_fieldWrite v ..), (nomatch ·), fun tchal' k' cnt' h => ?_⟩
    cases h
    have hsays := State.tagSay_says (s := v) hserved 2 []
    refine ⟨?_, fun hd => ?_, fun hd hcan hpath => ?_⟩
    · rw [ht]
      split
      · exact congrArg Tag.chal hsays
      · exact (State.fieldWrite_keeps (s := v) hwire ..).2
    · rw [ht, hd, if_pos rfl]
      exact hsays
    · rw [ht, hd, if_neg Bool.false_ne_true]
      obtain ⟨hstarts, hcmd⟩ := State.fieldWrite_starts (s := v) hpath hcan _ (10 + u.tag.jhead) _
      exact ⟨⟨_, hstarts⟩, _, hcmd⟩


/-! #### The end of a write -/

/-- The store with the write of a field command committed, its path empty (R267). -/
def Tag.committed (t : Tag) (w : StoreWrite) : Tag :=
  let x := t.slot w.block w.slot
  { t with path := [], slots := Tbl.put t.slots (2 * w.block + w.slot) { x with crc := slotCrc x.data x.seq, flag := 0xA5 } }

theorem State.onlyTag_tagGoes (s : State) (c : TagCmd) : s.onlyTag (s.tagGoes c) := by
  cases c with
  | write => rfl
  | challenge k => rfl
  | authJournal pass tmac => exact s.onlyTag_fieldWrite ..
  | authCount pass tmac => exact .ite rfl rfl

/-- The commit of a field command's only write lets the command go on (R267, R270). -/
theorem tag_of_storeDone {ok : State → Prop} {did : State → Tag → Prop} (w : StoreWrite) (c : TagCmd)
    (hok : ∀ u, ok u → u.tag.path = [w] ∧ w.wire = false ∧ u.tag.cmd = some c)
    (hf : ∀ u, ok u → did u ((u.setTag (u.tag.committed w)).tagGoes c).tag) : TagDoes .evStoreBlockWriteDone ok did := by
  refine tag_of_occurAt (fun dt s => execEvStoreBlockWriteDone.eq_1 dt s) (fun _ _ => rfl) fun u hu => ?_
  obtain ⟨hpath, hwire, hcmd⟩ := hok u hu
  rw [hpath]
  dsimp only
  rw [hwire, Bool.false_and, if_neg Bool.false_ne_true, if_neg Bool.false_ne_true, hcmd]
  exact ⟨State.onlyTag_tagGoes (u.setTag (u.tag.committed w)) c, hf u hu⟩

/-- WRITE answers once its block is committed, and the block reads as written (R267, R268). -/
theorem evStoreBlockWriteDone_write (w : StoreWrite) (bs : List Byte) : TagDoes .evStoreBlockWriteDone
    (fun u => u.tag.path = [w] ∧ w.wire = false ∧ u.tag.cmd = some .write ∧ u.tag.wire = [] ∧ u.tag.field = true ∧ u.tag.mute = false ∧
      w.slot = (if u.tag.selected w.block = some 0 then 1 else 0) ∧ bs.length = 32 ∧ u.tag.blockSeq w.block < 65536 ∧
      (u.tag.slot w.block w.slot).data = bs ∧ (u.tag.slot w.block w.slot).seq = (u.tag.blockSeq w.block + 1) % 65536)
    (fun u x => x.block w.block = bs ∧ x.path = [] ∧ x.cmd = none ∧ x.resp = [0] ∧ (∀ c, c ≠ w.block → x.block c = u.tag.block c)) := by
  refine tag_of_storeDone w .write (fun u ⟨hpath, hw, hcmd, _⟩ => ⟨hpath, hw, hcmd⟩)
    fun u ⟨_, _, _, hwire, hfield, hmute, hslot, hlen, hseq, hdata, hnext⟩ => ?_
  have hshadow : w.slot = u.tag.shadow w.block := by
    obtain ⟨h, hs, -⟩ | ⟨h, hs, -⟩ | ⟨h, hs, -⟩ := u.tag.selected_cases w.block <;> rw [hslot, hs, h] <;> rfl
  have hx : ((u.setTag (u.tag.committed w)).tagGoes .write).tag = { u.tag.committed w with resp := [0], cmd := none, mute := false } := by
    show (u.tag.committed w).respond u.now _ = _
    rw [Tag.respond_of_nil (t := u.tag.committed w) hwire, if_pos (by simp [Tag.committed, hfield, hmute])]
    rfl
  let y : StoreSlot := { u.tag.slot w.block w.slot with
    crc := slotCrc (u.tag.slot w.block w.slot).data (u.tag.slot w.block w.slot).seq, flag := 0xA5 }
  have hvalid : y.valid = true := by simp [y, StoreSlot.valid]
  rw [hx]
  refine ⟨?_, rfl, rfl, rfl, fun c hc => u.tag.block_put_ne y (hshadow ▸ u.tag.shadow_lt w.block) hc⟩
  have hblock := u.tag.block_put_valid w.block hvalid hnext hseq
  rw [← hshadow, show padTo 32 y.data = bs by rw [← hdata]; exact padTo_of_length (hdata ▸ hlen)] at hblock
  exact hblock

/-- AUTH that passed is answered once its entry and its count are committed, and raises FIELD_WAKE (R274, R277). -/
theorem evStoreBlockWriteDone_auth (w : StoreWrite) (tmac : List Byte) : TagDoes .evStoreBlockWriteDone
    (fun u => u.tag.path = [w] ∧ w.wire = false ∧ u.tag.cmd = some (.authCount true tmac) ∧ u.tag.wire = [] ∧ u.tag.field = true ∧
      u.tag.mute = false)
    (fun u x => x.authed = (u.tag.mode == .active) ∧ x.resp = 0 :: tmac ∧ x.cmd = none ∧ x.wakeEnd.isSome = true) := by
  refine tag_of_storeDone w (.authCount true tmac) (fun u ⟨hpath, hw, hcmd, _⟩ => ⟨hpath, hw, hcmd⟩)
    fun u ⟨_, _, _, hwire, hfield, hmute⟩ => ?_
  let y : Tag := ({ u.tag.committed w with authed := u.tag.mode == TagMode.active } : Tag).pulse u.now
  have hx : ((u.setTag (u.tag.committed w)).tagGoes (.authCount true tmac)).tag = { y with resp := 0 :: tmac, cmd := none, mute := false } := by
    show y.respond u.now _ = _
    rw [Tag.respond_of_nil (t := y) hwire, if_pos (by simp [y, Tag.pulse, Tag.committed, hfield, hmute])]
    rfl
  rw [hx]
  exact ⟨rfl, rfl, rfl, rfl⟩

/-- GET_CHALLENGE holds its challenge, and answers with it, once the next CNT is committed (R273). -/
theorem evStoreBlockWriteDone_challenge (w : StoreWrite) (k : Nat) : TagDoes .evStoreBlockWriteDone
    (fun u => u.tag.path = [w] ∧ w.wire = false ∧ u.tag.cmd = some (.challenge k) ∧ u.tag.wire = [])
    (fun u x => x.chal.isSome = (u.tag.mode == .active) ∧ x.cmd = none ∧ x.path = [] ∧
      (u.tag.field = false ∨ u.tag.mute = true → x.resp = []) ∧
      (∀ tchal n cnt, x.chal = some (tchal, n, cnt) → n = k ∧ cnt = x.cnt ∧
        (u.tag.field = true → u.tag.mute = false → x.resp = 0 :: (natLE 4 cnt ++ tchal)))) := by
  refine tag_of_storeDone w (.challenge k) (fun u ⟨hpath, hw, hcmd, _⟩ => ⟨hpath, hw, hcmd⟩) fun u ⟨_, _, _, hwire⟩ => ?_
  let t := u.tag.committed w
  let held := (aesEcb false ((t.block (2 + k)).take 16) (natLE 4 t.cnt ++ sliceP (t.block (2 + k)) 16 12)).take 8
  let y : Tag := { t with chal := if u.tag.mode == .active then some (held, k, t.cnt) else none }
  have hx : ((u.setTag t).tagGoes (.challenge k)).tag = { y with
      resp := if u.tag.field && !u.tag.mute then 0 :: (natLE 4 t.cnt ++ held) else [], cmd := none, mute := false } :=
    Tag.respond_of_nil (t := y) hwire u.now _
  rw [hx]
  refine ⟨?_, rfl, rfl, fun h => if_neg (by obtain h | h := h <;> simp [h]), fun tchal n cnt h => ?_⟩
  · show (if u.tag.mode == .active then some (held, k, t.cnt) else none).isSome = _
    cases u.tag.mode == .active <;> rfl
  · replace h : (if u.tag.mode == .active then some (held, k, t.cnt) else none) = some (tchal, n, cnt) := h
    split at h
    · cases h
      exact ⟨rfl, rfl, fun hfield hmute => if_pos (by simp [hfield, hmute])⟩
    · cases h

/-! #### Registers of the wire side -/

/-- A register row whose effect shows in the tag port alone (R26). -/
theorem registerDoes_of_setTag {i : Nat → Word → Instr} {off : Nat} {ok : State → Word → Prop} {did : State → Word → State → Prop}
    (x : State → Word → Tag) (hi : ∀ dt v s, exec (i dt v) s = writeWord dt off v s) (hoff : off < 0x10000 ∧ off ≠ 0x4024)
    (hr : rangeCheck off 1 = .ok) (hput : ∀ (u : State) v, u.regPut off v.toNat = u.setTag (x u v))
    (hdid : ∀ u v (t : State), ok u v → t.tag = x u v → did u v t) : RegisterDoes i off ok did := by
  intro dt v s u ho hword hok
  simp only [State.wordOk, Bool.and_eq_true, Bool.not_eq_true'] at hword
  obtain ⟨hbad, href⟩ := hword
  have hw := State.regWrite_ok (s := u) (off := off) (ws := [v.toNat]) hbad (by simpa [placed] using href) (by simpa [placed] using hoff.2)
  refine ⟨_, (hi ..).trans (writeWord_acts ho hoff.1 hr), ?_⟩
  rw [hw]
  simp only [placed, List.zipIdx_cons, List.zipIdx_nil, List.map_cons, List.map_nil, List.foldl_cons, List.foldl_nil, Nat.mul_zero, Nat.add_zero]
  rw [hput]
  exact ⟨rfl, rfl, rfl, hdid u v _ hok rfl⟩

/-- NFC_TAG_WCMD starts the write of the staged bytes (R281). -/
theorem rgNfcTagWcmd_does : RegisterDoes .rgNfcTagWcmd 0x2080 (fun u _ => u.tag.atRest) (fun u v t => t.tag.wbusy = true ∧
    t.tag.wdone = false ∧ u.tag.starts t.tag u.now (bits v.toNat 7 0) (padTo 32 u.tag.staged) true) := by
  refine registerDoes_of_setTag (fun u v => u.tag.hostWrite u.now (bits v.toNat 7 0) (.bytes u.tag.staged)) (fun _ _ _ => rfl) (by decide)
    (by decide) (fun _ _ => rfl) fun u v t hrest ht => ?_
  obtain ⟨hstarts, hbusy, hdone⟩ := Tag.hostWrite_starts hrest u.now (bits v.toNat 7 0) (.bytes u.tag.staged)
  rw [ht]
  exact ⟨hbusy, hdone, hstarts⟩

/-- CLEAR_FAILS starts the write of FAILS := 0, with the count as it stands (R275). -/
theorem rgNfcTagCtrl_does : RegisterDoes .rgNfcTagCtrl 0x2088 (fun u _ => u.tag.atRest) (fun u v t =>
    (v.toNat.testBit 0 = false → t.tag = u.tag) ∧
    (v.toNat.testBit 0 = true → ∃ bs, u.tag.starts t.tag u.now 1 bs true ∧ byteAt bs 4 = 0 ∧ fieldLE bs 0 4 = u.tag.cnt)) := by
  refine registerDoes_of_setTag (fun u v => if v.toNat.testBit 0 then u.tag.hostWrite u.now 1 .clearFails else u.tag) (fun _ _ _ => rfl)
    (by decide) (by decide) (fun u v => ?_) fun u v t hrest ht => ⟨fun hbit => ?_, fun hbit => ?_⟩
  · show u.tagCtrl v.toNat = _
    rw [State.tagCtrl]
    split <;> rfl
  · rw [ht, hbit, if_neg Bool.false_ne_true]
  · obtain ⟨hstarts, -⟩ := Tag.hostWrite_starts hrest u.now 1 .clearFails
    obtain ⟨hcnt, hfails, -⟩ := u.tag.counters_fields u.tag.cnt 0 u.tag.jhead u.tag.jseq u.tag.jack
    rw [ht, if_pos hbit]
    exact ⟨_, hstarts, hfails, hcnt.trans u.tag.cnt_mod⟩

/-- NFC_TAG_JACK starts the write of JACK, with the journal's SEQ as it stands (R281). -/
theorem rgNfcTagJack_does : RegisterDoes .rgNfcTagJack 0x208C (fun u _ => u.tag.atRest) (fun u v t =>
    ∃ bs, u.tag.starts t.tag u.now 1 bs true ∧ fieldLE bs 12 4 = v.toNat ∧ fieldLE bs 8 4 = u.tag.jseq) := by
  refine registerDoes_of_setTag (fun u v => u.tag.hostWrite u.now 1 (.jack v.toNat)) (fun _ _ _ => rfl) (by decide) (by decide)
    (fun _ _ => rfl) fun u v t hrest ht => ?_
  obtain ⟨hstarts, -⟩ := Tag.hostWrite_starts hrest u.now 1 (.jack v.toNat)
  obtain ⟨-, -, hjseq, hjack⟩ := u.tag.counters_fields u.tag.cnt u.tag.fails u.tag.jhead u.tag.jseq v.toNat
  rw [ht]
  exact ⟨_, hstarts, hjack.trans (Nat.mod_eq_of_lt v.isLt), hjseq.trans u.tag.jseq_mod⟩

/-- Settles O55, a lemma for each clause. -/
theorem tagEvents : Obligations.TagEvents :=
  ⟨evTagFieldArrive_does, evTagFieldLoss_does, evTagFieldAbsentTimeout_does, evTagVddRise_does, evTagVddFall_does, evFieldWakeEnd_does,
    evTagReqa_idle, evTagReqa_halt, evTagWupa_does, evTagSelection_active, evTagHlta_does, evTagAnticollision_does, evTagSelect_does,
    evTagGetInfo_does, evTagRead_does, evTagWrite_does, evTagGetChallenge_does, evTagAuth_does, evTagUnknownCmd_does,
    evStoreBlockWriteDone_write, evStoreBlockWriteDone_auth, evStoreBlockWriteDone_challenge,
    rgNfcTagWcmd_does, rgNfcTagCtrl_does, rgNfcTagJack_does⟩

end Sys2Proof.Machine
